-- ==== Sys2Proof/Word.lean ====
section
/-! DEFINITION. The plain value types of the model and their simplest arithmetic. -/

namespace Sys2Proof

/-- A register of the host interface: 32 bits (R4). -/
abbrev Word := BitVec 32

/-- A general register of a bobbin: 64 bits (R46). -/
abbrev DWord := BitVec 64

/-- One byte of a frame, a key or a memory. -/
abbrev Byte := BitVec 8

/-- A byte string, first byte first. -/
abbrev Bytes := List Byte

/-- The number of a general register g0 to g31 in an instruction field (R60). -/
abbrev Reg := BitVec 5

end Sys2Proof
end

