-- ==== Sys2Proof/Syntax.lean ====
section
/-! DEFINITION. The commands of the block: one constructor for each row of spec/opcode_table.json, with the operands a
command brings from outside. An instruction row carries the bobbin whose issue slot it is and the instruction's fields;
a completion or an engine's step carries the unit it happens in; a host command carries the issuing function, its
arguments standing in the descriptor that the ring holds. -/

namespace Sys2Proof

/-- The drained slot a drain timer belongs to (R140, R149): slot A or B of an association, or a cloth key slot
(0 transmit A, 1 transmit B, 2 receive A, 3 receive B) of a woven group. -/
inductive DrainRef where
  | assoc (idx : BitVec 24) (slotB : Bool)
  | cloth (group : Nat) (slot : Nat)
deriving DecidableEq, Repr

/-- How a card load's copy and check ended (R120). -/
inductive LoadResult where
  | good
  | crc
  | integrity
deriving DecidableEq, Repr

/-- The DMA that failed (R378): a buffer read, a result or completion write, or a descriptor read. -/
inductive DmaKind where
  | read
  | write
  | fetch
deriving DecidableEq, Repr

/-- What makes a weft link change its state (R343). -/
inductive WeftEdge where
  | present      -- forwarded clock and sideband both present
  | trained      -- this end's eye measure has passed on all 16 lanes (R342)
  | headers (lane : Nat) (valid : List Bool)          -- sync headers received on a data lane, and which are valid (R340)
  | alignment (lane : Nat) (named skew : Nat)         -- a lane's alignment block: the lane number it names, its skew in blocks
  | aligned      -- all 16 lanes locked and aligned
  | keysIn       -- keys installed on both ends
  | lost         -- forwarded clock lost
deriving DecidableEq, Repr

/-- What the symbol code says of a fetched line (R304, R309). -/
inductive SymCode where
  | clean
  | corrected
  | uncorrectable
deriving DecidableEq, Repr

/-- One line of the path of a read (R309): its level (0 data line, 1 to 8 tree level, 15 MAC line), its number there,
the symbol code's result and whether its MAC and counter agree. -/
structure PathObs where
  level : Nat
  index : Nat
  sym   : SymCode
  pass  : Bool
deriving DecidableEq, Repr

/-- One word of a received lane frame: its value, whether the RS(544,514) decoder flags its codeword uncorrectable, and the
sync header of its block (R207, R219). -/
structure RxWord where
  val    : BitVec 64
  erased : Bool
  sync   : BitVec 2 := 1
deriving DecidableEq, Repr

/-- The physical findings of a start (R396, R404, R409, R411, R422, R504): whether every rail is in its range when PWRGOOD
rises; whether the two lifecycle decodes agree; the wrong bits in each 127-bit block of the first and the second PUF array;
which key store slots no longer hold the bits written; what OTP items that have changed read, with their CRC; the second
reading of the fuses. -/
structure StartObs where
  railsGood    : Bool
  decodesAgree : Bool
  pufA         : List Nat
  pufB         : List Nat
  sealFails    : List Nat
  otpReads     : List (Nat × List (BitVec 8))
  fuseSecond   : BitVec 32
  smbAddr      : BitVec 2
deriving DecidableEq, Repr

/-- The physical findings of a transition (R411, R412): those of the start it may continue, and after how many programmed
bits the power fails, if it does. -/
structure LcObs extends StartObs where
  powerFails : Option Nat := none
deriving DecidableEq, Repr

/-- One decision engine's result in a tamper decision, as a response code (R423, R424). -/
abbrev RespCode := BitVec 3

/-- R76 to R521: the commands. -/
inductive Instr where
  -- Ezgus register operations (R77, R78)
  | add (b : Nat) (d a c : Reg)
  | sub (b : Nat) (d a c : Reg)
  | bitAnd (b : Nat) (d a c : Reg)
  | bitOr (b : Nat) (d a c : Reg)
  | bitXor (b : Nat) (d a c : Reg)
  | shl (b : Nat) (d a c : Reg)
  | shr (b : Nat) (d a c : Reg)
  | sar (b : Nat) (d a c : Reg)
  | mul (b : Nat) (d a c : Reg)
  | mulhu (b : Nat) (d a c : Reg)
  | minS (b : Nat) (d a c : Reg)
  | maxS (b : Nat) (d a c : Reg)
  | minU (b : Nat) (d a c : Reg)
  | maxU (b : Nat) (d a c : Reg)
  | popc (b : Nat) (d a c : Reg)
  | clz (b : Nat) (d a c : Reg)
  | bswap16 (b : Nat) (d a c : Reg)
  | bswap32 (b : Nat) (d a c : Reg)
  | bswap64 (b : Nat) (d a c : Reg)
  | addi (b : Nat) (d a : Reg) (imm : BitVec 16)
  | andi (b : Nat) (d a : Reg) (imm : BitVec 16)
  | ori (b : Nat) (d a : Reg) (imm : BitVec 16)
  | xori (b : Nat) (d a : Reg) (imm : BitVec 16)
  | li (b : Nat) (d a : Reg) (imm : BitVec 16)
  | lis (b : Nat) (d a : Reg) (imm : BitVec 16)
  | extF (b : Nat) (d a : Reg) (imm : BitVec 16)
  | depF (b : Nat) (d a : Reg) (imm : BitVec 16)
  -- control transfer (R79, R80)
  | beq (b : Nat) (a c : Reg) (off : BitVec 16)
  | bne (b : Nat) (a c : Reg) (off : BitVec 16)
  | blt (b : Nat) (a c : Reg) (off : BitVec 16)
  | bge (b : Nat) (a c : Reg) (off : BitVec 16)
  | bltu (b : Nat) (a c : Reg) (off : BitVec 16)
  | bgeu (b : Nat) (a c : Reg) (off : BitVec 16)
  | jal (b : Nat) (d : Reg) (off : BitVec 21)
  | jr (b : Nat) (d a c : Reg)
  -- frame window, pick record, scratch (R52, R81 to R85)
  | ldw (b : Nat) (d a : Reg) (size : BitVec 2) (sub : BitVec 4) (off : BitVec 10)
  | stw (b : Nat) (d a : Reg) (size : BitVec 2) (sub : BitVec 4) (off : BitVec 10)
  | wedit (b : Nat) (d a : Reg) (size : BitVec 2) (sub : BitVec 4) (off : BitVec 10)
  | ldp (b : Nat) (d a : Reg) (size : BitVec 2) (sub : BitVec 4) (off : BitVec 10)
  | stp (b : Nat) (d a : Reg) (size : BitVec 2) (sub : BitVec 4) (off : BitVec 10)
  | lds (b : Nat) (d a : Reg) (size : BitVec 2) (sub : BitVec 4) (off : BitVec 10)
  | sts (b : Nat) (d a : Reg) (size : BitVec 2) (sub : BitVec 4) (off : BitVec 10)
  | faddS (b : Nat) (d a : Reg) (size : BitVec 2) (sub : BitVec 4) (off : BitVec 10)
  | fence (b : Nat) (d a c : Reg) (imm : BitVec 6)
  -- lookups, packet numbers, ordering, ciphers, check values (R86 to R98)
  | lookFt (b : Nat) (d a c : Reg) (imm : BitVec 6)
  | lookMt (b : Nat) (d a c : Reg) (imm : BitVec 6)
  | lookAt (b : Nat) (d a c : Reg) (imm : BitVec 6)
  | pnNext (b : Nat) (d a c : Reg) (imm : BitVec 6)
  | pnPeek (b : Nat) (d a c : Reg) (imm : BitVec 6)
  | ordDom (b : Nat) (d a c : Reg) (imm : BitVec 6)
  | ordRel (b : Nat) (d a c : Reg) (imm : BitVec 6)
  | sealFrame (b : Nat) (d a c : Reg) (imm : BitVec 6)
  | openFrame (b : Nat) (d a c : Reg) (imm : BitVec 6)
  | crcRun (b : Nat) (d a c : Reg) (imm : BitVec 6)
  | crcChk (b : Nat) (d a c : Reg) (imm : BitVec 6)
  | crcGet (b : Nat) (d a c : Reg) (imm : BitVec 6)
  | crcSet (b : Nat) (d a c : Reg) (imm : BitVec 6)
  -- time-aware instructions, dispositions, counting, waiting, ending (R99 to R110)
  | pol (b : Nat) (d a c : Reg) (imm : BitVec 6)
  | tb (b : Nat) (d a c : Reg) (imm : BitVec 6)
  | enq (b : Nat) (d a c : Reg) (imm : BitVec 6)
  | dropPick (b : Nat) (d a c : Reg) (imm : BitVec 6)
  | punt (b : Nat) (d a c : Reg) (imm : BitVec 6)
  | fwd (b : Nat) (d a c : Reg) (imm : BitVec 6)
  | mirror (b : Nat) (d a c : Reg) (imm : BitVec 6)
  | evcInc (b : Nat) (d a c : Reg) (imm : BitVec 6)
  | evcAdd (b : Nat) (d a c : Reg) (imm : BitVec 6)
  | waitSb (b : Nat) (d a c : Reg) (imm : BitVec 6)
  | trapProg (b : Nat) (d a c : Reg) (imm : BitVec 6)
  | halt (b : Nat) (d a c : Reg) (imm : BitVec 6)
  -- completions of asynchronous instructions (R86 to R98)
  | lookFtDone (b : Nat) (d : Reg)
  | lookMtDone (b : Nat) (d : Reg)
  | lookAtDone (b : Nat) (d : Reg)
  | pnNextServe (b : Nat) (d : Reg)
  | pnPeekServe (b : Nat) (d : Reg)
  | ordDomGrant (b : Nat) (d : Reg)
  | openServe (p : Nat)
  | openVerdictCommit (p : Nat)
  | sealDone (p : Nat)
  | crcGetDone (b : Nat) (d : Reg)
  | ldsDone (b : Nat) (d : Reg)
  | faddSDone (b : Nat) (d : Reg)
  -- picks, scheduler (R11 to R31, R123 to R128, R265 to R298)
  | frameReceive (port : Nat) (frame : Bytes)
  | pickDispatch (b : Nat)
  | pickRelease (p : Nat)
  | puntMirrorRelease (p : Nat)
  | spillReturn (q : Nat) (intact : Bool)
  | schedSelect (port : Nat)
  | cutThroughStart (port : Nat) (p : Nat)
  | cutFcsReached (port : Nat)
  | frameTxEnd (port : Nat)
  | cellWaitEnd (p : Nat)
  | refillTick
  | shedEntryAdvance (port : Nat)
  | shedBankSwitch (port : Nat)
  | schShedCtlSel (port : Nat) (v : Word)
  | histDepthSample (h : Nat)
  | schHistSnap (h : Nat) (v : Word)
  | schHistSnapDone (h : Nat)
  -- cipher engines and the DRBG (R159 to R190, R399)
  | engineJobStart
  | jobSuspend (e : Nat)
  | engineJobComplete (e : Nat)
  | maskStallEnd (e : Nat)
  | maskExpanderReseed (pair : Nat)
  | engineSelfCheckFault (e : Nat)
  | katPeriodic (e : Nat) (pass : Bool)
  | cieRetire (v : Word)
  | cieProfileWrite (pair : Nat) (v : Word)
  | lksCapWrite (v : Word)
  | drbgStartupTest (pass : Bool)
  | drbgReseed (pass : Bool)
  | drbgHealthFail
  -- associations, flows, cloth keys, cards (R129 to R157, R111 to R122)
  | drainTimerExpiry (r : DrainRef)
  | atInstall (f : Nat)
  | atSlotLoad (f : Nat)
  | atTxslot (f : Nat)
  | atSlotRetire (f : Nat)
  | atStateSuspend (f : Nat)
  | atStateResume (f : Nat)
  | atStateRemove (f : Nat)
  | atRxPn (f : Nat)
  | atSetCut (f : Nat)
  | atSetCutEvent (f : Nat)
  | atSetReplay (f : Nat)
  | atSetWindow (f : Nat)
  | atSetPolicer (f : Nat)
  | atSetQbase (f : Nat)
  | atSetK (f : Nat)
  | atSetSuite (f : Nat)
  | atSetMode (f : Nat)
  | atSetDomain (f : Nat)
  | atRead (f : Nat)
  | atBulkLoad (f : Nat)
  | atBulkLoadFlows (f : Nat)
  | ftInsert (f : Nat)
  | ftReplace (f : Nat)
  | ftDelete (f : Nat)
  | ftRead (f : Nat)
  | clothKeyLoad (f : Nat)
  | clothKeyRetire (f : Nat)
  | cardStage (f : Nat)
  | cardStageDone
  | lksKeyLoad (f : Nat)
  | lksKeyDestroy (f : Nat)
  | xtsEncrypt (f : Nat)
  | xtsDecrypt (f : Nat)
  | gcmEncrypt (f : Nat)
  | gcmDecrypt (f : Nat)
  | inject (f : Nat)
  | puntBuf (f : Nat)
  -- key custodian and lifecycle (R396 to R416, R447)
  | bksStore (f : Nat)
  | bksDestroy (f : Nat)
  | bksStatus (f : Nat)
  | zeroizeErase (f : Nat)
  | zeroizeEraseLock (f : Nat)
  | idCertRead (f : Nat)
  | cascadeCertLoad (f : Nat)
  | attest (f : Nat)
  | lcTransition (f : Nat) (o : LcObs)
  | shuavoChallenge (f : Nat)
  | shuavoResponse (f : Nat)
  | lcOtpWrite (f : Nat)
  | lcOtpRead (f : Nat)
  | bbxSeal (f : Nat)
  | kpCommit (f : Nat) (v : Word)
  | kpUnwrapDone (f : Nat)
  | kpClear (f : Nat) (v : Word)
  -- rings and the device mode (R369 to R395)
  | hifRingTailWrite (f r : Nat) (v : Word)
  | hifRingEnable (f r : Nat) (v : Word)
  | hifRingResume (f r : Nat) (v : Word)
  | descriptorFetch (f r : Nat) (desc : Bytes) (buf : Bytes)
  | dmaFault (f r : Nat) (k : DmaKind)
  | hifCmdWatchdogExpiry (f : Nat)
  | hifLateAnswer (f : Nat)
  | imodTimerExpiry (f r : Nat)
  | functionLevelReset (f : Nat)
  | hifModeWrite (v : Word)
  -- clusters and cards (R115 to R127)
  | shuCardCtlWrite (c : Nat) (v : Word)
  | clusterDrained (c : Nat)
  | cardLoadDone (c : Nat) (res : LoadResult)
  | shuStagePromote (v : Word)
  | shuStageDiscard (v : Word)
  | clusterQuarantine (c : Nat)
  | clockFailure (dom : Nat)
  -- woven groups and line maintenance (R206 to R264)
  | laneFrameSend (l : Nat)
  | clothItemSend (g : Nat) (fill : Nat)
  | laneFrameReceive (l : Nat) (ws : List RxWord)
  | rowRelease (g : Nat)
  | rowWaitExpiry (g m : Nat)
  | clothItemReceive (g : Nat)
  | resyncAtMarker (g : Nat)
  | wovCkTxSlotWrite (g : Nat) (v : Word)
  | keymarkSend (g : Nat)
  | wovTxMapWrite (g : Nat) (v : Word)
  | memberAnnounce (g : Nat)
  | mapTakeEffect (g : Nat)
  | wovGrpCfgWrite (g : Nat) (v : Word)
  | headerSealerKatFail (g : Nat)
  | pmSecondEnd
  | lmtSnapshot (v : Word)
  | lmtSnapshotDone
  -- lanes and ports (R330 to R338)
  | losDetectorChange (lane : Nat) (los lol : Bool)
  | linkChange (port : Nat) (up : Bool)
  | linkTrainingTimeout (port : Nat)
  | prbsClr (lane : Nat) (v : Word)
  -- weft ports (R339 to R354)
  | weftLinkStateChange (n : Nat) (e : WeftEdge)
  | trainReq (n : Nat) (payload : Bytes)
  | trainRsp (n : Nat) (payload : Bytes)
  | trainDone (n : Nat)
  | keyHello (n : Nat) (payload : Bytes)
  | keyShare (n : Nat) (payload : Bytes)
  | keyFinish (n : Nat) (payload : Bytes)
  | sidebandStatus (n : Nat) (payload : Bytes)
  | sidebandRetry (n : Nat)
  | weftTrainTimeout (n : Nat)
  | weftKeyRetry (n : Nat)
  | weftRekeyTimer (n : Nat)
  | weftItemSend (n : Nat)
  | weftFrameReceive (n : Nat) (item : Bytes)
  | weftSkipReceive (n : Nat) (item : Bytes)
  | weftAckReceive (n : Nat) (item : Bytes)
  | weftNakReceive (n : Nat) (item : Bytes)
  | weftKeyswitchReceive (n : Nat) (item : Bytes)
  | weftTimeReceive (n : Nat) (item : Bytes)
  | weftAckTimeout (n : Nat)
  | weftAckSend (n : Nat)
  | weftTimeSend (n : Nat)
  -- in-package memory (R299 to R329)
  | dramRead (buffer : Bool) (line : Nat) (path : List PathObs)
  | rerootDone (buffer : Bool) (first count : Nat)
  | dramLineWrite (buffer : Bool) (mki : Nat) (line : Nat) (data : Bytes) (path : List PathObs)
  | dramPartialWrite (buffer : Bool) (mki : Nat) (line off : Nat) (data : Bytes) (path : List PathObs)
  | cacheWriteback (idx : BitVec 24) (path : List PathObs)
  | dramFetchTimeout (ch line : Nat)
  | dramLateArrival (ch : Nat)
  | patrolScrubRead (buffer : Bool) (line : Nat) (path : List PathObs)
  | stackFail (st ch : Nat)
  | mirrorRebuildDone (st : Nat)
  | mscInitGo (v : Word)
  | mscInitStart
  | mscInitDone
  | mscLineReinit (v : Word)
  | mkiRetire (v : Word)
  | mkiRetired (k : Nat)
  -- power (R452 to R470, R523)
  | pmcDecision
  | wakeAdmit
  | domainSleepEntered (dom : Nat)
  | domainPoweredUp (dom : Nat)
  | domainFresh (dom : Nat)
  | pmcReturn (v : Word)
  | bistDone (dom : Nat) (pass : Bool)
  | pmcScrReload (v : Word)
  | scratchCopyDone (c : Nat)
  | pmcWakeSeal (v : Word)
  -- tamper monitor and black box (R419 to R451)
  | tamperSample (src : Nat) (a b : Int)
  | tamperDecision (a b : RespCode)
  | eraseReadbackDone (zeros : Bool)
  | batterySample (src : Nat) (a b : Int)
  | latchCommit
  | tmuAlarmClr (v : Word)
  | tmuFuseProgram (v : Word)
  | meshMeasure (m ohms : Nat)
  | bbxRecordWrite
  -- start, reset, pins, time base (R488 to R521)
  | powerOnReset (o : StartObs)
  | perst (o : StartObs)
  | softReset (o : StartObs)
  | pwrgoodFall
  | railOutOfRange (rail : Nat)
  | pfwAssert
  | pfwDeassert
  | ppsInEdge
  | ppsOutPulse
  | tbSet (v : Word)
  -- registers (R4 to R10, R475 to R487, R513 to R521)
  | evcCntWrite (n : Nat) (high : Bool) (v : Word)
  | evcCfgCommit (n : Nat) (v : Word)
  | cvuCtlCommit (p : Nat) (v : Word)
  | lowWordReadLatch (f : Nat) (bar2 : Bool) (addr : Nat)
  | readClear (f : Nat) (bar2 : Bool) (addr : Nat)
  | regWrite (f : Nat) (bar2 : Bool) (addr : Nat) (be : BitVec 4) (v : Word)
  | smbIdent
  | smbStatus
  | smbTemp
  | smbVbat
  | smbBbx
  | smbPfw
  | smbWriteRefused (code : Byte) (write : Bool)
  | forbiddenRegisterRead (f : Nat) (bar2 : Bool) (addr : Nat)
  -- steps added at the end of the table
  | illegalFetch (b : Nat)
  | blockLockChange (lane : Nat) (locked : Bool)
  | prbsLockChange (lane : Nat) (locked : Bool) (errors : Nat)
  | sidebandMessageError (n : Nat) (msg : Bytes)
  | shuavoChallengeExpiry
  | vbatRetentionLost
deriving DecidableEq, Repr

end Sys2Proof
end

