-- ==== Sys2Proof/Decode.lean ====
section
/-! DEFINITION. The command a word spells by the table's bits. No row of the table gives its command any bits (the
commands are happenings and register accesses, not encoded words), so no word spells one. The 32-bit encodings of the
Ezgus instructions (R60 to R64) stand in Machine/Operands.lean: a bobbin's command runs only when the card holds its
word at the program counter. -/

namespace Sys2Proof

/-- The command whose bits are `w` among the rows that give `nbits` bits: none. -/
def decodeTableWord (_nbits _w : Nat) : Option Instr := none

end Sys2Proof
end

