-- ==== Sys2Proof/Config.lean ====
section
/-! DEFINITION. The free values: opaque constants with no body, one for each value the spec leaves open. Nothing can
evaluate them, so a statement about them holds whatever they are. Each is applied to a draw counter that State holds,
or to the operands it depends on. -/

namespace Sys2Proof.Config

/-- R399: the 256 bits the DRBG returns at its n-th request since manufacture. Free: the entropy is physical.
UNVERIFIED beyond R399, safe. -/
opaque drbg : Nat → BitVec 256

/-- R396: the root secret the PUF regenerates (the same at every start). Free, safe. -/
opaque rootSecret : BitVec 256

/-- R150: the candidate buckets of a flow (the first for false, the second for true) under the n-th drawn hash secret.
Free, safe. -/
opaque flowBucket : Nat → BitVec 6 → DWord → DWord → Bool → Nat

/-- R151: which of the four residents an FT_INSERT relocates at the n-th choice. Free, safe. -/
opaque flowVictim : Nat → Nat

/-- R344, R416, R447: the random nonce of the n-th ECDSA signature (FIPS 186-5). Free: it is random, safe. -/
opaque ecdsaNonce : Nat → Nat

/-- R404: the IV under which key store slot k is sealed. Free: not stated, safe. -/
opaque bksIv : Nat → Bytes

/-- R344: the ephemeral private key of the n-th key agreement. Free, safe. -/
opaque ephemeralKey : Nat → Nat

/-- R220: the word that stands for one that never arrived, by group, member, row and time. Free: "as received" gives it no
value, safe. -/
opaque missingWord : List Nat → DWord

/-- R396, R409: byte n of the helper data that enrolment writes for both PUF arrays. Free, safe. -/
opaque helperByte : Nat → Byte

/-- R177: the predicted time in nanoseconds until an OPEN job's verdict, for its remaining AES blocks and the spread depth
in force. Free: the spec gives typical figures only, safe. -/
opaque predictedVerdict : Nat → Nat → Nat

/-- The n-th group of unstated bits outside the results of instructions. Free: the spec gives no value, safe. -/
opaque freeWord : Nat → DWord

/-- R165: whether the last AES block of a running job, by its name and the elapsed time, has entered its engine's pipeline.
Free: an engine's speed is given as typical, safe. -/
opaque lastBlockIn : Nat → Nat → Bool

/-- R165, R169, R177: AES blocks that an unfinished job, by its name and the elapsed time, has done. Free: as
`lastBlockIn`, safe. -/
opaque blocksUsed : Nat → Nat → Nat

/-- R169, R174: AES blocks and key loads of one known-answer test. Free: the stored tests are not stated, safe. -/
opaque katBlocks : Nat

/-- R3, R49, R87, R88, R90, R91, R94, R98: the result bits an instruction leaves unstated, by the instruction (0 `pn.peek`, 1
`ord.dom`, 2 `open`, 3 `crc.get`, 4 a lowest acceptable number beyond 64 bits, 5 `look.at`, 6 `look.mt`), the pick's frame as
received (none for 5) and a number that no order of completion changes, so that what a card sends varies neither with other picks
nor with which result comes first (R3). Free: the spec gives no value, safe. -/
opaque freeResult : Nat → Bytes → Nat → DWord

/-- R303, R305, R311: with which of its writes on a channel a fresh writing, by its number, begins. Free: the order of the writes
is not stated, safe. -/
opaque freshCtr : Nat → Nat → Nat

/-- R304, R313: how many levels above a line the metadata cache does not hold, by the region (true for the buffer region), the
line and its channel's write clock. Free: what the cache holds is not stated, safe. -/
opaque uncachedLevels : Bool → Nat → Nat → Nat

/-- R316: before which elapsed ns, given the current one, a fetch that no request of a shuttle or a host command waits for began,
by the region and the line. Free: when the T32 reads of its own accord is not stated, safe. -/
opaque fetchBegan : Bool → Nat → Nat → Nat

/-- R305, R306: the memory key index under which a fresh writing, by its number, writes a buffer line. Free: not stated,
safe. -/
opaque freshMki : Nat → Nat → Nat

/-- R301, R302: the memory key index and the line number that stand in block X of the MAC of a counter line or tree node,
by region, level and index. Free: R302 gives block X for data lines, safe. -/
opaque nodePlace : Bool → Nat → Nat → Nat × Nat

/-- R216, R300: which line of its group's deskew share holds a member's lane frame of an MFC from a 64-byte block on. Free:
the layout of a share is not stated, safe. -/
opaque deskewLine : Nat → Nat → Nat → Nat → Nat

/-- R300: the spill extent from which a free one is sought at the n-th new extent. Free: R300 says only that extents are
taken from any channel in turn, safe. -/
opaque spillExtent : Nat → Nat

/-- R452: which cache bank, of eight, a lookup of an association (false) or of a flow bucket (true) hashes to. Free: the
hash is not stated, safe. -/
opaque cacheBank : Bool → Nat → Nat

/-- R406: the 16 bytes in which BKS_STATUS shows a slot: its number, PURPOSE, OWNER, USES_LEFT and STARTS_LEFT. Free: the
layout of the record is not stated, safe. -/
opaque bksRecord : Nat → Nat → Nat → Option Nat → Option Nat → BitVec 128

/-- R333, R454: typical nanoseconds of link training in a lane quad's exit latency, by the modes of the ports that train. Free: the
spec gives no figure, safe. -/
opaque trainingTime : List Nat → Nat

/-- R340: idle blocks on weft port n before an item, by the block number and the elapsed ns. Free: timing, safe. -/
opaque idleBlocks : Nat → Nat → Nat → Nat

/-- R340: what the scrambler of a data lane of weft port n starts with. Free: not stated, safe. -/
opaque scrambler : Nat → Nat → BitVec 58

/-- R508: the nanoseconds by which the n-th captured PPS_IN edge moves the time of day, for the time captured. Free: how the
time base follows PPS_IN is not stated, safe. -/
opaque ppsStep : Nat → Int → Int

end Sys2Proof.Config
end

