-- ==== Sys2Proof/Machine/State.lean ====
section
/-! DEFINITION. The state of the block as plain data: every register, table, queue, counter and mode the spec gives it.
A register of the host interface that is configuration, or a plain status word, stands in `regs` under its BAR0 offset
(the map of all of them is Machine/RegMap.lean, with every field's access code and reset value); what the hardware acts
on stands in typed fields. A table keyed by a number is a list of pairs with strictly rising keys that lists no entry
equal to what an unlisted key reads as. A field whose docstring says "model" is the model's own. -/

namespace Sys2Proof.Machine

/-- A table from numbers to values: strictly rising keys, no entry equal to the default. -/
abbrev Tbl (α : Type) := List (Nat × α)

/-- Bytes by address, an unlisted byte reading 0 (R72): the canonical form is `Memory.wf` (Machine/Ops.lean). -/
abbrev Memory := List Host.Cell

/-- R1: the three variants. -/
inductive Variant where
  | tv32f
  | tv32s
  | tv16e
deriving DecidableEq, Repr

/-- R67: the trap codes. -/
inductive Trap where
  | illegal
  | absent
  | window
  | budget
  | noend
  | scratch
  | mem
  | program
deriving DecidableEq, Repr

/-- R124: the states of a pick. -/
inductive PickSt where
  | waiting
  | running
  | ended
  | queued
deriving DecidableEq, Repr

/-- R133: the stored association states; EXHAUSTED is shown, not stored. -/
inductive AtSt where
  | empty
  | active
  | suspended
  | poisoned
deriving DecidableEq, Repr

/-- R130, R139, R140: one slot of an association. -/
structure Slot where
  /-- R130: KEY, 32 bytes; reset all 0 (empty list) -/
  key : Bytes := []
  /-- R130: SALT, 96 bits, as 12 bytes; reset 0 (empty list) -/
  salt : Bytes := []
  /-- R130: SSCI, 32 bits, as 4 bytes; reset 0 (empty list) -/
  ssci : Bytes := []
  /-- R130: PN, 64 bits: next to send, or lowest acceptable; reset 0 -/
  pn : DWord := 0
  /-- R129: KN_A or KN_B, 2 bits; reset 0 -/
  kn : BitVec 2 := 0
  /-- R129: VALID; reset 0 -/
  valid : Bool := false
  /-- R129: EXH; reset 0 -/
  exh : Bool := false
  /-- R129: DRAIN; reset 0 -/
  drain : Bool := false
  /-- R166: how often the slot has been loaded (model: names a key context of the slot's last load); reset 0 -/
  loads : Nat := 0
deriving DecidableEq, Repr

/-- R129: an association entry. -/
structure AtEntry where
  /-- R129: STATE, 4 bits, as stored; reset EMPTY -/
  st : AtSt := .empty
  /-- R129: SUITE, 4 bits; reset 0 -/
  suite : BitVec 4 := 0
  /-- R129: MODE; reset 0 -/
  mode : Bool := false
  /-- R129: TXSLOT, true for B; reset 0 -/
  txslot : Bool := false
  /-- R129: CUT; reset 0 -/
  cut : Bool := false
  /-- R129: REPLAY; reset 0 -/
  replay : Bool := false
  /-- R129: K, 6 bits; reset 0 -/
  k : BitVec 6 := 0
  /-- R129: DOMAIN, 6 bits; reset 0 -/
  domain : BitVec 6 := 0
  /-- R129: WINDOW, 32 bits; reset 0 -/
  window : Word := 0
  /-- R129: POLICER, 20 bits; reset 0 -/
  policer : BitVec 20 := 0
  /-- R129: AT_CUT_EVENT; reset 0 -/
  cutEvent : Bool := false
  /-- R129: QBASE, 14 bits; reset 0 -/
  qbase : BitVec 14 := 0
  /-- R130: slot A; reset empty -/
  a : Slot := {}
  /-- R130: slot B; reset empty -/
  b : Slot := {}
deriving DecidableEq, Repr

/-- R36, R88: the snapshot a pick took of an association. -/
structure Snap where
  /-- R88: the direction of the `look.at`, true for receive -/
  rx : Bool := false
  /-- R88: its status code -/
  status : BitVec 8 := 0
  /-- R88: the slot chosen, true for B; none when no slot was -/
  slot : Option Bool := none
  /-- R36: the entry as it stood -/
  entry : AtEntry := {}
deriving DecidableEq, Repr

/-- R53, R93, R94: how far a pick's cipher operation has come. -/
inductive CipherPhase where
  | cellWait     -- issued, waiting for output cells (R123)
  | requested    -- open issued, waiting for the reed (R94)
  | job          -- handed to the engines
  | engineDone   -- the engine has finished (R161)
  | done         -- completed
deriving DecidableEq, Repr

/-- R93 to R95: a pick's `seal` or `open`. -/
structure Cipher where
  /-- R94: true for `open` -/
  isOpen : Bool
  /-- R93: destination register d -/
  d : Reg
  /-- R47: the bobbin that issued it -/
  bob : Nat
  /-- R71: word index of the instruction that issued it -/
  pc : Nat
  /-- R93: operand a, the authenticated-only length -/
  aad : Nat
  /-- R92: operand b, the SCI -/
  sci : DWord
  /-- R95: cut-through release requested -/
  cut : Bool
  /-- R84: level fixed at submission: 2 HIGH, 1 NORMAL -/
  level : Nat
  /-- R53: phase -/
  phase : CipherPhase
  /-- R94: service order of the `open` at its association -/
  ord : Nat
  /-- R93, R94: the snapshot it works under -/
  snap : Snap
  /-- R88: the association of that snapshot -/
  assoc : BitVec 24
  /-- R93, R94: its packet number -/
  pn : DWord
  /-- R161: the engine's output: verdict and bytes -/
  result : Option (Bool × Bytes)
  /-- R94: the status returned when done -/
  status : BitVec 8
deriving DecidableEq, Repr

/-- R106: one mirror copy. -/
structure Mirror where
  /-- R106: true for queue a[13:0], false for the punt ring of domain a[5:0] -/
  toQueue : Bool
  /-- R106: the queue or the domain -/
  target : Nat
  /-- R106: original content -/
  original : Bool
deriving DecidableEq, Repr

/-- R55, R124: a pick: its record, its frame and its place in the orders. -/
structure Pick where
  /-- R55: seq, 32 bits; at dispatch the number of R12 -/
  seq : Word := 0
  /-- R55: odom, 12 bits; the ingress domain -/
  odom : BitVec 12 := 0
  /-- R55: src, 4 bits -/
  src : BitVec 4 := 0
  /-- R55: port, 8 bits -/
  port : BitVec 8 := 0
  /-- R55: class, 3 bits; the port's default class -/
  cls : BitVec 3 := 0
  /-- R55: woff, 16 bits signed; 0 -/
  woff : BitVec 16 := 0
  /-- R55: assoc, 24 bits -/
  assoc : BitVec 24 := 0
  /-- R55: slot, 1 bit -/
  slot : Bool := false
  /-- R55: kn, 2 bits -/
  kn : BitVec 2 := 0
  /-- R55: astat, 3 bits; 7 NONE -/
  astat : BitVec 3 := 7
  /-- R55: queue, 14 bits; 0 -/
  queue : BitVec 14 := 0
  /-- R55: color, 2 bits; GREEN -/
  color : BitVec 2 := 0
  /-- R55: disp, 4 bits; NONE -/
  disp : BitVec 4 := 0
  /-- R55: reason, 8 bits; NONE -/
  reason : BitVec 8 := 0
  /-- R55: gen, 16 bits -/
  gen : BitVec 16 := 0
  /-- R55: pn, 64 bits -/
  pn : DWord := 0
  /-- R55: arrival, 64 bits -/
  arrival : DWord := 0
  /-- R55: u0; 0 -/
  u0 : DWord := 0
  /-- R55: u1; 0 -/
  u1 : DWord := 0
  /-- R55: u2; 0 -/
  u2 : DWord := 0
  /-- R39: the frame as it now stands without FCS: working copy, or engine output; its length is len (R55) -/
  frame : Bytes := []
  /-- R39: the original frame -/
  orig : Bytes := []
  /-- R55: the record values a restart gives back: assoc, kn, pn, u0 to u2 as created -/
  init : BitVec 24 × BitVec 2 × DWord × DWord × DWord × DWord := (0, 0, 0, 0, 0, 0)
  /-- R124: state -/
  st : PickSt := .waiting
  /-- R125: creation order -/
  born : Nat := 0
  /-- R125, R280: the ingress default class -/
  defCls : BitVec 3 := 0
  /-- R65: entry vector -/
  vec : Nat := 0
  /-- R127: runs ended by a cluster fault -/
  runs : Nat := 0
  /-- R125: a restarted pick -/
  restarted : Bool := false
  /-- R36: the snapshot of the latest `look.at` -/
  snap : Option Snap := none
  /-- R40: the packet number served to the pick, by association -/
  served : List (BitVec 24 × DWord) := []
  /-- R57: the associations whose `pn.next` has been answered in the present run -/
  servedNow : List (BitVec 24) := []
  /-- R30: the packet-number point of its domain is passed -/
  pnPassed : Bool := false
  /-- R33: the `ord.dom` point of its domain is passed -/
  ordPassed : Bool := false
  /-- R33: the pick has issued its one `ord.dom` -/
  ordUsed : Bool := false
  /-- R33: its `ord.dom` waits for the grant -/
  ordWait : Bool := false
  /-- R40: it has moved to another domain, or been granted its own, in this run or an earlier one -/
  ordMoved : Bool := false
  /-- R33: a `pn.next`, `pn.peek` or `open` has been issued -/
  pnIssued : Bool := false
  /-- R53: its cipher operation -/
  cipher : Option Cipher := none
  /-- R128: its `open` returned OK -/
  opened : Bool := false
  /-- R20, R40: association and packet number of an `open` that has committed OK, kept over a restart -/
  verified : Option (BitVec 24 × DWord) := none
  /-- R94, R126: association and service order of an `open` that a cluster fault has cancelled, until the pick's rerun
  issues it again -/
  openPlace : Option (BitVec 24 × Nat) := none
  /-- R106: mirror copies not yet released -/
  mirrors : List Mirror := []
  /-- R106: the frame as it stood at the pick's end -/
  endFrame : Option Bytes := none
  /-- R106: mirrors issued, at most 2 -/
  mirrorCount : Nat := 0
  /-- R104: punt code and domain -/
  puntTo : Option (Byte × Nat) := none
  /-- R105: destination device, vector and starting budget (0: the port's default) -/
  fwdTo : Option (BitVec 16 × Nat × Nat) := none
  /-- R31: the pick has left its domain's order -/
  left : Bool := false
  /-- R139: the slot it holds a reference to -/
  refHeld : Option (BitVec 24 × Bool) := none
  /-- R123: beam store cells held -/
  cells : Nat := 0
  /-- R123: cells of the working copy already taken -/
  copied : List Nat := []
  /-- R123: waits for a beam store cell -/
  cellWait : Bool := false
  /-- R311: its snapshot's association was poisoned after it: the next `pn.next` or `open` traps MEM -/
  memTrap : Bool := false
  /-- R278: counted in SHED_CLOSED_WAIT -/
  closedCounted : Bool := false
  /-- R282: when it entered QUEUED, in elapsed nanoseconds -/
  queuedAt : Nat := 0
  /-- R95, R177: started on a clear port before its verdict -/
  cutStarted : Bool := false
  /-- R95: its cut-through verdict failed after the first byte -/
  cutFailed : Bool := false
deriving DecidableEq, Repr

/-- R31, R383: a punt record or mirror copy that its reed has released and whose buffer slot has not been fetched yet. -/
structure PuntRec where
  /-- R383: the domain whose PUNT ring takes it -/
  dom : Nat
  /-- R383: the pick record it shows -/
  k : Pick
  /-- R104: punt code -/
  code : Byte
  /-- R104, R106: the frame it carries -/
  frame : Bytes
  /-- R106: a mirror copy -/
  mirror : Bool
  /-- R106: of the original content -/
  original : Bool
deriving DecidableEq, Repr

/-- R96, R98, R486: a bobbin's check-value context. -/
structure CrcCtx where
  /-- R483: width in bytes, 1, 2 or 4; profile 0 before any `crc.set` -/
  w : Nat := 4
  /-- R483: polynomial -/
  poly : Word := 0x04C11DB7
  /-- R483: REFIN -/
  refin : Bool := true
  /-- R483: REFOUT -/
  refout : Bool := true
  /-- R483: XOROUT -/
  xorout : Word := 0xFFFFFFFF
  /-- R483: the register, raw; INIT -/
  reg : Word := 0xFFFFFFFF
  /-- R98: a queued compare: whether it matched, and its width in bytes -/
  chk : Option (Bool × Nat) := none
deriving DecidableEq, Repr

/-- R47: the operations of a bobbin that a unit outside the shuttle still holds (`seal` and `open` stand in the pick). -/
inductive AsyncOp where
  | lookFt (space : BitVec 6) (lo hi : DWord)
  | lookMt (part : BitVec 6) (lo hi : DWord)
  | lookAt (idx : BitVec 24) (kn : BitVec 2) (rx : Bool)
  | pnNext
  | pnPeek
  | ordDom (dom : BitVec 12)
  | crcGet (val : DWord) (strip : Nat)
  | lds (addr size : Nat) (sext : Bool)
  | fadd (addr size : Nat) (sext : Bool) (add : DWord)
deriving DecidableEq, Repr

/-- R47: one asynchronous operation pending outside the shuttle. -/
structure PendOp where
  /-- R47: destination register -/
  d : Reg
  /-- R47: the operation -/
  op : AsyncOp
  /-- R71: word index of the instruction that issued it -/
  pc : Nat
  /-- R316: elapsed ns at which it was issued -/
  at_ : Nat := 0
deriving DecidableEq, Repr

/-- R46 to R48, R66: a bobbin. -/
structure Bobbin where
  /-- R124: the pick it runs, before its disposition; reset none -/
  pick : Option Nat := none
  /-- R101: the record of the pick once it has ended, until `halt`; reset none -/
  left : Option Pick := none
  /-- R46: g0 to g31, 64 bits each, unlisted 0; reset 0 (R66) -/
  g : Tbl DWord := []
  /-- R46: program counter, word index 0 to 16,383; DESIGN CHOICE 0 (log entry 4) -/
  pc : Nat := 0
  /-- R46: scoreboard, one bit per register; reset 0 (R66) -/
  sb : BitVec 32 := 0
  /-- R69: instructions counted for the pick; reset 0 (R66) -/
  count : Nat := 0
  /-- R68: running in vector 5; reset 0 -/
  inHandler : Bool := false
  /-- R69: the budget has been raised by 256; reset 0 -/
  raised : Bool := false
  /-- R47: operations pending outside the shuttle, oldest first; reset none -/
  pend : List PendOp := []
  /-- R85: a fetch-and-add issued before a `fence` is pending: later scratch accesses wait; reset 0 -/
  fenced : Bool := false
  /-- R96: check-value context; reset profile 0 -/
  crc : CrcCtx := {}
  /-- R100: nanoseconds latched by a directly preceding `tb 0`; reset none -/
  tbNs : Option Nat := none
deriving DecidableEq, Repr

/-- R111: a checked card. -/
structure Card where
  /-- R111: GEN -/
  gen : BitVec 16
  /-- R111: FLAGS bit 0 -/
  timeAware : Bool
  /-- R111: ENTRY[0..15] -/
  entry : List Nat
  /-- R111: the body words -/
  words : List Word
deriving DecidableEq, Repr

/-- R119: cluster card states. -/
inductive CluSt where
  | none
  | stale
  | draining
  | loading
  | held
  | fresh
  | quarantined
deriving DecidableEq, Repr

/-- R118 to R120, R71: a shuttle cluster. -/
structure Cluster where
  /-- R118: SHU_CARD_CTL.GEN, 16 bits; reset 0 -/
  ctlGen : BitVec 16 := 0
  /-- R118: SHU_CARD_CTL.HOLD; reset 0 -/
  hold : Bool := false
  /-- R119: SHU_CARD_STAT.STATE; reset NONE -/
  st : CluSt := .none
  /-- R119: REJECT; reset 0 -/
  reject : Bool := false
  /-- R119: LOADFAIL, 3 bits; reset 0 -/
  loadfail : BitVec 3 := 0
  /-- R120: the load has been retried once; reset 0 -/
  retried : Bool := false
  /-- R119: program memory; reset no card (GEN 0) -/
  card : Option Card := none
  /-- R120: the generation the running load copies; reset 0 -/
  loadGen : BitVec 16 := 0
  /-- R72, R462: the scratch of this return has been reloaded; reset 0 -/
  scratchDone : Bool := false
  /-- R462: a scratch copy is running; reset 0 -/
  copying : Bool := false
  /-- R462, R469: that copy was started while STALE, so its bit of PMC_SCR_RELOAD clears; reset 0 -/
  copyOnce : Bool := false
  /-- R120, R461: a return's card load has ended; reset 0 -/
  cardDone : Bool := false
  /-- R120: HOLD was 1 when a return's load ended, and has not been written 0 since; reset 0 -/
  heldBack : Bool := false
  /-- R120, R461: the cluster is returning from P2, P3 or quarantine, or powers up first; reset 0 -/
  returning : Bool := false
  /-- R71: SHU_TRAP_LAST as (CODE, PC, SHUTTLE, BOBBIN, IN_HANDLER); reset 0 -/
  trapLast : BitVec 4 × Nat × Nat × Nat × Bool := (0, 0, 0, 0, false)
deriving DecidableEq, Repr

/-- R43 to R72, R111 to R122: the shuttles and the card staging. -/
structure Shu where
  /-- R43: bobbins by number 128 × cluster + 8 × shuttle + bobbin; reset idle -/
  bobs : Tbl Bobbin := []
  /-- R118: clusters; reset as Cluster -/
  clusters : Tbl Cluster := []
  /-- R72: cluster scratch bytes at 16,384 × cluster + offset; reset 0 -/
  scratch : Memory := []
  /-- R462: scratch images, as scratch; reset 0 -/
  images : Memory := []
  /-- R114, R116: the card in CURRENT; reset none -/
  cur : Option Card := none
  /-- R114, R116: the card in NEXT; reset none -/
  next : Option Card := none
  /-- R300: the second of the two staging areas in DRAM holds CURRENT and the first NEXT; reset 0 -/
  curSecond : Bool := false
  /-- R311: a line of CURRENT in DRAM has been poisoned; reset 0 -/
  curLost : Bool := false
  /-- R311: a line of NEXT in DRAM has been poisoned; reset 0 -/
  nextLost : Bool := false
  /-- R114, R116: the image under check, BUSY while present; reset none -/
  staging : Option Bytes := none
  /-- R114: the function whose ring slot named it; reset 0 -/
  stagingFn : Nat := 0
  /-- R116: REFUSED; reset 0 -/
  refused : Bool := false
  /-- R116: CHECK, 4 bits; reset 0 -/
  check : BitVec 4 := 0
deriving DecidableEq, Repr

/-- R150: a flow entry, with the bucket it lies in. -/
structure Flow where
  /-- R150: SPACE, 6 bits -/
  space : BitVec 6
  /-- R150: KEY_LO -/
  lo : DWord
  /-- R150: KEY_HI -/
  hi : DWord
  /-- R150: DOMAIN, 6 bits -/
  domain : BitVec 6
  /-- R150: STATE POISONED, otherwise ACTIVE -/
  poisoned : Bool
  /-- R150: RESULT, 56 bits -/
  result : BitVec 56
  /-- R150: HITS, 32 bits, saturating -/
  hits : Word
  /-- R150: its bucket -/
  bucket : Nat
  /-- R150: its place among the bucket's 4 entries -/
  place : Nat := 0
deriving DecidableEq, Repr

/-- R153: a mask-table entry. -/
structure MtEntry where
  /-- R153: VALUE, 128 bits; PRESUMED 0 (log entry 4) -/
  value : BitVec 128 := 0
  /-- R153: MASK, 128 bits; PRESUMED 0 (log entry 4) -/
  mask : BitVec 128 := 0
  /-- R153: PART, 6 bits; PRESUMED 0 (log entry 4) -/
  part : BitVec 6 := 0
  /-- R153: VALID; PRESUMED 0 (log entry 4) -/
  valid : Bool := false
  /-- R153: RESULT, 32 bits; PRESUMED 0 (log entry 4) -/
  result : Word := 0
deriving DecidableEq, Repr

/-- R129 to R157: the association and flow tables. -/
structure Tables where
  /-- R129: association entries by index; reset EMPTY -/
  assocs : Tbl AtEntry := []
  /-- R139: reference counts at 2 × index + slot; reset 0 -/
  refs : Tbl Nat := []
  /-- R140: drain timers at 2 × index + slot, expiry in elapsed ns plus 1, 0 for none; reset none -/
  drains : Tbl Nat := []
  /-- R32: previous requesting ordering domain plus 1, 0 for none; reset none -/
  lastDom : Tbl Nat := []
  /-- R94: next service number of an `open`; reset 0 -/
  openOrd : Nat := 0
  /-- R150: flow entries; reset none -/
  flows : List Flow := []
  /-- R150: which drawn hash secret is in force; reset 0 -/
  secret : Nat := 0
  /-- R153: mask table; reset not VALID -/
  mt : Tbl MtEntry := []
deriving DecidableEq, Repr

/-- R166: whose key a key context holds. -/
inductive CtxKey where
  | assoc (idx : BitVec 24) (slotB : Bool) (load : Nat)
  | lks (slot : Nat) (load : Nat)
deriving DecidableEq, Repr

/-- R159: job kinds (KAT jobs are `Engine.testing`). -/
inductive JobKind where
  | seal
  | opn
  | xts
  | gcm
deriving DecidableEq, Repr

/-- R163 to R165: where a job is. -/
inductive JobSt where
  | queued
  | running (e : Nat)
  | suspended (e : Nat)
  | doomed (e : Nat)      -- preempted, runs to its next block boundary (R165)
deriving DecidableEq, Repr

/-- R159 to R165: a cipher engine job. -/
structure Job where
  /-- model: the job's name -/
  id : Nat
  /-- R159: kind -/
  kind : JobKind
  /-- R159: level, 2 HIGH, 1 NORMAL, 0 LOW -/
  level : Nat
  /-- R163: its first submission -/
  ord : Nat
  /-- R163: its state -/
  st : JobSt := .queued
  /-- R166: the key it names -/
  ctx : CtxKey
  /-- R93, R94: the pick it works for; none for a lookaside job -/
  pick : Option Nat := none
  /-- R387: the function of a lookaside job -/
  fn : Nat := 0
  /-- R387: a lookaside job's descriptor and source bytes -/
  desc : Bytes := []
  /-- R387: as desc -/
  src : Bytes := []
  /-- R177: elapsed ns at which it started on its engine -/
  startedAt : Nat := 0
  /-- R181: the device IV it drew -/
  iv : Option Bytes := none
  /-- R171: profile it started under, true CONSTANT -/
  constant : Bool := false
  /-- R170: stalled for mask randomness -/
  stalled : Bool := false
  /-- R165: AES blocks done when it was suspended: its position, from which its counter and its GHASH accumulator follow -/
  saved : Nat := 0
  /-- R169: blocks of mask randomness it has used before a stall -/
  paid : Nat := 0
  /-- R178: restarted after a retirement, or stalled: its verdict may be late -/
  late : Bool := false
deriving DecidableEq, Repr

/-- R189: engine states. -/
inductive EngSt where
  | stale
  | testing
  | fresh
  | quarantined
deriving DecidableEq, Repr

/-- R159 to R176, R189: an engine. -/
structure Engine where
  /-- R189: STATE; reset STALE -/
  st : EngSt := .stale
  /-- R174: its own test has passed while the partner's has not; reset 0 -/
  passed : Bool := false
  /-- R189: FAULT, 3 bits; reset NONE -/
  fault : BitVec 3 := 0
  /-- R189: RETIRES, saturating at 255; reset 0 -/
  retires : Nat := 0
  /-- R174: elapsed ns of its last test; reset 0 -/
  lastKat : Nat := 0
deriving DecidableEq, Repr

/-- R166, R169: an engine pair. -/
structure Pair where
  /-- R166: key context store, most recently used first, at most 64; reset empty -/
  ctx : List CtxKey := []
  /-- R169: blocks of randomness left under the present seed; reset 0 -/
  blocks : Nat := 0
  /-- R169: elapsed ns of the last seeding; reset 0 -/
  seededAt : Nat := 0
  /-- R523: the pair is being emptied for a PMC_RETURN; reset 0 -/
  leaving : Bool := false
deriving DecidableEq, Repr

/-- R179: a lookaside key slot. -/
structure LksKey where
  /-- R179: 64 bytes; reset none -/
  key : Bytes := []
  /-- R179: owning domain; reset 0 -/
  owner : Nat := 0
  /-- R166: loads (model); reset 0 -/
  loads : Nat := 0
deriving DecidableEq, Repr

/-- R159 to R190: the cipher engines. -/
structure Cie where
  /-- R189: engines; reset STALE -/
  engines : Tbl Engine := []
  /-- R166: pairs; reset empty -/
  pairs : Tbl Pair := []
  /-- R163: jobs queued, running and suspended; reset none -/
  jobs : List Job := []
  /-- R163: next submission number; reset 0 -/
  next : Nat := 0
  /-- R176: elapsed ns of the last retirement; reset none -/
  lastRetire : Option Nat := none
  /-- R179: lookaside key slots; reset empty -/
  lks : Tbl LksKey := []
  /-- R21, R175: retired engines with their faults whose recovery has not ended; reset none -/
  recovering : List (Nat × Nat) := []
deriving DecidableEq, Repr

/-- R106, R281: a frame in a queue that is no pick any more: a mirror copy, or a spilled frame. -/
structure QFrame where
  /-- R281: the frame -/
  frame : Bytes
  /-- R128: a clear port removes its SecTAG -/
  strip : Bool
  /-- R225: association, key number and packet number of a frame the woven framer accepts -/
  woven : Option (BitVec 24 × BitVec 2 × DWord)
  /-- R471: DOMAIN of its occurrences -/
  dom : Nat
  /-- R471: MASTER of its occurrences -/
  src : BitVec 4
  /-- R471: CLASS of its occurrences -/
  cls : BitVec 3
  /-- R282: when it entered QUEUED, in elapsed nanoseconds -/
  queuedAt : Nat
  /-- R278: counted in SHED_CLOSED_WAIT -/
  closedCounted : Bool := false
deriving DecidableEq, Repr

/-- R266, R281: one frame in a queue: a pick, a frame held in the beam store, or one spilled to DRAM under a memory key
index, in a spill extent from a line of it on. -/
inductive QItem where
  | pick (id : Nat)
  | held (f : QFrame)
  | spilled (f : QFrame) (mki ext off : Nat)
deriving DecidableEq, Repr

/-- R266 to R272: a queue. -/
structure Queue where
  /-- R266: its frames, first in first; reset empty -/
  fifo : List QItem := []
  /-- R271: shaper credit in units of 1/125 byte; reset 0 -/
  credit : Int := 0
  /-- R269: deficit in bytes; reset 0 -/
  deficit : Nat := 0
  /-- R269: its present turn has begun; reset 0 -/
  inTurn : Bool := false
deriving DecidableEq, Repr

/-- R268, R177: a frame being sent. -/
structure Tx where
  /-- the pick, none for a mirror copy or a spilled frame -/
  pick : Option Nat
  /-- R270: the bytes as sent, without FCS -/
  bytes : Bytes
  /-- R177: a cut-through frame, not yet started or with its verdict awaited at the FCS -/
  cut : Bool
  /-- R178: the frame ends with a poisoned FCS -/
  poison : Bool := false
  /-- R178: elapsed ns at which the MAC reaches the FCS -/
  fcsAt : Nat
  /-- R270: elapsed ns at which the frame ends -/
  ends : Nat
deriving DecidableEq, Repr

/-- R267 to R279, R334: a port. -/
structure Port where
  /-- R271: shaper credit in units of 1/125 byte; reset 0 -/
  credit : Int := 0
  /-- R269: the class rings, key class, oldest turn first; reset empty -/
  rings : Tbl (List Nat) := []
  /-- R268: the frame in progress; reset none -/
  tx : Option Tx := none
  /-- R292: ACTIVE, true for bank B; reset 0 -/
  bankB : Bool := false
  /-- R279: PENDING and the switch instant, in ns of time of day; reset none -/
  switchAt : Option Int := none
  /-- R292: ENTRY; reset 0 -/
  entry : Nat := 0
  /-- R276: end of the running entry, in ns of time of day; reset 0 -/
  entryEnd : Int := 0
  /-- R334, R357: LINK; reset 0 -/
  link : Bool := false
  /-- R357: TRAIN_DONE; reset 0 -/
  trainDone : Bool := false
  /-- R357: TRAIN_FAIL; reset 0 -/
  trainFail : Bool := false
  /-- R333: elapsed ns at which training started; reset 0 -/
  trainAt : Nat := 0
deriving DecidableEq, Repr

/-- R274: a policer. -/
structure Policer where
  /-- R274: Tc in units of 1/125 byte; reset full (16,128 bytes) -/
  tc : Nat := 2016000
  /-- R274: Tp in units of 1/125 byte; reset full (16,128 bytes) -/
  tp : Nat := 2016000
deriving DecidableEq, Repr

/-- R282, R297: a histogram unit. -/
structure Hist where
  /-- R282: the 16 bins, 32 bits saturating; reset 0 -/
  bins : Tbl Nat := []
  /-- R297: the snapshot; reset 0 -/
  snap : Tbl Nat := []
  /-- R297: SNAP reads 1; reset 0 -/
  busy : Bool := false
  /-- R282: frames seen since the last sample; reset 0 -/
  seen : Nat := 0
  /-- R282: elapsed ns of the last depth sample; reset 0 -/
  last : Nat := 0
deriving DecidableEq, Repr

/-- R265 to R298: the scheduler. -/
structure Sch where
  /-- R266: queues; reset empty -/
  queues : Tbl Queue := []
  /-- R267: ports; reset idle -/
  ports : Tbl Port := []
  /-- R274: policers; reset full buckets -/
  pols : Tbl Policer := []
  /-- R282: histogram units; reset 0 -/
  hists : Tbl Hist := []
  /-- R271: elapsed ns of the last refill tick taken; reset 0 -/
  lastTick : Nat := 0
deriving DecidableEq, Repr

/-- R123 to R127, R28: picks and reeds. -/
structure Beam where
  /-- R123: picks by slot 0 to 131,071; reset none -/
  picks : Tbl Pick := []
  /-- R125: next creation number; reset 0 -/
  born : Nat := 0
  /-- R28: next sequence number of each ordering domain; reset 0 -/
  seqs : Tbl Word := []
  /-- R31: punt records and mirror copies that wait for a fetched buffer slot, oldest first; reset none -/
  puntWait : List PuntRec := []
deriving DecidableEq, Repr

/-- R147, R148, R239: a cloth key slot. -/
structure CkSlot where
  /-- R239: VALID; reset 0 -/
  valid : Bool := false
  /-- R239: DRAIN; reset 0 -/
  drain : Bool := false
  /-- R239: KN, 2 bits; reset 0 -/
  kn : BitVec 2 := 0
  /-- R147: cloth salt, 4 bytes; reset none -/
  salt : Bytes := []
  /-- R147: cloth key, 32 bytes; reset none -/
  key : Bytes := []
  /-- R149: drain expiry in elapsed ns plus 1; reset 0 -/
  drainAt : Nat := 0
  /-- R223: for a key that does not seal now, the next header number under it; reset 1 -/
  next : Nat := 1
deriving DecidableEq, Repr

/-- R232: a membership change. -/
structure MemberChange where
  /-- R232: true for ADD, false for REMOVE -/
  add : Bool
  /-- R232: the member -/
  member : Nat
  /-- R232: a path multiframe has begun since it was asked for -/
  armed : Bool
  /-- R232: announced in position 8 -/
  announced : Bool
  /-- R233: started by the T32 -/
  auto : Bool
deriving DecidableEq, Repr

/-- R206 to R242: a woven group. -/
structure Group where
  /-- R211: MFC of the next lane frame sent, 16 bits; reset 0 -/
  mfc : Nat := 0
  /-- R211: members that have sent the lane frame of MFC; reset none -/
  sent : List Nat := []
  /-- R236: WOV_TX_MAP.MAP; reset 0 -/
  map : Word := 0
  /-- R217: the map in force on the line; reset 0 -/
  mapInForce : Word := 0
  /-- R237: a membership change; reset none -/
  change : Option MemberChange := none
  /-- R160, R213: the header sealer has failed in this start, so the group sends PAIS; reset 0 -/
  pais : Bool := false
  /-- R237: SEQ_STOP; reset 0 -/
  seqStop : Bool := false
  /-- R237: SEALER_FAIL; reset 0 -/
  sealerFail : Bool := false
  /-- R237: MF_FAR; reset 0 -/
  mfFar : Bool := false
  /-- R237: MFN_FAR, 5 bits; reset 0 -/
  mfnFar : Nat := 0
  /-- R233: consecutive lane frames with that MF and MFN; reset 0 -/
  mfRun : Nat := 0
  /-- R238: SLOT, true for B; reset 0 -/
  ckSlot : Bool := false
  /-- R238: DONE; reset 1 -/
  ckDone : Bool := true
  /-- R238: KN; reset 0 -/
  txKn : BitVec 2 := 0
  /-- R231: the slot that seals headers now, none while UNEQ; reset none -/
  sealing : Option Bool := none
  /-- R231: path multiframes the new key number has been announced in; reset 0 -/
  announced : Nat := 0
  /-- R160, R169: blocks' worth of randomness left in the header sealer's mask expander; reset 0 -/
  maskBlocks : Nat := 0
  /-- R160, R169: elapsed ns of its last seeding; reset 0 -/
  maskAt : Nat := 0
  /-- R160: the header sealer has passed the known-answer test that was due; reset 0 -/
  tested : Bool := false
  /-- R223: next header sequence number; reset 1 -/
  txSeq : Nat := 1
  /-- R239: the slots, 0 transmit A, 1 transmit B, 2 receive A, 3 receive B; reset empty -/
  cks : Tbl CkSlot := []
  /-- R224: the item the scheduler has selected and the framer has not placed yet; reset none -/
  ready : Option QItem := none
  /-- R277, R282: the queue it came from; reset 0 -/
  readyQ : Nat := 0
  /-- R217: cloth placed and not yet sent in a lane frame; reset none -/
  cloth : Bytes := []
  /-- R224: cloth bytes placed since the last path marker; reset 0 -/
  placed : Nat := 0
  /-- R212: offset from the marker and number of the first header placed after it; reset none -/
  firstHdr : Option (Nat × Nat) := none
  /-- R212: the path overhead byte of the lane frame of MFC, the same on every member; reset 0 -/
  txPoh : Byte := 0
  /-- R210: MFN of the lane frame of MFC, none for MF 0; reset none -/
  txMfn : Option Nat := none
  /-- R217: the payload bytes of the lane frame of MFC, striped over the members; reset none -/
  rowBytes : Bytes := []
  /-- R246: path BIP-8 running over the present path multiframe; reset 0 -/
  txBip : Byte := 0
  /-- R246: path BIP-8 of the previous path multiframe; reset 0 -/
  txBipPrev : Byte := 0
  /-- R248: path BIP errors not yet reported, capped at 8 when sent; reset 0 -/
  preiOwed : Nat := 0
  /-- R242: WOV_RX_MAP; reset 0 -/
  rxMap : Word := 0
  /-- R232: the announced receive change, applied at the next marker; reset none -/
  rxChange : Option (Bool × Nat) := none
  /-- R212: path overhead bytes received in this path multiframe; reset none -/
  poh : Tbl Byte := []
  /-- R241: SYNC; reset 0 -/
  sync : Bool := false
  /-- R241: NOREF; reset 0 -/
  noref : Bool := false
  /-- R241: KEY_MISS; reset 0 -/
  keyMiss : Bool := false
  /-- R241: KN; reset 0 -/
  rxKn : BitVec 2 := 0
  /-- R231: the receive slot in use, true for B; reset none -/
  rxSlot : Option Bool := none
  /-- R231: the slot announced by NEXT; reset none -/
  rxNext : Option Bool := none
  /-- R226: next expected header number; reset 1 -/
  rxSeq : Nat := 1
  /-- R229: cloth bytes from the end of the last verified header to rxPos; reset 0 -/
  rxSince : Nat := 0
  /-- R229: the mean item size L in the last path multiframe in sync, as bytes and items; reset 100 and 1 -/
  rxMean : Nat × Nat := (100, 1)
  /-- R229: items and bytes parsed in this path multiframe; reset 0 -/
  rxItems : Nat := 0
  /-- R229: as rxItems; reset 0 -/
  rxItemBytes : Nat := 0
  /-- R226: received cloth not yet parsed; reset none -/
  rxCloth : Bytes := []
  /-- R229: offset of the first byte of rxCloth from the path marker before it; reset 0 -/
  rxPos : Nat := 0
  /-- R229: cloth bytes of the path multiframe in which rxPos lies; reset 0 -/
  rxLen : Nat := 0
  /-- R229: out of sync, the cloth since the marker is kept; reset 0 -/
  rxHold : Bool := false
  /-- R231: the 24 bytes of a KEYMARK at the marker are to be skipped; reset 0 -/
  rxSkip : Bool := false
  /-- R231: out of sync with a reference, a KEYMARK is to be verified at the marker; reset 0 -/
  rxMark : Bool := false
  /-- R229: offset of the first header of that path multiframe, and its number unless it was skipped; reset none -/
  rxFirst : Option (Nat × Option Nat) := none
  /-- R230: path label UNEQ has been received since the group was enabled; reset 0 -/
  rxUneq : Bool := false
  /-- R230: a current key number has been received since the group was enabled; reset 0 -/
  rxKnown : Bool := false
  /-- R231: path multiframes in a row that announced a key; reset 0 -/
  rxNka : Nat := 0
  /-- R231: path multiframes whose position 3 was lost since the last that announced none; reset 0 -/
  rxLost : Nat := 0
  /-- R220: MFC and word number of the row to release next; reset none -/
  row : Option (Nat × Nat) := none
  /-- R242: WOV_RX_SKEW in ns; reset 0 -/
  skew : Nat := 0
  /-- R246: path BIP-8 running over the received path multiframe; reset 0 -/
  rxBip : Byte := 0
  /-- R255: every row of the present path multiframe has been released from its marker on; reset 0 -/
  rxWhole : Bool := false
  /-- R246: and it has not fallen in path signal fail; reset 0 -/
  rxBipOk : Bool := false
  /-- R256: a row was released with an unrebuilt erasure in this path multiframe; reset 0 -/
  unrebuilt : Bool := false
  /-- R255: the second in which the present path marker arrived; reset 0 -/
  mfSec : Nat := 0
  /-- R246: the block of the last whole path multiframe, until the present one is seen free of path signal fail: its second,
  BIP error count and other error; reset none -/
  due : Option (Nat × Nat × Bool) := none
  /-- R263: PREI of the present path multiframe; reset 0 -/
  rei : Nat := 0
  /-- R263: a near-end defect of R256 in the present path multiframe; reset 0 -/
  rxNear : Bool := false
  /-- R262: LMT_GRP_DEF bits 0 to 7; reset 0 -/
  dfc : BitVec 8 := 0
  /-- R262: PSL; reset 0 -/
  psl : Byte := 0
  /-- R252: consecutive multiframes of PLM entry, PLM exit, PAIS entry, PAIS exit, PRDI entry, PRDI exit; reset 0 -/
  runs : Tbl Nat := []
deriving DecidableEq, Repr

/-- R214: alignment states of a member lane. -/
inductive Align where
  | none
  | hunt
  | candidate
  | inFrame
deriving DecidableEq, Repr

/-- R214 to R219, R249 to R251, R337, R338: a lane (clear 0 to 31, line 32 to 63). -/
structure Lane where
  /-- R359: LOS detector; reset 0 -/
  los : Bool := false
  /-- R359: CDR out of lock; reset 0 -/
  lol : Bool := false
  /-- R250: elapsed ns at which the LOS detector last changed; reset 0 -/
  losAt : Nat := 0
  /-- R250: elapsed ns at which the lock detector last changed; reset 0 -/
  lolAt : Nat := 0
  /-- R357: block lock; reset 0 -/
  block : Bool := false
  /-- R357: FEC alignment is lost while block lock holds; reset 0 -/
  fecLost : Bool := false
  /-- R359: PRBS_LOCK; reset 0 -/
  prbsLock : Bool := false
  /-- R338: errored bits counted since the present lock; reset 0 -/
  prbsRun : Nat := 0
  /-- R359: PRBS_LOST; reset 0 -/
  prbsLost : Bool := false
  /-- R359: LNE_PRBS_ERR, 48 bits saturating; reset 0 -/
  prbsErr : Nat := 0
  /-- R243: ALIGN; reset NONE -/
  align : Align := .none
  /-- R214: candidates held: position, next MFC expected, matches; newest last, at most 4; reset none -/
  cands : List (Nat × Nat × Nat) := []
  /-- R214: confirmed position modulo 2,048; reset 0 -/
  pos : Nat := 0
  /-- R215: next MFC expected; reset 0 -/
  mfc : Nat := 0
  /-- R214: consecutive FAW mismatches; reset 0 -/
  fawMiss : Nat := 0
  /-- R215: consecutive MFC misses; reset 0 -/
  mfcMiss : Nat := 0
  /-- R215: MFC of the last lane frame received; reset none -/
  lastMfc : Option Nat := none
  /-- R215: consecutive rising MFC during LOM; reset 0 -/
  mfcRise : Nat := 0
  /-- R210: a LANE byte has been received since the lane joined its group; reset 0 -/
  known : Bool := false
  /-- R243: MEMBER received, 5 bits; reset 0 -/
  member : Nat := 0
  /-- R243: BINDER received; reset 0 -/
  binder : Bool := false
  /-- R243: SSL received; reset 0 -/
  ssl : Byte := 0
  /-- R251: GID received; reset 0 -/
  gid : Byte := 0
  /-- R256: the last received lane frame waits for its BIP check, and whether one of its words was erased; reset none -/
  lastErased : Option Bool := none
  /-- R255: the second in which its word 0 arrived; reset 0 -/
  blockSec : Nat := 0
  /-- R255: the second in which word 0 of the lane frame that is arriving arrived; reset 0 -/
  partSec : Nat := 0
  /-- R243: ERASED in the row now released; reset 0 -/
  erasedNow : Bool := false
  /-- R261: LMT_LANE_DEF bits 0 to 8; reset 0 -/
  dfc : BitVec 9 := 0
  /-- R250 to R252: run counts of LAIS, SLM and GIDM entry and exit, and of lane frames within SKEW_MAX; reset 0 -/
  runs : Tbl Nat := []
  /-- R214: words received of the lane frame that is arriving; reset none -/
  part : List RxWord := []
  /-- R216: lane frames received and not yet released, by MFC; reset none -/
  store : List (Nat × List RxWord) := []
  /-- R21: a FAULT record of this member awaits its RECOVERY; reset 0 -/
  faulted : Bool := false
  /-- R216: relative delay in ns; reset 0 -/
  delay : Nat := 0
  /-- R216: the sum, in 1/100 ns, and number of the differences of which it is the mean; reset 0 -/
  lags : Nat × Nat := (0, 0)
  /-- R216: arrival of word 0 of the last lane frame, in 1/100 ns of elapsed time plus two lane frames; reset 0 -/
  arrived : Nat := 0
  /-- R219: rows waited for beyond ROW_WAIT: erased up to that MFC and word; reset none -/
  waived : Option (Nat × Nat) := none
  /-- R245: section BIP-8 of the last received lane frame, none when not checkable; reset none -/
  rxBip : Option Byte := none
  /-- R245: section BIP-8 of the last sent lane frame; reset 0 -/
  txBip : Byte := 0
  /-- R248: section BIP errors not yet reported; reset 0 -/
  sreiOwed : Nat := 0
deriving DecidableEq, Repr

/-- R255 to R258: one second of one entity. -/
structure Sec where
  /-- R260: time-base second -/
  sec : Nat := 0
  /-- R257: blocks of the second -/
  blocks : Nat := 0
  /-- R256: errored blocks -/
  errored : Nat := 0
  /-- R256: a defect of R256 -/
  defect : Bool := false
  /-- R257: for a far-end entity, a near-end defect -/
  nearDefect : Bool := false
  /-- R257: a second in which the entity does not count -/
  off : Bool := false
deriving DecidableEq, Repr

/-- R255 to R258: performance state of one entity. -/
structure Entity where
  /-- R255: the second now counted; reset 0 -/
  now : Sec := {}
  /-- R258: ended seconds not yet settled, oldest first; reset none -/
  wait : List Sec := []
  /-- R257: unavailable; reset 0 -/
  unavail : Bool := false
  /-- R263: ES; reset 0 -/
  es : Nat := 0
  /-- R263: SES; reset 0 -/
  ses : Nat := 0
  /-- R263: UAS; reset 0 -/
  uas : Nat := 0
  /-- R263: BIP_NE or BIP_FE; reset 0 -/
  bip : Nat := 0
deriving DecidableEq, Repr

/-- R255 to R264: line maintenance. -/
structure Lmt where
  /-- R255: entities: lane l near end at 4 × l, far end at 4 × l + 1; group g near end at 4 × g + 2 , far end at 4 × g + 3; reset 0 -/
  ents : Tbl Entity := []
  /-- R263: the snapshot words at 8 × (lane l, or 32 + group g) + word; reset 0 -/
  snap : Tbl Nat := []
  /-- R259: SNAP reads 1; reset 0 -/
  busy : Bool := false
  /-- R260: LMT_SNAP_SEC; reset 0 -/
  snapSec : Nat := 0
  /-- R258: last settled second; reset 0 -/
  settled : Nat := 0
  /-- R258: ended seconds not yet settled, oldest first; reset none -/
  ended : List Nat := []
  /-- R255: the time-base second now counted; reset 0 -/
  second : Nat := 0
deriving DecidableEq, Repr

/-- R206 to R264, R330 to R338: woven framers and lanes. -/
structure Wov where
  /-- R206: groups; reset as Group -/
  groups : Tbl Group := []
  /-- R330: lanes 0 to 63; reset as Lane -/
  lanes : Tbl Lane := []
  /-- R255: line maintenance; reset 0 -/
  lmt : Lmt := {}
deriving DecidableEq, Repr

/-- R343: weft link states. -/
inductive WeftSt where
  | none
  | down
  | train
  | lock
  | key
  | up
deriving DecidableEq, Repr

/-- R346: a weft FRAME held by the sender. -/
structure WFrame where
  /-- R346: FN, 32 bits -/
  fn : Word
  /-- R346: DEST -/
  dest : BitVec 16
  /-- R346: SRC -/
  src : BitVec 16
  /-- R351: budget left when it arrived or was released, in 16 ns units -/
  budget : Nat
  /-- R351: elapsed ns from which residence is charged -/
  since : Nat
  /-- R346: vector -/
  vec : Nat
  /-- R346: class -/
  cls : BitVec 3
  /-- R346: key number -/
  kn : BitVec 2
  /-- R346: association -/
  assoc : BitVec 24
  /-- R346: packet number -/
  pn : DWord
  /-- R346: u0, u1, u2 -/
  u : DWord × DWord × DWord
  /-- R346: the carried frame -/
  frame : Bytes
  /-- R352: the weft port a transit frame arrived on -/
  via : Option Nat
  /-- R352: beam store cells held -/
  cells : Nat
  /-- R471: DOMAIN and MASTER of the occurrences of a pick sent by `fwd`; none for a transit frame -/
  about : Option (Nat × BitVec 4)
deriving DecidableEq, Repr

/-- R346: control items waiting to be sent. -/
inductive WCtl where
  | ack (fn : Word)
  | nak (fn : Word)
  | skip (fn : Word)
  | keyswitch
  | time
deriving DecidableEq, Repr

/-- R344: a link key and its salt, 32 and 4 bytes. -/
structure LinkKey where
  key : Bytes
  salt : Bytes
deriving DecidableEq, Repr

/-- R340: a data lane of a weft port. -/
structure WeftLane where
  /-- R340: LOCKED; reset 0 (HUNT) -/
  locked : Bool := false
  /-- R340: bits by which its candidate position has slipped, modulo 66; reset 0 -/
  slip : Nat := 0
  /-- R340: consecutive valid sync headers in HUNT; reset 0 -/
  good : Nat := 0
  /-- R340: sync headers of the running window of 64 in LOCKED; reset 0 -/
  seen : Nat := 0
  /-- R340: and how many of them are invalid; reset 0 -/
  bad : Nat := 0
  /-- R340: its last alignment block names it and lies within 8 blocks; reset 0 -/
  aligned : Bool := false
deriving DecidableEq, Repr

/-- R339 to R354: a weft port. -/
structure Weft where
  /-- R340: blocks of its stream sent, alignment blocks apart; reset 0 -/
  txBlock : Nat := 0
  /-- R340: by lane, the scrambler's last 58 bits; reset free (`Config.scrambler`) -/
  scr : Tbl (BitVec 58) := []
  /-- R363: STATE; reset NONE -/
  st : WeftSt := .none
  /-- R363: PEER, 16 bits; reset 0 -/
  peer : BitVec 16 := 0
  /-- R363: KEYED; reset 0 -/
  keyed : Bool := false
  /-- R363: WFT_LINK_TIME in ns; reset 0 -/
  linkTime : Nat := 0
  /-- R343: elapsed ns at which the state was entered; reset 0 -/
  since : Nat := 0
  /-- R343: TRAIN_DONE sent; reset 0 -/
  doneTx : Bool := false
  /-- R343: TRAIN_DONE received; reset 0 -/
  doneRx : Bool := false
  /-- R364: taps (PRE, MAIN, POST) by data lane; reset (4, 51, 8) -/
  taps : Tbl (Nat × Nat × Nat) := []
  /-- R340: data lanes, by number; reset HUNT -/
  lanes : Tbl WeftLane := []
  /-- R342: outcome of the last request sent, per lane, as received; reset none -/
  tapRsp : Tbl Bytes := []
  /-- R341: the unanswered sideband request and when it was sent; reset none -/
  sbReq : Option (Byte × Bytes × Nat) := none
  /-- R341: the state the peer last reported; reset 0 -/
  peerSt : Byte := 0
  /-- R344: own HELLO payload of the running agreement; reset none -/
  helloTx : Bytes := []
  /-- R344: the peer's accepted HELLO payload; reset none -/
  helloRx : Bytes := []
  /-- R344: number of the own ephemeral key; reset 0 -/
  eph : Nat := 0
  /-- R344: the peer's SHARE payload; reset none -/
  shareRx : Bytes := []
  /-- R344: own SHARE payload; reset none -/
  shareTx : Bytes := []
  /-- R344: derived 72 bytes and confirmation key, waiting for FINISH; reset none -/
  derived : Option (Bytes × Bytes) := none
  /-- R344: agreement refused, at elapsed ns; reset none -/
  refusedAt : Option Nat := none
  /-- R345: elapsed ns of the last key installation; reset 0 -/
  keyedAt : Nat := 0
  /-- R345: a rekey agreement runs; reset 0 -/
  rekeying : Bool := false
  /-- R347: transmit key; reset none -/
  txKey : Option LinkKey := none
  /-- R347: receive key; reset none -/
  rxKey : Option LinkKey := none
  /-- R345: the new transmit and receive keys held until KEYSWITCH; reset none -/
  newTx : Option LinkKey := none
  /-- R345: as newTx; reset none -/
  newRx : Option LinkKey := none
  /-- R347: next SEQ to send, 64 bits; reset 1 -/
  txSeq : Nat := 1
  /-- R348: last accepted SEQ; reset 0 -/
  rxSeq : Nat := 0
  /-- R346: next FN to send; reset 0 -/
  txFn : Word := 0
  /-- R348: expected FN; reset 0 -/
  rxFn : Word := 0
  /-- R350: control items, oldest first; reset none -/
  ctl : List WCtl := []
  /-- R350: FRAMEs waiting, in arrival order; reset none -/
  wait : List WFrame := []
  /-- R349: FRAMEs sent and not acknowledged, oldest first; reset none -/
  unacked : List WFrame := []
  /-- R349: FRAMEs to be resent; reset none -/
  resend : List WFrame := []
  /-- R349: expiry of the acknowledgement timer, elapsed ns; reset none -/
  ackAt : Option Nat := none
  /-- R349: consecutive expiries without progress; reset 0 -/
  expiries : Nat := 0
  /-- R348: frames accepted since the last ACK sent; reset 0 -/
  sinceAck : Nat := 0
  /-- R348: elapsed ns of the last ACK sent; reset 0 -/
  lastAck : Nat := 0
  /-- R351: elapsed ns of the last TIME sent; reset 0 -/
  lastTime : Nat := 0
  /-- R351: the time stamps t1 and t2 received in the peer's last TIME and its arrival; reset 0 -/
  stamps : Nat × Nat := (0, 0)
deriving DecidableEq, Repr

/-- R306: states of a memory key index. -/
inductive MkiSt where
  | unkeyed
  | active
  | retiring
deriving DecidableEq, Repr

/-- R306, R307: a memory key index. -/
structure Mki where
  /-- R328: STATE; reset UNKEYED -/
  st : MkiSt := .unkeyed
  /-- R302: which draw its keys are; reset 0 -/
  draw : Nat := 0
deriving DecidableEq, Repr

/-- R329: stack states. -/
inductive StackSt where
  | ok
  | failed
  | rebuilding
deriving DecidableEq, Repr

/-- R301: a stored line: ciphertext, counter, MAC. -/
structure Line where
  /-- R302: the stored 64 bytes; before any write, zeros -/
  data : Bytes := List.replicate 64 0
  /-- R303: line counter, 64 bits -/
  ctr : DWord := 0
  /-- R302: line MAC, 64 bits -/
  mac : DWord := 0
  /-- R306: the key index it was written under -/
  mki : Nat := 0
deriving DecidableEq, Repr

/-- R303, R305, R311, R319: a fresh writing of a range of lines and of the nodes that lie whole in it: initialisation, a
re-rooting or a copy. A line or node that nothing has written since has the counter it gave. -/
structure FreshPass where
  /-- R300: the buffer region -/
  buffer : Bool
  /-- R318: copy B of the table region -/
  copyB : Bool
  /-- first data line -/
  first : Nat
  /-- number of data lines -/
  count : Nat
  /-- its number -/
  no : Nat
  /-- R303: by channel: the write clock before it, and the writes it made -/
  spans : Tbl (Nat × Nat)
deriving DecidableEq, Repr

/-- R316: a DRAM fetch that has expired once and been retried. -/
structure Retried where
  /-- R299: channel -/
  ch : Nat
  /-- R300: region buffer -/
  buffer : Bool
  /-- R300: line -/
  line : Nat
  /-- elapsed ns of its first expiry -/
  at_ : Nat
deriving DecidableEq, Repr

/-- R299 to R329: the memory security controller. -/
structure Msc where
  /-- R305: GO has been accepted in this start; reset 0 -/
  go : Bool := false
  /-- R322: BUSY; reset 0 -/
  busy : Bool := false
  /-- R305: initialisation has begun; reset 0 -/
  started : Bool := false
  /-- R322: DONE; reset 0 -/
  done : Bool := false
  /-- R323: TABLE_KEY and which draw it is; reset none -/
  tableKey : Option Nat := none
  /-- R306: memory key indexes; reset UNKEYED -/
  mkis : Tbl Mki := []
  /-- R303: write clocks by channel, next value less 1; reset 0 (clock 1) -/
  clocks : Tbl Nat := []
  /-- R301: lines written, table line n at 2 × n, buffer line n at 2 × n + 1, copy B's
  table line n (R318) at 2 × (n + 2^40); reset none -/
  lines : Tbl Line := []
  /-- R301: tree node counters at ((level × 2 + region) × 2^40 + index), of copy B 2^60
  higher; reset 0 -/
  nodes : Tbl Nat := []
  /-- R305, R311: fresh writings in force, newest first; reset none -/
  passes : List FreshPass := []
  /-- R303: number of the next fresh writing; reset 0 -/
  passNo : Nat := 0
  /-- R310: suspect list: region buffer, level, index; reset empty -/
  suspects : List (Bool × Nat × Nat) := []
  /-- R311: ranges being re-rooted: region buffer, first data line, count; reset none -/
  rerooting : List (Bool × Nat × Nat) := []
  /-- R316: fetches retried after their first expiry; reset none -/
  retried : List Retried := []
  /-- R34, R316: per channel: fetches expired whose answers may still come; reset 0 -/
  expired : Tbl Nat := []
  /-- R316: per channel: region buffer and line of the last timeout failure in a row; reset none -/
  lastFail : Tbl (Option (Bool × Nat)) := []
  /-- R317: the scrub period (PERIOD and its number since reset) that `scrubbed` is about; reset none -/
  scrubEra : Nat × Nat := (0, 0)
  /-- R317: lines that the period's scrub has read: copy B, region buffer, line; reset none -/
  scrubbed : List (Bool × Bool × Nat) := []
  /-- R329: stacks; reset OK -/
  stks : Tbl StackSt := []
  /-- R329: CH_FAILED masks; reset 0 -/
  chFailed : Tbl Nat := []
  /-- R321: STATE, 0 OFF, 1 ACTIVE, 2 SINGLE, 3 REBUILDING; reset 0 -/
  mirror : BitVec 2 := 0
  /-- R319, R320: copy B serves the requests of the table region; reset 0 -/
  serveB : Bool := false
  /-- R325: RESULT; reset 0 -/
  result : BitVec 2 := 0
  /-- R315: the range whose re-rooting RESULT is about; reset none -/
  reinit : Option (Bool × Nat × Nat) := none
deriving DecidableEq, Repr

/-- R371 to R381: a slot that the T32 has fetched and not completed. -/
structure Fetched where
  /-- R371: index, 32 bits -/
  idx : Word
  /-- R375: descriptor bytes 0 to 63 as fetched -/
  desc : Bytes
  /-- R379: the buffer's bytes as read -/
  buf : Bytes
  /-- R381: elapsed ns at which it was handed to its unit -/
  at_ : Nat
  /-- R381: withdrawn at a watchdog expiry, its unit's answer still to come -/
  withdrawn : Bool := false
  /-- R372: handed to its unit before its ring was disabled and enabled anew -/
  old : Bool := false
  /-- R387: the lookaside job submitted for it -/
  job : Option Nat := none
  /-- R383, R387: a PUNT_BUF slot accepted as a receive buffer, or a lookaside job submitted -/
  posted : Bool := false
  /-- R387: the status code and output of a lookaside job that has ended before its turn to complete (R373) -/
  result : Option (Nat × Bytes) := none
deriving DecidableEq, Repr

/-- R370 to R374, R392 to R395: a ring. -/
structure Ring where
  /-- R392: BASE, 64 bits; reset 0 -/
  base : DWord := 0
  /-- R393: SIZE; reset 4 -/
  size : Nat := 4
  /-- R393: EN; reset 0 -/
  en : Bool := false
  /-- R393: IRQ_EN; reset 0 -/
  irqEn : Bool := false
  /-- R393: VEC; reset 0 -/
  vec : Nat := 0
  /-- R392: MAXLEN; reset 1,048,576 -/
  maxlen : Nat := 1048576
  /-- R392: TAIL, 32 bits; reset 0 -/
  tail : Word := 0
  /-- R392: HEAD, 32 bits; reset 0 -/
  head : Word := 0
  /-- R394: STOPPED; reset 0 -/
  stopped : Bool := false
  /-- R394: ERR, 3 bits; reset 0 -/
  err : BitVec 3 := 0
  /-- R395: COUNT; reset 1 -/
  imodCount : Nat := 1
  /-- R395: TIME in µs; reset 0 -/
  imodTime : Nat := 0
  /-- R395: LOST, 32 bits saturating; reset 0 -/
  lost : Word := 0
  /-- R384: the next record carries OVERFLOW; reset 0 -/
  overflow : Bool := false
  /-- R373: slots fetched and not completed, oldest first; reset none -/
  fetched : List Fetched := []
  /-- R375: index of the next slot to fetch; reset 0 -/
  fetchIdx : Word := 0
  /-- R374: completions since the last signal; reset 0 -/
  unsignalled : Nat := 0
  /-- R374: elapsed ns of the first completion not signalled; reset 0 -/
  firstAt : Nat := 0
  /-- R378: a completion to be written again on RESUME; reset none -/
  rewrite : Option (List (BitVec 8)) := none
  /-- R372, R378: the index of that completion where it moves no HEAD, its slot handed over before EN went to 1; reset none -/
  rewriteAt : Option Word := none
deriving DecidableEq, Repr

/-- R400 to R403: a key page. -/
structure KeyPage where
  /-- R403: STATE, 0 EMPTY, 1 FULL, 2 ERROR; reset 0 -/
  st : BitVec 2 := 0
  /-- R402: the bytes written to KP_DATA, by byte number; reset 0 -/
  data : Memory := []
  /-- R403: LEN of the key held; reset 0 -/
  len : Nat := 0
  /-- R400: the key held; reset none -/
  key : Bytes := []
  /-- R403: BUSY: the wrapped bytes and their slot; reset none -/
  unwrap : Option (Bytes × Nat) := none
  /-- R405: the turn of a WRAPPED commit among those that wait for the key store; reset 0 -/
  turn : Nat := 0
deriving DecidableEq, Repr

/-- R366 to R395, R400: the host interface. -/
structure Hif where
  /-- R388: HIF_MODE.MODE, 3 bits; reset 0 (START) -/
  mode : BitVec 3 := 0
  /-- R388: CAUSE, 4 bits; reset 0 -/
  cause : BitVec 4 := 0
  /-- R389: HIF_FN_ERR of each function; reset 0 -/
  fnErr : Tbl Word := []
  /-- R370: rings at 8 × function + ring; reset as Ring -/
  rings : Tbl Ring := []
  /-- R400: key pages; reset EMPTY -/
  pages : Tbl KeyPage := []
  /-- R367: NumVFs with VF Enable set, 0 to 63; DESIGN CHOICE 63 (log entry 6) -/
  numVfs : Nat := 63
  /-- R374: vectors that host software has unmasked, at 32 × function + vector; PRESUMED none (MSI-X, log entry 6) -/
  unmasked : List Nat := []
  /-- R374: pending bits of masked vectors; reset none -/
  pending : List Nat := []
  /-- R4: held first words by address (BAR2 of function f at 0x200_0000 + 0x4000 × f); reset none -/
  held : Tbl Word := []
  /-- R4: latched words by address; reset none -/
  latch : Tbl Word := []
  /-- R4: the word the last read returned; reset 0 -/
  readData : Word := 0
deriving DecidableEq, Repr

/-- R404: a key store slot. -/
structure Bks where
  /-- R404: PURPOSE, 0 NONE; reset 0 -/
  purpose : Nat := 0
  /-- R404: OWNER; reset 0 -/
  owner : Nat := 0
  /-- R404: USES_LEFT when USE_LIMIT is 1; reset none -/
  uses : Option Nat := none
  /-- R404: STARTS_LEFT when START_LIMIT is 1; reset none -/
  starts : Option Nat := none
  /-- R404: the key, 32 bytes; reset none -/
  key : Bytes := []
  /-- R404: the slot's 64 bytes as the store holds them, sealed: ciphertext and tag; reset none -/
  cells : Bytes × Bytes := ([], [])
deriving DecidableEq, Repr

/-- R415: an outstanding challenge. -/
structure Challenge where
  /-- R413: SCOPE requested -/
  scope : Nat
  /-- R413: the nonce -/
  nonce : Bytes
  /-- R413: tokens left -/
  tokens : Nat
  /-- R415: elapsed ns of its issue -/
  at_ : Nat
deriving DecidableEq, Repr

/-- R396 to R418: the key custodian and the lifecycle. -/
structure Kcu where
  /-- R417: STATE, 3 bits; reset 0 (NONE) -/
  st : BitVec 3 := 0
  /-- R411, R432, R491: a start whose latch file has not been committed yet: its kind and its findings; reset POWER_ON,
  nothing amiss (log entry 134) -/
  starting : Option (Nat × StartObs) := none
  /-- R417: DRBG, 2 bits; reset 0 (NONE) -/
  drbg : BitVec 2 := 0
  /-- R399: requests since the last reseed; reset 0 -/
  requests : Nat := 0
  /-- R399: elapsed ns plus 1 of the last start-up test, reseed attempt or health failure, 0 for none; reset 0 -/
  testedAt : Nat := 0
  /-- R399: DRBG requests drawn so far (model); DESIGN CHOICE 0 (log entry 2) -/
  draws : Nat := 0
  /-- R417: BKS_LOST; reset 0 -/
  bksLost : Bool := false
  /-- R505: VBAT has fallen below retention while main power was off; reset 0 -/
  bksGone : Bool := false
  /-- R404: the key store; DESIGN CHOICE EMPTY (log entry 5) -/
  bks : Tbl Bks := []
  /-- R396: the root secret exists; reset 0 -/
  root : Bool := false
  /-- R398: the accepted cascade certificate, 208 bytes; reset none -/
  cascade : Option Bytes := none
  /-- R415: the outstanding challenge; reset none -/
  challenge : Option Challenge := none
  /-- R415: failures in this start; reset 0 -/
  fails : Nat := 0
  /-- R409: OTP items by code, each with its CRC-32, blank when unlisted; DESIGN CHOICE blank (log entry 5) -/
  otp : Tbl Bytes := []
  /-- R409: items whose CRC failed at start; DESIGN CHOICE none (log entry 5) -/
  damaged : List Nat := []
  /-- R410: stage words 0 to 3; DESIGN CHOICE 0, RAW (log entry 5) -/
  stage : Tbl Word := []
  /-- R418: LC_STATE.STATE, 3 bits; decoded: RAW (log entry 5) -/
  lc : BitVec 3 := 1
  /-- R418: INTERRUPTED; decoded 0 -/
  interrupted : Bool := false
  /-- R418: TARGET, 3 bits; reset 0 -/
  target : BitVec 3 := 0
  /-- R418: DAMAGED; decoded 0 -/
  lcDamaged : Bool := false
  /-- R418: TEST; reset 0 -/
  test : Bool := false
  /-- R418: SCOPE, 2 bits; reset 0 -/
  scope : BitVec 2 := 0
deriving DecidableEq, Repr

/-- R420, R421: the detectors of one source. -/
structure TSrc where
  /-- R420: elapsed ns of the last sample; reset none -/
  at_ : Option Nat := none
  /-- R420: A's level through the 1 µs filter, and since when the input differs (EXT_ZEROIZE); reset clear -/
  filtA : Bool × Option Nat := (false, none)
  /-- R420: B's level through the 1 µs filter; reset clear -/
  filtB : Bool × Option Nat := (false, none)
  /-- R420: consecutive samples of A in alarm; reset 0 -/
  runA : Nat := 0
  /-- R420: consecutive samples of B in alarm; reset 0 -/
  runB : Nat := 0
  /-- R420: consecutive clear samples of A; reset 0 -/
  clrA : Nat := 0
  /-- R420: consecutive clear samples of B; reset 0 -/
  clrB : Nat := 0
  /-- R437: ACTIVE_A; reset 0 -/
  actA : Bool := false
  /-- R437: ACTIVE_B; reset 0 -/
  actB : Bool := false
  /-- R437: ALARM; reset 0 -/
  alarm : Bool := false
  /-- R437: LATCHED; reset 0 -/
  latched : Bool := false
  /-- R437: DISAGREE, 16 bits saturating; reset 0 -/
  disagree : Nat := 0
deriving DecidableEq, Repr

/-- R431: a record of the latch file. -/
structure LatchRec where
  /-- R431: source -/
  src : Nat
  /-- R431: detector A active -/
  a : Bool
  /-- R431: detector B active -/
  b : Bool
  /-- R431: RESP -/
  resp : BitVec 3
  /-- R425: response carried out -/
  done : BitVec 3
  /-- R431: 8 Hz ticks since main power was lost -/
  ticks : Nat
  /-- R431, R425: latched on the backup cell, rather than in a start before the black box was ready -/
  battery : Bool
deriving DecidableEq, Repr

/-- R419 to R440: the tamper monitor. -/
structure Tmu where
  /-- R437: sources on main power; reset 0 -/
  srcs : Tbl TSrc := []
  /-- R430: sources on the backup cell; reset 0 -/
  batt : Tbl TSrc := []
  /-- R423: sources that fired in this microsecond; reset none -/
  fired : List Nat := []
  /-- R422: the fuse bank's cells; DESIGN CHOICE 0 (log entry 5) -/
  bank : Word := 0
  /-- R422, R440: the fuses in force in this start; DESIGN CHOICE 0 (log entry 5) -/
  fuses : Word := 0
  /-- R422: the bits programmed in this start and the elapsed ns each programming began; reset none -/
  burning : List (Nat × Nat) := []
  /-- R423: elapsed ns of the last decision; reset none -/
  decidedAt : Option Nat := none
  /-- R424: an ERASE in TEST has closed the test access port until power-on reset; reset 0 -/
  tapClosed : Bool := false
  /-- R435: RUNNING, 3 bits; reset 7 (NONE) -/
  running : BitVec 3 := 7
  /-- R435: LAST, 3 bits; reset 7 (NONE) -/
  last : BitVec 3 := 7
  /-- R435: ALARM_N driven low; reset 0 -/
  alarmN : Bool := false
  /-- R435: BATT_ERASE; reset 0 -/
  battErase : Bool := false
  /-- R435: LATCH_OVF; reset 0 -/
  latchOvf : Nat := 0
  /-- R432: the latch file, at most 16 records; reset empty -/
  latch : List LatchRec := []
  /-- R432: overflow count of the latch file; reset 0 -/
  ovf : Nat := 0
  /-- R430: the battery domain's copy of RESP; reset the defaults of R419 (unlisted) -/
  resp : Tbl (BitVec 3) := []
  /-- R430: 8 Hz ticks since main power was lost; reset 0 -/
  ticks : Nat := 0
  /-- R431: ALARM_N held low on the backup cell; reset 0 -/
  battAlarm : Bool := false
  /-- R433: elapsed ns plus 1 of each mesh's last measurement; reset 0 -/
  measured : Tbl Nat := []
  /-- R438: OHMS of each mesh; reset 0 -/
  ohms : Tbl Nat := []
  /-- R433: the loop is in its drift band, by mesh; reset 0 -/
  drifting : List Nat := []
  /-- R438: DRIFT, by mesh; reset 0 -/
  drift : List Nat := []
  /-- R439: VBAT in mV; reset 0 -/
  vbat : Nat := 0
  /-- R439, R513: junction temperature by detector A, in 1/8 °C; reset 0 -/
  temp : Int := 0
  /-- R432: main-power sampling runs; reset 0 -/
  sampling : Bool := false
  /-- R407: an erase is running, with its lock; reset none -/
  erasing : Option Bool := none
  /-- R426: a QUIESCE or higher response has stopped traffic until the return to SERVICE; reset 0 -/
  quiesced : Bool := false
  /-- R425: a QUIESCE response runs, until the return to SERVICE, whatever runs over it; reset 0 -/
  quiesceRuns : Bool := false
deriving DecidableEq, Repr

/-- R444: a record requested of the black box. -/
structure BbxReq where
  /-- R443: TYPE -/
  type : Nat
  /-- R385: UNIT -/
  unit : Nat
  /-- R442: FLAGS BATTERY -/
  battery : Bool := false
  /-- R442, R446: requested by the commit that precedes the lifecycle decode: LC 0 -/
  early : Bool := false
  /-- R442: TICKS -/
  ticks : Nat := 0
  /-- R444: elapsed ns of the request; none for one from before the last reset -/
  cycle : Option Nat := none
  /-- R443: P0 -/
  p0 : DWord := 0
  /-- R443: P1 -/
  p1 : DWord := 0
  /-- R443: P2 -/
  p2 : DWord := 0
deriving DecidableEq, Repr

/-- R441 to R451: the black box. -/
structure Bbx where
  /-- R441: the MRAM, 64 bytes by slot 0 to 8,191; DESIGN CHOICE blank (log entry 5) -/
  mram : Tbl Bytes := []
  /-- R450: SEQ of the next record; from MRAM, DESIGN CHOICE 0 (log entry 5) -/
  seq : Nat := 0
  /-- R450: HEAD, next ring slot; from MRAM, DESIGN CHOICE 1,024 (log entry 5) -/
  head : Nat := 1024
  /-- R450: PINNED; from MRAM, DESIGN CHOICE 0 (log entry 5) -/
  pinned : Nat := 0
  /-- R450: PIN_FULL; from MRAM, DESIGN CHOICE 0 (log entry 5) -/
  pinFull : Bool := false
  /-- R441: next slot of the lock reserve; from MRAM, DESIGN CHOICE 0 (log entry 5) -/
  lockNext : Nat := 0
  /-- R450: LOCK; from MRAM, DESIGN CHOICE 0 (log entry 5) -/
  lock : Bool := false
  /-- R445: CHAIN of the newest record; none before the first -/
  chain : Option Bytes := none
  /-- R451: BBX_BASE SEQ and CHAIN; none before any overwrite -/
  base : Option (Nat × Bytes) := none
  /-- R444: requests waiting, at most 256; reset none -/
  queue : List BbxReq := []
  /-- R450: LOST; reset 0 -/
  lost : Nat := 0
  /-- R444: space has returned after a loss: the next record written is the LATCH_OVF; reset 0 -/
  ovfDue : Bool := false
  /-- R444: slots that a power failure has left torn; DESIGN CHOICE none (log entry 5) -/
  torn : List Nat := []
  /-- R450: READY; reset 0 -/
  ready : Bool := false
  /-- R442: starts counted from manufacture; DESIGN CHOICE 0 (log entry 5) -/
  starts : Nat := 0
  /-- R513: TYPE and UNIT of the newest record; reset 0 -/
  newest : Nat × Nat := (0, 0)
  /-- R513: TAMPER records written in this start; reset 0 -/
  tampers : Nat := 0
deriving DecidableEq, Repr

/-- R453: power states. -/
inductive PSt where
  | p0
  | p1
  | p2
  | p3
  | entering (deep : Bool)
  | waking
deriving DecidableEq, Repr

/-- R467: readiness. -/
inductive Ready where
  | stale
  | fresh
  | quarantined
deriving DecidableEq, Repr

/-- R458, R459: why a wake waits. -/
inductive WakeWhy where
  | first        -- first power-up at a start
  | sleep        -- from a state the PMC chose
  | back         -- PMC_RETURN
deriving DecidableEq, Repr

/-- R452 to R463: a power domain. -/
structure Dom where
  /-- R467: STATE; reset P3 (P2 for a DRAM channel, see State.reset) -/
  st : PSt := .p3
  /-- R467: READY; reset STALE -/
  ready : Ready := .stale
  /-- R467: QUEUED, with its cause and the elapsed ns of the request; reset none -/
  wake : Option (WakeWhy × Nat) := none
  /-- R467: DEEPEST, a state code; reset 1 -/
  deepest : BitVec 3 := 1
  /-- R456: it met its idle condition from this elapsed ns; reset none -/
  idleSince : Option Nat := none
  /-- R463: the wake is a return: built-in self-test first; reset 0 -/
  bist : Bool := false
  /-- R461: it has powered up once in this start; reset 0 -/
  upOnce : Bool := false
  /-- R461, R463: powered up since its wake was admitted; reset 0 -/
  up : Bool := false
  /-- R21, R443: kind of the FAULT record whose RECOVERY record is due when it is FRESH again, 0 for none; reset 0 -/
  owed : Nat := 0
deriving DecidableEq, Repr

/-- R452 to R470, R496: the power management controller. -/
structure Pmc where
  /-- R452: domains 0 to 95; reset powered down -/
  doms : Tbl Dom := []
  /-- R458: bucket level in 1/256 unit; reset full (8 units, PMC_WAKE.BURST) -/
  level : Nat := 2048
  /-- R458: elapsed ns of the last refill; reset 0 -/
  refilled : Nat := 0
  /-- R458: waiting wakes, in request order; reset none -/
  wakes : List Nat := []
  /-- R456: elapsed ns of the last decision; reset 0 -/
  decided : Nat := 0
  /-- R457: the standby pair; reset none -/
  standby : Option Nat := none
  /-- R455, R456: by domain, the tolerance in ns that the last decision read and the group that sets it, none without a limit;
  reset none -/
  tols : Tbl (Option (Nat × Nat)) := []
  /-- R457: picks below half the threshold since, elapsed ns; reset none -/
  cluLow : Option Nat := none
  /-- R457: jobs below half the threshold since, elapsed ns; reset none -/
  cieLow : Option Nat := none
  /-- R497: ASSERTED; reset 0 -/
  pfw : Bool := false
  /-- R497: SEEN; reset 0 -/
  pfwSeen : Bool := false
  /-- R497: COUNT, saturating at 255; reset 0 -/
  pfwCount : Nat := 0
deriving DecidableEq, Repr

/-- R481: configuration of one counter. -/
structure EvcCfg where
  /-- R481: INDEX_LO, 24 bits; reset 0 -/
  lo : Nat := 0
  /-- R481: INDEX_HI, 24 bits; reset 0xFF_FFFF -/
  hi : Nat := 16777215
  /-- R481: CLASS, 8 bits; reset 0xFF -/
  cls : BitVec 8 := 255
  /-- R481: SRC, 8 bits; reset as R479 -/
  src : Nat := 0
  /-- R481: CHAIN; reset 0 -/
  chain : Bool := false
  /-- R481: SAT; reset 0 -/
  sat : Bool := false
  /-- R481: IRQ; reset 0 -/
  irq : Bool := false
  /-- R481: PRIV, 2 bits; reset ANY -/
  priv : BitVec 2 := 0
  /-- R481: DOM, 6 bits; reset 0 -/
  dom : Nat := 0
  /-- R481: MASTER, 6 bits; reset 0x3F -/
  master : BitVec 6 := 63
deriving DecidableEq, Repr

/-- R471 to R482: the event counters. -/
structure Evc where
  /-- R481: counter values, 48 bits; reset 0 -/
  cnt : Tbl Nat := []
  /-- R481: configurations, unlisted as R479 gives; reset R479 -/
  cfg : Tbl EvcCfg := []
  /-- R482: EVC_OVF flags set, by counter; reset none -/
  ovf : List Nat := []
  /-- R477: the latched value of a chained counter, by counter; reset none -/
  chainLatch : List (Nat × Nat) := []
deriving DecidableEq, Repr

/-- R26, R508, R521: the time base and its pins. -/
structure Tb where
  /-- R271: nanoseconds elapsed since the start; reset 0 -/
  elapsed : Nat := 0
  /-- R521: time of day in nanoseconds (seconds × 10^9 + NS); reset 0 -/
  tod : Nat := 0
  /-- R521: PPS_SEEN; reset 0 -/
  ppsSeen : Bool := false
  /-- R508: time of day captured at the last PPS_IN edge, filter delay subtracted; reset 0 -/
  ppsAt : Int := 0
  /-- R508: PPS_OUT is high until this elapsed ns; reset 0 -/
  ppsOut : Nat := 0
  /-- R508: the second last pulsed plus 1; reset 0 -/
  ppsSec : Nat := 0
deriving DecidableEq, Repr

/-- R490, R504, R513: pins and supplies. -/
structure Pins where
  /-- R504: PWRGOOD is high; reset 1 -/
  pwrgood : Bool := true
  /-- R488: code of the reset that began this start; DESIGN CHOICE 1 POWER_ON (log entry 6) -/
  resetKind : Nat := 1
  /-- R513: the device is in reset; reset 0 -/
  inReset : Bool := false
  /-- R506, R513: SMB_ADDR1 and SMB_ADDR0 as sampled at the last power-good; DESIGN CHOICE 0, their pulls (log entry 139) -/
  smbAddr : BitVec 2 := 0
deriving DecidableEq, Repr

/-- What has left the device (model): the outputs the spec describes, newest last. -/
inductive Out where
  | frame (port : Nat) (bytes : Bytes) (fcs : Bytes)                 -- R10, R15, R335, R484
  | hostSlot (f r : Nat) (idx : Word) (bytes : Bytes)                -- R371, R383, R384
  | dma (addr : DWord) (bytes : Bytes)                               -- R379, R387
  | irq (f vec : Nat)                                                -- R374
  | laneFrame (lane : Nat) (sync : BitVec 2) (w0 w1 : BitVec 64) (payload : Bytes)  -- R207, R208: each word with this sync header
  | lanePrbs (lane pattern : Nat) (gray : Bool)                      -- R338: PRBS_PAT from now on, 0 none; Gray coded
  | weft (n : Nat) (item : Bytes) (blocks : List (Nat × BitVec 2 × Bytes)) -- R346, R340: lane, sync header, scrambled bytes
  | weftPrbs (n : Nat)                                               -- R342: PRBS31 on every data lane from now on, in TRAIN
  | sideband (n : Nat) (msg : Bytes)                                 -- R341
  | smb (addr : Nat) (bytes : Bytes) (pec : Byte)                    -- R513
  | smbNack                                                          -- R513
  | ppsOut                                                           -- R508
deriving DecidableEq, Repr

/-- The whole block. -/
structure State where
  /-- model: commands waiting, first in first out; reset empty -/
  pending : List Instr := []
  /-- R1, R516: CAP_ID.VARIANT; DESIGN CHOICE TV32-F (log entry 3) -/
  variant : Variant := .tv32f
  /-- R516: CAP_ID.STEPPING, 8 bits; DESIGN CHOICE B0 (log entry 3) -/
  stepping : Byte := 0x10
  /-- R5, R514: registers of BAR0 by offset, unlisted at the reset value of Machine/RegMap.lean; reset none listed -/
  regs : Tbl Word := []
  /-- R43: shuttles and cards -/
  shu : Shu := {}
  /-- R123: picks and reeds -/
  beam : Beam := {}
  /-- R129: association and flow tables -/
  tab : Tables := {}
  /-- R159: cipher engines -/
  cie : Cie := {}
  /-- R265: scheduler -/
  sch : Sch := {}
  /-- R206: woven framers and lanes -/
  wov : Wov := {}
  /-- R339: weft ports 0 to 3 -/
  weft : Tbl Weft := []
  /-- R299: in-package memory -/
  msc : Msc := {}
  /-- R366: host interface -/
  hif : Hif := {}
  /-- R396: key custodian and lifecycle -/
  kcu : Kcu := {}
  /-- R419: tamper monitor -/
  tmu : Tmu := {}
  /-- R441: black box -/
  bbx : Bbx := {}
  /-- R452: power -/
  pmc : Pmc := {}
  /-- R471: event counters -/
  evc : Evc := {}
  /-- R521: time base -/
  tb : Tb := {}
  /-- R504: pins -/
  pins : Pins := {}
  /-- model: what has left the device, oldest first; reset none -/
  out : List Out := []
  /-- model: free values drawn so far; DESIGN CHOICE 0 (log entry 2) -/
  free : Nat := 0
deriving DecidableEq, Repr

/-- What the start that `State.reset` has begun will find: nothing amiss (log entry 134). -/
def firstFindings : StartObs :=
  { railsGood := true, decodesAgree := true, pufA := [], pufB := [], sealFails := [], otpReads := [], fuseSecond := 0
    smbAddr := 0 }

/-- The machine right after reset (a POWER_ON start that has just begun, R488, R489, R491): every field at the value its
docstring states. The DRAM channels, domains 64 to 79, start in P2 (R467). -/
def State.reset : State :=
  { pmc := { doms := (List.range 16).map (fun i => (64 + i, { st := .p2 })) }
    kcu := { starting := some (1, firstFindings) } }

/-- No command of the block ends in a fault: the spec describes every error as a next state (R2, R67, R376). The one
constructor is kept for a state that no well-formed machine holds. -/
inductive Fault where
  /-- raised by nothing; a stop here would be safe -/
  | none
deriving DecidableEq, Repr

/-- Why a command is refused. -/
inductive Refusal where
  /-- raised by a Dispatch arm of a command that has no meaning yet: safe -/
  | notModelled (mnemonic : String)
deriving DecidableEq, Repr

end Sys2Proof.Machine
end

