-- ==== Sys2Proof/Machine/RegMap.lean ====
section
/-! DEFINITION. The register map (R514 and each block's register rules): where every register lies, which of its bits
software writes, how, and what the variant and the reset give. `State.regs` holds the bits a row marks `rw`, `w1c` and
`sealBit`; the bits marked `ro`, `wo` and `w1s` are assembled or acted on elsewhere. -/

namespace Sys2Proof.Machine

/-- The registers of BAR0, one name for each register of the blocks' rules (words of one register that differ in
layout have a name each). -/
inductive RegId where
  -- CAP (R516 to R518)
  | capId | capSerial | capFeat | capCounts | capLanes | capAtCap | capFtCap | capPolicers | capDeskew | capDram
  | capPdom
  -- HIF (R368, R388 to R391)
  | hifMode | hifErr | hifErrAddr | hifCmdWdog | hifFnCfg | ringCopy
  -- PMC (R466 to R470, R497)
  | pmcLtol | pmcDomGrp | pmcDomStat | pmcWake | pmcWakeStat | pmcReturn | pmcScrReload | pmcLoad | pmcSsc | pmcIoCfg
  | pmcStat | pmcPfw
  -- KCU, LC (R417, R418)
  | kcuStat | lcState | lcPolicy | lcTokens | lcStage
  -- TMU (R434 to R440)
  | tmuPolicySeal | tmuStat | tmuSrcCfg | tmuSrcStat | tmuMeshCfg | tmuMeshMeas | tmuEnvCfg | tmuEnvMeas | tmuFuse
  | tmuFuseStat
  -- BBX (R449 to R451)
  | bbxStat | bbxSeq | bbxHead | bbxLost | bbxBase | bbxWindow
  -- EVC (R481, R482), CVU (R487), TB (R521)
  | evcCnt | evcCfg0 | evcCfg1 | evcCfg2 | evcCfg3 | evcOvf | evcWin | evcStat
  | cvuPoly | cvuInit | cvuXor | cvuCtl
  | tbNow | tbSet0 | tbSet1 | tbSet2 | tbStat
  -- LNE (R355 to R359), WFT (R360 to R365)
  | lneStat | lnePortCfg | lnePortStat | lneLaneCfg | lneLaneStat | lnePrbsErr
  | wftDevId | wftStat | wftPortCfg | wftPortTimers | wftPortBudget | wftPortStat | wftLinkTime | wftTaps | wftRoute
  -- WOV (R234 to R244), LMT (R259 to R263)
  | wovGrpCfg | wovGrpLanes | wovTxMap | wovTxStat | wovCkTx | wovCkSlot | wovRxCfg | wovRxStat | wovRxSkew | wovRxMap
  | wovLaneStat | wovLaneTx | wovStat
  | lmtCtl | lmtSnapSec | lmtLaneDef | lmtLaneHist | lmtLaneEven | lmtGrpDef | lmtGrpHist | lmtGrpEven | lmtSec | lmtPath
  -- TAG (R201, R203), SCH (R284 to R298)
  | tagPortCfg | tagStat
  | schStat | schAdmSlots | schAdmCells | schAdmSpill | schPRate | schPBurst | schPCredit | schShedCtl | schShedCnt
  | schShedBaseA | schShedBaseB | schQRate | schQBurst | schQQuantum | schQMap | schQDepth | schQCredit | schShedEnt
  | schHistCfg | schHistCtl | schHistBin | schPolCir | schPolCbs | schPolPir | schPolPbs
  -- MSC (R321 to R329)
  | mscMirror | mscInit | mscStat | mscTimeout | mscPoisonCfg | mscScrub | mscReinit0 | mscReinit1 | mscSuspectCnt
  | mscSuspect | mscMkiCtl | mscMkiStat | mscMkiExt | mscStackStat
  -- SHU (R70 to R72, R115 to R119)
  | shuCardCtl | shuCardStat | shuStageCtl | shuStageStat | shuStageGen | shuBudget | shuTrapLast | shuScratch
  -- CIE, LKS (R183 to R190)
  | ciePolicy | cieKat | cieRetire | cieBurst | cieStat | cieProfile | cieEngStat | lksCap
  -- AT, FT (R135, R136, R141, R143, R152, R153)
  | atDrain | atStat | atDomBase | atDomCount | atPnWarn | ftDomQuota | mtEntry
deriving DecidableEq, Repr

/-- R7: a register, its place (`base + s1 × i + s2 × j`) and the access code of each of its bits. -/
structure RegRow where
  id : RegId
  /-- offset in BAR0 -/
  base : Nat
  /-- instances i and their stride -/
  n1 : Nat := 1
  s1 : Nat := 4
  /-- instances or words j within i and their stride -/
  n2 : Nat := 1
  s2 : Nat := 4
  /-- R7: bits software writes and reads back (RW; SEAL before its seal; STK configuration) -/
  rw : Word := 0
  /-- R7: W1C bits held in `State.regs` -/
  w1c : Word := 0
  /-- R7: W1C bits held in a typed field -/
  w1cTyped : Word := 0
  /-- R7: W1S bits and WO fields, which act and read 0 -/
  act : Word := 0
  /-- R7: the seal bit, W1S, kept -/
  sealBit : Word := 0
  /-- R7: RO bits and RC fields, assembled on a read -/
  ro : Word := 0
  /-- R489: bits a SOFT reset keeps (SEAL fields, seal bits, STK fields; what TMU_POLICY_SEAL fixes, R434) -/
  kept : Word := 0

/-- R5: every bit of a register that is not reserved. -/
def RegRow.defined (r : RegRow) : Word :=
  r.rw ||| r.w1c ||| r.w1cTyped ||| r.act ||| r.sealBit ||| r.ro

/-- R5: the bits of word j of a register that are not reserved: those of the row, but in a register whose words differ
(R153, R294, R295, R326, R358, R476, R521). -/
def RegRow.definedAt (r : RegRow) (j : Nat) : Word :=
  r.defined &&& match r.id, j with
    | .tbNow, 1 | .lnePrbsErr, 1 | .evcCnt, 1 | .schShedBaseA, 1 | .schShedBaseB, 1 => 0xFFFF
    | .tbNow, 2 | .schShedBaseA, 2 | .schShedBaseB, 2 => 0x3FFF_FFFF
    | .mscSuspect, 1 => 0x8000_001F
    | .mtEntry, 8 => 0x8000_003F
    | .schShedEnt, j => if j % 2 = 1 then 0xFF else 0x3FFF_FFFF
    | _, _ => 0xFFFF_FFFF

/-- The bits of a register that `State.regs` holds. -/
def RegRow.held (r : RegRow) : Word := r.rw ||| r.w1c ||| r.sealBit

/-- R514: the CAP block, all RO. -/
def regRowsCap : List RegRow :=
  [ { id := .capId, base := 0x000, ro := 0x00FF_FFFF },
    { id := .capSerial, base := 0x004, n2 := 2, s1 := 8, ro := 0xFFFF_FFFF },
    { id := .capFeat, base := 0x010, ro := 0x7F },
    { id := .capCounts, base := 0x014, ro := 0x001F_FFFF },
    { id := .capLanes, base := 0x018, n2 := 2, s1 := 8, ro := 0xFFFF_FFFF },
    { id := .capAtCap, base := 0x020, ro := 0x01FF_FFFF },
    { id := .capFtCap, base := 0x024, ro := 0x01FF_FFFF },
    { id := .capPolicers, base := 0x028, ro := 0xFFFF },
    { id := .capDeskew, base := 0x02C, ro := 0xFFF },
    { id := .capDram, base := 0x030, ro := 0xFF },
    { id := .capPdom, base := 0x040, n2 := 3, s1 := 12, ro := 0xFFFF_FFFF } ]

/-- R388 to R391, R368: the host interface block. -/
def regRowsHif : List RegRow :=
  [ { id := .hifMode, base := 0x10_0000, act := 7, ro := 0xF0 },
    { id := .hifErr, base := 0x10_0004, w1c := 0x7F, ro := 0x3F00 },
    { id := .hifErrAddr, base := 0x10_0008, ro := 0x81FF_FFFF },
    { id := .hifCmdWdog, base := 0x10_0010, rw := 0xFFFF },
    { id := .hifFnCfg, base := 0x10_1000, n1 := 64, rw := 3 },
    { id := .ringCopy, base := 0x11_0000, n1 := 64, s1 := 0x200, n2 := 128, ro := 0xFFFF_FFFF } ]

/-- R466 to R470, R497: the PMC block. -/
def regRowsPmc : List RegRow :=
  [ { id := .pmcLtol, base := 0x20_0000, n1 := 64, rw := 0x1FFF },
    { id := .pmcDomGrp, base := 0x20_0100, n1 := 96, s1 := 8, n2 := 2, rw := 0xFFFF_FFFF },
    { id := .pmcDomStat, base := 0x20_0400, n1 := 96, ro := 0x1FF },
    { id := .pmcWake, base := 0x20_0600, rw := 0x00FF_FFFF, sealBit := 0x8000_0000, kept := 0x80FF_FFFF },
    { id := .pmcWakeStat, base := 0x20_0604, ro := 0x7FFF },
    { id := .pmcReturn, base := 0x20_0608, act := 0x8000_007F },
    { id := .pmcScrReload, base := 0x20_060C, rw := 0x00FF_FFFF },
    { id := .pmcLoad, base := 0x20_0610, rw := 0x1FFF_FFFF },
    { id := .pmcSsc, base := 0x20_0700, rw := 0x3F },
    { id := .pmcIoCfg, base := 0x20_0704, rw := 0x3FF },
    { id := .pmcStat, base := 0x20_0800, w1c := 1 },
    { id := .pmcPfw, base := 0x20_0900, rw := 4, w1cTyped := 2, ro := 0xFF01 } ]

/-- R417, R418, R434 to R440, R449 to R451: the KCU, LC, TMU and BBX blocks. -/
def regRowsSec : List RegRow :=
  [ { id := .kcuStat, base := 0x30_0000, w1cTyped := 0x20, ro := 0x3FDF },
    { id := .lcState, base := 0x40_0000, ro := 0x7FF },
    { id := .lcPolicy, base := 0x40_0004, ro := 3 },
    { id := .lcTokens, base := 0x40_0008, ro := 0x3F },
    { id := .lcStage, base := 0x40_0010, n1 := 4, ro := 0xFFFF_FFFF },
    { id := .tmuPolicySeal, base := 0x50_0000, sealBit := 1, kept := 1 },
    { id := .tmuStat, base := 0x50_0004, w1c := 0x80, act := 0x100, ro := 0x3FE7F },
    { id := .tmuSrcCfg, base := 0x50_0100, n1 := 32, rw := 0xFF, kept := 0xFF },
    { id := .tmuSrcStat, base := 0x50_0200, n1 := 32, w1cTyped := 8, ro := 0x00FF_FFF7 },
    { id := .tmuMeshCfg, base := 0x50_0300, n1 := 2, s1 := 8, rw := 0xFFFF_FFFF, kept := 0xFFFF_FFFF },
    { id := .tmuMeshMeas, base := 0x50_0304, n1 := 2, s1 := 8, w1cTyped := 0x1_0000, ro := 0xFFFF },
    { id := .tmuEnvCfg, base := 0x50_0320, rw := 0xFFFF_FFFF, kept := 0xFFFF_FFFF },
    { id := .tmuEnvMeas, base := 0x50_0324, ro := 0x00FF_FFFF },
    { id := .tmuFuse, base := 0x50_0400, act := 0x8000_FF1F },
    { id := .tmuFuseStat, base := 0x50_0404, ro := 0xFFFF_FFFF },
    { id := .bbxStat, base := 0x60_0000, ro := 0x1FFF },
    { id := .bbxSeq, base := 0x60_0004, ro := 0xFFFF_FFFF },
    { id := .bbxHead, base := 0x60_0008, ro := 0x1FFF },
    { id := .bbxLost, base := 0x60_000C, ro := 0xFFFF },
    { id := .bbxBase, base := 0x60_0010, n2 := 5, s1 := 20, ro := 0xFFFF_FFFF },
    { id := .bbxWindow, base := 0x68_0000, n1 := 131072, ro := 0xFFFF_FFFF } ]

/-- R481, R482, R487, R521: the EVC, CVU and TB blocks. -/
def regRowsEvc : List RegRow :=
  [ { id := .evcCnt, base := 0x70_0000, n1 := 4096, s1 := 8, n2 := 2, act := 0xFFFF_FFFF },
    { id := .evcCfg0, base := 0x71_0000, n1 := 4096, s1 := 16, act := 0x00FF_FFFF },
    { id := .evcCfg1, base := 0x71_0004, n1 := 4096, s1 := 16, act := 0x00FF_FFFF },
    { id := .evcCfg2, base := 0x71_0008, n1 := 4096, s1 := 16, act := 0xFF },
    { id := .evcCfg3, base := 0x71_000C, n1 := 4096, s1 := 16, act := 0x01FF_FFFF },
    { id := .evcOvf, base := 0x72_0000, n1 := 128, w1cTyped := 0xFFFF_FFFF },
    { id := .evcWin, base := 0x73_0000, n1 := 64, rw := 0x007F_FFFF, kept := 0x007F_FFFF },
    { id := .evcStat, base := 0x73_1000, w1c := 1 },
    { id := .cvuPoly, base := 0x80_0000, n1 := 16, s1 := 16, rw := 0xFFFF_FFFF },
    { id := .cvuInit, base := 0x80_0004, n1 := 16, s1 := 16, rw := 0xFFFF_FFFF },
    { id := .cvuXor, base := 0x80_0008, n1 := 16, s1 := 16, rw := 0xFFFF_FFFF },
    { id := .cvuCtl, base := 0x80_000C, n1 := 16, s1 := 16, rw := 0xF },
    { id := .tbNow, base := 0x90_0000, n2 := 3, s1 := 12, ro := 0xFFFF_FFFF },
    { id := .tbSet0, base := 0x90_0010, rw := 0xFFFF_FFFF },
    { id := .tbSet1, base := 0x90_0014, rw := 0xFFFF },
    { id := .tbSet2, base := 0x90_0018, rw := 0x3FFF_FFFF },
    { id := .tbStat, base := 0x90_0020, w1c := 2, w1cTyped := 1 } ]

/-- R355 to R365: the LNE and WFT blocks. -/
def regRowsLne : List RegRow :=
  [ { id := .lneStat, base := 0xA0_0000, w1c := 1 },
    { id := .lnePortCfg, base := 0xA0_0100, n1 := 64, rw := 0x3FFF_0FFF },
    { id := .lnePortStat, base := 0xA0_0200, n1 := 64, w1cTyped := 0x40, ro := 0x3F },
    { id := .lneLaneCfg, base := 0xA0_1000, n1 := 64, s1 := 16, rw := 0x7FFF, act := 0x8000 },
    { id := .lneLaneStat, base := 0xA0_1004, n1 := 64, s1 := 16, w1cTyped := 8, ro := 7 },
    { id := .lnePrbsErr, base := 0xA0_1008, n1 := 64, s1 := 16, n2 := 2, ro := 0xFFFF_FFFF },
    { id := .wftDevId, base := 0xB0_0000, rw := 0xFFFF, sealBit := 0x1_0000, kept := 0x1_FFFF },
    { id := .wftStat, base := 0xB0_0004, w1c := 1 },
    { id := .wftPortCfg, base := 0xB1_0000, n1 := 4, s1 := 0x1000, rw := 0xFFFF_000F },
    { id := .wftPortTimers, base := 0xB1_0004, n1 := 4, s1 := 0x1000, rw := 0x000F_FFFF },
    { id := .wftPortBudget, base := 0xB1_0008, n1 := 4, s1 := 0x1000, rw := 0xFFFF_FFFF },
    { id := .wftPortStat, base := 0xB1_000C, n1 := 4, s1 := 0x1000, ro := 0x000F_FFFF },
    { id := .wftLinkTime, base := 0xB1_0010, n1 := 4, s1 := 0x1000, ro := 0x00FF_FFFF },
    { id := .wftTaps, base := 0xB1_0040, n1 := 4, s1 := 0x1000, n2 := 16, ro := 0x7FFF },
    { id := .wftRoute, base := 0xB4_0000, n1 := 65536, rw := 0x3F } ]

/-- R234 to R244, R259 to R263, R201, R203: the WOV, LMT and TAG blocks. -/
def regRowsWov : List RegRow :=
  [ { id := .wovGrpCfg, base := 0xC0_0000, n1 := 8, s1 := 0x1000, rw := 0x00FF_FFFF },
    { id := .wovGrpLanes, base := 0xC0_0004, n1 := 8, s1 := 0x1000, rw := 0xFFFF_FFFF },
    { id := .wovTxMap, base := 0xC0_0008, n1 := 8, s1 := 0x1000, act := 0xFFFF_FFFF },
    { id := .wovTxStat, base := 0xC0_000C, n1 := 8, s1 := 0x1000, ro := 0x7FF },
    { id := .wovCkTx, base := 0xC0_0010, n1 := 8, s1 := 0x1000, act := 1, ro := 0xE },
    { id := .wovCkSlot, base := 0xC0_0014, n1 := 8, s1 := 0x1000, n2 := 4, ro := 0xF },
    { id := .wovRxCfg, base := 0xC0_0024, n1 := 8, s1 := 0x1000, rw := 0x00FF_FFFF },
    { id := .wovRxStat, base := 0xC0_0028, n1 := 8, s1 := 0x1000, ro := 0x1F },
    { id := .wovRxSkew, base := 0xC0_002C, n1 := 8, s1 := 0x1000, ro := 0x00FF_FFFF },
    { id := .wovRxMap, base := 0xC0_0030, n1 := 8, s1 := 0x1000, ro := 0xFFFF_FFFF },
    { id := .wovLaneStat, base := 0xC0_8000, n1 := 32, ro := 0x00FF_1FFF },
    { id := .wovLaneTx, base := 0xC0_8100, n1 := 32, rw := 3 },
    { id := .wovStat, base := 0xC0_9000, w1c := 1 },
    { id := .lmtCtl, base := 0xC8_0000, act := 3 },
    { id := .lmtSnapSec, base := 0xC8_0004, ro := 0xFFFF_FFFF },
    { id := .lmtLaneDef, base := 0xC8_1000, n1 := 32, ro := 0x3FF },
    { id := .lmtLaneHist, base := 0xC8_1100, n1 := 32, w1c := 0x1FF, ro := 0x200 },
    { id := .lmtLaneEven, base := 0xC8_1200, n1 := 32, rw := 0x3FF },
    { id := .lmtGrpDef, base := 0xC8_3000, n1 := 8, ro := 0xFFFF },
    { id := .lmtGrpHist, base := 0xC8_3040, n1 := 8, w1c := 0x3F, ro := 0x80 },
    { id := .lmtGrpEven, base := 0xC8_3080, n1 := 8, rw := 0xBF },
    { id := .lmtSec, base := 0xC8_2000, n1 := 32, s1 := 32, n2 := 8, ro := 0xFFFF_FFFF },
    { id := .lmtPath, base := 0xC8_3100, n1 := 8, s1 := 32, n2 := 8, ro := 0xFFFF_FFFF },
    { id := .tagPortCfg, base := 0xD0_0000, n1 := 32, rw := 0x3FFF_0001 },
    { id := .tagStat, base := 0xD0_0100, w1c := 1 } ]

/-- R284 to R298: the SCH block. A shed entry's j is 128 × bank + 2 × entry + word. -/
def regRowsSch : List RegRow :=
  [ { id := .schStat, base := 0xE0_0000, w1c := 1 },
    { id := .schAdmSlots, base := 0xE0_0010, rw := 0x1_FFFF },
    { id := .schAdmCells, base := 0xE0_0014, rw := 0x7_FFFF },
    { id := .schAdmSpill, base := 0xE0_0018, rw := 0x7_FFFF },
    { id := .schPRate, base := 0xE0_0100, n1 := 64, s1 := 16, rw := 0x803F_FFFF },
    { id := .schPBurst, base := 0xE0_0104, n1 := 64, s1 := 16, rw := 0x00FF_FFFF },
    { id := .schPCredit, base := 0xE0_0108, n1 := 64, s1 := 16, ro := 0xFFFF_FFFF },
    { id := .schShedCtl, base := 0xE0_0800, n1 := 64, s1 := 32, rw := 1, ro := 0x1_FFFE },
    { id := .schShedCnt, base := 0xE0_0804, n1 := 64, s1 := 32, rw := 0x7F7F },
    { id := .schShedBaseA, base := 0xE0_0808, n1 := 64, s1 := 32, n2 := 3, rw := 0xFFFF_FFFF },
    { id := .schShedBaseB, base := 0xE0_0814, n1 := 64, s1 := 32, n2 := 3, rw := 0xFFFF_FFFF },
    { id := .schQRate, base := 0xE0_4000, n1 := 16384, s1 := 16, rw := 0x803F_FFFF },
    { id := .schQBurst, base := 0xE0_4004, n1 := 16384, s1 := 16, rw := 0x00FF_FFFF },
    { id := .schQQuantum, base := 0xE0_4008, n1 := 16384, s1 := 16, rw := 0x000F_FFFF },
    { id := .schQMap, base := 0xE0_400C, n1 := 16384, s1 := 16, rw := 0x7FFF_FFFF },
    { id := .schQDepth, base := 0xE4_4000, n1 := 16384, s1 := 8, ro := 0xFFFF_FFFF },
    { id := .schQCredit, base := 0xE4_4004, n1 := 16384, s1 := 8, ro := 0xFFFF_FFFF },
    { id := .schShedEnt, base := 0xE6_4000, n1 := 64, s1 := 0x400, n2 := 256, rw := 0x3FFF_FFFF },
    { id := .schHistCfg, base := 0xE7_8000, n1 := 64, s1 := 0x80, rw := 0x001F_FFFF },
    { id := .schHistCtl, base := 0xE7_8004, n1 := 64, s1 := 0x80, act := 3 },
    { id := .schHistBin, base := 0xE7_8040, n1 := 64, s1 := 0x80, n2 := 16, ro := 0xFFFF_FFFF },
    { id := .schPolCir, base := 0xE8_0000, n1 := 32768, s1 := 16, rw := 0x003F_FFFF },
    { id := .schPolCbs, base := 0xE8_0004, n1 := 32768, s1 := 16, rw := 0x00FF_FFFF },
    { id := .schPolPir, base := 0xE8_0008, n1 := 32768, s1 := 16, rw := 0x003F_FFFF },
    { id := .schPolPbs, base := 0xE8_000C, n1 := 32768, s1 := 16, rw := 0x00FF_FFFF } ]

/-- R321 to R329: the MSC block. -/
def regRowsMsc : List RegRow :=
  [ { id := .mscMirror, base := 0xF0_0000, rw := 1, sealBit := 2, ro := 0xC, kept := 3 },
    { id := .mscInit, base := 0xF0_0004, act := 1, ro := 6 },
    { id := .mscStat, base := 0xF0_0008, w1c := 3, ro := 0xC, kept := 8 },
    { id := .mscTimeout, base := 0xF0_000C, rw := 0xFFFF },
    { id := .mscPoisonCfg, base := 0xF0_0010, rw := 0x1F },
    { id := .mscScrub, base := 0xF0_0014, rw := 0xFFFF },
    { id := .mscReinit0, base := 0xF0_0020, rw := 0xFFFF_FFFF },
    { id := .mscReinit1, base := 0xF0_0024, rw := 0x1F, act := 0x20, ro := 0xC0 },
    { id := .mscSuspectCnt, base := 0xF0_0030, ro := 0x7FF },
    { id := .mscSuspect, base := 0xF0_4000, n1 := 1024, s1 := 8, n2 := 2, ro := 0xFFFF_FFFF },
    { id := .mscMkiCtl, base := 0xF0_0100, act := 0x8000_00FF },
    { id := .mscMkiStat, base := 0xF0_1000, n1 := 256, ro := 0x1_FFFF },
    { id := .mscMkiExt, base := 0xF0_1400, n1 := 256, ro := 0x7_FFFF },
    { id := .mscStackStat, base := 0xF0_0200, n1 := 4, ro := 0x3F } ]

/-- R70 to R72, R115 to R119: the SHU block, cluster c at 0x4_0000 × c. -/
def regRowsShu : List RegRow :=
  [ { id := .shuCardCtl, base := 0x100_0000, n1 := 24, s1 := 0x4_0000, act := 0x1_FFFF },
    { id := .shuCardStat, base := 0x100_0004, n1 := 24, s1 := 0x4_0000, w1cTyped := 0x8_0000, ro := 0xFF77_FFFF },
    { id := .shuStageCtl, base := 0x100_0010, n1 := 24, s1 := 0x4_0000, act := 3 },
    { id := .shuStageStat, base := 0x100_0014, n1 := 24, s1 := 0x4_0000, w1cTyped := 8, ro := 0xF7 },
    { id := .shuStageGen, base := 0x100_0018, n1 := 24, s1 := 0x4_0000, ro := 0xFFFF_FFFF },
    { id := .shuBudget, base := 0x100_0040, n1 := 24, s1 := 0x4_0000, rw := 0xFFFF },
    { id := .shuTrapLast, base := 0x100_0044, n1 := 24, s1 := 0x4_0000, ro := 0x03FF_FFFF },
    { id := .shuScratch, base := 0x101_0000, n1 := 24, s1 := 0x4_0000, n2 := 4096, act := 0xFFFF_FFFF } ]

/-- R183 to R190, R135 to R153: the CIE, LKS, AT and FT blocks. -/
def regRowsCie : List RegRow :=
  [ { id := .ciePolicy, base := 0x180_0000, rw := 1, sealBit := 2, kept := 3 },
    { id := .cieKat, base := 0x180_0004, rw := 0xFFFF },
    { id := .cieRetire, base := 0x180_0008, act := 0x8000_003F },
    { id := .cieBurst, base := 0x180_000C, rw := 0xFFFF },
    { id := .cieStat, base := 0x180_0010, ro := 0x7F },
    { id := .cieProfile, base := 0x180_0100, n1 := 24, rw := 1 },
    { id := .cieEngStat, base := 0x180_0200, n1 := 48, ro := 0x000F_FFFF },
    { id := .lksCap, base := 0x188_0000, rw := 0x3F },
    { id := .atDrain, base := 0x1C0_0000, rw := 0xFFFF },
    { id := .atStat, base := 0x1C0_0004, w1c := 1 },
    { id := .atDomBase, base := 0x1C0_1000, n1 := 64, s1 := 8, rw := 0x00FF_FFFF },
    { id := .atDomCount, base := 0x1C0_1004, n1 := 64, s1 := 8, rw := 0x01FF_FFFF },
    { id := .atPnWarn, base := 0x1C1_0000, n1 := 4096, rw := 0x3F },
    { id := .ftDomQuota, base := 0x1E0_1000, n1 := 64, rw := 0x01FF_FFFF },
    { id := .mtEntry, base := 0x1E1_0000, n1 := 4096, s1 := 64, n2 := 10, act := 0xFFFF_FFFF } ]

/-- R514: the rows of the block an offset lies in. -/
def regRowsAt (off : Nat) : List RegRow :=
  if off < 0x10_0000 then regRowsCap
  else if off < 0x20_0000 then regRowsHif
  else if off < 0x30_0000 then regRowsPmc
  else if off < 0x70_0000 then regRowsSec
  else if off < 0xA0_0000 then regRowsEvc
  else if off < 0xC0_0000 then regRowsLne
  else if off < 0xE0_0000 then regRowsWov
  else if off < 0xF0_0000 then regRowsSch
  else if off < 0x100_0000 then regRowsMsc
  else if off < 0x160_0000 then regRowsShu
  else if off < 0x180_0000 then []
  else regRowsCie

/-- Whether a register's row holds an offset, with its instance numbers i and j. -/
def RegRow.index (r : RegRow) (off : Nat) : Option (Nat × Nat) :=
  let d := off - r.base
  let i := d / r.s1
  let e := d % r.s1
  if r.base ≤ off ∧ i < r.n1 ∧ e % r.s2 = 0 ∧ e / r.s2 < r.n2 then some (i, e / r.s2) else none

/-- R514: the register at an offset of BAR0, if some chapter defines one there. -/
def locate (off : Nat) : Option (RegRow × Nat × Nat) :=
  (regRowsAt off).findSome? (fun r => (r.index off).map (fun ij => (r, ij.1, ij.2)))

/-- R519: shuttle clusters present. -/
def Variant.clusters : Variant → Nat
  | .tv16e => 12
  | _ => 24

/-- R519: cipher engines present. -/
def Variant.engines : Variant → Nat
  | .tv16e => 24
  | _ => 48

/-- R519: DRAM stacks present. -/
def Variant.stacks : Variant → Nat
  | .tv32f => 4
  | .tv32s => 2
  | .tv16e => 0

/-- R519: weft ports present. -/
def Variant.weftPorts : Variant → Nat
  | .tv32f => 4
  | .tv32s => 2
  | .tv16e => 0

/-- R519: policers. -/
def Variant.policers : Variant → Nat
  | .tv16e => 8192
  | _ => 32768

/-- R519: deskew in µs. -/
def Variant.deskew : Variant → Nat
  | .tv32f => 2000
  | .tv32s => 1000
  | .tv16e => 24

/-- R519: association and flow capacity with mirror mode off. -/
def Variant.capacity : Variant → Nat
  | .tv32f => 16777216
  | .tv32s => 8388608
  | .tv16e => 262144

/-- R517, R519: CAP_FEAT. -/
def Variant.feat : Variant → Word
  | .tv32f => 0x7F
  | .tv32s => 0x7D
  | .tv16e => 0x20

/-- R519: DRAM in GiB. -/
def Variant.dram : Variant → Nat
  | .tv32f => 32
  | .tv32s => 16
  | .tv16e => 0

/-- R519: warp lane l (clear 0 to 31, line 32 to 63) is present. -/
def Variant.lane (v : Variant) (l : Nat) : Bool :=
  match v with
  | .tv16e => l % 32 < 16 && l < 64
  | _ => l < 64

/-- R519: power domain d is present. -/
def Variant.domain (v : Variant) (d : Nat) : Bool :=
  match v with
  | .tv32f => d < 96
  | .tv32s => d < 72 || (80 ≤ d && d < 94)
  | .tv16e => d < 12 || (24 ≤ d && d < 36) || (48 ≤ d && d < 52) || (56 ≤ d && d < 60) || (80 ≤ d && d < 92)

/-- R2, R514: an offset belongs to a unit or block that the variant lacks: shuttle cluster blocks, MSC, weft ports,
lookaside. -/
def blockAbsent (v : Variant) (off : Nat) : Bool :=
  if 0x100_0000 ≤ off ∧ off < 0x160_0000 then decide (v.clusters ≤ (off - 0x100_0000) / 0x4_0000)
  else if 0xF0_0000 ≤ off ∧ off < 0x100_0000 then v.stacks == 0
  else if 0xB0_0000 ≤ off ∧ off < 0xC0_0000 then
    v.weftPorts == 0 || (decide (0xB1_0000 ≤ off ∧ off < 0xB1_4000) && decide (v.weftPorts ≤ (off - 0xB1_0000) / 0x1000))
  else if 0x188_0000 ≤ off ∧ off < 0x1C0_0000 then v != .tv32f
  else false

/-- R2, R520: instance i of a register of a present block is present. -/
def RegId.present (v : Variant) (id : RegId) (i : Nat) : Bool :=
  match id with
  | .pmcDomGrp | .pmcDomStat => v.domain i
  | .lnePortCfg | .lnePortStat | .lneLaneCfg | .lneLaneStat | .lnePrbsErr => v.lane i
  | .schPRate | .schPBurst | .schPCredit => v.lane i
  | .schShedCtl | .schShedCnt | .schShedBaseA | .schShedBaseB | .schShedEnt => v != .tv16e && v.lane i
  | .wovLaneStat | .wovLaneTx | .lmtLaneDef | .lmtLaneHist | .lmtLaneEven | .lmtSec | .tagPortCfg => v.lane (32 + i)
  | .schPolCir | .schPolCbs | .schPolPir | .schPolPbs => decide (i < v.policers)
  | .cieProfile => decide (2 * i < v.engines)
  | .cieEngStat => decide (i < v.engines)
  | .mscStackStat => decide (i < v.stacks)
  | _ => true

/-- R419: the default response of a tamper source. -/
def respDefault (src : Nat) : BitVec 3 :=
  [0, 3, 3, 3, 3, 3, 2, 1, 3, 3, 3, 3, 1, 1, 1, 3].getD src 0

/-- R419: the fixed minimum response of a tamper source. -/
def respMin (src : Nat) : BitVec 3 :=
  [0, 0, 0, 0, 0, 0, 0, 0, 3, 2, 2, 3, 0, 0, 0, 2].getD src 0

/-- R420, R436: sources whose DEBOUNCE is fixed at 1. -/
def debounceFixed (src : Nat) : Bool := src == 8 || src == 9 || src == 10 || src == 15

/-- R436: the policy word of a source after reset; reserved sources read 0 (NONE is taken as reserved). -/
def srcCfgReset (src : Nat) : Word :=
  if src = 0 ∨ 16 ≤ src then 0
  else (respDefault src).setWidth 32 ||| (if debounceFixed src then 0x10 else 0x20)

/-- R5, R7: the value after reset of the bits a register holds in `State.regs`, instance i, word j. -/
def RegId.reset (v : Variant) (id : RegId) (i j : Nat) : Word :=
  match id with
  | .hifCmdWdog => 1000
  | .hifFnCfg => if i = 0 then 1 else 0
  | .pmcDomGrp => if j = 0 ∧ v.domain i then 1 else 0
  | .pmcWake => 0x0001_0008
  | .pmcLoad => 1 ||| (1 <<< 5) ||| (1024 <<< 10) ||| (64 <<< 21)
  | .pmcSsc => 0x12
  | .pmcIoCfg => 0x191
  | .tmuSrcCfg => srcCfgReset i
  | .pmcPfw => 4
  | .tmuMeshCfg => 100 ||| (20000 <<< 16)
  | .tmuEnvCfg => 0x1082_78D3
  | .cvuPoly => 0x04C1_1DB7
  | .cvuInit => 0xFFFF_FFFF
  | .cvuXor => 0xFFFF_FFFF
  | .cvuCtl => 0xF
  | .lnePortCfg => 0x100 ||| (16128 <<< 16)
  | .lneLaneCfg => 8 <<< 10
  | .wftPortTimers => 2000 ||| (8 <<< 16)
  | .wftPortBudget => 6250 ||| (60 <<< 16)
  | .wovGrpCfg => 0x80
  | .wovRxCfg => 24 ||| (3 <<< 12)
  | .tagPortCfg => 16128 <<< 16
  | .schAdmSlots => 4096
  | .schAdmCells => 12288
  | .schAdmSpill => if v = .tv16e then 0 else 393216
  | .schPBurst | .schQBurst => 16128
  | .schQQuantum => 16384
  | .schQMap => 64 <<< 19
  | .schShedEnt => if j % 2 = 0 then 64 else 0xFF
  | .schPolCir | .schPolPir => 3200000
  | .schPolCbs | .schPolPbs => 16128
  | .mscTimeout => 2000
  | .mscPoisonCfg => 15
  | .mscScrub => 24
  | .shuBudget => 4096
  | .cieKat | .cieBurst => 10
  | .lksCap => 4
  | .atDrain => 200
  | _ => 0

/-- The row of a register by its name (first row that carries it). -/
def RegId.row (id : RegId) (rows : List RegRow) : Option RegRow := rows.find? (fun r => r.id == id)

/-- The BAR0 offset of instance i, word j of a register. -/
def RegId.offset (id : RegId) (i : Nat := 0) (j : Nat := 0) : Nat :=
  match id with
  | .hifErr => 0x10_0004
  | .hifErrAddr => 0x10_0008
  | .hifCmdWdog => 0x10_0010
  | .hifFnCfg => 0x10_1000 + 4 * i
  | .pmcLtol => 0x20_0000 + 4 * i
  | .pmcDomGrp => 0x20_0100 + 8 * i + 4 * j
  | .pmcWake => 0x20_0600
  | .pmcScrReload => 0x20_060C
  | .pmcLoad => 0x20_0610
  | .pmcSsc => 0x20_0700
  | .pmcIoCfg => 0x20_0704
  | .pmcStat => 0x20_0800
  | .pmcPfw => 0x20_0900
  | .tmuPolicySeal => 0x50_0000
  | .tmuStat => 0x50_0004
  | .tmuSrcCfg => 0x50_0100 + 4 * i
  | .tmuMeshCfg => 0x50_0300 + 8 * i
  | .tmuEnvCfg => 0x50_0320
  | .evcWin => 0x73_0000 + 4 * i
  | .evcStat => 0x73_1000
  | .cvuPoly => 0x80_0000 + 16 * i
  | .cvuInit => 0x80_0004 + 16 * i
  | .cvuXor => 0x80_0008 + 16 * i
  | .cvuCtl => 0x80_000C + 16 * i
  | .tbSet0 => 0x90_0010
  | .tbSet1 => 0x90_0014
  | .tbSet2 => 0x90_0018
  | .tbStat => 0x90_0020
  | .lneStat => 0xA0_0000
  | .lnePortCfg => 0xA0_0100 + 4 * i
  | .lneLaneCfg => 0xA0_1000 + 16 * i
  | .wftDevId => 0xB0_0000
  | .wftStat => 0xB0_0004
  | .wftPortCfg => 0xB1_0000 + 0x1000 * i
  | .wftPortTimers => 0xB1_0004 + 0x1000 * i
  | .wftPortBudget => 0xB1_0008 + 0x1000 * i
  | .wftRoute => 0xB4_0000 + 4 * i
  | .wovGrpCfg => 0xC0_0000 + 0x1000 * i
  | .wovGrpLanes => 0xC0_0004 + 0x1000 * i
  | .wovRxCfg => 0xC0_0024 + 0x1000 * i
  | .wovLaneTx => 0xC0_8100 + 4 * i
  | .wovStat => 0xC0_9000
  | .lmtLaneHist => 0xC8_1100 + 4 * i
  | .lmtLaneEven => 0xC8_1200 + 4 * i
  | .lmtGrpHist => 0xC8_3040 + 4 * i
  | .lmtGrpEven => 0xC8_3080 + 4 * i
  | .tagPortCfg => 0xD0_0000 + 4 * i
  | .tagStat => 0xD0_0100
  | .schStat => 0xE0_0000
  | .schAdmSlots => 0xE0_0010
  | .schAdmCells => 0xE0_0014
  | .schAdmSpill => 0xE0_0018
  | .schPRate => 0xE0_0100 + 16 * i
  | .schPBurst => 0xE0_0104 + 16 * i
  | .schShedCtl => 0xE0_0800 + 32 * i
  | .schShedCnt => 0xE0_0804 + 32 * i
  | .schShedBaseA => 0xE0_0808 + 32 * i + 4 * j
  | .schShedBaseB => 0xE0_0814 + 32 * i + 4 * j
  | .schQRate => 0xE0_4000 + 16 * i
  | .schQBurst => 0xE0_4004 + 16 * i
  | .schQQuantum => 0xE0_4008 + 16 * i
  | .schQMap => 0xE0_400C + 16 * i
  | .schShedEnt => 0xE6_4000 + 0x400 * i + 4 * j
  | .schHistCfg => 0xE7_8000 + 0x80 * i
  | .schPolCir => 0xE8_0000 + 16 * i
  | .schPolCbs => 0xE8_0004 + 16 * i
  | .schPolPir => 0xE8_0008 + 16 * i
  | .schPolPbs => 0xE8_000C + 16 * i
  | .mscMirror => 0xF0_0000
  | .mscStat => 0xF0_0008
  | .mscTimeout => 0xF0_000C
  | .mscPoisonCfg => 0xF0_0010
  | .mscScrub => 0xF0_0014
  | .mscReinit0 => 0xF0_0020
  | .mscReinit1 => 0xF0_0024
  | .shuBudget => 0x100_0040
  | .ciePolicy => 0x180_0000
  | .cieKat => 0x180_0004
  | .cieBurst => 0x180_000C
  | .cieProfile => 0x180_0100 + 4 * i
  | .lksCap => 0x188_0000
  | .atDrain => 0x1C0_0000
  | .atStat => 0x1C0_0004
  | .atDomBase => 0x1C0_1000 + 8 * i
  | .atDomCount => 0x1C0_1004 + 8 * i
  | .atPnWarn => 0x1C1_0000 + 4 * i
  | .ftDomQuota => 0x1E0_1000 + 4 * i
  | _ => 0x1FF_FFFC

end Sys2Proof.Machine
end

