-- ==== Sys2Proof/Machine/Ops.lean ====
section
/-! DEFINITION. The named operations every command shares: tables and memories in their canonical form, bytes and
fields, the accessors of State, access errors, event counters, event records, ring completions, black-box requests,
tamper reports and draws. -/

namespace Sys2Proof.Machine

/-! ### Tables -/

/-- The value of a table at a key, the default when it lists none. -/
def tget {α : Type} (d : α) : Tbl α → Nat → α
  | [], _ => d
  | (k', v) :: t, k => if k' = k then v else tget d t k

/-- The entry of a table in which an unlisted key is absent. -/
def tfind {α : Type} : Tbl α → Nat → Option α
  | [], _ => none
  | (k', v) :: t, k => if k' = k then some v else tfind t k

/-- The table with an entry put at a key. -/
def tput {α : Type} : Tbl α → Nat → α → Tbl α
  | [], k, v => [(k, v)]
  | (k', v') :: t, k, v =>
    if k' < k then (k', v') :: tput t k v
    else if k' = k then (k, v) :: t
    else (k, v) :: (k', v') :: t

/-- The table without a key. -/
def tdel {α : Type} (t : Tbl α) (k : Nat) : Tbl α := t.filter (fun e => e.1 != k)

/-- The table with a key set to a value: keys stay rising, and a key that holds the default is not listed. -/
def tset {α : Type} [DecidableEq α] (d : α) (t : Tbl α) (k : Nat) (v : α) : Tbl α :=
  if v = d then tdel t k else tput t k v

/-- Keys strictly rise and every listed value satisfies `ok` (not the default). -/
def tsorted {α : Type} (ok : Nat → α → Bool) : Tbl α → Bool
  | [] => true
  | [(k, v)] => ok k v
  | (k, v) :: (k', v') :: t => decide (k < k') && ok k v && tsorted ok ((k', v') :: t)

/-! ### Memories: bytes by address, an unlisted byte reads 0 -/

/-- One byte of a memory. -/
def Memory.read (m : Memory) (a : Nat) : Byte := tget 0 m a

/-- A memory with one byte written. -/
def Memory.write (m : Memory) (a : Nat) (v : Byte) : Memory := tset 0 m a v

/-- Bytes from an address up. -/
def Memory.readBytes (m : Memory) (a : Nat) : Nat → Bytes
  | 0 => []
  | n + 1 => Memory.read m a :: Memory.readBytes m (a + 1) n

/-- Bytes written from an address up. -/
def Memory.writeBytes (m : Memory) (a : Nat) : Bytes → Memory
  | [] => m
  | v :: vs => Memory.writeBytes (Memory.write m a v) (a + 1) vs

/-- The canonical form of a memory: addresses strictly rise and no entry is 0. -/
def Memory.wf (m : Memory) : Bool := tsorted (fun _ v => v != (0 : Byte)) m

/-! ### Bytes and fields -/

/-- Bits lo to lo + n − 1 of a word, as a number. -/
def fld (w : Word) (lo n : Nat) : Nat := w.toNat / 2 ^ lo % 2 ^ n

/-- A number placed at bit lo of a word. -/
def put (v lo : Nat) : Word := BitVec.ofNat 32 (v * 2 ^ lo)

/-- A flag placed at bit lo of a word. -/
def putB (v : Bool) (lo : Nat) : Word := if v then put 1 lo else 0

/-- A number as n bytes, least significant first (R375). -/
def leBytes (v : Nat) : Nat → Bytes
  | 0 => []
  | n + 1 => BitVec.ofNat 8 (v % 256) :: leBytes (v / 256) n

/-- Bytes read least significant first. -/
def leNat : Bytes → Nat
  | [] => 0
  | b :: bs => b.toNat + 256 * leNat bs

/-- Bytes read most significant first (R54). -/
def beNat (bs : Bytes) : Nat := bs.foldl (fun n b => n * 256 + b.toNat) 0

/-- A number as n bytes, most significant first. -/
def beBytes (v n : Nat) : Bytes := (leBytes v n).reverse

/-- n bytes from an offset; bytes beyond the end read 0. -/
def slice (bs : Bytes) (off n : Nat) : Bytes :=
  let t := (bs.drop off).take n
  t ++ List.replicate (n - t.length) 0

/-- Bytes with some of them replaced from an offset on. -/
def patch (bs : Bytes) (off : Nat) (new : Bytes) : Bytes :=
  bs.take off ++ new ++ bs.drop (off + new.length)

/-- A number read little-endian from n bytes at an offset. -/
def leAt (bs : Bytes) (off n : Nat) : Nat := leNat (slice bs off n)

/-- Every byte of a range is 0. -/
def zeros (bs : Bytes) (off n : Nat) : Bool := (slice bs off n).all (fun b => b == 0)

/-- The least of two numbers against a ceiling: a saturating counter. -/
def satTo (ceil v : Nat) : Nat := if ceil < v then ceil else v

/-! ### Accessors of State -/

/-- Bobbin b. -/
def State.bob (s : State) (b : Nat) : Bobbin := tget {} s.shu.bobs b
/-- Bobbin b set. -/
def State.setBob (s : State) (b : Nat) (x : Bobbin) : State :=
  { s with shu := { s.shu with bobs := tset {} s.shu.bobs b x } }
/-- Cluster c. -/
def State.clu (s : State) (c : Nat) : Cluster := tget {} s.shu.clusters c
/-- Cluster c set. -/
def State.setClu (s : State) (c : Nat) (x : Cluster) : State :=
  { s with shu := { s.shu with clusters := tset {} s.shu.clusters c x } }
/-- Pick p, if the slot holds one. -/
def State.pick (s : State) (p : Nat) : Option Pick := tfind s.beam.picks p
/-- Pick p set. -/
def State.setPick (s : State) (p : Nat) (x : Pick) : State :=
  { s with beam := { s.beam with picks := tput s.beam.picks p x } }
/-- Pick slot p freed. -/
def State.delPick (s : State) (p : Nat) : State :=
  { s with beam := { s.beam with picks := tdel s.beam.picks p } }
/-- Association entry i. -/
def State.assoc (s : State) (i : Nat) : AtEntry := tget {} s.tab.assocs i
/-- Association entry i set. -/
def State.setAssoc (s : State) (i : Nat) (x : AtEntry) : State :=
  { s with tab := { s.tab with assocs := tset {} s.tab.assocs i x } }
/-- Engine e. -/
def State.engine (s : State) (e : Nat) : Engine := tget {} s.cie.engines e
/-- Engine e set. -/
def State.setEngine (s : State) (e : Nat) (x : Engine) : State :=
  { s with cie := { s.cie with engines := tset {} s.cie.engines e x } }
/-- Engine pair p. -/
def State.pair (s : State) (p : Nat) : Pair := tget {} s.cie.pairs p
/-- Engine pair p set. -/
def State.setPair (s : State) (p : Nat) (x : Pair) : State :=
  { s with cie := { s.cie with pairs := tset {} s.cie.pairs p x } }
/-- Queue q. -/
def State.queue (s : State) (q : Nat) : Queue := tget {} s.sch.queues q
/-- Queue q set. -/
def State.setQueue (s : State) (q : Nat) (x : Queue) : State :=
  { s with sch := { s.sch with queues := tset {} s.sch.queues q x } }
/-- Port p. -/
def State.port (s : State) (p : Nat) : Port := tget {} s.sch.ports p
/-- Port p set. -/
def State.setPort (s : State) (p : Nat) (x : Port) : State :=
  { s with sch := { s.sch with ports := tset {} s.sch.ports p x } }
/-- Woven group g. -/
def State.group (s : State) (g : Nat) : Group := tget {} s.wov.groups g
/-- Woven group g set. -/
def State.setGroup (s : State) (g : Nat) (x : Group) : State :=
  { s with wov := { s.wov with groups := tset {} s.wov.groups g x } }
/-- Lane l, clear 0 to 31, line 32 to 63. -/
def State.lane (s : State) (l : Nat) : Lane := tget {} s.wov.lanes l
/-- Lane l set. -/
def State.setLane (s : State) (l : Nat) (x : Lane) : State :=
  { s with wov := { s.wov with lanes := tset {} s.wov.lanes l x } }
/-- Weft port n. -/
def State.wport (s : State) (n : Nat) : Weft := tget {} s.weft n
/-- Weft port n set. -/
def State.setWport (s : State) (n : Nat) (x : Weft) : State := { s with weft := tset {} s.weft n x }
/-- Power domain d. -/
def State.dom (s : State) (d : Nat) : Dom := tget {} s.pmc.doms d
/-- Power domain d set. -/
def State.setDom (s : State) (d : Nat) (x : Dom) : State :=
  { s with pmc := { s.pmc with doms := tset {} s.pmc.doms d x } }
/-- Ring r of function f. -/
def State.ring (s : State) (f r : Nat) : Ring := tget {} s.hif.rings (8 * f + r)
/-- Ring r of function f set. -/
def State.setRing (s : State) (f r : Nat) (x : Ring) : State :=
  { s with hif := { s.hif with rings := tset {} s.hif.rings (8 * f + r) x } }
/-- Key page f. -/
def State.page (s : State) (f : Nat) : KeyPage := tget {} s.hif.pages f
/-- Key page f set. -/
def State.setPage (s : State) (f : Nat) (x : KeyPage) : State :=
  { s with hif := { s.hif with pages := tset {} s.hif.pages f x } }
/-- Key store slot k. -/
def State.bks (s : State) (k : Nat) : Bks := tget {} s.kcu.bks k
/-- Key store slot k set. -/
def State.setBks (s : State) (k : Nat) (x : Bks) : State :=
  { s with kcu := { s.kcu with bks := tset {} s.kcu.bks k x } }
/-- Tamper source i on main power. -/
def State.tsrc (s : State) (i : Nat) : TSrc := tget {} s.tmu.srcs i
/-- Tamper source i on main power set. -/
def State.setTsrc (s : State) (i : Nat) (x : TSrc) : State :=
  { s with tmu := { s.tmu with srcs := tset {} s.tmu.srcs i x } }

/-- R5: the stored bits of a register of BAR0. -/
def State.reg (s : State) (id : RegId) (i : Nat := 0) (j : Nat := 0) : Word :=
  tget (id.reset s.variant i j) s.regs (id.offset i j)

/-- R5: a register of BAR0 with its stored bits set. -/
def State.setReg (s : State) (id : RegId) (i j : Nat) (w : Word) : State :=
  { s with regs := tset (id.reset s.variant i j) s.regs (id.offset i j) w }

/-- A status bit that hardware sets in a register (REJECT bits and their like). -/
def State.setRegBit (s : State) (id : RegId) (bit : Nat) : State :=
  s.setReg id 0 0 (s.reg id ||| put 1 bit)

/-- A field of a register. -/
def State.field (s : State) (id : RegId) (i lo n : Nat) : Nat := fld (s.reg id i) lo n

/-- What leaves the device. -/
def State.emit (s : State) (o : Out) : State := { s with out := s.out ++ [o] }

/-- R518: the association and flow capacity in force. -/
def State.capacity (s : State) : Nat :=
  if s.field .mscMirror 0 0 1 = 1 then s.variant.capacity / 2 else s.variant.capacity

/-- R100, R384: the time base in nanoseconds, on the scale of `tb` imm 2. -/
def State.now64 (s : State) : DWord := BitVec.ofNat 64 s.tb.tod

/-- R367: function f exists. -/
def State.fnExists (s : State) (f : Nat) : Bool := f == 0 || decide (f ≤ s.hif.numVfs)

/-- R408, R415, R426, R492: traffic is held: in START, from a QUIESCE or higher response to the return to SERVICE, under a
Shuavo unlock outside RMA, and in a lifecycle state without the traffic path. -/
def State.held (s : State) : Bool :=
  s.hif.mode == 0 || s.tmu.quiesced || ((s.hif.mode == 3 || s.kcu.test) && s.kcu.lc != 4) || s.kcu.lc == 0
    || s.kcu.lc == 5 || (s.kcu.lc == 4 && !s.kcu.test)

/-- R496: work that can wait is shed: PFW_N is asserted while SHED is 1. -/
def State.shedding (s : State) : Bool := s.pmc.pfw && (s.reg .pmcPfw).getLsbD 2

/-- R456: work reaches domain d: a clock-gated domain runs again (R453), and its idle time begins anew. -/
def State.touchDom (s : State) (d : Nat) : State :=
  let D := s.dom d
  s.setDom d { D with st := if D.st = .p1 then .p0 else D.st, idleSince := some s.tb.elapsed }

/-! ### Access errors (R389, R390) -/

/-- R389: an error bit set in HIF_ERR, with FN, and in the function's HIF_FN_ERR. -/
def State.err (s : State) (f bit : Nat) : State :=
  let w := (s.reg .hifErr &&& 0x7F) ||| put 1 bit ||| put f 8
  let s := s.setReg .hifErr 0 0 w
  { s with hif := { s.hif with fnErr := tset 0 s.hif.fnErr f (tget 0 s.hif.fnErr f ||| put 1 bit) } }

/-- R390: a register access that failed: the error bit and the offset. -/
def State.accessErr (s : State) (f : Nat) (bar2 : Bool) (off bit : Nat) : State :=
  (s.err f bit).setReg .hifErrAddr 0 0 (put off 0 ||| putB bar2 31)

/-! ### Interrupts and rings (R371 to R374, R378) -/

/-- R374: a vector signalled; a masked vector sets its pending bit. -/
def State.signal (s : State) (f vec : Nat) : State :=
  if !s.hif.unmasked.contains (32 * f + vec) then
    if s.hif.pending.contains (32 * f + vec) then s
    else { s with hif := { s.hif with pending := (32 * f + vec) :: s.hif.pending } }
  else s.emit (.irq f vec)

/-- R374: a ring's signal, when it has IRQ_EN, and its count begun afresh. -/
def State.ringSignal (s : State) (f r : Nat) : State :=
  let g := s.ring f r
  if g.irqEn then (s.setRing f r { g with unsignalled := 0 }).signal f g.vec else s

/-- R371, R374: a completion or record written: HEAD advances, and the ring signals at COUNT or at once on `now`. -/
def State.ringDone (s : State) (f r : Nat) (now : Bool) : State :=
  let g := s.ring f r
  let g' := { g with
    head := g.head + 1
    unsignalled := g.unsignalled + 1
    firstAt := if g.unsignalled = 0 then s.tb.elapsed else g.firstAt }
  let s := s.setRing f r g'
  if now || decide (g'.imodCount ≤ g'.unsignalled) then s.ringSignal f r else s

/-- R378: a ring stops with an error code; faults 3 to 5 also set DMA; the vector is signalled at once (R374). -/
def State.ringStop (s : State) (f r : Nat) (code : BitVec 3) : State :=
  let g := s.ring f r
  let s := s.setRing f r { g with stopped := true, err := code }
  let s := s.err f 6
  let s := if 3 ≤ code ∧ code ≤ 5 then s.err f 5 else s
  s.ringSignal f r

/-- R371: the phase of index i on a ring of 2^size slots, 1 on even passes. -/
def phase (i : Word) (size : Nat) : Bool := i.toNat / 2 ^ size % 2 == 0

/-- R8: the status codes of host commands. -/
inductive HStat where
  | ok | busy | absent | range | denied | state | integrity | descError | exhausted
deriving DecidableEq, Repr

/-- R8: the code of a status. -/
def HStat.code : HStat → Nat
  | .ok => 0 | .busy => 1 | .absent => 2 | .range => 3 | .denied => 4
  | .state => 5 | .integrity => 6 | .descError => 7 | .exhausted => 8

/-- R8: the status with a code. -/
def HStat.ofCode : Nat → HStat
  | 0 => .ok | 1 => .busy | 2 => .absent | 3 => .range | 4 => .denied
  | 5 => .state | 6 => .integrity | 7 => .descError | _ => .exhausted

/-- R375: the oldest slot of a ring that its unit still holds: fetched and neither completed nor withdrawn. -/
def Ring.front (g : Ring) : Option Fetched := g.fetched.find? (fun e => !e.withdrawn)

/-- R373: the ring without that slot. -/
def Ring.pop (g : Ring) : Ring := { g with fetched := g.fetched.eraseP (fun e => !e.withdrawn) }

/-- R373, R381: the slot now at the front starts when its descriptor has FENCE, every earlier one having completed. -/
def Ring.begin (g : Ring) (now : Nat) : Ring :=
  match g.front with
  | none => g
  | some e =>
    if (e.desc.getD 2 0).getLsbD 1 then
      { g with fetched := g.fetched.map (fun x => if x.idx = e.idx ∧ x.old = e.old ∧ x.withdrawn = false then { x with at_ := now } else x) }
    else g

/-- R375: descriptor bytes 48 to 63 of a completion. -/
def completionBytes (ph trunc : Bool) (st : HStat) (r0 r1 r2 : Nat) : Bytes :=
  [BitVec.ofNat 8 st.code, BitVec.ofNat 8 ((if ph then 1 else 0) + if trunc then 2 else 0), 0, 0]
    ++ leBytes r0 4 ++ leBytes r1 4 ++ leBytes r2 4

/-- R371, R374: the completion of the slot a ring's unit holds; a slot handed over before its ring was enabled anew has
its result written and moves no index (R372). -/
def State.complete (s : State) (f r : Nat) (st : HStat) (r0 : Nat := 0) (r1 : Nat := 0) (r2 : Nat := 0)
    (trunc : Bool := false) : State :=
  let g := s.ring f r
  match g.front with
  | none => s
  | some e =>
    let s := s.setRing f r (g.pop.begin s.tb.elapsed)
    let s := s.emit (.hostSlot f r e.idx (slice e.desc 0 48 ++ completionBytes (phase e.idx g.size) trunc st r0 r1 r2))
    if e.old then s else s.ringDone f r ((e.desc.getD 2 0).getLsbD 0)

/-- R374, R378: the slot a ring's unit holds completes and the ring stops: one signal covers both. -/
def State.completeStop (s : State) (f r : Nat) (st : HStat) (code : BitVec 3) : State :=
  let irq := (s.ring f r).irqEn
  let t := (s.setRing f r { s.ring f r with irqEn := false }).complete f r st
  (t.setRing f r { t.ring f r with irqEn := irq }).ringStop f r code

/-- R376, R379: a completion OK whose output goes to the descriptor's buffer, cut to LEN with TRUNC; RES0 is the bytes
written when `count` is set. -/
def State.completeOut (s : State) (f r : Nat) (outp : Bytes) (count : Bool) : State :=
  match (s.ring f r).front with
  | none => s
  | some e =>
    let len := leAt e.desc 16 3
    let data := outp.take len
    let s := s.emit (.dma (BitVec.ofNat 64 (leAt e.desc 8 8)) data)
    s.complete f r .ok (if count || decide (len < outp.length) then data.length else 0) 0 0 (decide (len < outp.length))

/-! ### Event counters (R471 to R475) -/

/-- R472: the event sources, by code. -/
inductive Src where
  | dropReason | trap | progDenied | restartLimit | pnDomainMix | redispatchDiverge | drainExtend
  | ctxMiss | maskStall | preempt | engineRetired | katFail | cutPoison | cutDiscard | cutLate
  | lneFcs | lneRunt | lneGiant | lneMacctl | lneTrainFail | tagOffRx | tagOffTx | tagOversize
  | wovRebuilt | wovUnrebuilt | wovUnsealed | wovHdrFail | wovResync | wovResyncBytes | wovPtrMismatch
  | reiInvalid | schNoPort | shedNeverFit | shedClosedWait | admPushout | admRefuse | qDropAdm | qDisabled
  | quiesceRx | mscCe | mscScrubCe | mscSuspectHit | mscTimeoutFail | mscLate | mscMirrorFix
  | wftSbErr | wftTrainFail | wftSeqFail | wftTagFail | wftResend | wftBudgetDrop | wftNoRoute | wftUTurn
  | wftLinkDrop | wftLateAck | hifLate
deriving DecidableEq, Repr

/-- R472: the code of a source. -/
def Src.code : Src → Nat
  | .dropReason => 1 | .trap => 2 | .progDenied => 3 | .restartLimit => 4 | .pnDomainMix => 5
  | .redispatchDiverge => 6 | .drainExtend => 7 | .ctxMiss => 8 | .maskStall => 9 | .preempt => 10
  | .engineRetired => 11 | .katFail => 12 | .cutPoison => 13 | .cutDiscard => 14 | .cutLate => 15
  | .lneFcs => 16 | .lneRunt => 17 | .lneGiant => 18 | .lneMacctl => 19 | .lneTrainFail => 20
  | .tagOffRx => 21 | .tagOffTx => 22 | .tagOversize => 23 | .wovRebuilt => 24 | .wovUnrebuilt => 25
  | .wovUnsealed => 26 | .wovHdrFail => 27 | .wovResync => 28 | .wovResyncBytes => 29 | .wovPtrMismatch => 30
  | .reiInvalid => 31 | .schNoPort => 32 | .shedNeverFit => 33 | .shedClosedWait => 34 | .admPushout => 35
  | .admRefuse => 36 | .qDropAdm => 37 | .qDisabled => 38 | .quiesceRx => 39 | .mscCe => 40 | .mscScrubCe => 41
  | .mscSuspectHit => 42 | .mscTimeoutFail => 43 | .mscLate => 44 | .mscMirrorFix => 45 | .wftSbErr => 46
  | .wftTrainFail => 47 | .wftSeqFail => 48 | .wftTagFail => 49 | .wftResend => 50 | .wftBudgetDrop => 51
  | .wftNoRoute => 52 | .wftUTurn => 53 | .wftLinkDrop => 54 | .wftLateAck => 55 | .hifLate => 56

/-- R479: the configuration of counter n after power-on reset. -/
def evcCfgReset (n : Nat) : EvcCfg := { src := if 1 ≤ n ∧ n ≤ 56 then n else 0 }

/-- R481: the configuration of counter n. -/
def State.evcCfg (s : State) (n : Nat) : EvcCfg := tget (evcCfgReset n) s.evc.cfg n

/-- R385: the unit codes. -/
inductive EvUnit where
  | hif | pmc | kcu | lc | tmu | bbx | evc | cvu | tb | lne | wft | wov | lmt | tag | sch | msc | shu | cie | at_ | ft
  | lks
deriving DecidableEq, Repr

/-- R385: the code of a unit. -/
def EvUnit.code : EvUnit → Nat
  | .hif => 1 | .pmc => 2 | .kcu => 3 | .lc => 4 | .tmu => 5 | .bbx => 6 | .evc => 7 | .cvu => 8 | .tb => 9
  | .lne => 10 | .wft => 11 | .wov => 12 | .lmt => 13 | .tag => 14 | .sch => 15 | .msc => 16 | .shu => 17
  | .cie => 18 | .at_ => 19 | .ft => 20 | .lks => 21

/-- R384: an event record written to the EVENT ring of a domain (domain 0's where that domain has none enabled), or
discarded and counted in LOST. -/
def State.event (s : State) (dom : Nat) (u : EvUnit) (code : Nat) (w0 : Nat := 0) (w1 : Nat := 0) (w2 : Nat := 0)
    (w3 : Nat := 0) : State :=
  let d := if s.fnExists dom && (s.ring dom 2).en then dom else 0
  let g := s.ring d 2
  if !g.en || g.stopped || g.head == g.tail then
    s.setRing d 2 { g with lost := if g.lost = 0xFFFF_FFFF then g.lost else g.lost + 1, overflow := true }
  else
    let body := leBytes code 2 ++ [BitVec.ofNat 8 u.code] ++ List.replicate 5 0 ++ leBytes s.now64.toNat 8
      ++ leBytes w0 8 ++ leBytes w1 8 ++ leBytes w2 8 ++ leBytes w3 8
    let flags := (if phase g.head g.size then 1 else 0) + (if g.overflow then 2 else 0)
    let s := s.emit (.hostSlot d 2 g.head (body ++ [0, BitVec.ofNat 8 flags] ++ List.replicate 14 0))
    (s.setRing d 2 { g with overflow := false }).ringDone d 2 false

/-- R475, R482: counter n reached its end: its flag, and EVC_OVERFLOW with IRQ. -/
def State.evcEnd (s : State) (n : Nat) : State :=
  let c := s.evcCfg n
  let s := { s with evc := { s.evc with ovf := if s.evc.ovf.contains n then s.evc.ovf else n :: s.evc.ovf } }
  if c.irq then s.event (if c.priv = 3 then c.dom else 0) .evc 1 n else s

/-- R475: an amount added to counter n, with wrap or saturation and the carries into the chained counters above it
(at most `fuel` of them). -/
def State.evcAdd (s : State) (n amount : Nat) : Nat → State
  | 0 => s
  | fuel + 1 =>
    let c := s.evcCfg n
    let old := tget 0 s.evc.cnt n
    let v := old + amount
    let top := 2 ^ 48 - 1
    let keep (x : Nat) : State := { s with evc := { s.evc with cnt := tset 0 s.evc.cnt n x } }
    if c.sat then
      if top ≤ v then (if old < top then (keep top).evcEnd n else keep top) else keep v
    else if v ≤ top then keep v
    else
      let s := (keep (v % 2 ^ 48)).evcEnd n
      if n + 1 < 4096 ∧ (s.evcCfg (n + 1)).chain = true then State.evcAdd s (n + 1) (v / 2 ^ 48) fuel else s

/-- R473: the filters of counter n pass an occurrence (a CHAIN counter takes none). -/
def EvcCfg.passes (c : EvcCfg) (src index dom master : Nat) (cls : Option Nat) : Bool :=
  c.src == src && !c.chain && decide (c.lo ≤ index ∧ index ≤ c.hi) && c.master.getLsbD master
    && (match cls with | none => true | some k => c.cls.getLsbD k)
    && (match c.priv with
        | 0 => true
        | 1 => dom == 0
        | 2 => decide (1 ≤ dom)
        | _ => dom == c.dom)

/-- R473: an occurrence added to every counter of a list whose filters pass. -/
def State.occurAll (s : State) (src index dom master : Nat) (cls : Option Nat) (amount : Nat) : List Nat → State
  | [] => s
  | n :: ns =>
    let s' := if (s.evcCfg n).passes src index dom master cls then s.evcAdd n amount 4096 else s
    State.occurAll s' src index dom master cls amount ns

/-- R471, R473: an occurrence of a source with its attributes, in every counter that selects it. -/
def State.occurWith (s : State) (src : Src) (index dom master : Nat) (cls : Option Nat) (amount : Nat) : State :=
  let listed := s.evc.cfg.map (fun e => e.1)
  let own := if listed.contains src.code then [] else [src.code]
  s.occurAll src.code index dom master cls amount (own ++ listed)

/-- R471: an occurrence that is about no pick: MASTER DEVICE, no class, DOMAIN 0 (HIF_LATE: the function). -/
def State.occur (s : State) (src : Src) (index : Nat) (amount : Nat := 1) : State :=
  s.occurWith src index (if src = .hifLate then index else 0) 5 none amount

/-- R471: the DOMAIN of a pick's current association, 0 when it has none. -/
def Pick.domain (p : Pick) : Nat :=
  match p.snap with
  | some sn => sn.entry.domain.toNat
  | none => 0

/-- R471: an occurrence about a pick. -/
def State.occurPick (s : State) (p : Pick) (src : Src) (index : Nat) : State :=
  s.occurWith src index p.domain p.src.toNat (some p.cls.toNat) 1

/-! ### Black box and tamper reports -/

/-- R444: a request joins the queue at its end, ahead of those of the same cycle whose UNIT is higher. -/
def enqueueReq (q : BbxReq) (l : List BbxReq) : List BbxReq :=
  let after := (l.reverse.takeWhile (fun x => x.cycle == q.cycle && decide (q.unit < x.unit))).length
  l.take (l.length - after) ++ q :: l.drop (l.length - after)

/-- R444: a record requested of the black box in this cycle (log entry 81); a full queue counts it in BBX_LOST. -/
def State.record (s : State) (q : BbxReq) : State :=
  if s.bbx.queue.length < 256 then
    { s with bbx := { s.bbx with queue := enqueueReq { q with cycle := some s.tb.elapsed } s.bbx.queue } }
  else { s with bbx := { s.bbx with lost := satTo 65535 (s.bbx.lost + 1) } }

/-- R443: a FAULT (or, `back`, a RECOVERY) record of a kind, index and fault code. -/
def State.faultRec (s : State) (back : Bool) (u : EvUnit) (kind index code : Nat) : State :=
  s.record { type := if back then 9 else 8, unit := u.code, p0 := BitVec.ofNat 64 kind, p1 := BitVec.ofNat 64 index,
             p2 := BitVec.ofNat 64 code }

/-- R421, R422: a tamper source fires into the running microsecond; a fused source never fires. -/
def State.fire (s : State) (src : Nat) : State :=
  if s.tmu.fuses.getLsbD src then s
  else
    let s := s.setTsrc src { s.tsrc src with latched := true }
    { s with tmu := { s.tmu with fired := if s.tmu.fired.contains src then s.tmu.fired else s.tmu.fired ++ [src] } }

/-! ### Draws and free values -/

/-- R399: one DRBG request of 256 bits. After 2^20 requests the DRBG reseeds before the next one; that this reseed's health
test fails is what DRBG_RESEED and DRBG_HEALTH_FAIL say (log entry 107). -/
def State.draw (s : State) : BitVec 256 × State :=
  (Config.drbg s.kcu.draws,
   { s with kcu := { s.kcu with
     draws := s.kcu.draws + 1, requests := if s.kcu.requests < 1048576 then s.kcu.requests + 1 else 1 } })

/-- 256 bits as 32 bytes, most significant first. -/
def bytes256 (v : BitVec 256) : Bytes := beBytes v.toNat 32

/-- The present draw number of a free value, and the state with it advanced. -/
def State.freeNo (s : State) : Nat × State := (s.free, { s with free := s.free + 1 })

/-- The next free word: bits whose value the spec does not state. -/
def State.freeBits (s : State) : DWord × State := (Config.freeWord s.free, { s with free := s.free + 1 })

/-- Free bytes: eight from each free word. -/
def State.freeBytes (s : State) : Nat → Bytes × State
  | 0 => ([], s)
  | k + 1 =>
    let r := s.freeBits
    let t := State.freeBytes r.2 k
    (leBytes r.1.toNat 8 ++ t.1, t.2)

end Sys2Proof.Machine
end

