-- ==== Sys2Proof/Machine/Crypto.lean ====
section
/-! DEFINITION. The ciphers, hashes and check values the spec names by their standards: AES, GCM, XTS, SHA-384, HMAC,
the counter-mode KDF, ECDSA P-384, and the CRC of R483. PRESUMED from those standards (log entry 9): the spec names
them and does not restate them. -/

namespace Sys2Proof.Machine

/-! ### Check values (R483 to R485) -/

/-- The low w bits of a number reversed. -/
def bitRev (w v : Nat) : Nat :=
  (List.range w).foldl (fun r i => if v.testBit i then r ||| (1 <<< (w - 1 - i)) else r) 0

/-- R483: one bit shifted out of a CRC register of w bits. -/
def crcShift (w poly : Nat) (r : Nat) : Nat :=
  if r.testBit (w - 1) then ((r <<< 1) ^^^ poly) % 2 ^ w else (r <<< 1) % 2 ^ w

/-- R483: one byte fed into a CRC register of w bits. -/
def crcByte (w poly : Nat) (refin : Bool) (r : Nat) (b : Byte) : Nat :=
  let v := if refin then bitRev 8 b.toNat else b.toNat
  (List.range 8).foldl (fun r _ => crcShift w poly r) (r ^^^ (v <<< (w - 8)))

/-- R483, R486: bytes fed into a check-value context. -/
def CrcCtx.feed (c : CrcCtx) (bs : Bytes) : CrcCtx :=
  { c with reg := BitVec.ofNat 32 (bs.foldl (crcByte (8 * c.w) c.poly.toNat c.refin) c.reg.toNat) }

/-- R483: the finished value: reflected when REFOUT is 1, XOR XOROUT. -/
def CrcCtx.value (c : CrcCtx) : Nat :=
  (if c.refout then bitRev (8 * c.w) c.reg.toNat else c.reg.toNat) ^^^ c.xorout.toNat

/-- R485: the check value as stored in a frame. -/
def CrcCtx.stored (c : CrcCtx) : Bytes := if c.refout then leBytes c.value c.w else beBytes c.value c.w

/-- R484: the context of profile 0, the IEEE 802.3 FCS. -/
def crcProfile0 : CrcCtx := {}

/-- R484: the frame check sequence of a frame, as sent. -/
def fcs (bs : Bytes) : Bytes := (crcProfile0.feed bs).stored

/-- R15, R484: the poisoned FCS: the value inverted. -/
def poisonedFcs (bs : Bytes) : Bytes := (fcs bs).map (fun b => ~~~b)

/-! ### AES (FIPS 197, PRESUMED) -/

/-- Multiplication by x in GF(2^8). -/
def xtime (b : Byte) : Byte := (b <<< 1) ^^^ (if b.getLsbD 7 then 0x1B else 0)

/-- Multiplication in GF(2^8). -/
def gmul (a b : Byte) : Byte :=
  ((List.range 8).foldl (fun (acc : Byte × Byte) i =>
    (if b.getLsbD i then acc.1 ^^^ acc.2 else acc.1, xtime acc.2)) (0, a)).1

/-- The S-box as one number: the value for byte a stands at bits 8a + 7 to 8a. -/
def sboxTable : Nat :=
  0x16bb54b00f2d99416842e6bf0d89a18cdf2855cee9871e9b948ed9691198f8e19e1dc186b95735610ef6034866b53e708a8bbd4b1f74dde8c6b4a61c2e2578ba08ae7a65eaf4566ca94ed58d6d37c8e779e4959162acd3c25c2406490a3a32e0db0b5ede14b8ee4688902a22dc4f816073195d643d7ea7c41744975fec130ccdd2f3ff1021dab6bcf5389d928f40a351a89f3c507f02f94585334d43fbaaefd0cf584c4a39becb6a5bb1fc20ed00d153842fe329b3d63b52a05a6e1b1a2c830975b227ebe28012079a059618c323c7041531d871f1e5a534ccf73f362693fdb7c072a49cafa2d4adf04759fa7dc982ca76abd7fe2b670130c56f6bf27b777c63

/-- The inverse S-box, in the same form. -/
def isboxTable : Nat :=
  0x7d0c2155631469e126d677ba7e042b17619953833cbbebc8b0f52aae4d3be0a0ef9cc9939f7ae52d0d4ab519a97f51605fec8027591012b131c7078833a8dd1ff45acd78fec0db9a2079d2c64b3e56fc1bbe18aa0e62b76f89c5291d711af1476edf751ce837f9e28535ade72274ac9673e6b4f0cecff297eadc674f4111913a6b8a130103bdafc1020f3fca8f1e2cd00645b3b80558e4f70ad3bc8c00abd890849d8da75746155edab9edfd5048706c92b6655dcc5ca4d41698688664f6f87225d18b6d49a25b76b224d92866a12e084ec3fa420b954cee3d23c2a632947b54cbe9dec444438e3487ff2f9b8239e37cfbd7f3819ea340bf38a53630d56a0952

/-- The S-box. -/
def sbox (a : Byte) : Byte := BitVec.ofNat 8 (sboxTable >>> (8 * a.toNat))

/-- The inverse S-box. -/
def isbox (a : Byte) : Byte := BitVec.ofNat 8 (isboxTable >>> (8 * a.toNat))

/-- Bytewise exclusive or, to the shorter length. -/
def xorBytes (a b : Bytes) : Bytes := List.zipWith (· ^^^ ·) a b

/-- The key schedule: n words of 4 bytes, newest first while it grows, for a key of nk words. -/
def keyWords (nk : Nat) (key : Bytes) : Nat → List Bytes
  | 0 => []
  | i + 1 =>
    let ws := keyWords nk key i
    if i < nk then slice key (4 * i) 4 :: ws
    else
      let prev := ws.headD []
      let old := ws.getD (nk - 1) []
      let t :=
        if i % nk = 0 then
          let rot := prev.drop 1 ++ prev.take 1
          let rc := (List.range (i / nk - 1)).foldl (fun r _ => xtime r) 1
          xorBytes (rot.map sbox) [rc, 0, 0, 0]
        else if 6 < nk ∧ i % nk = 4 then prev.map sbox
        else prev
      xorBytes old t :: ws

/-- The round keys of a key, 16 bytes each, first round first. -/
def roundKeys (key : Bytes) : List Bytes :=
  let nk := key.length / 4
  let ws := (keyWords nk key (4 * (nk + 7))).reverse
  (List.range (nk + 7)).map (fun r => (ws.drop (4 * r)).take 4 |>.flatten)

/-- ShiftRows on a state held column by column. -/
def shiftRows (st : Bytes) : Bytes := (List.range 16).map (fun i => st.getD ((i + 4 * (i % 4)) % 16) 0)

/-- The inverse of ShiftRows. -/
def ishiftRows (st : Bytes) : Bytes := (List.range 16).map (fun i => st.getD ((i + 16 - 4 * (i % 4)) % 16) 0)

/-- MixColumns: each byte is twice itself and three times the next, with the two after that. -/
def mixColumns (st : Bytes) : Bytes :=
  (List.range 16).map (fun i =>
    let a (k : Nat) : Byte := st.getD (i / 4 * 4 + (i + k) % 4) 0
    xtime (a 0 ^^^ a 1) ^^^ a 1 ^^^ a 2 ^^^ a 3)

/-- The inverse of MixColumns. -/
def imixColumns (st : Bytes) : Bytes :=
  (List.range 16).map (fun i =>
    (List.range 4).foldl (fun acc k =>
      acc ^^^ gmul ([14, 11, 13, 9].getD ((k + 4 - i % 4) % 4) 0) (st.getD (i / 4 * 4 + k) 0)) 0)

/-- AES encryption of one 16-byte block under the round keys. -/
def aesEnc (rks : List Bytes) (blk : Bytes) : Bytes :=
  let st := xorBytes blk (rks.headD [])
  let mid := (rks.drop 1).dropLast.foldl (fun st rk => xorBytes (mixColumns (shiftRows (st.map sbox))) rk) st
  xorBytes (shiftRows (mid.map sbox)) (rks.getLastD [])

/-- AES decryption of one 16-byte block under the round keys. -/
def aesDec (rks : List Bytes) (blk : Bytes) : Bytes :=
  let st := xorBytes blk (rks.getLastD [])
  let mid := (rks.drop 1).dropLast.reverse.foldl
    (fun st rk => imixColumns (xorBytes ((ishiftRows st).map isbox) rk)) st
  xorBytes ((ishiftRows mid).map isbox) (rks.headD [])

/-! ### GCM (NIST SP 800-38D, PRESUMED) -/

/-- Multiplication in GF(2^128), bit 0 of the standard's strings being the most significant. -/
def gfMul (x y : BitVec 128) : BitVec 128 :=
  ((List.range 128).foldl (fun (acc : BitVec 128 × BitVec 128) i =>
    let z := if x.getMsbD i then acc.1 ^^^ acc.2 else acc.1
    let v := if acc.2.getLsbD 0 then (acc.2 >>> 1) ^^^ 0xE1000000000000000000000000000000#128 else acc.2 >>> 1
    (z, v)) (0, y)).1

/-- Bytes cut into blocks of 16, the last one short; `fuel` bounds the blocks. -/
def blocks16 (bs : Bytes) : Nat → List Bytes
  | 0 => []
  | n + 1 => if bs.isEmpty then [] else bs.take 16 :: blocks16 (bs.drop 16) n

/-- All the blocks of a byte string. -/
def blocksOf (bs : Bytes) : List Bytes := blocks16 bs (bs.length / 16 + 1)

/-- GHASH over zero-padded authenticated data, zero-padded ciphertext and their lengths. -/
def ghash (h : BitVec 128) (aad ct : Bytes) : BitVec 128 :=
  let blks := blocksOf aad ++ blocksOf ct ++ [beBytes (8 * aad.length) 8 ++ beBytes (8 * ct.length) 8]
  blks.foldl (fun y b => gfMul (y ^^^ BitVec.ofNat 128 (beNat (slice b 0 16))) h) 0

/-- Counter mode from a counter block number on, J0 being iv ‖ n. -/
def ctrFrom (rks : List Bytes) (iv : Bytes) (n : Nat) : List Bytes → Bytes
  | [] => []
  | b :: bs => xorBytes b (aesEnc rks (iv ++ beBytes n 4)) ++ ctrFrom rks iv (n + 1) bs

/-- The GCM tag of authenticated data and ciphertext. -/
def gcmTag (rks : List Bytes) (iv aad ct : Bytes) : Bytes :=
  let h := BitVec.ofNat 128 (beNat (aesEnc rks (List.replicate 16 0)))
  xorBytes (beBytes (ghash h aad ct).toNat 16) (aesEnc rks (iv ++ [0, 0, 0, 1]))

/-- R161: GCM encryption with a 96-bit IV: ciphertext and 16-byte tag. -/
def gcmSeal (key iv aad pt : Bytes) : Bytes × Bytes :=
  let rks := roundKeys key
  let ct := ctrFrom rks iv 2 (blocksOf pt)
  (ct, gcmTag rks iv aad ct)

/-- R161: GCM decryption: the plaintext, and whether the tag agrees. -/
def gcmOpen (key iv aad ct tag : Bytes) : Bytes × Bool :=
  let rks := roundKeys key
  (ctrFrom rks iv 2 (blocksOf ct), gcmTag rks iv aad ct == tag)

/-! ### XTS (IEEE 1619-2018, PRESUMED) -/

/-- The tweak multiplied by x, bytes little-endian. -/
def xtsDouble (t : Bytes) : Bytes :=
  let v := 2 * leNat t
  leBytes ((v % 2 ^ 128) ^^^ (if 2 ^ 128 ≤ v then 0x87 else 0)) 16

/-- One XTS block. -/
def xtsBlock (enc : Bool) (rks : List Bytes) (t b : Bytes) : Bytes :=
  xorBytes (if enc then aesEnc rks (xorBytes b t) else aesDec rks (xorBytes b t)) t

/-- The blocks of a data unit with ciphertext stealing on a short last one. -/
def xtsBlocks (enc : Bool) (rks : List Bytes) (t : Bytes) : List Bytes → Bytes
  | [] => []
  | [b] => xtsBlock enc rks t b
  | [b, l] =>
    if l.length = 16 then xtsBlock enc rks t b ++ xtsBlock enc rks (xtsDouble t) l
    else if enc then
      let cc := xtsBlock true rks t b
      xtsBlock true rks (xtsDouble t) (l ++ cc.drop l.length) ++ cc.take l.length
    else
      let pp := xtsBlock false rks (xtsDouble t) b
      xtsBlock false rks t (l ++ pp.drop l.length) ++ pp.take l.length
  | b :: b' :: bs => xtsBlock enc rks t b ++ xtsBlocks enc rks (xtsDouble t) (b' :: bs)

/-- R180: one data unit under a 64-byte key (data key, tweak key) and unit number. -/
def xtsUnit (enc : Bool) (key : Bytes) (unit : Nat) (bs : Bytes) : Bytes :=
  xtsBlocks enc (roundKeys (slice key 0 32)) (aesEnc (roundKeys (slice key 32 32)) (leBytes unit 16)) (blocksOf bs)

/-- R180: a job of data units of a size, numbered from the first; `n` bounds the units. -/
def xtsJob (enc : Bool) (key : Bytes) (size first : Nat) (bs : Bytes) : Nat → Bytes
  | 0 => []
  | n + 1 =>
    if bs.isEmpty then [] else xtsUnit enc key first (bs.take size) ++ xtsJob enc key size (first + 1) (bs.drop size) n

/-! ### SHA-384, HMAC and the KDF (FIPS 180-4, FIPS 198-1, NIST SP 800-108, PRESUMED) -/

/-- The first n primes, by trial. -/
def primesUpTo (n : Nat) : List Nat :=
  (List.range n).filter (fun p => 2 ≤ p && (List.range p).all (fun d => d < 2 || p % d != 0))

/-- The integer cube root, by bits below 2^k. -/
def icbrt (v : Nat) : Nat → Nat → Nat
  | 0, r => r
  | k + 1, r => let c := r + 2 ^ k; icbrt v k (if c * c * c ≤ v then c else r)

/-- The integer square root, by bits below 2^k. -/
def isqrt (v : Nat) : Nat → Nat → Nat
  | 0, r => r
  | k + 1, r => let c := r + 2 ^ k; isqrt v k (if c * c ≤ v then c else r)

/-- The 80 round constants: the first 64 bits of the fractions of the cube roots of the first 80 primes. -/
def shaK : List (BitVec 64) :=
  (primesUpTo 410).map (fun p => BitVec.ofNat 64 (icbrt (p * 2 ^ 192) 68 0))

/-- The initial hash of SHA-384: the fractions of the square roots of the 9th to 16th primes. -/
def sha384Init : List (BitVec 64) :=
  ((primesUpTo 54).drop 8).map (fun p => BitVec.ofNat 64 (isqrt (p * 2 ^ 128) 68 0))

/-- The padded message in blocks of 128 bytes; `n` bounds the blocks. -/
def shaBlocks (bs : Bytes) : Nat → List Bytes
  | 0 => []
  | n + 1 => if bs.isEmpty then [] else bs.take 128 :: shaBlocks (bs.drop 128) n

/-- Padding of SHA-384. -/
def shaPad (bs : Bytes) : Bytes :=
  let l := bs.length
  bs ++ [0x80] ++ List.replicate ((128 + 111 - l % 128) % 128) 0 ++ beBytes (8 * l) 16

/-- The message schedule grown by n words, newest first. -/
def shaSched (w : List (BitVec 64)) : Nat → List (BitVec 64)
  | 0 => w
  | n + 1 =>
    let w' := shaSched w n
    let x := w'.getD 14 0
    let y := w'.getD 1 0
    let s0 := x.rotateRight 1 ^^^ x.rotateRight 8 ^^^ (x >>> 7)
    let s1 := y.rotateRight 19 ^^^ y.rotateRight 61 ^^^ (y >>> 6)
    (w'.getD 15 0 + s0 + w'.getD 6 0 + s1) :: w'

/-- One round of SHA-384 on the eight working words. -/
def shaRound (st : List (BitVec 64)) (kw : BitVec 64 × BitVec 64) : List (BitVec 64) :=
  match st with
  | [a, b, c, d, e, f, g, h] =>
    let s1 := e.rotateRight 14 ^^^ e.rotateRight 18 ^^^ e.rotateRight 41
    let ch := (e &&& f) ^^^ (~~~e &&& g)
    let t1 := h + s1 + ch + kw.1 + kw.2
    let s0 := a.rotateRight 28 ^^^ a.rotateRight 34 ^^^ a.rotateRight 39
    let maj := (a &&& b) ^^^ (a &&& c) ^^^ (b &&& c)
    [t1 + s0 + maj, a, b, c, d + t1, e, f, g]
  | _ => st

/-- One block of SHA-384. -/
def shaBlock (h : List (BitVec 64)) (blk : Bytes) : List (BitVec 64) :=
  let w0 := (List.range 16).map (fun i => BitVec.ofNat 64 (beNat (slice blk (8 * i) 8)))
  let w := (shaSched w0.reverse 64).reverse
  List.zipWith (· + ·) h ((shaK.zip w).foldl shaRound h)

/-- SHA-384. -/
def sha384 (bs : Bytes) : Bytes :=
  let p := shaPad bs
  let h := (shaBlocks p (p.length / 128 + 1)).foldl shaBlock sha384Init
  (h.take 6).flatMap (fun w => beBytes w.toNat 8)

/-- HMAC with SHA-384. -/
def hmac384 (key msg : Bytes) : Bytes :=
  let k0 := slice (if 128 < key.length then sha384 key else key) 0 128
  sha384 (k0.map (· ^^^ 0x5C) ++ sha384 (k0.map (· ^^^ 0x36) ++ msg))

/-- The counter-mode KDF of SP 800-108: n bytes from a key, a label and a context, the counter and length 32 bits. -/
def kdf384 (key label ctx : Bytes) (n : Nat) : Bytes :=
  ((List.range ((n + 47) / 48)).flatMap (fun i =>
    hmac384 key (beBytes (i + 1) 4 ++ label ++ [0] ++ ctx ++ beBytes (8 * n) 4))).take n

/-! ### The root secret (R397) -/

/-- The bytes of a label. -/
def ascii (l : String) : Bytes := l.toList.map (fun c => BitVec.ofNat 8 c.toNat)

/-- R396, R397: a key derived from the root secret under a label. -/
def rootKey (label : String) (n : Nat) : Bytes := kdf384 (beBytes Config.rootSecret.toNat 32) (ascii label) [] n

/-! ### ECDSA P-384 (FIPS 186-5, PRESUMED) -/

/-- The field prime of P-384. -/
def p384P : Nat := 2 ^ 384 - 2 ^ 128 - 2 ^ 96 + 2 ^ 32 - 1

/-- The order of P-384. -/
def p384N : Nat :=
  0xFFFFFFFFFFFFFFFFFFFFFFFFFFFFFFFFFFFFFFFFFFFFFFFFC7634D81F4372DDF581A0DB248B0A77AECEC196ACCC52973

/-- The coefficient b of P-384. -/
def p384B : Nat :=
  0xB3312FA7E23EE7E4988E056BE3F82D19181D9C6EFE8141120314088F5013875AC656398D8A2ED19D2A85C8EDD3EC2AEF

/-- A point of P-384, none at infinity. -/
abbrev Point := Option (Nat × Nat)

/-- The base point of P-384. -/
def p384G : Point := some (
  0xAA87CA22BE8B05378EB1C71EF320AD746E1D3B628BA79B9859F741E082542A385502F25DBF55296C3A545E3872760AB7,
  0x3617DE4A96262C6F5D9E98BF9292DC29F8F41DBD289A147CE9DA3113B5F0B8C00A60B1CE1D7E819D7A431D7C90EA0E5F)

/-- Powers modulo m by the low k bits of the exponent. -/
def powMod (m b e : Nat) : Nat → Nat
  | 0 => 1 % m
  | k + 1 =>
    let r := powMod m b (e / 2) k
    let r2 := r * r % m
    if e % 2 = 1 then r2 * b % m else r2

/-- The inverse modulo a prime of 384 bits. -/
def invMod (m a : Nat) : Nat := powMod m (a % m) (m - 2) 384

/-- Addition of points of P-384. -/
def ecAdd : Point → Point → Point
  | none, q => q
  | p, none => p
  | some (x1, y1), some (x2, y2) =>
    let p := p384P
    if x1 = x2 ∧ (y1 + y2) % p = 0 then none
    else
      let l := if x1 = x2 then (3 * x1 * x1 + (p - 3)) * invMod p (2 * y1) % p
               else (y2 + p - y1) * invMod p (x2 + p - x1) % p
      let x3 := (l * l + 2 * p - x1 - x2) % p
      some (x3, (l * (x1 + p - x3) + p - y1) % p)

/-- A multiple of a point by the low k bits of a scalar. -/
def ecMul (n : Nat) (g : Point) : Nat → Point
  | 0 => none
  | k + 1 =>
    let h := ecMul (n / 2) g k
    let d := ecAdd h h
    if n % 2 = 1 then ecAdd d g else d

/-- A public key from 96 bytes x ‖ y, if the point lies on the curve. -/
def pointOf (bs : Bytes) : Point :=
  let x := beNat (slice bs 0 48)
  let y := beNat (slice bs 48 48)
  if x < p384P ∧ y < p384P ∧ y * y % p384P = (x * x * x + (p384P - 3) * x + p384B) % p384P then some (x, y) else none

/-- A point as 96 bytes x ‖ y. -/
def pointBytes : Point → Bytes
  | none => List.replicate 96 0
  | some (x, y) => beBytes x 48 ++ beBytes y 48

/-- The public key of a private key. -/
def publicOf (d : Nat) : Bytes := pointBytes (ecMul d p384G 384)

/-- R112: an ECDSA P-384 signature r ‖ s over a digest verifies under a 96-byte public key. -/
def ecdsaVerify (pub digest sig : Bytes) : Bool :=
  let r := beNat (slice sig 0 48)
  let s := beNat (slice sig 48 48)
  match pointOf pub with
  | none => false
  | some q =>
    if r = 0 ∨ p384N ≤ r ∨ s = 0 ∨ p384N ≤ s then false
    else
      let w := invMod p384N s
      let z := beNat (slice digest 0 48)
      match ecAdd (ecMul (z * w % p384N) p384G 384) (ecMul (r * w % p384N) (some q) 384) with
      | none => false
      | some (x, _) => x % p384N == r

/-- R416, R447: the ECDSA P-384 signature r ‖ s of a digest by a private key, with a nonce. -/
def ecdsaSign (d : Nat) (digest : Bytes) (nonce : Nat) : Bytes :=
  let k := nonce % (p384N - 1) + 1
  let r := match ecMul k p384G 384 with
    | none => 0
    | some (x, _) => x % p384N
  let z := beNat (slice digest 0 48)
  beBytes r 48 ++ beBytes (invMod p384N k * (z + r * d) % p384N) 48

/-- R344: the ECDH shared secret of a private key and a peer's public key: the x coordinate. -/
def ecdh (d : Nat) (pub : Bytes) : Option Bytes :=
  match ecMul d (pointOf pub) 384 with
  | none => none
  | some (x, _) => some (beBytes x 48)

end Sys2Proof.Machine
end

