-- ==== Sys2Proof/Machine/Operands.lean ====
section
/-! DEFINITION. The operand forms of Ezgus (R60 to R62): how an instruction word is made up, how registers, the frame
window and the pick record are read and written, how an instruction issues or stalls, and how a trap and a drop are
taken. -/

namespace Sys2Proof.Machine

/-! ### Instruction words (R60) -/

/-- R60: format A. -/
def encA (op : Nat) (d a b : Reg) (func : Nat) : Word :=
  put op 26 ||| put d.toNat 21 ||| put a.toNat 16 ||| put b.toNat 11 ||| put func 0

/-- R60: format I. -/
def encI (op : Nat) (d a : Reg) (imm : BitVec 16) : Word :=
  put op 26 ||| put d.toNat 21 ||| put a.toNat 16 ||| put imm.toNat 0

/-- R60: format B. -/
def encB (op : Nat) (a b : Reg) (off : BitVec 16) : Word :=
  put op 26 ||| put a.toNat 21 ||| put b.toNat 16 ||| put off.toNat 0

/-- R60: `jal`, the I layout with a 21-bit offset. -/
def encJ (d : Reg) (off : BitVec 21) : Word := put 0x16 26 ||| put d.toNat 21 ||| put off.toNat 0

/-- R60: format W. -/
def encW (op : Nat) (d a : Reg) (size : BitVec 2) (sub : BitVec 4) (off : BitVec 10) : Word :=
  put op 26 ||| put d.toNat 21 ||| put a.toNat 16 ||| put size.toNat 14 ||| put sub.toNat 10 ||| put off.toNat 0

/-- R60: format U. -/
def encU (op : Nat) (d a b : Reg) (usub : Nat) (imm : BitVec 6) : Word :=
  put op 26 ||| put d.toNat 21 ||| put a.toNat 16 ||| put b.toNat 11 ||| put usub 6 ||| put imm.toNat 0

/-- R63, R64: a word that no instruction has: a reserved opcode, func or unit-sub. -/
def reservedWord (w : Word) : Bool :=
  let op := fld w 26 6
  let func := fld w 0 11
  let usub := fld w 6 5
  if op = 0 then decide (0x13 ≤ func)
  else if op = 0x17 then func != 0
  else if (0x09 ≤ op ∧ op ≤ 0x0F) ∨ 0x32 ≤ op then true
  else if op = 0x20 then decide (3 ≤ usub)
  else if op = 0x21 ∨ op = 0x22 ∨ op = 0x2D then decide (2 ≤ usub)
  else if op = 0x25 then decide (4 ≤ usub)
  else if 0x23 ≤ op then usub != 0
  else false

/-! ### Registers of a bobbin (R46 to R48) -/

/-- R46: g0 reads 0. -/
def Bobbin.rd (B : Bobbin) (r : Reg) : DWord := if r = 0 then 0 else tget 0 B.g r.toNat

/-- R46: g0 ignores writes. -/
def Bobbin.wr (B : Bobbin) (r : Reg) (v : DWord) : Bobbin :=
  if r = 0 then B else { B with g := tset 0 B.g r.toNat v }

/-- R46, R48: a register's scoreboard bit; g0's is always 0. -/
def Bobbin.busy (B : Bobbin) (r : Reg) : Bool := r != 0 && B.sb.getLsbD r.toNat

/-- R47: an asynchronous instruction issued at an elapsed time: its operation pends and its register's bit is set. -/
def Bobbin.pendOn (B : Bobbin) (d : Reg) (op : AsyncOp) (now : Nat) : Bobbin :=
  { B with
    sb := if d = 0 then B.sb else B.sb ||| put 1 d.toNat
    pend := B.pend ++ [{ d := d, op := op, pc := B.pc, at_ := now }] }

/-- R47: a unit completes: the result is written and the bit clears. -/
def Bobbin.finish (B : Bobbin) (d : Reg) (v : DWord) : Bobbin :=
  { B.wr d v with sb := B.sb &&& ~~~(put 1 d.toNat) }

/-- R49: a result with its status code in bits [63:56]. -/
def withStatus (v : Nat) (st : Nat) : DWord := BitVec.ofNat 64 (v % 2 ^ 56 + st * 2 ^ 56)

/-- R69: the instructions a bobbin may issue for its pick. -/
def State.budget (s : State) (B : Bobbin) : Nat := s.field .shuBudget 0 0 16 + if B.raised then 256 else 0

/-- R118: the cluster of a bobbin. -/
def clusterOf (b : Nat) : Nat := b / 128

/-- R63: the word at a bobbin's program counter, if the card holds one there. -/
def State.fetchWord (s : State) (b : Nat) : Option Word :=
  match (s.clu (clusterOf b)).card with
  | none => none
  | some c => c.words[(s.bob b).pc]?

/-- R55, R101: the pick record of a bobbin's pick, running or ended. -/
def State.bobPick (s : State) (b : Nat) : Option Pick :=
  match (s.bob b).left with
  | some k => some k
  | none =>
    match (s.bob b).pick with
    | none => none
    | some p => s.pick p

/-- R55: the record of a running pick changed. -/
def State.updPick (s : State) (b : Nat) (f : Pick → Pick) : State :=
  match (s.bob b).pick with
  | none => s
  | some p =>
    match s.pick p with
    | none => s
    | some k => s.setPick p (f k)

/-! ### Beam store cells (R123) -/

/-- R123: the cells of a frame of len bytes. -/
def cellsFor (len : Nat) : Nat := (len + 64 + 127) / 128

/-- R123: cells a queue's frames hold beside its picks. -/
def QItem.cells : QItem → Nat
  | .held f => cellsFor f.frame.length
  | _ => 0

/-- R123: cells of a frame on a port that is no pick any more. -/
def Port.cells (p : Port) : Nat :=
  match p.tx with
  | some t => if t.pick.isNone then cellsFor t.bytes.length else 0
  | none => 0

/-- R31, R124: picks that have left their slots' table but whose records or copies still wait for a slot of a PUNT ring, each
once: they keep their slot and all their cells until the last of these is written. -/
def State.waitingPicks (s : State) : List Pick :=
  ((s.beam.puntWait.map PuntRec.k).filter (fun k => !s.beam.picks.any (fun e => e.2.born == k.born))).foldr
    (fun k ks => if ks.any (fun x => x.born == k.born) then ks else k :: ks) []

/-- R123: cells in use: by picks, by copies and returned frames in queues and on ports (R106, R281), by picks whose records
wait for a buffer slot (R31), and by frames in transit on weft ports (R352). -/
def State.cellsUsed (s : State) : Nat :=
  s.beam.picks.foldl (fun n e => n + e.2.cells) 0
    + s.waitingPicks.foldl (fun n k => n + k.cells) 0
    + s.sch.queues.foldl (fun n e => n + e.2.fifo.foldl (fun m i => m + i.cells) 0) 0
    + s.sch.ports.foldl (fun n e => n + e.2.cells) 0
    + s.wov.groups.foldl (fun n e => n + (match e.2.ready with | some i => i.cells | none => 0)) 0
    + s.weft.foldl (fun n e => n + e.2.wait.foldl (fun m f => m + f.cells) 0
        + e.2.unacked.foldl (fun m f => m + f.cells) 0 + e.2.resend.foldl (fun m f => m + f.cells) 0) 0

/-- R123: frames on weft ports, each with a pick slot (R352). -/
def Weft.frames (w : Weft) : List WFrame := w.wait ++ w.unacked ++ w.resend

/-- R31, R123, R124, R352: pick slots in use; a record that waits keeps the slot of its pick. -/
def State.slotsUsed (s : State) : Nat :=
  s.beam.picks.length + s.waitingPicks.length + s.weft.foldl (fun n e => n + e.2.frames.length) 0

/-- R123: all pick slots. -/
def slotsTotal : Nat := 131072

/-- R123: all frame cells. -/
def cellsTotal : Nat := 458752

/-- R123: free cells. -/
def State.cellsFree (s : State) : Nat := cellsTotal - s.cellsUsed

/-! ### Window and record (R51 to R56) -/

/-- R51: one byte of the frame at a window offset, 0 outside the frame. -/
def Pick.winByte (k : Pick) (x : Int) : Byte :=
  if k.woff.toInt ≤ x then k.frame.getD (x - k.woff.toInt).toNat 0 else 0

/-- R51: bytes from a window offset up. -/
def Pick.winBytes (k : Pick) (x : Int) (n : Nat) : Bytes := (List.range n).map (fun i => k.winByte (x + i))

/-- R123: the working-copy cells that a change of window offsets lo to hi touches and that are not yet taken. -/
def Pick.newCells (k : Pick) (lo hi : Int) : List Nat :=
  if hi < lo then []
  else
    let c0 := ((lo + 64) / 128).toNat
    let c1 := ((hi + 64) / 128).toNat
    ((List.range (c1 + 1 - c0)).map (· + c0)).filter (fun c => !k.copied.contains c)

/-- R54, R62: bytes as a value, network order unless `le`. -/
def bytesVal (le : Bool) (bs : Bytes) : Nat := if le then leNat bs else beNat bs

/-- R61, R62: a value of n bytes, zero-extended, or sign-extended when `sext`. -/
def extendTo64 (sext : Bool) (n v : Nat) : DWord :=
  if sext && decide (2 ^ (8 * n - 1) ≤ v) then BitVec.ofNat 64 (v + 2 ^ 64 - 2 ^ (8 * n)) else BitVec.ofNat 64 v

/-- R61: effective offset of format W. -/
def effOffset (B : Bobbin) (a : Reg) (off : BitVec 10) : Int := (B.rd a + off.signExtend 64).toInt

/-- R62: bytes of a size code. -/
def sizeBytes (size : BitVec 2) : Nat := 2 ^ size.toNat

/-- R55: the 64 bytes of a pick record. -/
def Pick.record (k : Pick) : Bytes :=
  leBytes k.seq.toNat 4
    ++ leBytes (k.odom.toNat + k.src.toNat * 2 ^ 12 + k.port.toNat * 2 ^ 16 + k.cls.toNat * 2 ^ 24) 4
    ++ leBytes (k.frame.length % 2 ^ 16 + k.woff.toNat * 2 ^ 16) 4
    ++ leBytes (k.assoc.toNat + (if k.slot then 2 ^ 24 else 0) + k.kn.toNat * 2 ^ 25 + k.astat.toNat * 2 ^ 27) 4
    ++ leBytes (k.queue.toNat + k.color.toNat * 2 ^ 14 + k.disp.toNat * 2 ^ 16 + k.reason.toNat * 2 ^ 20) 4
    ++ leBytes k.gen.toNat 4
    ++ leBytes k.pn.toNat 8 ++ leBytes k.arrival.toNat 8
    ++ leBytes k.u0.toNat 8 ++ leBytes k.u1.toNat 8 ++ leBytes k.u2.toNat 8

/-- R55: a byte of the record that holds an RW bit: class, queue, pn, u0 to u2. -/
def recordRW (i : Nat) : Bool :=
  i == 7 || i == 16 || i == 17 || (decide (24 ≤ i) && decide (i < 32)) || (decide (40 ≤ i) && decide (i < 64))

/-- R56: the record with bytes written from offset e: only RW bits change. -/
def Pick.store (k : Pick) (e : Nat) (bs : Bytes) : Pick :=
  let r := patch k.record e bs
  { k with
    cls := BitVec.ofNat 3 (r.getD 7 0).toNat
    queue := BitVec.ofNat 14 (leAt r 16 2)
    pn := BitVec.ofNat 64 (leAt r 24 8)
    u0 := BitVec.ofNat 64 (leAt r 40 8)
    u1 := BitVec.ofNat 64 (leAt r 48 8)
    u2 := BitVec.ofNat 64 (leAt r 56 8) }

/-! ### Slot references (R139) and engine jobs of a pick -/

/-- R139: a reference to a slot added or, with `up` false, given back. -/
def State.refSlot (s : State) (i : BitVec 24) (slotB up : Bool) : State :=
  let k := 2 * i.toNat + if slotB then 1 else 0
  let n := tget 0 s.tab.refs k
  { s with tab := { s.tab with refs := tset 0 s.tab.refs k (if up then n + 1 else n - 1) } }

/-- R161: an engine left without a running job resumes its highest suspended one. -/
def resumeOn (e : Nat) (jobs : List Job) : List Job :=
  if jobs.any (fun j => j.st == .running e || j.st == .doomed e) then jobs
  else
    let best := jobs.foldl (fun (acc : Option Job) j =>
      if j.st == .suspended e then
        match acc with
        | none => some j
        | some a => if a.level < j.level then some j else some a
      else acc) none
    match best with
    | none => jobs
    | some a => jobs.map (fun j => if j.id = a.id then { j with st := .running e } else j)

/-- R17, R187: no job may start. -/
def State.cieHold (s : State) : Bool := s.kcu.drbg != 2

/-- R399: n seeds drawn for the mask expander of a pair, each one request (R169). -/
def State.drawSeeds (s : State) : Nat → State
  | 0 => s
  | n + 1 => State.drawSeeds s.draw.2 n

/-- R169, R170: n blocks' worth of mask randomness taken from a pair's expander, which draws seeds while the DRBG gives
any; with the blocks it could not give. -/
def State.takeMask (s : State) (p n : Nat) : State × Nat :=
  let P := s.pair p
  if n ≤ P.blocks then (s.setPair p { P with blocks := P.blocks - n }, 0)
  else if s.cieHold then (s.setPair p { P with blocks := 0 }, n - P.blocks)
  else
    let seeds := (n - P.blocks + 65535) / 65536
    ((s.drawSeeds seeds).setPair p { P with blocks := P.blocks + 65536 * seeds - n, seededAt := s.tb.elapsed }, 0)

/-- R169: the mask randomness that a job leaving an engine unfinished has used up. -/
def State.spendMask (s : State) (j : Job) : State :=
  let spend (e used : Nat) : State :=
    if j.constant then s
    else (s.takeMask (e / 2) (used - j.paid)).1
  match j.st with
  | .queued => s
  | .running e => spend e (Config.blocksUsed j.id s.tb.elapsed)
  | .suspended e => spend e j.saved
  | .doomed e => spend e (Config.blocksUsed j.id s.tb.elapsed)

/-- R50, R126: a pick's cipher engine job cancelled. -/
def State.cancelJobs (s : State) (p : Nat) : State :=
  let s := (s.cie.jobs.filter (fun j => j.pick == some p)).foldl State.spendMask s
  let mine := s.cie.jobs.filter (fun j => j.pick == some p)
  let rest := s.cie.jobs.filter (fun j => j.pick != some p)
  let eng (j : Job) : List Nat := match j.st with | .running e => [e] | .doomed e => [e] | _ => []
  let rest := (mine.flatMap eng).foldl (fun js e => resumeOn e js) rest
  { s with cie := { s.cie with jobs := rest } }

/-- R139: the reference a pick holds given back, unless a cipher operation of it is not finished. -/
def State.giveRef (s : State) (k : Pick) : State × Pick :=
  match k.refHeld with
  | none => (s, k)
  | some (i, b) =>
    match k.cipher with
    | some c => if c.phase = .done then (s.refSlot i b false, { k with refHeld := none }) else (s, k)
    | none => (s.refSlot i b false, { k with refHeld := none })

/-! ### Ending and dropping a pick (R13, R31, R50, R68) -/

/-- R85: pending fetch-and-adds land when their results are discarded. -/
def State.landFadds (s : State) (b : Nat) : State :=
  let add (m : Memory) (o : PendOp) : Memory :=
    match o.op with
    | .fadd addr size _ v =>
      let a := 16384 * clusterOf b + addr
      Memory.writeBytes m a (leBytes (leNat (Memory.readBytes m a size) + v.toNat) size)
    | _ => m
  { s with shu := { s.shu with scratch := (s.bob b).pend.foldl add s.shu.scratch } }

/-- R124: a bobbin freed. -/
def State.freeBob (s : State) (b : Nat) : State := s.setBob b {}

/-- R31, R50: a pick taken out of service: its engine job and reed requests are cancelled and it leaves its domain's
order; its slot is freed unless mirror copies are still to be delivered (R106: none after INTEGRITY or ERASED). -/
def State.endPick (s : State) (p reason : Nat) : State :=
  match s.pick p with
  | none => s
  | some k =>
    let s := s.cancelJobs p
    let k := { k with
      disp := 2, reason := BitVec.ofNat 8 reason, left := true, cipher := none, ordWait := false, cellWait := false,
      puntTo := none, fwdTo := none, st := .ended, endFrame := some (k.endFrame.getD k.frame)
      mirrors := if reason = 2 ∨ reason = 5 then [] else k.mirrors }
    let r := s.giveRef k
    if k.mirrors.isEmpty then r.1.delPick p else r.1.setPick p r.2

/-- R31, R103: a pick dropped with a reason, counted in DROP_REASON. -/
def State.dropPick (s : State) (p reason : Nat) : State :=
  match s.pick p with
  | none => s
  | some k => (s.occurPick k .dropReason reason).endPick p reason

/-- R124: the bobbin that runs a pick, if one does. -/
def State.bobOf (s : State) (p : Nat) : Option Nat :=
  (s.shu.bobs.find? (fun e => e.2.pick == some p)).map (fun e => e.1)

/-- R18, R31: a pick that the T32 drops: its bobbin, if one runs it, is freed. -/
def State.dropByT32 (s : State) (p reason : Nat) : State :=
  let s := match s.bobOf p with
    | some b => (s.landFadds b).freeBob b
    | none => s
  s.dropPick p reason

/-! ### Traps (R67, R68) -/

/-- R67: the code of a trap. -/
def Trap.code : Trap → Nat
  | .illegal => 1 | .absent => 2 | .window => 3 | .budget => 4 | .noend => 5 | .scratch => 6 | .mem => 7 | .program => 8

/-- R111: the card's entry for a vector, none for 0xFFFF. -/
def State.entry (s : State) (c vec : Nat) : Option Nat :=
  match (s.clu c).card with
  | none => none
  | some k => match k.entry[vec]? with
    | some e => if e = 0xFFFF then none else some e
    | none => none

/-- R67, R68, R71: a trap at word index pc with instruction word w: counted, recorded in SHU_TRAP_LAST, then vector 5
in the same bobbin, or the pick dropped with reason TRAP, or INTEGRITY for MEM. A pick that has ended is not dropped
again: its disposition stands (R13) and the bobbin is freed. -/
def State.trapAt (s : State) (b : Nat) (t : Trap) (pc : Nat) (w : Word) : State :=
  let B := s.bob b
  match s.bobPick b with
  | none => s
  | some k =>
    let c := clusterOf b
    let s := s.occurPick k .trap t.code
    let s := s.setClu c { s.clu c with
      trapLast := (BitVec.ofNat 4 t.code, pc % 16384, b / 8 % 16, b % 8, B.inHandler) }
    let drop (reason : Nat) : State :=
      match B.pick with
      | some p => ((s.landFadds b).freeBob b).dropPick p reason
      | none => s.freeBob b
    if t = .mem then drop 2
    else if B.inHandler then drop 1
    else match s.entry c 5 with
      | none => drop 1
      | some e =>
        let B1 := ((B.wr 1 (BitVec.ofNat 64 t.code)).wr 2 (BitVec.ofNat 64 pc)).wr 3 (w.setWidth 64)
        s.setBob b { B1 with pc := e, inHandler := true, raised := true, tbNs := none }

/-! ### Issue (R43 to R48, R69, R101) -/

/-- What an instruction does when its slot comes. -/
inductive Act where
  | stall (s : State)             -- it does not issue (R44)
  | trap (t : Trap)               -- R67: it traps
  | go (s : State) (pc : Nat)     -- it issues and the next word is pc
  | free (s : State)              -- `halt`: the bobbin has been freed

/-- R69: an issued instruction counted, and the program counter moved. -/
def State.advance (s : State) (b pc : Nat) : State :=
  let B := s.bob b
  s.setBob b { B with pc := pc, count := B.count + 1 }

/-- R43 to R48, R67, R69, R101: the own slot of bobbin b with word w: nothing happens unless the bobbin runs a pick and
w stands at its pc; a register of `regs` that is pending stalls; `post` says that the instruction may follow a
disposition; of several trap conditions the lowest code is raised. -/
def State.issue (s : State) (b : Nat) (w : Word) (post : Bool) (regs : List Reg) (eff : State → Bobbin → Pick → Act) :
    State :=
  let B := s.bob b
  match s.bobPick b with
  | none => s
  | some k =>
    if s.fetchWord b ≠ some w then s
    else if k.cellWait && B.left.isNone then s
    else if regs.any B.busy then s
    else
      let spent := decide (s.budget B ≤ B.count)
      let act := if !post && k.disp != 0 then .trap .illegal else eff (s.setBob b { B with tbNs := none }) B k
      match act with
      | .stall s' => s'
      | .trap t => s.trapAt b (if spent && decide (4 < t.code) then .budget else t) B.pc w
      | .go s' pc => if spent then s.trapAt b .budget B.pc w else s'.advance b pc
      | .free s' => if spent then s.trapAt b .budget B.pc w else s'

/-- R61: a branch target from a word index and a signed offset; below 0 it lies beyond every card. -/
def pcAdd (pc : Nat) (off : Int) : Nat :=
  if (pc : Int) + off < 0 then ((pc : Int) + off + 2 ^ 32).toNat else ((pc : Int) + off).toNat

/-- An instruction that writes one register from the registers of the bobbin and advances (R45). -/
def State.issueReg (s : State) (b : Nat) (w : Word) (d : Reg) (srcs : List Reg) (f : Bobbin → DWord) : State :=
  s.issue b w true (d :: srcs) (fun s B _ => .go (s.setBob b ((s.bob b).wr d (f B))) (B.pc + 1))

/-- R47: an asynchronous instruction whose operation `op` pends. -/
def goAsync (s : State) (b : Nat) (B : Bobbin) (d : Reg) (op : AsyncOp) : Act :=
  .go (s.setBob b ((s.bob b).pendOn d op s.tb.elapsed)) (B.pc + 1)

/-- R47: the oldest operation pending in bobbin b for register d that `want` recognises, and the bobbin without it. -/
def takePend (B : Bobbin) (d : Reg) (want : AsyncOp → Bool) : Option (PendOp × Bobbin) :=
  match B.pend.find? (fun o => o.d == d && want o.op) with
  | none => none
  | some o => some (o, { B with pend := B.pend.eraseP (fun o => o.d == d && want o.op) })

end Sys2Proof.Machine
end

