-- ==== Sys2Proof/Machine/Flags.lean ====
section
/-! DEFINITION. The results computed from operands: the ALU functions (no operation sets a flag, R77), the association
result and status of `look.at` (R88, R133), the IV of a suite (R93 table). -/

namespace Sys2Proof.Machine

/-- R77: the high 64 bits of an unsigned product. -/
def aluMulhu (x y : DWord) : DWord := BitVec.ofNat 64 (x.toNat * y.toNat / 2 ^ 64)

/-- R77: signed minimum. -/
def aluMin (x y : DWord) : DWord := if x.slt y then x else y

/-- R77: signed maximum. -/
def aluMax (x y : DWord) : DWord := if x.slt y then y else x

/-- R77: unsigned minimum. -/
def aluMinu (x y : DWord) : DWord := if x.ult y then x else y

/-- R77: unsigned maximum. -/
def aluMaxu (x y : DWord) : DWord := if x.ult y then y else x

/-- R77: number of 1 bits. -/
def aluPopc (x : DWord) : DWord := BitVec.ofNat 64 ((List.range 64).countP (fun i => x.getLsbD i))

/-- R77: leading zero bits, 64 for 0. -/
def aluClz (x : DWord) : DWord :=
  BitVec.ofNat 64 ((List.range 64).takeWhile (fun i => !x.getMsbD i)).length

/-- R77: the low n bytes reversed, zero-extended. -/
def aluBswap (n : Nat) (x : DWord) : DWord := BitVec.ofNat 64 (beNat (leBytes x.toNat n))

/-- R78: `ext`: l bits from position p; bits above 63 read 0. -/
def aluExt (p l : Nat) (x : DWord) : DWord := BitVec.ofNat 64 (x.toNat / 2 ^ p % 2 ^ l)

/-- R78: `dep`: the low l bits of x at position p of the old value; bits above 63 are discarded. -/
def aluDep (p l : Nat) (x old : DWord) : DWord :=
  let mask : DWord := BitVec.ofNat 64 ((2 ^ l - 1) * 2 ^ p)
  (old &&& ~~~mask) ||| BitVec.ofNat 64 (x.toNat % 2 ^ l * 2 ^ p)

/-- R49: the status codes of asynchronous results. -/
inductive UStat where
  | ok | miss | exhausted | authFail | replay | poisoned | state
deriving DecidableEq, Repr

/-- R49: the code of a status. -/
def UStat.code : UStat → Nat
  | .ok => 0 | .miss => 1 | .exhausted => 2 | .authFail => 3 | .replay => 4 | .poisoned => 5 | .state => 6

/-- R49: a result whose bits [55:lo] the spec does not state: they are those of a free word. -/
def withFree (lo v : Nat) (st : UStat) (f : DWord) : DWord :=
  withStatus (v % 2 ^ lo + f.toNat / 2 ^ lo % 2 ^ (56 - lo) * 2 ^ lo) st.code

/-- R129: slot A or B of an entry. -/
def AtEntry.slot (e : AtEntry) (b : Bool) : Slot := if b then e.b else e.a

/-- R129: an entry with a slot replaced. -/
def AtEntry.setSlot (e : AtEntry) (b : Bool) (x : Slot) : AtEntry := if b then { e with b := x } else { e with a := x }

/-- R133: the state code shown: EXHAUSTED when ACTIVE and EXH of the TXSLOT slot is set. -/
def AtEntry.shown (e : AtEntry) : Nat :=
  match e.st with
  | .empty => 0
  | .active => if (e.slot e.txslot).exh then 3 else 1
  | .suspended => 2
  | .poisoned => 4

/-- R129, R131: an XPN suite. -/
def AtEntry.xpn (e : AtEntry) : Bool := e.suite == 3 || e.suite == 4

/-- R129: the ceiling exponent k. -/
def AtEntry.kexp (e : AtEntry) : Nat := e.k.toNat + 1

/-- R129: the ceiling 2^k − 1. -/
def AtEntry.ceiling (e : AtEntry) : Nat := 2 ^ e.kexp - 1

/-- R130: the key bytes a suite uses. -/
def AtEntry.keyLen (e : AtEntry) : Nat := if e.suite == 1 || e.suite == 3 then 16 else 32

/-- R93 table: the 96-bit IV of a suite: SCI ‖ PN[31:0], or (SSCI ‖ PN) XOR salt. -/
def suiteIv (xpn : Bool) (sl : Slot) (sci : DWord) (pn : Nat) : Bytes :=
  if xpn then xorBytes (slice sl.ssci 0 4 ++ beBytes pn 8) (slice sl.salt 0 12)
  else beBytes sci.toNat 8 ++ beBytes (pn % 2 ^ 32) 4

/-- R88: the slot and status a `look.at` chooses in an entry below the capacity. -/
def AtEntry.choose (e : AtEntry) (rx : Bool) (kn : BitVec 2) : Option Bool × UStat :=
  match e.st with
  | .empty => (none, .miss)
  | .poisoned => (none, .poisoned)
  | .suspended => (none, .state)
  | .active =>
    if rx then
      if e.a.valid && e.a.kn == kn then (some false, .ok)
      else if e.b.valid && e.b.kn == kn then (some true, .ok)
      else (none, .state)
    else (some e.txslot, if e.shown = 3 then .exhausted else .ok)

/-- R88: the result word of a `look.at`. R88 states no slot and key number where none is chosen, and no other field of an
entry on MISS: those bits are free (log entry 115). -/
def lookAtResult (idx : BitVec 24) (e : AtEntry) (sl : Option Bool) (st : UStat) : DWord :=
  let f := (Config.freeResult 5 [] (idx.toNat * 16 + st.code)).toNat
  let slot : Nat := match sl with
    | some b => (if b then 2 ^ 24 else 0) + (e.slot b).kn.toNat * 2 ^ 25
    | none => f / 2 ^ 24 % 8 * 2 ^ 24
  let fields : Nat :=
    if e.st = .empty then f / 2 ^ 30 % 2 ^ 26 * 2 ^ 30
    else (if e.cut then 2 ^ 30 else 0) + (if e.mode then 2 ^ 31 else 0) + e.suite.toNat * 2 ^ 32 + e.policer.toNat * 2 ^ 36
  withStatus (idx.toNat + slot + e.shown * 2 ^ 27 + fields) st.code

end Sys2Proof.Machine
end

