-- ==== Sys2Proof/Machine/Alu.lean ====
section
/-! DEFINITION. Ezgus register operations: ALU-A (R77) and the immediate and bit-field instructions (R78). No one of them
traps; each takes one issue slot and advances (R76). -/

namespace Sys2Proof.Machine

/-- R77: a two-operand ALU-A function. -/
def State.alu2 (s : State) (b func : Nat) (d a c : Reg) (f : DWord → DWord → DWord) : State :=
  s.issueReg b (encA 0 d a c func) d [a, c] (fun B => f (B.rd a) (B.rd c))

/-- R77: a single-operand ALU-A function, which ignores b. -/
def State.alu1 (s : State) (b func : Nat) (d a c : Reg) (f : DWord → DWord) : State :=
  s.issueReg b (encA 0 d a c func) d [a] (fun B => f (B.rd a))

/-- R78: an immediate instruction that reads a. -/
def State.aluI (s : State) (b op : Nat) (d a : Reg) (imm : BitVec 16) (f : DWord → DWord) : State :=
  s.issueReg b (encI op d a imm) d [a] (fun B => f (B.rd a))

/-- R61: the length field of `ext` and `dep`, 1 to 64. -/
def fieldLen (imm : BitVec 16) : Nat := (imm.toNat / 64) % 64 + 1

/-- R61: the position field of `ext` and `dep`. -/
def fieldPos (imm : BitVec 16) : Nat := imm.toNat % 64

/-- R61, R78: `ext` and `dep` trap ILLEGAL when imm[15:12] is not 0. -/
def State.bitField (s : State) (b op : Nat) (d a : Reg) (imm : BitVec 16) (f : Bobbin → DWord) : State :=
  s.issue b (encI op d a imm) true [d, a] (fun s B _ =>
    if 4096 ≤ imm.toNat then .trap .illegal
    else .go (s.setBob b ((s.bob b).wr d (f B))) (B.pc + 1))

/-- R77: `add`. -/
def execAdd (b : Nat) (d a c : Reg) (s : State) : Host.Outcome State Fault Refusal :=
  .next (s.alu2 b 0x000 d a c (fun x y => x + y))

/-- R77: `sub`. -/
def execSub (b : Nat) (d a c : Reg) (s : State) : Host.Outcome State Fault Refusal :=
  .next (s.alu2 b 0x001 d a c (fun x y => x - y))

/-- R77: `and`. -/
def execBitAnd (b : Nat) (d a c : Reg) (s : State) : Host.Outcome State Fault Refusal :=
  .next (s.alu2 b 0x002 d a c (fun x y => x &&& y))

/-- R77: `or`. -/
def execBitOr (b : Nat) (d a c : Reg) (s : State) : Host.Outcome State Fault Refusal :=
  .next (s.alu2 b 0x003 d a c (fun x y => x ||| y))

/-- R77: `xor`. -/
def execBitXor (b : Nat) (d a c : Reg) (s : State) : Host.Outcome State Fault Refusal :=
  .next (s.alu2 b 0x004 d a c (fun x y => x ^^^ y))

/-- R77: `shl`. -/
def execShl (b : Nat) (d a c : Reg) (s : State) : Host.Outcome State Fault Refusal :=
  .next (s.alu2 b 0x005 d a c (fun x y => x <<< (y.toNat % 64)))

/-- R77: `shr`. -/
def execShr (b : Nat) (d a c : Reg) (s : State) : Host.Outcome State Fault Refusal :=
  .next (s.alu2 b 0x006 d a c (fun x y => x >>> (y.toNat % 64)))

/-- R77: `sar`. -/
def execSar (b : Nat) (d a c : Reg) (s : State) : Host.Outcome State Fault Refusal :=
  .next (s.alu2 b 0x007 d a c (fun x y => x.sshiftRight (y.toNat % 64)))

/-- R77: `mul`. -/
def execMul (b : Nat) (d a c : Reg) (s : State) : Host.Outcome State Fault Refusal :=
  .next (s.alu2 b 0x008 d a c (fun x y => x * y))

/-- R77: `mulhu`. -/
def execMulhu (b : Nat) (d a c : Reg) (s : State) : Host.Outcome State Fault Refusal :=
  .next (s.alu2 b 0x009 d a c aluMulhu)

/-- R77: `min`. -/
def execMinS (b : Nat) (d a c : Reg) (s : State) : Host.Outcome State Fault Refusal :=
  .next (s.alu2 b 0x00A d a c aluMin)

/-- R77: `max`. -/
def execMaxS (b : Nat) (d a c : Reg) (s : State) : Host.Outcome State Fault Refusal :=
  .next (s.alu2 b 0x00B d a c aluMax)

/-- R77: `minu`. -/
def execMinU (b : Nat) (d a c : Reg) (s : State) : Host.Outcome State Fault Refusal :=
  .next (s.alu2 b 0x00C d a c aluMinu)

/-- R77: `maxu`. -/
def execMaxU (b : Nat) (d a c : Reg) (s : State) : Host.Outcome State Fault Refusal :=
  .next (s.alu2 b 0x00D d a c aluMaxu)

/-- R77: `popc`. -/
def execPopc (b : Nat) (d a c : Reg) (s : State) : Host.Outcome State Fault Refusal :=
  .next (s.alu1 b 0x00E d a c (aluPopc))

/-- R77: `clz`. -/
def execClz (b : Nat) (d a c : Reg) (s : State) : Host.Outcome State Fault Refusal :=
  .next (s.alu1 b 0x00F d a c (aluClz))

/-- R77: `bswap16`. -/
def execBswap16 (b : Nat) (d a c : Reg) (s : State) : Host.Outcome State Fault Refusal :=
  .next (s.alu1 b 0x010 d a c (aluBswap 2))

/-- R77: `bswap32`. -/
def execBswap32 (b : Nat) (d a c : Reg) (s : State) : Host.Outcome State Fault Refusal :=
  .next (s.alu1 b 0x011 d a c (aluBswap 4))

/-- R77: `bswap64`. -/
def execBswap64 (b : Nat) (d a c : Reg) (s : State) : Host.Outcome State Fault Refusal :=
  .next (s.alu1 b 0x012 d a c (aluBswap 8))

/-- R78: `addi`. -/
def execAddi (b : Nat) (d a : Reg) (imm : BitVec 16) (s : State) : Host.Outcome State Fault Refusal :=
  .next (s.aluI b 0x01 d a imm (fun x => x + imm.signExtend 64))

/-- R78: `andi`. -/
def execAndi (b : Nat) (d a : Reg) (imm : BitVec 16) (s : State) : Host.Outcome State Fault Refusal :=
  .next (s.aluI b 0x02 d a imm (fun x => x &&& imm.setWidth 64))

/-- R78: `ori`. -/
def execOri (b : Nat) (d a : Reg) (imm : BitVec 16) (s : State) : Host.Outcome State Fault Refusal :=
  .next (s.aluI b 0x03 d a imm (fun x => x ||| imm.setWidth 64))

/-- R78: `xori`. -/
def execXori (b : Nat) (d a : Reg) (imm : BitVec 16) (s : State) : Host.Outcome State Fault Refusal :=
  .next (s.aluI b 0x04 d a imm (fun x => x ^^^ imm.setWidth 64))

/-- R78: `li`; a is ignored. -/
def execLi (b : Nat) (d a : Reg) (imm : BitVec 16) (s : State) : Host.Outcome State Fault Refusal :=
  .next (s.issueReg b (encI 0x05 d a imm) d [] (fun _ => imm.signExtend 64))

/-- R78: `lis`; a is ignored and d is read. -/
def execLis (b : Nat) (d a : Reg) (imm : BitVec 16) (s : State) : Host.Outcome State Fault Refusal :=
  .next (s.issueReg b (encI 0x06 d a imm) d [] (fun B => (B.rd d <<< 16) ||| imm.setWidth 64))

/-- R78: `ext`. -/
def execExtF (b : Nat) (d a : Reg) (imm : BitVec 16) (s : State) : Host.Outcome State Fault Refusal :=
  .next (s.bitField b 0x07 d a imm (fun B => aluExt (fieldPos imm) (fieldLen imm) (B.rd a)))

/-- R78: `dep`. -/
def execDepF (b : Nat) (d a : Reg) (imm : BitVec 16) (s : State) : Host.Outcome State Fault Refusal :=
  .next (s.bitField b 0x08 d a imm (fun B => aluDep (fieldPos imm) (fieldLen imm) (B.rd a) (B.rd d)))

end Sys2Proof.Machine
end

