-- ==== Sys2Proof/Machine/Table.lean ====
section
/-! DEFINITION. Where tables lie in DRAM and what the suspect list and a re-rooting do to a request for them (R300,
R301, R309 to R311). -/

namespace Sys2Proof.Machine

/-! ### Power domains as a request finds them (R452 to R460) -/

/-- R458: asleep in a state that the wake bucket guards. -/
def PSt.deep : PSt → Bool
  | .p2 => true
  | .p3 => true
  | _ => false

/-- R453: saving its state before P2 or P3. -/
def PSt.isEntering : PSt → Bool
  | .entering _ => true
  | _ => false

/-- R458, R460: a wake of domain d queued behind the waiting ones; a domain that is awake, already queued or absent takes
none. -/
def State.askWake (s : State) (d : Nat) (why : WakeWhy) : State :=
  let D := s.dom d
  if !s.variant.domain d || !(D.st.deep || D.st.isEntering) || D.wake.isSome then s
  else
    let s := s.setDom d { D with wake := some (why, s.tb.elapsed) }
    { s with pmc := { s.pmc with wakes := s.pmc.wakes ++ [d] } }

/-- R27, R452, R453, R461: a channel takes requests: powered and FRESH. -/
def State.chanOn (s : State) (ch : Nat) : Bool := (s.dom (64 + ch)).up && (s.dom (64 + ch)).ready == .fresh

/-- R452, R456, R460: a request of a channel: its idle time begins anew, and one that sleeps or goes to sleep is woken. -/
def State.useChannel (s : State) (ch : Nat) : State :=
  let d := 64 + ch
  if (s.dom d).ready = .quarantined then s
  else if (s.dom d).st.deep || (s.dom d).st.isEntering then (if (s.dom d).upOnce then s.askWake d .sleep else s)
  else if (s.dom d).up then s.touchDom d else s

/-- R452, R458: requests of channels, in ascending order of their domains. -/
def State.useChannels (s : State) (chs : List Nat) : State :=
  (chs.dedup.insertionSort (· ≤ ·)).foldl State.useChannel s

/-! ### Geometry (R299 to R301) -/

/-- R299: DRAM channels of the variant. -/
def State.channels (s : State) : Nat := 4 * s.variant.stacks

/-- R300, R301: data lines of a region. -/
def Variant.lines (v : Variant) (buffer : Bool) : Nat :=
  match v with
  | .tv32f => if buffer then 335544320 else 67108864
  | .tv32s => if buffer then 167772160 else 33554432
  | .tv16e => 0

/-- R301, R318: data lines of a region, in mirror mode of one copy of the table region. -/
def State.lines (s : State) (buffer : Bool) : Nat :=
  if buffer || s.msc.mirror == 0 then s.variant.lines buffer else s.variant.lines buffer / 2

/-- R301, R318: tree levels of a region, in mirror mode of one copy of the table region: as many as its top level needs to have
no more than 64 nodes. -/
def State.treeLevels (s : State) (buffer : Bool) : Nat :=
  ((List.range 9).find? (fun l => decide (s.lines buffer ≤ 64 * 8 ^ l))).getD 9

/-- A region as the number its records and events carry. -/
def regionNo (buffer : Bool) : Nat := if buffer then 1 else 0

/-- R300: lines of a deskew share. -/
def Variant.shareLines : Variant → Nat
  | .tv32f => 12582912
  | .tv32s => 6291456
  | .tv16e => 0

/-- R300: first buffer-region line of the spill extents, after the deskew shares. -/
def Variant.spillBase (v : Variant) : Nat := 8 * v.shareLines

/-- R300, R318: the channel of a line, in copy B of the table region when `b` says so. The table region and the deskew
shares are interleaved every 4 KiB in channel order; a spill extent lies on one channel, extents taking the channels in
turn (log entry 20). -/
def State.lineChannel (s : State) (buffer : Bool) (line : Nat) (b : Bool := false) : Nat :=
  if buffer then
    if s.variant.spillBase ≤ line then (line - s.variant.spillBase) / 1024 % s.channels else line / 64 % s.channels
  else if s.msc.mirror = 0 then line / 64 % s.channels
  else line / 64 % (s.channels / 2) + if b then s.channels / 2 else 0

/-- R301: the MAC line of a number: the level whose MACs it holds and its number among that level's MAC lines. MAC lines
are numbered from those of the data lines on, level by level (log entry 20); n is the region's data lines. -/
def macLine (n : Nat) : Nat → Nat → Nat → Nat × Nat
  | 0, level, index => (level, index)
  | fuel + 1, level, index =>
    let here := (n / 8 ^ level + 7) / 8
    if index < here then (level, index) else macLine n fuel (level + 1) (index - here)

/-- R301: the level whose MACs a MAC line holds. -/
def State.macLevel (s : State) (buffer : Bool) (index : Nat) : Nat :=
  (macLine (s.lines buffer) (s.treeLevels buffer + 1) 0 index).1

/-- R301, R325: the data lines that a line of a level covers: the first and how many; a MAC line covers what its 8 lines
or nodes cover. -/
def State.cover (s : State) (buffer : Bool) (level index : Nat) : Nat × Nat :=
  if level = 15 then
    let m := macLine (s.lines buffer) (s.treeLevels buffer + 1) 0 index
    (m.2 * 8 ^ (m.1 + 1), 8 ^ (m.1 + 1))
  else (index * 8 ^ level, 8 ^ level)

/-- R325: a line of a level exists. -/
def State.lineAt (s : State) (buffer : Bool) (level index : Nat) : Bool :=
  (decide (level ≤ s.treeLevels buffer) || (level == 15 && decide (s.macLevel buffer index ≤ s.treeLevels buffer)))
    && decide ((s.cover buffer level index).1 < s.lines buffer)

/-- R300: the channel that holds a line of a level, taken as that of the first data line it covers (log entry 20). -/
def State.channelOf (s : State) (buffer b : Bool) (level index : Nat) : Nat :=
  s.lineChannel buffer (s.cover buffer level index).1 b

/-! ### Requests for lines (R309 to R311) -/

/-- R310: a line is listed, or lies beneath a listed node. -/
def State.suspect (s : State) (buffer : Bool) (line : Nat) : Bool :=
  s.msc.suspects.any (fun e =>
    let c := s.cover buffer e.2.1 e.2.2
    e.1 == buffer && e.2.1 != 15 && decide (c.1 ≤ line ∧ line < c.1 + c.2))

/-- R311: a line's range is being re-rooted. -/
def State.rerooted (s : State) (buffer : Bool) (line : Nat) : Bool :=
  s.msc.rerooting.any (fun e => e.1 == buffer && decide (e.2.1 ≤ line ∧ line < e.2.1 + e.2.2))

/-- R300: the table-region lines of association i. -/
def assocLines (i : Nat) : List Nat := [2 * i, 2 * i + 1]

/-- R300: the table-region lines of flow bucket b. -/
def State.bucketLines (s : State) (b : Nat) : List Nat :=
  (List.range 4).map (fun j => 2 * s.capacity + 4 * b + j)

/-- R300: the first table-region line of card staging, CURRENT's area or NEXT's, of 2,048 lines each. Which of the two areas
is CURRENT's changes at a PROMOTE. -/
def State.stageBase (s : State) (next : Bool) : Nat :=
  2 * s.capacity + 4 * (s.capacity / 4) + if s.shu.curSecond == next then 0 else 2048

/-- R311: a request for lines of the table region waits while one of them is re-rooted. -/
def State.tableWaits (s : State) (lines : List Nat) : Bool := lines.any (fun l => s.rerooted false l)

/-- R308: the table region's key has been destroyed by an erase: no line of it can be decrypted or verified. -/
def State.keyless (s : State) : Bool := s.variant != .tv16e && s.msc.done && s.msc.tableKey.isNone

/-- R308, R310: the first line, among those a request for the table region reads, that gives a bus error. -/
def State.tableBad (s : State) (lines : List Nat) : Option Nat :=
  if s.keyless then lines.head? else lines.find? (fun l => s.suspect false l)

/-- R310: a bus error at a suspect line, counted; one after an erase is not about a suspect line. -/
def State.suspectHit (s : State) (line : Nat) (buffer : Bool := false) : State :=
  if !buffer && s.keyless then s else s.occur .mscSuspectHit (s.lineChannel buffer line s.msc.serveB)

/-- R316: a fetch of a line by a channel has been answered in time: its first expiry, and failures in a row, are forgotten. -/
def State.fetched (s : State) (ch : Nat) (buffer : Bool) (line : Nat) : State :=
  { s with msc := { s.msc with
      retried := s.msc.retried.filter (fun r => !(r.ch == ch && r.buffer == buffer && r.line == line))
      lastFail := tset none s.msc.lastFail ch none } }

/-- R34, R316: a request that needed lines has been answered: the fetches of them that had expired once have arrived. -/
def State.answered (s : State) (buffer : Bool) (lines : List Nat) : State :=
  (s.msc.retried.filter (fun r => r.buffer == buffer && lines.contains r.line)).foldl
    (fun t r => t.fetched r.ch r.buffer r.line) s

/-- R309: a bus error that reaches the operation a bobbin issued at word index pc: trap MEM. -/
def State.memFault (s : State) (b pc : Nat) : State :=
  let w := match (s.clu (clusterOf b)).card with
    | some c => c.words.getD pc 0
    | none => 0
  s.trapAt b .mem pc w

end Sys2Proof.Machine
end

