-- ==== Sys2Proof/Machine/Window.lean ====
section
/-! DEFINITION. The frame window, the pick record and the cluster scratch (R51 to R59, R81 to R85), and the completions
of the scratch instructions. -/

namespace Sys2Proof.Machine

/-- R53: a `seal` or `open` has issued for the pick. -/
def Pick.sealedOff (k : Pick) : Bool := k.cipher.isSome || k.opened

/-- R53: an issued `seal` or `open` has not completed. -/
def Pick.cipherBusy (k : Pick) : Bool :=
  match k.cipher with
  | some c => c.phase != .done
  | none => false

/-- R62: sub[3:2] is not 0. -/
def subReserved (sub : BitVec 4) : Bool := sub.getLsbD 2 || sub.getLsbD 3

/-- R62: sub[3:1] is not 0. -/
def subReserved3 (sub : BitVec 4) : Bool := sub.getLsbD 1 || subReserved sub

/-- R81: `ldw`. -/
def execLdw (b : Nat) (d a : Reg) (size : BitVec 2) (sub : BitVec 4) (off : BitVec 10) (s : State) :
    Host.Outcome State Fault Refusal :=
  .next (s.issue b (encW 0x18 d a size sub off) false [d, a] (fun s B k =>
    let e := effOffset B a off
    let n := sizeBytes size
    if subReserved sub then .trap .illegal
    else if e < -64 ∨ 511 < e + n - 1 then .trap .window
    else if k.cipherBusy then .stall s
    else
      let v := extendTo64 (sub.getLsbD 0) n (bytesVal (sub.getLsbD 1) (k.winBytes e n))
      .go (s.setBob b ((s.bob b).wr d v)) (B.pc + 1)))

/-- R123: a window write that changes window offsets lo to hi: the changed frame, with the cells its change takes, or a
wait while no cell is free. -/
def writeCells (s : State) (b : Nat) (B : Bobbin) (k : Pick) (lo hi : Int) (f : Pick → Pick) : Act :=
  let new := k.newCells lo hi
  if new.length ≠ 0 ∧ s.cellsFree < new.length then .stall (s.updPick b (fun k => { k with cellWait := true }))
  else .go (s.updPick b (fun k => f { k with cells := k.cells + new.length, copied := k.copied ++ new })) (B.pc + 1)

/-- R81: `stw`. -/
def execStw (b : Nat) (d a : Reg) (size : BitVec 2) (sub : BitVec 4) (off : BitVec 10) (s : State) :
    Host.Outcome State Fault Refusal :=
  .next (s.issue b (encW 0x19 d a size sub off) false [d, a] (fun s B k =>
    let e := effOffset B a off
    let n := sizeBytes size
    let v := (B.rd d).toNat % 2 ^ (8 * n)
    let w := k.woff.toInt
    if subReserved sub || k.sealedOff then .trap .illegal
    else if e < -64 ∨ 511 < e + n - 1 ∨ e < w ∨ w + k.frame.length < e + n then .trap .window
    else
      let bs := if sub.getLsbD 1 then leBytes v n else beBytes v n
      writeCells s b B k e (e + n - 1) (fun k => { k with frame := patch k.frame (e - w).toNat bs })))

/-- R52, R62, R82: `wedit`: sub[0] 0 grows, 1 shrinks, at window offset e by the count in d. sub[1], to which R62 gives `wedit`
no meaning, is taken as reserved (log entry 133). -/
def execWedit (b : Nat) (d a : Reg) (size : BitVec 2) (sub : BitVec 4) (off : BitVec 10) (s : State) :
    Host.Outcome State Fault Refusal :=
  .next (s.issue b (encW 0x1A d a size sub off) false [d, a] (fun s B k =>
    let o := effOffset B a off
    let n := (B.rd d).toNat
    let w := k.woff.toInt
    let len := k.frame.length
    let i := (o - w).toNat
    if subReserved3 sub || size != 0 || k.sealedOff || n == 0 || decide (64 < n) then .trap .illegal
    else if sub.getLsbD 0 then
      if o < w ∨ w + len < o + n ∨ 511 < o + n - 1 ∨ 511 < w + n ∨ len < 14 + n ∨ 16128 + n < len then .trap .window
      else writeCells s b B k (w + n) (o + n - 1)
        (fun k => { k with frame := k.frame.take i ++ k.frame.drop (i + n), woff := k.woff + BitVec.ofNat 16 n })
    else if o < w ∨ w + len < o ∨ 512 < o ∨ (511 < o ∧ o < w + len) ∨ w - n < -64 ∨ 16128 < len + n ∨ len + n < 14 then
      .trap .window
    else writeCells s b B k (w - n) (o - 1)
      (fun k => { k with
        frame := k.frame.take i ++ List.replicate n 0 ++ k.frame.drop i
        woff := k.woff - BitVec.ofNat 16 n })))

/-- R56: a pick-record access that is misaligned or out of range. -/
def recordBad (e : Int) (n : Nat) : Bool := decide (e < 0 ∨ 64 < e + n) || decide (e % n ≠ 0)

/-- R113: the card of a bobbin's cluster is time-aware. -/
def State.timeAware (s : State) (b : Nat) : Bool :=
  match (s.clu (clusterOf b)).card with
  | some c => c.timeAware
  | none => false

/-- R84: `ldp`; R74: a read of the arrival time on a card without the flag traps ILLEGAL. -/
def execLdp (b : Nat) (d a : Reg) (size : BitVec 2) (sub : BitVec 4) (off : BitVec 10) (s : State) :
    Host.Outcome State Fault Refusal :=
  .next (s.issue b (encW 0x1B d a size sub off) false [d, a] (fun s B k =>
    let e := effOffset B a off
    let n := sizeBytes size
    if subReserved3 sub || recordBad e n then .trap .illegal
    else if e < 0x28 ∧ 0x20 < e + n ∧ s.timeAware b = false then .trap .illegal
    else
      let v := extendTo64 (sub.getLsbD 0) n (leAt k.record e.toNat n)
      .go (s.setBob b ((s.bob b).wr d v)) (B.pc + 1)))

/-- R56: `stp`. -/
def execStp (b : Nat) (d a : Reg) (size : BitVec 2) (sub : BitVec 4) (off : BitVec 10) (s : State) :
    Host.Outcome State Fault Refusal :=
  .next (s.issue b (encW 0x1C d a size sub off) false [d, a] (fun s B _ =>
    let e := effOffset B a off
    let n := sizeBytes size
    if subReserved3 sub || recordBad e n then .trap .illegal
    else if !(List.range n).any (fun i => recordRW (e.toNat + i)) then .trap .illegal
    else
      let bs := leBytes ((B.rd d).toNat % 2 ^ (8 * n)) n
      .go (s.updPick b (fun k => k.store e.toNat bs)) (B.pc + 1)))

/-- R58: a scratch access that is misaligned or out of range. -/
def scratchBad (e : Int) (n : Nat) : Bool := decide (e < 0 ∨ 16384 < e + n) || decide (e % n ≠ 0)

/-- R85: a pending fetch-and-add. -/
def AsyncOp.isFadd : AsyncOp → Bool
  | .fadd .. => true
  | _ => false

/-- R85: a scratch access that an earlier `fence` still holds. -/
def Bobbin.fenceHolds (B : Bobbin) : Bool := B.fenced && B.pend.any (fun o => o.op.isFadd)

/-- R85: `lds` issues. -/
def execLds (b : Nat) (d a : Reg) (size : BitVec 2) (sub : BitVec 4) (off : BitVec 10) (s : State) :
    Host.Outcome State Fault Refusal :=
  .next (s.issue b (encW 0x1D d a size sub off) false [d, a] (fun s B _ =>
    let e := effOffset B a off
    let n := sizeBytes size
    if subReserved3 sub then .trap .illegal
    else if scratchBad e n then .trap .scratch
    else if B.fenceHolds then .stall s
    else goAsync s b B d (.lds e.toNat n (sub.getLsbD 0))))

/-- R72: scratch bytes of a cluster. -/
def State.scratchRead (s : State) (c addr n : Nat) : Bytes := Memory.readBytes s.shu.scratch (16384 * c + addr) n

/-- R72: scratch bytes of a cluster written. -/
def State.scratchWrite (s : State) (c addr : Nat) (bs : Bytes) : State :=
  { s with shu := { s.shu with scratch := Memory.writeBytes s.shu.scratch (16384 * c + addr) bs } }

/-- R85: `sts`. -/
def execSts (b : Nat) (d a : Reg) (size : BitVec 2) (sub : BitVec 4) (off : BitVec 10) (s : State) :
    Host.Outcome State Fault Refusal :=
  .next (s.issue b (encW 0x1E d a size sub off) false [d, a] (fun s B _ =>
    let e := effOffset B a off
    let n := sizeBytes size
    if subReserved3 sub then .trap .illegal
    else if scratchBad e n then .trap .scratch
    else if B.fenceHolds then .stall s
    else .go (s.scratchWrite (clusterOf b) e.toNat (leBytes ((B.rd d).toNat % 2 ^ (8 * n)) n)) (B.pc + 1)))

/-- R85: `fadd.s` issues; sizes below 4 bytes trap ILLEGAL. -/
def execFaddS (b : Nat) (d a : Reg) (size : BitVec 2) (sub : BitVec 4) (off : BitVec 10) (s : State) :
    Host.Outcome State Fault Refusal :=
  .next (s.issue b (encW 0x1F d a size sub off) false [d, a] (fun s B _ =>
    let e := effOffset B a off
    let n := sizeBytes size
    if subReserved3 sub || decide (n < 4) then .trap .illegal
    else if scratchBad e n then .trap .scratch
    else if B.fenceHolds then .stall s
    else goAsync s b B d (.fadd e.toNat n (sub.getLsbD 0) (B.rd d))))

/-- R85: `fence`; imm must be 0. It holds later scratch accesses while a fetch-and-add issued before it pends; an `sts` has
landed when it has issued. -/
def execFence (b : Nat) (d a c : Reg) (imm : BitVec 6) (s : State) : Host.Outcome State Fault Refusal :=
  .next (s.issue b (encU 0x31 d a c 0 imm) true [] (fun s B _ =>
    if imm ≠ 0 then .trap .illegal
    else .go (s.setBob b { s.bob b with fenced := B.pend.any (fun o => o.op.isFadd) }) (B.pc + 1)))

/-- R85: a scratch read completes. -/
def execLdsDone (b : Nat) (d : Reg) (s : State) : Host.Outcome State Fault Refusal :=
  .next (match takePend (s.bob b) d (fun o => match o with | .lds .. => true | _ => false) with
    | some (⟨_, .lds addr n sext, _, _⟩, B) =>
      s.setBob b (B.finish d (extendTo64 sext n (leNat (s.scratchRead (clusterOf b) addr n))))
    | _ => s)

/-- R85: a fetch-and-add completes: the old value is returned and the sum stands. -/
def execFaddSDone (b : Nat) (d : Reg) (s : State) : Host.Outcome State Fault Refusal :=
  .next (match takePend (s.bob b) d AsyncOp.isFadd with
    | some (⟨_, .fadd addr n sext v, _, _⟩, B) =>
      let old := leNat (s.scratchRead (clusterOf b) addr n)
      let B := B.finish d (extendTo64 sext n old)
      let B := { B with fenced := B.fenced && B.pend.any (fun o => o.op.isFadd) }
      (s.scratchWrite (clusterOf b) addr (leBytes (old + v.toNat) n)).setBob b B
    | _ => s)

end Sys2Proof.Machine
end

