-- ==== Sys2Proof/Machine/Unit.lean ====
section
/-! DEFINITION. The unit and time-aware instructions of Ezgus (R86 to R100): lookups, packet numbers, ordering, `seal`
and `open`, check values, `pol` and `tb`, as they issue. -/

namespace Sys2Proof.Machine

/-! ### Lookups (R86 to R88) -/

/-- R86: `look.ft` issues. -/
def execLookFt (b : Nat) (d a c : Reg) (imm : BitVec 6) (s : State) : Host.Outcome State Fault Refusal :=
  .next (s.issue b (encU 0x20 d a c 0 imm) false [d, a, c] (fun s B _ =>
    goAsync s b B d (.lookFt imm (B.rd a) (B.rd c))))

/-- R87: `look.mt` issues. -/
def execLookMt (b : Nat) (d a c : Reg) (imm : BitVec 6) (s : State) : Host.Outcome State Fault Refusal :=
  .next (s.issue b (encU 0x20 d a c 1 imm) false [d, a, c] (fun s B _ =>
    goAsync s b B d (.lookMt imm (B.rd a) (B.rd c))))

/-- R88: `look.at` issues; imm[5:1] must be 0. -/
def execLookAt (b : Nat) (d a c : Reg) (imm : BitVec 6) (s : State) : Host.Outcome State Fault Refusal :=
  .next (s.issue b (encU 0x20 d a c 2 imm) false [d, a] (fun s B _ =>
    if 2 ≤ imm.toNat then .trap .illegal
    else goAsync s b B d (.lookAt ((B.rd a).setWidth 24) ((B.rd a >>> 24).setWidth 2) (imm.getLsbD 0))))

/-! ### Packet numbers and ordering (R89 to R92) -/

/-- R88: an association lookup. -/
def AsyncOp.isLookAt : AsyncOp → Bool
  | .lookAt .. => true
  | _ => false

/-- R89: a `pn.next`. -/
def AsyncOp.isPnNext : AsyncOp → Bool
  | .pnNext => true
  | _ => false

/-- R30: a `pn.next` or `pn.peek`. -/
def AsyncOp.isPn : AsyncOp → Bool
  | .pnNext => true
  | .pnPeek => true
  | _ => false

/-- An operation of a kind pends in the bobbin. -/
def Bobbin.pends (B : Bobbin) (want : AsyncOp → Bool) : Bool := B.pend.any (fun o => want o.op)

/-- R88: the pick's latest `look.at` was in a direction and returned OK. -/
def Pick.snapOk (k : Pick) (rx : Bool) : Bool :=
  match k.snap with
  | some sn => sn.rx == rx && sn.status == 0
  | none => false

/-- R30, R33: a pick that issues a packet-number request of any kind. -/
def Pick.issuesPn (k : Pick) : Pick := { k with pnIssued := true, ordPassed := k.ordPassed || !k.ordWait }

/-- R89, R90: `pn.next` and `pn.peek` issue. They wait for the pick's own `look.at` and `pn.next` (log entry 21). -/
def State.issuePn (s : State) (b usub : Nat) (d a c : Reg) (imm : BitVec 6) (op : AsyncOp) : State :=
  s.issue b (encU 0x21 d a c usub imm) false [d] (fun s B k =>
    if imm ≠ 0 then .trap .illegal
    else if B.pends AsyncOp.isLookAt || B.pends AsyncOp.isPnNext then .stall s
    else if !k.snapOk false || k.servedNow.contains k.assoc then .trap .illegal
    else if k.memTrap then .trap .mem
    else goAsync (s.updPick b Pick.issuesPn) b B d op)

/-- R89: `pn.next` issues. -/
def execPnNext (b : Nat) (d a c : Reg) (imm : BitVec 6) (s : State) : Host.Outcome State Fault Refusal :=
  .next (s.issuePn b 0 d a c imm .pnNext)

/-- R90: `pn.peek` issues. -/
def execPnPeek (b : Nat) (d a c : Reg) (imm : BitVec 6) (s : State) : Host.Outcome State Fault Refusal :=
  .next (s.issuePn b 1 d a c imm .pnPeek)

/-- R91, R33: `ord.dom` issues, once, and not after a packet-number request. -/
def execOrdDom (b : Nat) (d a c : Reg) (imm : BitVec 6) (s : State) : Host.Outcome State Fault Refusal :=
  .next (s.issue b (encU 0x22 d a c 0 imm) false [d, a] (fun s B k =>
    if k.ordUsed || k.pnIssued then .trap .illegal
    else goAsync (s.updPick b (fun k => { k with ordUsed := true, ordWait := true })) b B d
      (.ordDom ((B.rd a).setWidth 12))))

/-- R92: `ord.rel`: the pick's `ord.dom` point is passed. -/
def execOrdRel (b : Nat) (d a c : Reg) (imm : BitVec 6) (s : State) : Host.Outcome State Fault Refusal :=
  .next (s.issue b (encU 0x22 d a c 1 imm) false [] (fun s B k =>
    if k.ordUsed || k.pnIssued then .go s (B.pc + 1)
    else .go (s.updPick b (fun k => { k with ordPassed := true })) (B.pc + 1)))

/-! ### Sealing and opening (R93 to R95) -/

/-- R84, R159: the level of a cipher job: HIGH for class 7 or a cut-through request. -/
def Pick.level (k : Pick) (cut : Bool) : Nat := if k.cls = 7 || cut then 2 else 1

/-- R123: output cells of `seal` and `open`. -/
def outputCells (k : Pick) : Nat := (k.frame.length + 16 + 127) / 128

/-- R159, R163: a pick's cipher job submitted at its level; it waits in phase cellWait while no output cells are free
(R123). -/
def State.submitCipher (s : State) (p : Nat) (k : Pick) (c : Cipher) : State :=
  let room := decide (outputCells k ≤ s.cellsFree)
  let slotB := c.snap.slot.getD k.slot
  let job : Job :=
    { id := s.cie.next, kind := if c.isOpen then .opn else .seal, level := c.level, ord := s.cie.next
      ctx := .assoc c.assoc slotB (c.snap.entry.slot slotB).loads, pick := some p }
  let k := { k with
    cipher := some { c with phase := if room then .job else .cellWait }
    cells := k.cells + if room then outputCells k else 0 }
  { s.setPick p k with cie := { s.cie with jobs := s.cie.jobs ++ [job], next := s.cie.next + 1 } }

/-- R93: `seal` issues. -/
def execSealFrame (b : Nat) (d a c : Reg) (imm : BitVec 6) (s : State) : Host.Outcome State Fault Refusal :=
  .next (s.issue b (encU 0x23 d a c 0 imm) false [d, a, c] (fun s B k =>
    let at_ := (B.rd a).toNat
    if imm ≠ 0 || k.sealedOff then .trap .illegal
    else if B.pends AsyncOp.isLookAt || B.pends AsyncOp.isPnNext then .stall s
    else match k.snap, k.served.find? (fun e => e.1 == k.assoc), B.pick with
      | some sn, some e, some p =>
        if !k.snapOk false || !k.servedNow.contains k.assoc then .trap .illegal
        else if k.frame.length < at_ ∨ 16128 < k.frame.length + 16 then .trap .window
        else
          let B1 := { s.bob b with sb := if d = 0 then (s.bob b).sb else (s.bob b).sb ||| put 1 d.toNat }
          .go ((s.setBob b B1).submitCipher p k
            { isOpen := false, d := d, bob := b, pc := B.pc, aad := at_, sci := B.rd c, cut := false
              level := k.level false, phase := .job, ord := 0, snap := sn, assoc := k.assoc, pn := e.2
              result := none, status := 0 }) (B.pc + 1)
      | _, _, _ => .trap .illegal))

/-- R94, R95: `open` issues: its request waits at the reed. -/
def execOpenFrame (b : Nat) (d a c : Reg) (imm : BitVec 6) (s : State) : Host.Outcome State Fault Refusal :=
  .next (s.issue b (encU 0x24 d a c 0 imm) false [d, a, c] (fun s B k =>
    let at_ := (B.rd a).toNat
    let cut := imm.getLsbD 0
    if 2 ≤ imm.toNat || k.sealedOff then .trap .illegal
    else if B.pends AsyncOp.isLookAt then .stall s
    else match k.snap with
      | none => .trap .illegal
      | some sn =>
        if !k.snapOk true || (cut && (d != 0 || !sn.entry.cut)) then .trap .illegal
        else if k.frame.length < at_ + 16 then .trap .window
        else if k.memTrap then .trap .mem
        else
          let s := s.setBob b { s.bob b with sb := if d = 0 then (s.bob b).sb else (s.bob b).sb ||| put 1 d.toNat }
          .go (s.updPick b (fun k => { k.issuesPn with
            cipher := some
              { isOpen := true, d := d, bob := b, pc := B.pc, aad := at_, sci := B.rd c, cut := cut
                level := k.level cut, phase := .requested, ord := 0, snap := sn, assoc := k.assoc, pn := k.pn
                result := none, status := 0 } })) (B.pc + 1)))

/-! ### Check values (R96 to R98, R483 to R486) -/

/-- R483, R486: a profile as `crc.set` copies it, with the profile's initial register. -/
def State.profile (s : State) (p : Nat) : CrcCtx :=
  let ctl := s.reg .cvuCtl p
  { w := if fld ctl 0 2 = 1 then 1 else if fld ctl 0 2 = 2 then 2 else 4
    poly := s.reg .cvuPoly p, refin := ctl.getLsbD 2, refout := ctl.getLsbD 3
    xorout := s.reg .cvuXor p, reg := s.reg .cvuInit p }

/-- R97: `crc.run`: frame bytes a to a + b − 1 into the context. -/
def execCrcRun (b : Nat) (d a c : Reg) (imm : BitVec 6) (s : State) : Host.Outcome State Fault Refusal :=
  .next (s.issue b (encU 0x25 d a c 0 imm) false [a, c] (fun s B k =>
    let x := (B.rd a).toNat
    let n := (B.rd c).toNat
    if k.sealedOff then .trap .illegal
    else if n = 0 ∨ k.frame.length < x + n then .trap .window
    else .go (s.setBob b { s.bob b with crc := B.crc.feed ((k.frame.drop x).take n) }) (B.pc + 1)))

/-- R97: `crc.chk`: frame bytes a to len − w − 1, then a compare with the check value at len − w. Of two in one queue the
last compare counts (log entry 103). -/
def execCrcChk (b : Nat) (d a c : Reg) (imm : BitVec 6) (s : State) : Host.Outcome State Fault Refusal :=
  .next (s.issue b (encU 0x25 d a c 1 imm) false [a] (fun s B k =>
    let x := (B.rd a).toNat
    let n := k.frame.length - B.crc.w
    if k.sealedOff then .trap .illegal
    else if k.frame.length < B.crc.w + x then .trap .window
    else
      let ctx := B.crc.feed ((k.frame.take n).drop x)
      .go (s.setBob b { s.bob b with crc := { ctx with chk := some (ctx.stored == k.frame.drop n, B.crc.w) } }) (B.pc + 1)))

/-- R98: the queued compare matched. -/
def CrcCtx.matched (c : CrcCtx) : Bool := c.chk.any (fun x => x.1)

/-- R98: the check bytes a `crc.get` strips: the width the compare ran at when it matched. -/
def CrcCtx.toStrip (c : CrcCtx) : Nat :=
  match c.chk with
  | some (true, w) => w
  | _ => 0

/-- R98: `crc.get` issues: it ends the queue, whose result completes later; a queued compare that matched strips its
check bytes then. -/
def execCrcGet (b : Nat) (d a c : Reg) (imm : BitVec 6) (s : State) : Host.Outcome State Fault Refusal :=
  .next (s.issue b (encU 0x25 d a c 2 imm) false [d] (fun s B _ =>
    let v := if imm.getLsbD 0 then B.crc.reg.toNat else B.crc.value
    let v := v + (if B.crc.chk.isSome then 2 ^ 32 else 0) + (if B.crc.matched then 2 ^ 33 else 0)
    let s := s.setBob b { s.bob b with crc := { B.crc with chk := none } }
    goAsync s b B d (.crcGet (BitVec.ofNat 64 v) B.crc.toStrip)))

/-- R96: `crc.set`: the context bound to profile imm[3:0], with its initial value or the raw context from a; a queued
compare stays queued until `crc.get` ends the queue (R98). -/
def execCrcSet (b : Nat) (d a c : Reg) (imm : BitVec 6) (s : State) : Host.Outcome State Fault Refusal :=
  .next (s.issue b (encU 0x25 d a c 3 imm) false [a] (fun s B _ =>
    let p := s.profile (imm.toNat % 16)
    let ctx := if imm.getLsbD 4 then { p with reg := BitVec.ofNat 32 ((B.rd a).toNat % 2 ^ (8 * p.w)) } else p
    .go (s.setBob b { s.bob b with crc := { ctx with chk := B.crc.chk } }) (B.pc + 1)))

/-! ### Time-aware instructions (R100) -/

/-- R100: `tb`; the nanoseconds of a `tb 1` that directly follows a `tb 0` are those it latched. -/
def execTb (b : Nat) (d a c : Reg) (imm : BitVec 6) (s : State) : Host.Outcome State Fault Refusal :=
  .next (s.issue b (encU 0x27 d a c 0 imm) false [d] (fun s B _ =>
    let sec := s.tb.tod / 10 ^ 9
    let ns := s.tb.tod % 10 ^ 9
    if 3 ≤ imm.toNat then .trap .illegal
    else
      let v : DWord := match imm.toNat with
        | 0 => BitVec.ofNat 64 (sec % 2 ^ 48)
        | 1 => BitVec.ofNat 64 (B.tbNs.getD ns)
        | _ => s.now64
      let B1 := (s.bob b).wr d v
      .go (s.setBob b { B1 with tbNs := if imm = 0 then some ns else none }) (B.pc + 1)))

end Sys2Proof.Machine
end

