-- ==== Sys2Proof/Machine/Dispo.lean ====
section
/-! DEFINITION. The dispositions `enq`, `drop`, `punt` and `fwd`, and `mirror` (R101 to R106). -/

namespace Sys2Proof.Machine

/-- R94: the pick's `open` has completed without OK: `enq` and `fwd` trap ILLEGAL. -/
def Pick.openFailed (k : Pick) : Bool :=
  match k.cipher with
  | some c => c.isOpen && c.phase == .done && c.status != 0
  | none => false

/-- R88: a `look.at` of the pick has returned OK. -/
def Pick.lookedUp (k : Pick) : Bool :=
  match k.snap with
  | some sn => sn.status == 0
  | none => false

/-- R85: an operation on the cluster scratch. -/
def AsyncOp.isScratch : AsyncOp → Bool
  | .lds .. => true
  | .fadd .. => true
  | _ => false

/-- R30, R101, R139: the pick of a bobbin ends with the record `f` gives it: the bobbin keeps the record until `halt`, the
slot reference is given back unless a cipher job still needs it, and requests for g0 alone are withdrawn. -/
def State.disposePick (s : State) (b : Nat) (f : Pick → Pick) : State :=
  match (s.bob b).pick with
  | none => s
  | some p =>
    match s.pick p with
    | none => s
    | some k =>
      let k := { f k with st := .ended, ordWait := false, endFrame := some k.frame }
      let r := s.giveRef k
      let B := r.1.bob b
      (r.1.setPick p r.2).setBob b
        { B with pick := none, left := some r.2, pend := B.pend.filter (fun o => o.op.isScratch) }

/-- R102: `enq`. -/
def execEnq (b : Nat) (d a c : Reg) (imm : BitVec 6) (s : State) : Host.Outcome State Fault Refusal :=
  .next (s.issue b (encU 0x28 d a c 0 imm) false [] (fun s B k =>
    if B.sb ≠ 0 || (imm.getLsbD 1 && B.pends AsyncOp.isLookAt) then .stall s
    else if 4 ≤ imm.toNat || (imm.getLsbD 1 && !k.lookedUp) || k.openFailed then .trap .illegal
    else if 16128 < k.frame.length then .trap .window
    else
      let q : BitVec 14 := if imm.getLsbD 0 then (B.rd a).setWidth 14 else k.queue
      let q := if imm.getLsbD 1 then q + ((k.snap.map (fun sn => sn.entry.qbase)).getD 0) else q
      .go (s.disposePick b (fun k => { k with queue := q, disp := 1 })) (B.pc + 1)))

/-- R103: the reasons a program may give. -/
def programReason (r : Nat) : Bool := r == 3 || r == 7 || r == 8 || decide (64 ≤ r)

/-- R103, R50: `drop`: pending results are discarded and the pick ends at once. -/
def execDropPick (b : Nat) (d a c : Reg) (imm : BitVec 6) (s : State) : Host.Outcome State Fault Refusal :=
  .next (s.issue b (encU 0x29 d a c 0 imm) false [a] (fun s B k =>
    let r := (B.rd a).toNat % 256
    if !programReason r then .trap .illegal
    else
      let s := s.landFadds b
      let s := s.setBob b { s.bob b with
        pick := none, left := some { k with disp := 2, reason := BitVec.ofNat 8 r }
        sb := 0, pend := [], fenced := false }
      .go (match B.pick with | some p => s.dropPick p r | none => s) (B.pc + 1)))

/-- R104: `punt`: the pick leaves its domain's order at once; the record is released in order (R31). -/
def execPunt (b : Nat) (d a c : Reg) (imm : BitVec 6) (s : State) : Host.Outcome State Fault Refusal :=
  .next (s.issue b (encU 0x2A d a c 0 imm) false [a] (fun s B _ =>
    if B.sb ≠ 0 then .stall s
    else .go (s.disposePick b (fun k =>
      { k with disp := 3, left := true, puntTo := some ((B.rd a).setWidth 8, imm.toNat) })) (B.pc + 1)))

/-- R105: `fwd`. -/
def execFwd (b : Nat) (d a c : Reg) (imm : BitVec 6) (s : State) : Host.Outcome State Fault Refusal :=
  .next (s.issue b (encU 0x2B d a c 0 imm) false [a, c] (fun s B k =>
    let vec := imm.toNat
    let budget := (B.rd c).toNat % 2 ^ 16
    if B.sb ≠ 0 then .stall s
    else if 16 ≤ vec ∨ (vec ≠ 3 ∧ vec < 6) ∨ (c ≠ 0 ∧ budget = 0) ∨ k.openFailed = true then .trap .illegal
    else if s.variant.weftPorts = 0 then .trap .absent
    else if 16128 < k.frame.length then .trap .window
    else .go (s.disposePick b (fun k =>
      { k with disp := 4, fwdTo := some ((B.rd a).setWidth 16, vec, budget) })) (B.pc + 1)))

/-- R106: `mirror`: at most two copies. -/
def execMirror (b : Nat) (d a c : Reg) (imm : BitVec 6) (s : State) : Host.Outcome State Fault Refusal :=
  .next (s.issue b (encU 0x2C d a c 0 imm) false [a] (fun s B k =>
    if 4 ≤ imm.toNat ∨ 2 ≤ k.mirrorCount then .trap .illegal
    else
      let m : Mirror :=
        { toQueue := imm.getLsbD 0
          target := (B.rd a).toNat % (if imm.getLsbD 0 then 16384 else 64), original := imm.getLsbD 1 }
      .go (s.updPick b (fun k => { k with mirrors := k.mirrors ++ [m], mirrorCount := k.mirrorCount + 1 })) (B.pc + 1)))

end Sys2Proof.Machine
end

