-- ==== Sys2Proof/Machine/Store.lean ====
section
/-! DEFINITION. What a DRAM line carries and how it is written (R301 to R303, R305, R311, R313, R319): keys, ciphertext,
counter and MAC, the write clocks, fresh writings of whole ranges, and the lines that table entries, staged cards and
spilled frames occupy. -/

namespace Sys2Proof.Machine

/-! ### Copies (R318 to R320) -/

/-- R318: no stack of a copy is in a state that `bad` names. -/
def State.copyClear (s : State) (b : Bool) (bad : StackSt → Bool) : Bool :=
  let n := s.variant.stacks / 2
  (List.range n).all (fun i => !bad (tget .ok s.msc.stks (i + if b then n else 0)))

/-- R319, R320: the copy that serves a read: B only for the table region in mirror mode. -/
def State.readCopy (s : State) (buffer : Bool) : Bool := !buffer && s.msc.mirror != 0 && s.msc.serveB

/-- R319: the copies that a write goes to: both in mirror mode, but for one with a failed stack. -/
def State.copies (s : State) (buffer : Bool) : List Bool :=
  if buffer || s.msc.mirror == 0 then [false]
  else s.msc.serveB :: (if s.copyClear (!s.msc.serveB) (· == .failed) then [!s.msc.serveB] else [])

/-! ### Requests of channels (R452, R460, R461) -/

/-- R300, R319: the channels that a write of lines needs. -/
def State.channelsOf (s : State) (buffer : Bool) (lines : List Nat) : List Nat :=
  lines.flatMap (fun l => (s.copies buffer).map (fun b => s.lineChannel buffer l b))

/-- R452, R460: lines are requested: their channels are asked for. -/
def State.useLines (s : State) (buffer : Bool) (lines : List Nat) : State := s.useChannels (s.channelsOf buffer lines)

/-- R461: a channel takes no request until it has returned; one of a failed stack is not waited for. -/
def State.chanSleeps (s : State) (ch : Nat) : Bool := !s.chanOn ch && (s.dom (64 + ch)).ready != .quarantined

/-- R461: a channel that a write of lines needs sleeps. -/
def State.linesOff (s : State) (buffer : Bool) (lines : List Nat) : Bool :=
  s.msc.done && (s.channelsOf buffer lines).any s.chanSleeps

/-- R452: the cache banks of the variant. -/
def State.banks (s : State) : Nat := (List.range 8).countP (fun k => s.variant.domain (80 + k))

/-- R452: the cache bank that an association's or a flow bucket's entries hash to. -/
def State.bankOf (s : State) (flow : Bool) (index : Nat) : Nat := 80 + Config.cacheBank flow index % max 1 s.banks

/-- R452: the cache bank of the entry on a line of the table region; none for a line of card staging. -/
def State.lineBank (s : State) (line : Nat) : Option Nat :=
  if line < 2 * s.capacity then some (s.bankOf false (line / 2))
  else if line < 2 * s.capacity + 4 * (s.capacity / 4) then some (s.bankOf true ((line - 2 * s.capacity) / 4))
  else none

/-- R154: on TV16-E, where the caches are the whole tables, the banks that the entries on lines need. -/
def State.tableBanks (s : State) (lines : List Nat) : List Nat :=
  if s.variant = .tv16e then (lines.filterMap s.lineBank).dedup.insertionSort (· ≤ ·) else []

/-- R154, R461: a cache bank takes work: awake, and its return is over; a quarantined one is not waited for. -/
def State.bankOn (s : State) (d : Nat) : Bool :=
  ((s.dom d).up && (s.dom d).ready == .fresh) || (s.dom d).ready == .quarantined

/-- R154, R311, R461: a command that writes table lines waits: one of them is re-rooted, or a channel, or on TV16-E a cache
bank, that it needs sleeps. -/
def State.writeWaits (s : State) (lines : List Nat) : Bool :=
  s.tableWaits lines || s.linesOff false lines || (s.tableBanks lines).any (fun d => !s.bankOn d)

/-- R154, R452, R460: what a command that writes table lines needs is asked for. -/
def State.askTable (s : State) (lines : List Nat) : State :=
  (s.tableBanks lines).foldl (fun t d => if (t.dom d).upOnce then t.askWake d .sleep else t) (s.useLines false lines)

/-! ### Keys and stored lines (R302, R303) -/

/-- R302: the keys K_enc, K_mac and H of draw n. -/
def regionKeys (n : Nat) : Bytes × Bytes × BitVec 128 :=
  (bytes256 (Config.drbg n), bytes256 (Config.drbg (n + 1)), (Config.drbg (n + 2)).setWidth 128)

/-- R302: block X. -/
def lineX (buffer : Bool) (mki line j : Nat) (ctr : DWord) : Bytes :=
  beBytes ((((((regionNo buffer * 256 + mki) * 2 ^ 39 + line) * 4 + j) * 2 ^ 14) * 2 ^ 64) + ctr.toNat) 16

/-- R302: the keystream of a line. -/
def lineStream (key : Bytes) (buffer : Bool) (mki line : Nat) (ctr : DWord) : Bytes :=
  let rks := roundKeys key
  (List.range 4).flatMap (fun j => aesEnc rks (lineX buffer mki line j ctr))

/-- R302: GHASH over whole blocks, without a length block. -/
def ghashBlocks (h : BitVec 128) (bs : Bytes) : BitVec 128 :=
  ((List.range (bs.length / 16)).map (fun i => BitVec.ofNat 128 (beNat (slice bs (16 * i) 16)))).foldl
    (fun y x => gfMul (y ^^^ x) h) 0

/-- R302: the line MAC over the 64 stored bytes. -/
def lineMac (k : Bytes × Bytes × BitVec 128) (buffer : Bool) (mki line : Nat) (ctr : DWord) (stored : Bytes) : DWord :=
  let y := ghashBlocks k.2.2 (stored ++ lineX buffer mki line 0 ctr)
  BitVec.ofNat 64 (beNat ((aesEnc (roundKeys k.2.1) (beBytes y.toNat 16)).take 8))

/-- R302, R306: the key draw that serves a request, if it may be served: the table region key, or a memory key index that
is ACTIVE, or RETIRING for a read. -/
def State.keyDraw (s : State) (buffer : Bool) (mki : Nat) (write : Bool) : Option Nat :=
  if !buffer then s.msc.tableKey
  else
    let k := tget {} s.msc.mkis mki
    match k.st with
    | .active => some k.draw
    | .retiring => if write then none else some k.draw
    | .unkeyed => none

/-- R301, R318: the key of a line in `Msc.lines`, in copy B of the table region when `b` says so. -/
def lineKey (buffer : Bool) (line : Nat) (b : Bool := false) : Nat :=
  2 * (line + if b then 2 ^ 40 else 0) + regionNo buffer

/-- R301, R318: the key of a node in `Msc.nodes`. -/
def nodeKey (buffer b : Bool) (level index : Nat) : Nat :=
  (level * 2 + regionNo buffer) * 2 ^ 40 + index + if b then 2 ^ 60 else 0

/-- R301: a key of `Msc.lines` is of one of a range of lines of a region. -/
def keyInRange (k : Nat) (buffer : Bool) (first count : Nat) : Bool :=
  k % 2 == regionNo buffer && decide (first ≤ k / 2 % 2 ^ 40 ∧ k / 2 % 2 ^ 40 < first + count)

/-- R301: a key of `Msc.nodes` is of a node that lies whole above a range of lines of a region. -/
def nodeInRange (k : Nat) (buffer : Bool) (first count : Nat) : Bool :=
  let level := k % 2 ^ 60 / 2 ^ 41
  let index := k % 2 ^ 40
  k / 2 ^ 40 % 2 == regionNo buffer && decide (first ≤ index * 8 ^ level ∧ (index + 1) * 8 ^ level ≤ first + count)

/-! ### Write clocks (R303) -/

/-- R303: every channel of a list can take its writes: no clock would reach its end. -/
def State.clockRoom (s : State) (chs : List Nat) : Bool :=
  chs.all (fun ch => decide (tget 0 s.msc.clocks ch + chs.count ch < 2 ^ 64 - 1))

/-- R303: a write that would need a clock's last value: CLOCK_END and MEM_INTEGRITY. -/
def State.clockEnd (s : State) : State := (s.setRegBit .mscStat 3).fire 12

/-- R303: the next value of a channel's write clock. -/
def State.tick (s : State) (ch : Nat) : Nat × State :=
  let c := tget 0 s.msc.clocks ch + 1
  (c, { s with msc := { s.msc with clocks := tset 0 s.msc.clocks ch c } })

/-- R301: the counter lines and tree nodes of a path. -/
def State.pathNodes (s : State) (buffer : Bool) (path : List PathObs) : List PathObs :=
  path.filter (fun o => o.level != 0 && decide (o.level ≤ s.treeLevels buffer))

/-- R319: the lines of a path up to where the levels stop rising: those of the first copy; and those of the other one, which
follow. -/
def splitPath : List PathObs → List PathObs × List PathObs
  | [] => ([], [])
  | [o] => ([o], [])
  | o :: p :: os =>
    if o.level < p.level then
      let r := splitPath (p :: os)
      (o :: r.1, r.2)
    else ([o], p :: os)

/-- R319: the part of a write's path that lies in a copy: the one that serves reads first, then the other one. -/
def State.pathIn (s : State) (buffer b : Bool) (path : List PathObs) : List PathObs :=
  if (s.copies buffer).length ≤ 1 then path
  else if b == s.readCopy buffer then (splitPath path).1 else (splitPath path).2

/-- R304, R313: the counter lines and tree nodes above a line that the metadata cache does not hold when the T32 writes the line
of its own accord or for a command: how many levels of them is free, and they are taken to verify (log entry 68). -/
def State.ownPath (s : State) (buffer : Bool) (line : Nat) : List PathObs :=
  (List.range (Config.uncachedLevels buffer line (tget 0 s.msc.clocks (s.lineChannel buffer line (s.readCopy buffer)))
    % (s.treeLevels buffer + 1))).map (fun j =>
      { level := j + 1, index := line / 8 ^ (j + 1), sym := .clean, pass := true })

/-- R301, R303, R313: the counter lines and tree nodes of a path (those not cached) written with new counters. -/
def State.writeNodes (s : State) (buffer b : Bool) (path : List PathObs) : State :=
  (s.pathNodes buffer path).foldl (fun t o =>
    let r := t.tick (t.channelOf buffer b o.level o.index)
    { r.2 with msc := { r.2.msc with nodes := tset 0 r.2.msc.nodes (nodeKey buffer b o.level o.index) r.1 } }) s

/-- R303, R319: the channels of the lines and nodes that a write stores, one entry for each. -/
def State.writeChannels (s : State) (buffer : Bool) (line : Nat) (path : List PathObs) : List Nat :=
  (s.copies buffer).flatMap (fun b => s.lineChannel buffer line b
    :: (s.pathNodes buffer (s.pathIn buffer b path)).map (fun o => s.channelOf buffer b o.level o.index))

/-- R302, R303, R313: a line of one copy written under a key draw: new counter, ciphertext and MAC, then its path. -/
def State.storeCopy (s : State) (buffer b : Bool) (mki draw line : Nat) (plain : Bytes) (path : List PathObs) : State :=
  let r := s.tick (s.lineChannel buffer line b)
  let k := regionKeys draw
  let ctr := BitVec.ofNat 64 r.1
  let data := xorBytes (slice plain 0 64) (lineStream k.1 buffer mki line ctr)
  let l : Line := { data := data, ctr := ctr, mac := lineMac k buffer mki line ctr data, mki := mki }
  let s := { r.2 with msc := { r.2.msc with lines := tset {} r.2.msc.lines (lineKey buffer line b) l } }
  s.writeNodes buffer b path

/-- R313, R319: a line written, in mirror mode in every copy that takes writes. -/
def State.storeLine (s : State) (buffer : Bool) (mki draw line : Nat) (plain : Bytes) (path : List PathObs) : State :=
  (s.copies buffer).foldl (fun t b => t.storeCopy buffer b mki draw line plain (s.pathIn buffer b path)) s

/-- R303, R313: a line written, or the write refused with a bus error at a clock's end. -/
def State.tryStore (s : State) (buffer : Bool) (mki draw line : Nat) (plain : Bytes) (path : List PathObs) : State :=
  if s.clockRoom (s.writeChannels buffer line path) then s.storeLine buffer mki draw line plain path else s.clockEnd

/-! ### Table entries as stored (R129, R130, R150) -/

/-- R129: the common part of an entry: 16 bytes, with a STATE code. -/
def AtEntry.head (e : AtEntry) (state : Nat) : Bytes :=
  let b (x : Bool) (i : Nat) : Nat := if x then 2 ^ i else 0
  leBytes (state + e.suite.toNat * 2 ^ 4 + b e.mode 8 + b e.txslot 9 + b e.cut 10 + b e.replay 11 + e.k.toNat * 2 ^ 12
      + e.domain.toNat * 2 ^ 18 + e.a.kn.toNat * 2 ^ 24 + e.b.kn.toNat * 2 ^ 26 + b e.a.valid 28 + b e.b.valid 29
      + b e.a.exh 30 + b e.b.exh 31) 4
    ++ leBytes e.window.toNat 4
    ++ leBytes (e.policer.toNat + b e.cutEvent 20 + b e.a.drain 21 + b e.b.drain 22) 4
    ++ leBytes e.qbase.toNat 4

/-- R129, R133: the common part, STATE as shown. -/
def AtEntry.common (e : AtEntry) : Bytes := e.head e.shown

/-- R133: the STATE code stored. -/
def AtSt.code : AtSt → Nat
  | .empty => 0
  | .active => 1
  | .suspended => 2
  | .poisoned => 4

/-- R130: a slot's 56 bytes as stored. -/
def Slot.raw (x : Slot) : Bytes := slice x.key 0 32 ++ slice x.salt 0 12 ++ slice x.ssci 0 4 ++ leBytes x.pn.toNat 8

/-- R129, R130: the 128 bytes of an entry as stored. -/
def AtEntry.raw (e : AtEntry) : Bytes := e.head e.st.code ++ e.a.raw ++ e.b.raw

/-- R150: a flow entry as bytes. -/
def Flow.bytes (x : Flow) : Bytes :=
  leBytes x.lo.toNat 8 ++ leBytes x.hi.toNat 8
    ++ leBytes (x.space.toNat + x.domain.toNat * 2 ^ 6 + (if x.poisoned then 4 else 1) * 2 ^ 12) 4
    ++ leBytes x.result.toNat 8 ++ leBytes x.hits.toNat 4 ++ List.replicate 32 0

/-- R150: the 64 bytes at a place of a bucket. -/
def flowAt (l : List Flow) (bucket place : Nat) : Bytes :=
  match l.find? (fun (x : Flow) => x.bucket == bucket && x.place == place) with
  | some x => x.bytes
  | none => List.replicate 64 0

/-- R300: the 64 bytes of a table-region line as the tables have its entry. -/
def State.tableBytes (s : State) (line : Nat) : Bytes :=
  if line < 2 * s.capacity then slice (s.assoc (line / 2)).raw (64 * (line % 2)) 64
  else if line < s.stageBase s.shu.curSecond then
    flowAt s.tab.flows ((line - 2 * s.capacity) / 4) ((line - 2 * s.capacity) % 4)
  else List.replicate 64 0

/-! ### Lines that commands write (R154, R313) -/

/-- R313: a path of a line in every copy that a write goes to. -/
def State.ownPaths (s : State) (buffer : Bool) (line : Nat) : List PathObs :=
  (s.copies buffer).flatMap (fun _ => s.ownPath buffer line)

/-- R303: the clocks have room for the writes of table lines and of their paths; without the region's key there is nothing to
write. -/
def State.tableRoom (s : State) (lines : List Nat) : Bool :=
  s.msc.tableKey.isNone || s.clockRoom (lines.flatMap (fun l => s.writeChannels false l (s.ownPaths false l)))

/-- R303, R310, R313, R319, R452: table lines written as the tables have them, with their paths; a suspect line takes no write,
and a clock's end refuses them all. -/
def State.writeTable (s : State) (lines : List Nat) : State :=
  match s.msc.tableKey with
  | none => s
  | some d =>
    let open_ := lines.filter (fun l => !s.suspect false l)
    let s := s.useLines false lines
    if !s.tableRoom open_ then s.clockEnd
    else (open_.map (fun l => (l, s.ownPaths false l))).foldl
      (fun t e => t.storeLine false 0 d e.1 (t.tableBytes e.1) e.2) s

/-- R154, R313: association i written as its entry stands. -/
def State.writeAssoc (s : State) (i : Nat) : State := s.writeTable (assocLines i)

/-- R150, R300: the table-region line of a flow's place. -/
def State.flowLine (s : State) (x : Flow) : Nat := 2 * s.capacity + 4 * x.bucket + x.place

/-- R151, R154: the lines at which two states of the flow table differ. -/
def State.flowChanges (s : State) (old new : List Flow) : List Nat :=
  ((new.filter (fun x => !old.contains x) ++ old.filter (fun x => !new.contains x)).map s.flowLine).dedup

/-- R151, R154, R313: the flow table replaced, and the lines that change written. -/
def State.setFlows (s : State) (l : List Flow) : State :=
  ({ s with tab := { s.tab with flows := l } }).writeTable (s.flowChanges s.tab.flows l)

/-- R310, R313: a line that the T32 writes of its own accord, with its path; a suspect line takes no write. -/
def State.ownStore (s : State) (buffer : Bool) (mki draw line : Nat) (plain : Bytes) : State :=
  if s.suspect buffer line then s else s.tryStore buffer mki draw line plain (s.ownPaths buffer line)

/-- R313, R452: bytes written to consecutive lines from a first one on, the last line padded with zeros. -/
def State.writeBytes (s : State) (buffer : Bool) (mki draw first : Nat) (bs : Bytes) : State :=
  let n := (bs.length + 63) / 64
  (List.range n).foldl (fun t i => t.ownStore buffer mki draw (first + i) (slice bs (64 * i) 64))
    (s.useLines buffer ((List.range n).map (· + first)))

/-! ### Fresh writings (R303, R305, R311, R319) -/

/-- R300, R301, R303: of the first x units of 8^level lines of an area interleaved in chunks of `chunk` lines over n
channels, how many lie on channel ch. -/
def unitsBelow (chunk n level x ch : Nat) : Nat :=
  if 8 ^ level ≤ chunk then
    let g := chunk / 8 ^ level
    x / (g * n) * g + min g (x % (g * n) - g * ch)
  else
    let step := 8 ^ level / chunk
    ((List.range n).filter (fun r => r * step % n == ch)).foldl (fun k r => k + (x + n - 1 - r) / n) 0

/-- R303: data lines, counter lines and tree nodes that lie whole in a range of an area and on a channel. -/
def unitsIn (chunk n levels first last ch : Nat) : Nat :=
  ((List.range levels).filter (fun j => decide (first + 8 ^ j ≤ last))).foldl (fun k j =>
    k + (unitsBelow chunk n j (last / 8 ^ j) ch - unitsBelow chunk n j ((first + 8 ^ j - 1) / 8 ^ j) ch)) 0

/-- R303: how many units of an area and a channel stand before one of a level in a range, counted level by level in ascending
order. -/
def unitRank (chunk n first last ch level index : Nat) : Nat :=
  unitsIn chunk n level first last ch
    + (unitsBelow chunk n level index ch - unitsBelow chunk n level ((first + 8 ^ level - 1) / 8 ^ level) ch)

/-- R303: the writes on a channel of a fresh writing of a range of one copy. -/
def State.freshWrites (s : State) (buffer b : Bool) (first count ch : Nat) : Nat :=
  let n := s.channels
  let last := first + count
  let levels := s.treeLevels buffer + 1
  if buffer then
    let base := s.variant.spillBase
    unitsIn 64 n levels (min first base) (min last base) ch
      + unitsIn 1024 n levels (max first base - base) (max last base - base) ch
  else if s.msc.mirror = 0 then unitsIn 64 n levels first last ch
  else
    let half := n / 2
    if b = decide (half ≤ ch) then unitsIn 64 half levels first last (ch % half) else 0

/-- R303: the place of a line or node among the writes on its channel of a fresh writing of a range of one copy. -/
def State.freshRank (s : State) (buffer : Bool) (first count ch level index : Nat) : Nat :=
  let n := s.channels
  let last := first + count
  if buffer then
    let base := s.variant.spillBase
    if index * 8 ^ level < base then unitRank 64 n (min first base) (min last base) ch level index
    else
      unitsIn 64 n (s.treeLevels true + 1) (min first base) (min last base) ch
        + unitRank 1024 n (max first base - base) (max last base - base) ch level (index - base / 8 ^ level)
  else if s.msc.mirror = 0 then unitRank 64 n first last ch level index
  else unitRank 64 (n / 2) first last (ch % (n / 2)) level index

/-- R303: for each channel the write clock and the writes of a fresh writing of a range of one copy. -/
def State.freshSpans (s : State) (buffer b : Bool) (first count : Nat) : List (Nat × Nat × Nat) :=
  (List.range s.channels).map (fun ch => (ch, (tget 0 s.msc.clocks ch, s.freshWrites buffer b first count ch)))

/-- R303: no clock would reach its end in a fresh writing. -/
def State.freshRoom (s : State) (buffer b : Bool) (first count : Nat) : Bool :=
  (s.freshSpans buffer b first count).all (fun e => decide (e.2.1 + e.2.2 < 2 ^ 64 - 1))

/-- R303, R311: a range of one copy written afresh: every line of it and every node that lies whole in it takes a new
counter, and none that an earlier write left is listed any more. Refused at a clock's end. -/
def State.freshen (s : State) (buffer b : Bool) (first count : Nat) : State :=
  let m := s.msc
  let spans := s.freshSpans buffer b first count
  if !s.freshRoom buffer b first count then s.clockEnd
  else
    let hit (k : Nat) : Bool := keyInRange k buffer first count && decide (2 ^ 40 ≤ k / 2) == b
    let hitNode (k : Nat) : Bool := nodeInRange k buffer first count && decide (2 ^ 60 ≤ k) == b
    let p : FreshPass :=
      { buffer := buffer, copyB := b, first := first, count := count, no := m.passNo, spans := spans }
    { s with msc := { m with
        clocks := spans.foldl (fun t e => tset 0 t e.1 (e.2.1 + e.2.2)) m.clocks
        lines := m.lines.filter (fun e => !hit e.1), nodes := m.nodes.filter (fun e => !hitNode e.1)
        passes := p :: m.passes, passNo := m.passNo + 1 } }

/-- R303: the counter that a fresh writing gave a line (level 0) or a node on a channel, of the place `rank` among the
channel's writes: no two of them are the same; with which of them the writing began is free. -/
def FreshPass.ctr (p : FreshPass) (ch rank : Nat) : Nat :=
  let e := tget (0, 0) p.spans ch
  e.1 + 1 + (rank + Config.freshCtr p.no ch) % max 1 e.2

/-- R303: the latest fresh writing of a line or node. -/
def State.passOf (s : State) (buffer b : Bool) (level index : Nat) : Option FreshPass :=
  s.msc.passes.find? (fun p => p.buffer == buffer && p.copyB == b
    && decide (p.first ≤ index * 8 ^ level ∧ (index + 1) * 8 ^ level ≤ p.first + p.count))

/-- R301, R303: the counter of a line or node as its parent holds it; 0 before initialisation. -/
def State.counterOf (s : State) (buffer b : Bool) (level index : Nat) : Nat :=
  let listed := if level = 0 then (tfind s.msc.lines (lineKey buffer index b)).map (fun l => l.ctr.toNat)
    else tfind s.msc.nodes (nodeKey buffer b level index)
  match listed, s.passOf buffer b level index with
  | some c, _ => c
  | none, some p =>
    let ch := s.channelOf buffer b level index
    p.ctr ch (s.freshRank buffer p.first p.count ch level index)
  | none, none => 0

/-- R301: the 64 bytes of a counter line or tree node: the counters of the 8 lines or nodes beneath it. -/
def State.nodeBytes (s : State) (buffer b : Bool) (level index : Nat) : Bytes :=
  (List.range 8).flatMap (fun i => leBytes (s.counterOf buffer b (level - 1) (8 * index + i)) 8)

/-- R306: the memory key index under which a line was written. -/
def State.lineMki (s : State) (buffer : Bool) (line : Nat) : Nat :=
  if !buffer then 0
  else match tfind s.msc.lines (lineKey buffer line) with
    | some l => l.mki
    | none => match s.passOf buffer false 0 line with
      | some p => Config.freshMki p.no line % 256
      | none => 0

/-- R305, R311: a line as stored: as last written, or as a fresh writing left it: a table entry as the tables have it, or
zeros. -/
def State.lineOf (s : State) (buffer b : Bool) (line : Nat) : Line :=
  match tfind s.msc.lines (lineKey buffer line b), s.keyDraw buffer (s.lineMki buffer line) false with
  | some l, _ => l
  | none, none => {}
  | none, some d =>
    let k := regionKeys d
    let mki := s.lineMki buffer line
    let ctr := BitVec.ofNat 64 (s.counterOf buffer b 0 line)
    let plain := if buffer then List.replicate 64 0 else s.tableBytes line
    let data := xorBytes plain (lineStream k.1 buffer mki line ctr)
    { data := data, ctr := ctr, mac := lineMac k buffer mki line ctr data, mki := mki }

/-- R301, R302: the MAC that a MAC line holds for a data line, a counter line or a tree node. -/
def State.macOf (s : State) (buffer b : Bool) (level index : Nat) : DWord :=
  if level = 0 then (s.lineOf buffer b index).mac
  else
    let p := Config.nodePlace buffer level index
    match s.keyDraw buffer (p.1 % 256) false with
    | none => 0
    | some d =>
      lineMac (regionKeys d) buffer (if buffer then p.1 % 256 else 0) p.2
        (BitVec.ofNat 64 (s.counterOf buffer b level index)) (s.nodeBytes buffer b level index)

/-- R302: the plain bytes of a line; one that a fresh writing left holds a table entry or zeros. -/
def State.plainLine (s : State) (buffer : Bool) (draw line : Nat) : Bytes :=
  match tfind s.msc.lines (lineKey buffer line (s.readCopy buffer)) with
  | none => if buffer then List.replicate 64 0 else s.tableBytes line
  | some l => xorBytes l.data (lineStream (regionKeys draw).1 buffer l.mki line l.ctr)

/-- R319, R320: a range of the table region rewritten into copy `bad` from the other one, with new counters. -/
def State.copyOver (s : State) (bad : Bool) (first count : Nat) : State :=
  match s.msc.tableKey with
  | none => s
  | some d =>
    let from_ := s.msc.lines.filter (fun e => keyInRange e.1 false first count && decide (2 ^ 40 ≤ e.1 / 2) != bad)
    let t := s.freshen false bad first count
    from_.foldl (fun t e =>
      let line := e.1 / 2 % 2 ^ 40
      let k := regionKeys d
      let ctr := BitVec.ofNat 64 (t.counterOf false bad 0 line)
      let data := xorBytes (xorBytes e.2.data (lineStream k.1 false 0 line e.2.ctr)) (lineStream k.1 false 0 line ctr)
      let l : Line := { data := data, ctr := ctr, mac := lineMac k false 0 line ctr data, mki := 0 }
      { t with msc := { t.msc with lines := tset {} t.msc.lines (lineKey false line bad) l } }) t

end Sys2Proof.Machine
end

