-- ==== Sys2Proof/Machine/Queue.lean ====
section
/-! DEFINITION. Ports and queues: what a port is and how fast it sends (R206, R265, R330 to R332), a frame's sent and
shaped length (R128, R270), class rings (R269), and the admission of a released frame to its queue (R281, R290). -/

namespace Sys2Proof.Machine

/-! ### Ports -/

/-- R332: lanes of a mode, 0 for NONE and reserved codes. -/
def modeWidth (m : Nat) : Nat := [0, 1, 1, 1, 4, 2, 1, 4, 2, 8, 4, 8, 1].getD m 0

/-- R332: MAC rate of a mode in Gb/s. -/
def modeRate (m : Nat) : Nat := [0, 10, 25, 50, 100, 100, 100, 200, 200, 400, 400, 800, 0].getD m 0

/-- R356: EN of a port. -/
def State.portEn (s : State) (p : Nat) : Bool := (s.reg .lnePortCfg p).getLsbD 0

/-- R356: MODE of a port. -/
def State.portMode (s : State) (p : Nat) : Nat := s.field .lnePortCfg p 1 4

/-- R331: a lane that a wider enabled port with a lower first lane covers. -/
def State.covered (s : State) (l : Nat) : Bool :=
  (List.range 8).any (fun d =>
    decide (1 ≤ d ∧ d ≤ l % 32) && s.portEn (l - d) && decide (d < modeWidth (s.portMode (l - d))))

/-- R206: the group that names line lane 32 + m, if one does. -/
def State.groupOf (s : State) (m : Nat) : Option Nat :=
  (List.range 8).find? (fun g => (s.reg .wovGrpLanes g).getLsbD m)

/-- R265: the lowest member of a group. -/
def State.lowMember (s : State) (g : Nat) : Nat :=
  ((List.range 32).find? (fun m => (s.reg .wovGrpLanes g).getLsbD m)).getD 0

/-- R226, R265: the port of a woven group. -/
def State.groupPort (s : State) (g : Nat) : Nat := 32 + s.lowMember g

/-- R265: what serves the queues mapped to a port number. -/
inductive PortKind where
  | none
  | eth
  | woven (g : Nat)
deriving DecidableEq, Repr

/-- R265: a port number that is a port's first lane, a woven group's lowest member, or served by no port. -/
def State.portKind (s : State) (p : Nat) : PortKind :=
  match (if 32 ≤ p then s.groupOf (p - 32) else none) with
  | some g => if s.groupPort g = p then .woven g else .none
  | none =>
    if s.variant.lane p && s.portMode p != 0 && s.portMode p != 12 && !s.covered p then .eth else .none

/-- R201: a line port in tag mode with ENABLE 0. -/
def State.tagOff (s : State) (p : Nat) : Bool := decide (32 ≤ p) && !(s.reg .tagPortCfg (p - 32)).getLsbD 0

/-- R206: data members of a group's transmit map. -/
def dataMembers (map : Word) : List Nat := (List.range 32).filter (fun m => map.getLsbD m)

/-- R267, R277: the time n bytes take on a port, as nanoseconds over a denominator: the MAC rate, or the cloth capacity
of 16,368 bytes in 1,310.72 ns for each data member. -/
def State.portTime (s : State) (p n : Nat) : Nat × Nat :=
  match s.portKind p with
  | .woven g => (n * 131072, 1636800 * (dataMembers (s.group g).mapInForce).length)
  | _ => (n * 8, modeRate (s.portMode p))

/-- A time as whole nanoseconds, rounded up; a port without a rate never finishes. -/
def ceilNs (t : Nat × Nat) : Nat := if t.2 = 0 then 2 ^ 64 else (t.1 + t.2 - 1) / t.2

/-! ### Frames as sent -/

/-- R128: a frame without the SecTAG at offset 12. -/
def stripSecTag (f : Bytes) : Bytes :=
  f.take 12 ++ f.drop (12 + if (f.getD 14 0).getLsbD 5 then 16 else 8)

/-- R128: the port removes the pick's SecTAG: from a tag-mode line port, its `open` OK or still to come (R177). -/
def Pick.strips (k : Pick) : Bool :=
  k.src == 1 && (k.opened || (match k.cipher with
    | some c => c.isOpen && c.cut && c.phase != .done
    | none => false))

/-- R94, R177: the frame an unfinished `open` will leave: the engine's decrypted output. -/
def Cipher.plain (c : Cipher) (f : Bytes) : Bytes :=
  let sl := c.snap.entry.slot (c.snap.slot.getD false)
  let key := sl.key.take c.snap.entry.keyLen
  let iv := suiteIv c.snap.entry.xpn sl c.sci c.pn.toNat
  let body := f.take (f.length - 16)
  f.take c.aad ++ (gcmOpen key iv (f.take c.aad) (body.drop c.aad) (f.drop (f.length - 16))).1

/-- R128, R177: a pick's bytes as a clear or line port sends them, without FCS. -/
def Pick.sent (k : Pick) (port : Nat) : Bytes :=
  let f := match k.cipher with
    | some c => if c.isOpen && c.cut && c.phase != .done then c.plain k.frame else k.frame
    | none => k.frame
  if port < 32 && k.strips then stripSecTag f else f

/-- R270: the sent length of an item of a queue on a port. -/
def State.sentLen (s : State) (port : Nat) (i : QItem) : Nat :=
  match i with
  | .pick p =>
    match s.pick p with
    | none => 0
    | some k =>
      let n := match k.cipher with
        | some c => if c.isOpen && c.cut && c.phase != .done then k.frame.length - 16 else k.frame.length
        | none => k.frame.length
      if port < 32 && k.strips then n - (if (k.frame.getD 14 0).getLsbD 5 then 16 else 8) else n
  | .held f => (if port < 32 && f.strip then stripSecTag f.frame else f.frame).length
  | .spilled f _ _ _ => (if port < 32 && f.strip then stripSecTag f.frame else f.frame).length

/-- R270: the shaped length: the sent length, at most 16,128. -/
def State.shapedLen (s : State) (port : Nat) (i : QItem) : Nat := satTo 16128 (s.sentLen port i)

/-- R270: the charged length. -/
def State.chargedLen (s : State) (port : Nat) (i : QItem) : Nat := s.sentLen port i + 24

/-! ### Queues -/

/-- R290: PORT of a queue. -/
def State.qPort (s : State) (q : Nat) : Nat := s.field .schQMap q 0 6

/-- R290: CLASS of a queue. -/
def State.qClass (s : State) (q : Nat) : Nat := s.field .schQMap q 6 3

/-- R282: depth of a queue, spilled frames included. -/
def State.depth (s : State) (q : Nat) : Nat :=
  (s.queue q).fifo.foldl (fun n i => n + s.shapedLen (s.qPort q) i) 0

/-- R271: the queue's shaper holds it. -/
def State.qHeld (s : State) (q : Nat) : Bool := (s.reg .schQRate q).getLsbD 31 && decide ((s.queue q).credit < 0)

/-- R269: the class ring of a port. -/
def Port.ring (p : Port) (c : Nat) : List Nat := tget [] p.rings c

/-- R269: the class ring of a port set. -/
def Port.setRing (p : Port) (c : Nat) (l : List Nat) : Port := { p with rings := tset [] p.rings c l }

/-- R269: a queue joins its class ring at the tail. -/
def State.joinRing (s : State) (q : Nat) : State :=
  let p := s.port (s.qPort q)
  let r := p.ring (s.qClass q)
  if r.contains q then s else s.setPort (s.qPort q) (p.setRing (s.qClass q) (r ++ [q]))

/-- R269: a queue leaves its class ring. -/
def State.leaveRing (s : State) (q : Nat) : State :=
  let p := s.port (s.qPort q)
  s.setPort (s.qPort q) (p.setRing (s.qClass q) ((p.ring (s.qClass q)).filter (· != q)))

/-- R269: a queue's frames after some have left: an empty queue has deficit 0 and leaves its ring. -/
def State.setFifo (s : State) (q : Nat) (l : List QItem) : State :=
  let Q := s.queue q
  if l.isEmpty then (s.setQueue q { Q with fifo := [], deficit := 0, inTurn := false }).leaveRing q
  else s.setQueue q { Q with fifo := l }

/-- R266, R269: a frame enters its queue; a queue no longer empty joins its ring unless its shaper holds it. -/
def State.pushQueue (s : State) (q : Nat) (i : QItem) : State :=
  let Q := s.queue q
  let s := s.setQueue q { Q with fifo := Q.fifo ++ [i] }
  if Q.fifo.isEmpty && !s.qHeld q then s.joinRing q else s

/-- A pick taken out of its queue. -/
def State.unqueue (s : State) (q p : Nat) : State :=
  s.setFifo q ((s.queue q).fifo.filter (fun i => i != .pick p))

/-- R225: what the woven framer needs of a sealed woven pick that holds a served packet number. -/
def Pick.wovenInfo (k : Pick) : Option (BitVec 24 × BitVec 2 × DWord) :=
  match k.cipher, k.snap with
  | some c, some sn =>
    if !c.isOpen && c.phase == .done && sn.entry.mode && k.servedNow.contains k.assoc then some (k.assoc, k.kn, k.pn)
    else none
  | _, _ => none

/-- R106, R281: a frame of a pick as a queue item of its own. -/
def Pick.asFrame (k : Pick) (f : Bytes) (copy : Bool) (now : Nat) : QFrame :=
  { frame := f, strip := !copy && k.strips, woven := if copy then none else k.wovenInfo
    dom := k.domain, src := k.src, cls := k.cls, queuedAt := now }

/-- R471: an occurrence about a frame that was a pick. -/
def State.occurFrame (s : State) (f : QFrame) (src : Src) (index : Nat) : State :=
  s.occurWith src index f.dom f.src.toNat (some f.cls.toNat) 1

/-! ### Spilling (R281, R300) -/

/-- R300: spill extents of the variant. -/
def Variant.extents : Variant → Nat
  | .tv32f => 229376
  | .tv32s => 114688
  | .tv16e => 0

/-- R281: the extents that hold a spilled frame, with the memory key index of each. -/
def State.usedExtents (s : State) : List (Nat × Nat) :=
  (s.sch.queues.flatMap (fun e => e.2.fifo.filterMap (fun i =>
    match i with | .spilled _ k x _ => some (x, k) | _ => none))).dedup

/-- The first extent at or after a start that `bad` does not exclude. -/
def freeFrom (bad : Nat → Bool) (total start : Nat) : Nat → Option Nat
  | 0 => none
  | fuel + 1 => if bad (start % total) then freeFrom bad total (start + 1) fuel else some (start % total)

/-- R300: extent e lies on a stack; as its lines do. -/
def State.extentStack (s : State) (e : Nat) : Nat := e % s.channels / 4

/-- R300: the first line of a spill extent. -/
def State.extentLine (s : State) (e : Nat) : Nat := s.variant.spillBase + 1024 * e

/-- R311: a line of a spill extent is being re-rooted. -/
def State.extentRerooted (s : State) (e : Nat) : Bool :=
  s.msc.rerooting.any (fun x => x.1 && decide (x.2.1 < s.extentLine e + 1024 ∧ s.extentLine e < x.2.1 + x.2.2))

/-- R281, R300: where a frame of n lines spilled by queue q under index k goes: behind the queue's last spilled frame
where its extent has room, otherwise into a free extent of a working stack; with the state the choice leaves. -/
def State.spillPlace (s : State) (q k n : Nat) : Option (Nat × Nat) × State :=
  let last := (s.queue q).fifo.getLast?
  match last with
  | some (.spilled f k' x o) =>
    let after := o + (f.frame.length + 63) / 64
    if k' = k ∧ after + n ≤ 1024 then (some (x, after), s)
    else fresh
  | _ => fresh
where
  fresh : Option (Nat × Nat) × State :=
    let used := s.usedExtents.map (fun e => e.1)
    let failed := (List.range 4).filter (fun st => tget .ok s.msc.stks st == .failed)
    let r := s.freeNo
    match freeFrom (fun e => used.contains e || failed.contains (s.extentStack e) || s.extentRerooted e) s.variant.extents
        (Config.spillExtent r.1) s.variant.extents with
    | none => (none, s)
    | some e => (some (e, 0), r.2)

/-- R302, R306, R313: a spilled frame's lines written under index k at line o of an extent. -/
def State.writeSpill (s : State) (k x o : Nat) (frame : Bytes) : State :=
  match s.keyDraw true k true with
  | some d => s.writeBytes true k d (s.extentLine x + o) frame
  | none => s

/-- R281: the queue spills now. -/
def State.spills (s : State) (q : Nat) : Bool :=
  (s.reg .schQMap q).getLsbD 10 && s.msc.done && s.variant.stacks != 0
    && decide (s.field .schAdmSpill 0 0 19 < s.cellsUsed)
    && (tget {} s.msc.mkis (s.field .schQMap q 11 8)).st == .active

/-- R265, R281, R290, R201, R461: a released frame is admitted to its queue, spilled, or discarded and counted; `count` counts
an occurrence about it. One whose extent's channel sleeps stays in the beam store, and the channel is woken. -/
def State.admitQueue (s : State) (q : Nat) (i : QItem) (count : State → Src → Nat → State) (gone : State → State)
    (frame : QFrame) : State :=
  let port := s.qPort q
  if s.portKind port = .none then gone (count s .schNoPort q)
  else if s.portKind port = .eth ∧ s.tagOff port = true then gone (count s .tagOffTx port)
  else if !(s.reg .schQMap q).getLsbD 9 then gone (count s .qDisabled q)
  else if s.field .schQMap q 19 12 * 16384 < s.depth q + s.shapedLen port i then gone (count s .qDropAdm q)
  else if s.spills q then
    let mki := s.field .schQMap q 11 8
    match s.spillPlace q mki ((frame.frame.length + 63) / 64) with
    | (some (x, o), s') =>
      if s'.chanOn (s'.lineChannel true (s'.extentLine x)) then
        ((gone s').writeSpill mki x o frame.frame).pushQueue q (.spilled frame mki x o)
      else (s'.useChannel (s'.lineChannel true (s'.extentLine x))).pushQueue q i
    | (none, s') => s'.pushQueue q i
  else s.pushQueue q i

end Sys2Proof.Machine
end

