-- ==== Sys2Proof/Machine/Async.lean ====
section
/-! DEFINITION. What completes the asynchronous instructions of Ezgus (R86 to R98): table reads, the reeds' services
(R30 to R35, R40), and the end of a cipher job (R15, R94, R95). -/

namespace Sys2Proof.Machine

/-! ### Lookups -/

/-- R150: the candidate buckets of a key. -/
def State.bucketsOf (s : State) (space : BitVec 6) (lo hi : DWord) : List Nat :=
  let n := s.capacity / 4
  [Config.flowBucket s.tab.secret space lo hi false % n, Config.flowBucket s.tab.secret space lo hi true % n]

/-- R150: a flow entry of a space and key. -/
def Flow.hasKey (f : Flow) (space : BitVec 6) (lo hi : DWord) : Bool := f.space == space && f.lo == lo && f.hi == hi

/-- R47, R50: a result for bobbin b; a bobbin whose pick has ended takes it too, into the register it names. -/
def State.deliver (s : State) (b : Nat) (B : Bobbin) (d : Reg) (v : DWord) : State := s.setBob b (B.finish d v)

/-- R452, R456: the cache banks that lookups hash to are in use. -/
def State.lookBank (s : State) (flow : Bool) (keys : List Nat) : State :=
  keys.foldl (fun s k => s.touchDom (s.bankOf flow k)) s

/-- R86, R150: the flow lookup is served: the entry's RESULT and a hit counted, MISS, or POISONED. -/
def execLookFtDone (b : Nat) (d : Reg) (s : State) : Host.Outcome State Fault Refusal :=
  .next (match takePend (s.bob b) d (fun o => match o with | .lookFt .. => true | _ => false) with
    | some (⟨_, .lookFt space lo hi, pc, _⟩, B) =>
      let s := s.lookBank true (s.bucketsOf space lo hi)
      let lines := (s.bucketsOf space lo hi).flatMap s.bucketLines
      if s.tableWaits lines then s
      else match s.tableBad lines with
        | some l => (s.suspectHit l).memFault b pc
        | none =>
          let s := s.answered false lines
          match s.tab.flows.find? (fun (f : Flow) => f.hasKey space lo hi) with
          | none => s.deliver b B d (withStatus 0 UStat.miss.code)
          | some f =>
            if f.poisoned then s.deliver b B d (withStatus 0 UStat.poisoned.code)
            else
              let s := { s with tab := { s.tab with
                flows := s.tab.flows.map (fun (g : Flow) =>
                  if g.hasKey space lo hi then { g with hits := BitVec.ofNat 32 (satTo 0xFFFF_FFFF (g.hits.toNat + 1)) }
                  else g) } }
              s.deliver b B d (withStatus f.result.toNat UStat.ok.code)
    | _ => s)

/-- R87: the lowest-indexed matching entry of the mask table. -/
def State.maskMatch (s : State) (part : BitVec 6) (v : BitVec 128) : Option (Nat × MtEntry) :=
  s.tab.mt.find? (fun e => e.2.valid && e.2.part == part && (v &&& e.2.mask) == e.2.value)

/-- R87: the mask-table lookup is served. R87 states no index and no result word on MISS: d[43:0] is free there (log
entry 115). -/
def execLookMtDone (b : Nat) (d : Reg) (s : State) : Host.Outcome State Fault Refusal :=
  .next (match takePend (s.bob b) d (fun o => match o with | .lookMt .. => true | _ => false) with
    | some (⟨_, .lookMt part lo hi, _, _⟩, B) =>
      match s.maskMatch part (hi ++ lo) with
      | none =>
        let f := (Config.freeResult 6 ((s.bobPick b).getD {}).orig 0).toNat
        s.deliver b B d (withStatus (f % 2 ^ 44) UStat.miss.code)
      | some (i, e) => s.deliver b B d (withStatus (i + e.result.toNat * 2 ^ 12) UStat.ok.code)
    | _ => s)

/-- R139: a pick's slot reference moved to the slot a `look.at` has chosen. -/
def State.moveRef (s : State) (k : Pick) (dest : Option (BitVec 24 × Bool)) : State :=
  let s := match k.refHeld with
    | some (i, b) => s.refSlot i b false
    | none => s
  match dest with
  | some (i, b) => s.refSlot i b true
  | none => s

/-- R94: an `open` of the pick waits at the reed. -/
def Pick.asksOpen (k : Pick) : Bool :=
  match k.cipher with
  | some c => c.phase == .requested
  | none => false

/-- R88, R139, R199: the association lookup is served: the pick's snapshot and record fields are written and the
reference moved. Two lookups of one pick are served in the order they issued (log entry 21). -/
def execLookAtDone (b : Nat) (d : Reg) (s : State) : Host.Outcome State Fault Refusal :=
  .next (match takePend (s.bob b) d AsyncOp.isLookAt with
    | some (⟨d', .lookAt idx kn rx, pc, a⟩, B) =>
      let first := (s.bob b).pend.find? (fun o => o.op.isLookAt || o.op.isPn)
      if first ≠ some ⟨d', .lookAt idx kn rx, pc, a⟩ then s
      else
        let s := s.lookBank false [idx.toNat]
        let inCap := decide (idx.toNat < s.capacity)
        if inCap && s.tableWaits (assocLines idx.toNat) then s
        else match (if inCap then s.tableBad (assocLines idx.toNat) else none) with
          | some l => (s.suspectHit l).memFault b pc
          | none =>
            let s := if inCap then s.answered false (assocLines idx.toNat) else s
            let live := s.assoc idx.toNat
            let e : AtEntry := if inCap && live.st != AtSt.empty then live else {}
            let ch := e.choose rx kn
            let s := match (s.bob b).pick with
              | none => s
              | some p =>
                match s.pick p with
                | none => s
                | some k =>
                  let ref := ch.1.map (fun sl => (idx, sl))
                  let s := s.moveRef k ref
                  let sl := e.slot (ch.1.getD false)
                  s.setPick p { k with
                    assoc := idx, astat := BitVec.ofNat 3 e.shown
                    slot := ch.1.getD k.slot, kn := if ch.1.isSome then sl.kn else k.kn
                    pn := if rx && ch.2 == UStat.ok && e.xpn then sl.pn else k.pn
                    snap := some { rx := rx, status := BitVec.ofNat 8 ch.2.code, slot := ch.1, entry := e }
                    refHeld := ref, memTrap := k.memTrap && k.asksOpen }
            s.deliver b B d (lookAtResult idx e ch.1 ch.2)
    | _ => s)

/-! ### The reeds (R28 to R35, R40) -/

/-- R28: serial-number order over a window of 2^31. -/
def seqBefore (x y : Word) : Bool := 0 < (y - x).toNat && (y - x).toNat < 2 ^ 31

/-- R30: a pick of domain `dom` with a lower sequence number than `seq` for which `holds` is true. -/
def State.lowerHolds (s : State) (p : Nat) (k : Pick) (holds : Pick → Bool) : Bool :=
  s.beam.picks.any (fun e => e.1 != p && e.2.odom == k.odom && seqBefore e.2.seq k.seq && holds e.2)

/-- R30, R31: the pick's packet-number point is still to come, or its `open` waits to be served. -/
def Pick.holdsPn (k : Pick) : Bool :=
  !k.left && !k.pnPassed && (k.disp == 0 || k.asksOpen)

/-- R33: the pick's `ord.dom` point is still to come. -/
def Pick.holdsOrd (k : Pick) : Bool := !k.left && !k.ordPassed && k.disp == 0

/-- R32: a `pn.next` or `open` request reaches an association: PN_DOMAIN_MIX when the previous one came from another
ordering domain. -/
def State.domainMix (s : State) (k : Pick) : State :=
  let last := tget 0 s.tab.lastDom k.assoc.toNat
  let s := if last ≠ 0 ∧ last ≠ k.odom.toNat + 1 then s.occurPick k .pnDomainMix k.odom.toNat else s
  { s with tab := { s.tab with lastDom := tset 0 s.tab.lastDom k.assoc.toNat (k.odom.toNat + 1) } }

/-- R40: the number recorded for a restarted pick that its present run has not asked for yet. -/
def Pick.recorded (k : Pick) : Option DWord :=
  if k.servedNow.contains k.assoc then none
  else (k.served.find? (fun e => e.1 == k.assoc)).map (fun e => e.2)

/-- R40: a restarted pick asks for a number of another association than the one it was served for. -/
def Pick.diverges (k : Pick) : Bool := k.restarted && k.served.any (fun e => !k.servedNow.contains e.1)

/-- R143, R386: event PN_WARN. -/
def State.pnWarn (s : State) (k : Pick) (pn : DWord) : State :=
  let w := s.field .atPnWarn k.odom.toNat 0 6
  if w ≠ 0 ∧ pn.toNat + 1 = 2 ^ w then
    s.event (s.assoc k.assoc.toNat).domain.toNat .at_ 1 (k.assoc.toNat + if k.slot then 2 ^ 24 else 0) pn.toNat
  else s

/-- R89, R142: the live counter of the pick's slot serves a number, or meets the ceiling. -/
def State.servePn (s : State) (p : Nat) (k : Pick) : State × DWord :=
  let i := k.assoc.toNat
  let e := s.assoc i
  let sl := e.slot k.slot
  let k := { k with pnPassed := true }
  if e.ceiling ≤ sl.pn.toNat then
    ((s.setAssoc i (e.setSlot k.slot { sl with exh := true })).setPick p k,
     withStatus (k.pn.toNat % 2 ^ 56) UStat.exhausted.code)
  else
    let s := s.setAssoc i (e.setSlot k.slot { sl with pn := sl.pn + 1 })
    let s := s.setPick p { k with
      pn := sl.pn, served := (k.assoc, sl.pn) :: k.served.filter (fun e => e.1 != k.assoc)
      servedNow := k.assoc :: k.servedNow }
    (s.pnWarn k sl.pn, withStatus (sl.pn.toNat % 2 ^ 56) UStat.ok.code)

/-- R30: the bobbin's oldest packet-number request. -/
def Bobbin.firstPn (B : Bobbin) : Option PendOp := B.pend.find? (fun o => o.op.isPn)

/-- R30, R89, R40: the reed serves a held `pn.next`. -/
def execPnNextServe (b : Nat) (d : Reg) (s : State) : Host.Outcome State Fault Refusal :=
  .next (match takePend (s.bob b) d AsyncOp.isPnNext, (s.bob b).pick with
    | some (o, B), some p =>
      match s.pick p with
      | none => s
      | some k =>
        if (s.bob b).firstPn ≠ some o ∨ k.ordWait = true then s
        else if k.memTrap then s.memFault b o.pc
        else match k.recorded with
          | some pn =>
            (s.setPick p { k with pn := pn, servedNow := k.assoc :: k.servedNow, pnPassed := true }).deliver b B d
              (withStatus (pn.toNat % 2 ^ 56) UStat.ok.code)
          | none =>
            if s.lowerHolds p k Pick.holdsPn then s
            else
              let s := s.domainMix k
              let s := if k.diverges then s.occurPick k .redispatchDiverge k.assoc.toNat else s
              let r := s.servePn p k
              r.1.deliver b B d r.2
    | _, _ => s)

/-- R30, R90: the reed serves a held `pn.peek`: nothing is consumed. The pick has passed its packet-number point (R30), so
a later pick of its own domain may take the number it was told (R73; log entry 101). -/
def execPnPeekServe (b : Nat) (d : Reg) (s : State) : Host.Outcome State Fault Refusal :=
  .next (match takePend (s.bob b) d (fun o => o.isPn && !o.isPnNext), (s.bob b).pick with
    | some (o, B), some p =>
      match s.pick p with
      | none => s
      | some k =>
        if (s.bob b).firstPn ≠ some o ∨ k.ordWait = true then s
        else if k.memTrap then s.memFault b o.pc
        else if s.lowerHolds p k Pick.holdsPn then s
        else
          let s := s.setPick p { k with pnPassed := true }
          let e := s.assoc k.assoc.toNat
          let sl := e.slot k.slot
          match k.recorded with
          | some pn => s.deliver b B d (withStatus (pn.toNat % 2 ^ 56) UStat.ok.code)
          | none =>
            if e.ceiling ≤ sl.pn.toNat then
              s.deliver b B d (withFree 0 0 .exhausted (Config.freeResult 0 k.orig 0))
            else s.deliver b B d (withStatus (sl.pn.toNat % 2 ^ 56) UStat.ok.code)
    | _, _ => s)

/-- R28: the next sequence number of a domain, and the state with it given out. -/
def State.nextSeq (s : State) (dom : Nat) : Word × State :=
  let n := tget 0 s.beam.seqs dom
  (n, { s with beam := { s.beam with seqs := tset 0 s.beam.seqs dom (n + 1) } })

/-- R33, R91, R40: the reed grants an `ord.dom`: the pick takes the new domain's next number, unless it is there already
or has moved before a restart. -/
def execOrdDomGrant (b : Nat) (d : Reg) (s : State) : Host.Outcome State Fault Refusal :=
  .next (match takePend (s.bob b) d (fun o => match o with | .ordDom .. => true | _ => false), (s.bob b).pick with
    | some (⟨_, .ordDom dom, _, _⟩, B), some p =>
      match s.pick p with
      | none => s
      | some k =>
        if !k.ordMoved && s.lowerHolds p k Pick.holdsOrd then s
        else
          let r := if k.ordMoved || dom == k.odom then (k.seq, s) else s.nextSeq dom.toNat
          let k := { k with
            seq := r.1, odom := if k.ordMoved then k.odom else dom, ordMoved := true, ordWait := false, ordPassed := true }
          let v := k.seq.toNat + k.odom.toNat * 2 ^ 32
          (r.2.setPick p k).deliver b B d (withFree 44 v .ok (Config.freeResult 1 k.orig dom.toNat))
    | _, _ => s)

/-! ### The end of `seal` and `open` -/

/-- R93, R94: the result of a cipher operation reaches its bobbin, if that still runs the pick. -/
def State.cipherResult (s : State) (p : Nat) (c : Cipher) (v : DWord) : State :=
  if (s.bob c.bob).pick = some p then s.setBob c.bob ((s.bob c.bob).finish c.d v) else s

/-- R386: the event record of a poisoned or discarded cut-through frame, where the association asks for it. -/
def State.cutRecord (s : State) (k : Pick) (poisoned : Bool) (port : Nat) : State :=
  match k.snap with
  | some sn =>
    if sn.entry.cutEvent then
      s.event (s.assoc k.assoc.toNat).domain.toNat .at_ 3
        (k.assoc.toNat + k.kn.toNat * 2 ^ 24 + if poisoned then 2 ^ 26 else 0) k.pn.toNat port
    else s
  | none => s

/-- R95: a frame whose cut-through verdict failed before its first byte is discarded and counted. -/
def State.cutDiscard (s : State) (p : Nat) (k : Pick) : State :=
  let port := s.qPort k.queue.toNat
  let s := (s.occurPick k .cutDiscard port).cutRecord k false port
  let s := if k.st = .queued then s.unqueue k.queue.toNat p else s
  let s := if (s.port port).tx.any (fun t => t.pick == some p) then s.setPort port { s.port port with tx := none } else s
  s.endPick p 0

/-- R95, R102: the pick has gone to a queue of a clear port under a cut-through request. -/
def State.cutPick (s : State) (k : Pick) (c : Cipher) : Bool :=
  c.cut && k.disp == 1 && decide (s.qPort k.queue.toNat < 32)

/-- R139: a finished pick gives its reference back. -/
def State.settle (s : State) (p : Nat) : State :=
  match s.pick p with
  | none => s
  | some k =>
    if k.disp = 0 then s
    else
      let r := s.giveRef k
      r.1.setPick p r.2

/-- R94, R95, R16: an `open` ends with REPLAY or AUTH_FAIL: the frame stays as received. A pick that has ended already
is discarded under R95, marked for a poisoned FCS when its first byte has gone, or dropped with the reason its program
would have to give (log entry 22). -/
def State.openFails (s : State) (p : Nat) (k : Pick) (c : Cipher) (st : UStat) : State :=
  let k := { k with cipher := some { c with phase := .done, status := BitVec.ofNat 8 st.code } }
  let s := s.setPick p k
  let s := s.cipherResult p c (withFree 16 k.frame.length st (Config.freeResult 2 k.orig k.frame.length))
  let s := s.settle p
  if k.disp = 1 ∨ k.disp = 4 then
    if s.cutPick k c then
      if k.cutStarted then s.setPick p { (s.pick p).getD k with cutFailed := true } else s.cutDiscard p k
    else s.dropPick p (if st = .replay then 8 else 7)
  else s

/-- R94: the replay check against the live lowest acceptable number of the slot; a restarted pick whose `open` has
committed OK before the fault is not checked again, so that its output is the same (R20, R40; log entry 102). -/
def State.replayed (s : State) (k : Pick) (c : Cipher) : Bool :=
  k.verified != some (c.assoc, c.pn) && (c.pn == 0 || (c.snap.entry.replay
    && decide (c.pn.toNat < ((s.assoc c.assoc.toNat).slot (c.snap.slot.getD k.slot)).pn.toNat)))

/-- R94, R126: the place in its association's service order that a restarted pick keeps for its `open`. -/
def Pick.placeFor (k : Pick) (assoc : BitVec 24) : Option Nat :=
  match k.openPlace with
  | some (a, o) => if a = assoc then some o else none
  | none => none

/-- R30, R32, R94: the reed serves a held `open`: it decides REPLAY at once, or hands the frame to the engines. -/
def execOpenServe (p : Nat) (s : State) : Host.Outcome State Fault Refusal :=
  .next (match s.pick p with
    | none => s
    | some k =>
      match k.cipher with
      | none => s
      | some c =>
        if c.phase ≠ .requested ∨ k.ordWait = true ∨ s.lowerHolds p k Pick.holdsPn = true then s
        else if k.memTrap then
          match s.bobOf p with
          | some b => s.memFault b c.pc
          | none => s.dropPick p 2
        else
          let s := s.domainMix { k with assoc := c.assoc }
          let n := s.tab.openOrd
          let s := { s with tab := { s.tab with openOrd := n + 1 } }
          let c := { c with ord := (k.placeFor c.assoc).getD n }
          let k := { k with pnPassed := true, openPlace := none }
          if s.replayed k c then s.openFails p k c .replay
          else s.submitCipher p k c)

/-- R94: an earlier served `open` of the association has not committed yet, or its pick runs again after a cluster fault
(R20: the verdicts stand in the order they would have had). -/
def State.earlierOpen (s : State) (p : Nat) (c : Cipher) : Bool :=
  s.beam.picks.any (fun e => e.1 != p && (e.2.disp == 0 && (match e.2.placeFor c.assoc with
    | some o => decide (o < c.ord)
    | none => false) || match e.2.cipher with
    | some x => x.isOpen && x.assoc == c.assoc && (x.phase == .cellWait || x.phase == .job || x.phase == .engineDone)
        && decide (x.ord < c.ord)
    | none => false))

/-- R94, R144: a verified packet number raises the lowest acceptable of the slot it was opened under, never lowering it; a
sum that the 64-bit field cannot hold leaves a free value that is not below the old one (log entry 25). -/
def State.raiseLowest (s : State) (k : Pick) (c : Cipher) : State :=
  let i := c.assoc.toNat
  let b := c.snap.slot.getD k.slot
  let e := s.assoc i
  let sl := e.slot b
  let new := c.pn.toNat + 1 - c.snap.entry.window.toNat
  if sl.loads = (c.snap.entry.slot b).loads ∧ sl.pn.toNat < new then
    if new < 2 ^ 64 then s.setAssoc i (e.setSlot b { sl with pn := BitVec.ofNat 64 new })
    else
      let f := Config.freeResult 4 k.orig new
      s.setAssoc i (e.setSlot b { sl with pn := if f.toNat < sl.pn.toNat then sl.pn else f })
  else s

/-- R94, R95: the verdict of an `open` is committed in service order: REPLAY, AUTH_FAIL, or OK with the plaintext made
the frame and the replay state raised. -/
def execOpenVerdictCommit (p : Nat) (s : State) : Host.Outcome State Fault Refusal :=
  .next (match s.pick p with
    | none => s
    | some k =>
      match k.cipher with
      | none => s
      | some c =>
        match c.result with
        | none => s
        | some (ok, bytes) =>
          if !c.isOpen ∨ c.phase ≠ .engineDone ∨ s.earlierOpen p c = true then s
          else if s.replayed k c then s.openFails p k c .replay
          else if !ok then s.openFails p k c .authFail
          else
            let s := s.raiseLowest k c
            let k := { k with
              frame := bytes, opened := true, verified := some (c.assoc, c.pn)
              cipher := some { c with phase := .done, result := none, status := 0 } }
            let s := s.setPick p k
            (s.cipherResult p c
              (withFree 16 k.frame.length .ok (Config.freeResult 2 k.orig k.frame.length))).settle p)

/-- R93: a `seal` completes: ciphertext and ICV become the frame. -/
def execSealDone (p : Nat) (s : State) : Host.Outcome State Fault Refusal :=
  .next (match s.pick p with
    | none => s
    | some k =>
      match k.cipher with
      | none => s
      | some c =>
        match c.result with
        | none => s
        | some (_, bytes) =>
          if c.isOpen ∨ c.phase ≠ .engineDone then s
          else
            let k := { k with
              frame := bytes, cipher := some { c with phase := .done, result := none, status := 0 } }
            ((s.setPick p k).cipherResult p c (withStatus (k.frame.length % 2 ^ 16) UStat.ok.code)).settle p)

/-- R98: `crc.get` completes: the value is returned and, where the queued compare matched, the frame loses its check
bytes. -/
def execCrcGetDone (b : Nat) (d : Reg) (s : State) : Host.Outcome State Fault Refusal :=
  .next (match takePend (s.bob b) d (fun o => match o with | .crcGet .. => true | _ => false) with
    | some (⟨_, .crcGet v strip, _, _⟩, B) =>
      let k := (s.bobPick b).getD {}
      let s := s.updPick b (fun k => { k with frame := k.frame.take (k.frame.length - strip) })
      s.deliver b B d (withFree 34 v.toNat .ok (Config.freeResult 3 k.orig v.toNat))
    | _ => s)

end Sys2Proof.Machine
end

