-- ==== Sys2Proof/Machine/Cascade.lean ====
section
/-! DEFINITION. Routing in a loom cascade (R351, R352): which weft port a frame takes and what a frame without a route
comes to. -/

namespace Sys2Proof.Machine

/-- R343: weft port n is present and UP. -/
def State.weftUp (s : State) (n : Nat) : Bool := decide (n < s.variant.weftPorts) && (s.wport n).st == .up

/-- R352: the device's own weft ID. -/
def State.devId (s : State) : Nat := s.field .wftDevId 0 0 16

/-- R352: an ID that is reserved. -/
def reservedId (d : Nat) : Bool := d == 0 || d == 0xFFFF

/-- R352: the port WFT_ROUTE gives a destination: the primary if it is UP, otherwise the alternate if that is UP. -/
def State.routeTo (s : State) (dest : Nat) : Option Nat :=
  let w := s.reg .wftRoute dest
  if w.getLsbD 2 && s.weftUp (fld w 0 2) then some (fld w 0 2)
  else if w.getLsbD 5 && s.weftUp (fld w 3 2) then some (fld w 3 2)
  else none

/-- R350: a FRAME joins a port's transmit order at the end of what waits. -/
def State.weftQueue (s : State) (n : Nat) (f : WFrame) : State :=
  let w := s.wport n
  s.setWport n { w with wait := w.wait ++ [f] }

/-- R471: an occurrence about a weft FRAME: about its pick, or about no pick for a frame in transit. -/
def State.occurWeft (s : State) (f : WFrame) (src : Src) (index : Nat) : State :=
  match f.about with
  | some (dom, m) => s.occurWith src index dom m.toNat (some f.cls.toNat) 1
  | none => s.occur src index

/-- R105, R346, R351: the FRAME of a pick that `fwd` sends, on port n. -/
def State.fwdFrame (s : State) (k : Pick) (dest : BitVec 16) (vec budget n : Nat) : WFrame :=
  { fn := 0, dest := dest, src := BitVec.ofNat 16 s.devId
    budget := if budget = 0 then s.field .wftPortBudget n 0 16 else budget
    since := s.tb.elapsed, vec := vec, cls := k.cls, kn := k.kn, assoc := k.assoc, pn := k.pn
    u := (k.u0, k.u1, k.u2), frame := k.frame, via := none, cells := k.cells, about := some (k.domain, k.src) }

/-- R30, R352: a pick released by `fwd` goes to its port's transmit order, or is discarded in WFT_NO_ROUTE. -/
def State.releaseFwd (s : State) (p : Nat) (k : Pick) : State :=
  match k.fwdTo with
  | none => s.endPick p 0
  | some (dest, vec, budget) =>
    match (if reservedId dest.toNat || dest.toNat == s.devId then none else s.routeTo dest.toNat) with
    | none => (s.occurPick k .wftNoRoute 4).endPick p 0
    | some n => (s.delPick p).weftQueue n (s.fwdFrame k dest vec budget n)

end Sys2Proof.Machine
end

