-- ==== Sys2Proof/Machine/Picks.lean ====
section
/-! DEFINITION. The life of a pick: buffer admission (R280), creation (R12), receipt at a port (R335), dispatch (R125),
release by the reed (R30, R31, R106) and the end of a wait for cells (R123). -/

namespace Sys2Proof.Machine

/-! ### Admission and creation -/

/-- R280: a frame of `need` cells fits with so many slots and cells kept free. -/
def State.fits (s : State) (need keepSlots keepCells : Nat) : Bool :=
  decide (s.slotsUsed + 1 + keepSlots ≤ slotsTotal) && decide (s.cellsUsed + need + keepCells ≤ cellsTotal)

/-- R280: WAITING picks below class 7, newest first. -/
def State.pushable (s : State) : List (Nat × Pick) :=
  (s.beam.picks.filter (fun e => e.2.st == .waiting && e.2.defCls != 7)).insertionSort (fun x y => y.2.born ≤ x.2.born)

/-- R280: the first picks of a list that together free so many slots and cells; none when the list cannot. -/
def pushSet (slots cells : Nat) : List (Nat × Pick) → Option (List Nat)
  | [] => if slots = 0 ∧ cells = 0 then some [] else none
  | e :: es =>
    if slots = 0 ∧ cells = 0 then some []
    else (pushSet (slots - 1) (cells - e.2.cells) es).map (fun l => e.1 :: l)

/-- R280, R31: a pick pushed out: counted against its ingress port, with no drop reason. -/
def State.pushOut (s : State) (p : Nat) : State :=
  match s.pick p with
  | none => s
  | some k => (s.occurPick k .admPushout k.port.toNat).endPick p 0

/-- R280: the admission of a frame of a class and length: the state after push-outs, or none when it is refused. -/
def State.admission (s : State) (cls : BitVec 3) (len : Nat) : Option State :=
  let need := cellsFor len
  if cls ≠ 7 then
    if s.fits need (s.field .schAdmSlots 0 0 17) (s.field .schAdmCells 0 0 19) then some s else none
  else (pushSet (s.slotsUsed + 1 - slotsTotal) (s.cellsUsed + need - cellsTotal) s.pushable).map
    (fun l => l.foldl State.pushOut s)

/-- The lowest key at or above n that a table does not list. -/
def firstFree {α : Type} : Tbl α → Nat → Nat
  | [], n => n
  | (k, _) :: t, n => if k = n then firstFree t (n + 1) else n

/-- R12, R28, R29: a pick created in its ingress domain with that domain's next sequence number, in the lowest free
slot. -/
def State.createPick (s : State) (k : Pick) : State :=
  let r := s.nextSeq k.odom.toNat
  let p := firstFree s.beam.picks 0
  let k := { k with
    seq := r.1, orig := k.frame, defCls := k.cls, init := (k.assoc, k.kn, k.pn, k.u0, k.u1, k.u2)
    born := s.beam.born, arrival := s.now64, cells := cellsFor k.frame.length, st := .waiting }
  let s := r.2.setPick p k
  { s with beam := { s.beam with born := s.beam.born + 1 } }

/-- R280: a refused frame, counted by port and class. -/
def State.refuse (s : State) (k : Pick) : State :=
  s.occurWith .admRefuse k.port.toNat 0 k.src.toNat (some k.cls.toNat) 1

/-- R280, R12: a frame arrives at the beam store: a pick is created, or the frame is refused and counted. -/
def State.arrive (s : State) (k : Pick) : State :=
  match s.admission k.cls k.frame.length with
  | some s' => s'.createPick k
  | none => s.refuse k

/-- R356: DEF_CLASS of a port. -/
def State.defClass (s : State) (port : Nat) : BitVec 3 := BitVec.ofNat 3 (s.field .lnePortCfg port 9 3)

/-- R11, R201, R335, R426, R492: a port's MAC receives a whole frame with its FCS. -/
def execFrameReceive (port : Nat) (frame : Bytes) (s : State) : Host.Outcome State Fault Refusal :=
  .next (
    if s.portKind port ≠ .eth ∨ s.portEn port = false ∨ (s.port port).link = false then s
    else
      let n := frame.length - 4
      let body := frame.take n
      if frame.length < 4 ∨ fcs body ≠ frame.drop n then s.occur .lneFcs port
      else if frame.length < 64 then s.occur .lneRunt port
      else if s.field .lnePortCfg port 16 14 < n then s.occur .lneGiant port
      else if slice body 12 2 = [0x88, 0x08] then s.occur .lneMacctl port
      else if s.tagOff port then s.occur .tagOffRx port
      else if s.held then s.occur .quiesceRx port
      else
        let line : Nat := if 32 ≤ port then 1 else 0
        s.arrive { src := BitVec.ofNat 4 line, odom := BitVec.ofNat 12 port, port := BitVec.ofNat 8 port
                   cls := s.defClass port, frame := body, vec := line })

/-! ### Dispatch (R125, R41, R65) -/

/-- R119: bobbins of a cluster that hold a pick. -/
def State.busyBobs (s : State) (c : Nat) : Nat :=
  s.shu.bobs.countP (fun e => clusterOf e.1 == c && (e.2.pick.isSome || e.2.left.isSome))

/-- R41, R125: a pick may go to a cluster: FRESH, with a free bobbin, and holding its generation if it is restarted. -/
def State.mayTake (s : State) (k : Pick) (c : Nat) : Bool :=
  (s.clu c).st == .fresh && decide (s.busyBobs c < 128)
    && (!k.restarted || (match (s.clu c).card with
      | some card => card.gen == k.gen
      | none => false))

/-- R125: the cluster a pick goes to: the most free bobbins, the lowest number on a tie. -/
def State.clusterFor (s : State) (k : Pick) : Option Nat :=
  ((List.range s.variant.clusters).filter (s.mayTake k)).foldl (fun best c =>
    match best with
    | none => some c
    | some d => if s.busyBobs c < s.busyBobs d then some c else some d) none

/-- R125: one WAITING pick is served before another. -/
def Pick.before (x y : Pick) : Bool :=
  if x.restarted != y.restarted then x.restarted
  else if (x.defCls == 7) != (y.defCls == 7) then x.defCls == 7
  else decide (x.born < y.born)

/-- The first in dispatch order of the picks that `ok` accepts. -/
def State.firstWaiting (s : State) (ok : Pick → Bool) : Option (Nat × Pick) :=
  (s.beam.picks.filter (fun e => e.2.st == .waiting && ok e.2)).foldl (fun best e =>
    match best with
    | none => some e
    | some d => if e.2.before d.2 then some e else some d) none

/-- R41: no cluster holds, or is to hold, the generation of a restarted pick any more. -/
def State.generationGone (s : State) (k : Pick) : Bool :=
  k.restarted && !(List.range s.variant.clusters).any (fun c =>
    (s.clu c).ctlGen == k.gen || (match (s.clu c).card with
      | some card => card.gen == k.gen
      | none => false))

/-- R65, R125: the next WAITING pick that a cluster can take goes to bobbin b, if b is a free bobbin of that cluster; a
restarted pick whose generation is gone is dropped with reason GENERATION, a pick without an entry with NO_ENTRY. -/
def execPickDispatch (b : Nat) (s : State) : Host.Outcome State Fault Refusal :=
  .next (
    if s.held then s
    else match s.firstWaiting s.generationGone with
      | some (p, _) => s.dropPick p 4
      | none =>
        match s.firstWaiting (fun k => (s.clusterFor k).isSome) with
        | none => s
        | some (p, k) =>
          let c := clusterOf b
          if s.clusterFor k ≠ some c ∨ (s.bob b).pick ≠ none ∨ (s.bob b).left ≠ none then s
          else match s.entry c k.vec with
            | none => s.dropPick p 6
            | some e =>
              let gen := match (s.clu c).card with
                | some card => card.gen
                | none => 0
              ((s.touchDom c).setPick p { k with st := .running, gen := gen }).setBob b { pick := some p, pc := e })

/-! ### Punt records and mirror copies (R104, R106, R383) -/

/-- R383: a punt or mirror record is written to the slot at HEAD of its domain's PUNT ring, or discarded and counted in
LOST; none while that slot has not been fetched and accepted yet. -/
def State.tryPunt (s : State) (x : PuntRec) : Option State :=
  let dom := x.dom
  let k := x.k
  let frame := x.frame
  let g := s.ring dom 3
  if !g.en || g.stopped || g.head == g.tail then
    some (s.setRing dom 3 { g with lost := if g.lost = 0xFFFF_FFFF then g.lost else g.lost + 1 })
  else match g.front with
    | none => none
    | some e =>
      if !e.posted then none
      else
        let len := leAt e.desc 16 3
        let flags := k.cls.toNat + k.kn.toNat * 8 + (if x.mirror then 32 else 0) + if x.original then 64 else 0
        let cflags := (if phase e.idx g.size then 1 else 0) + if len < frame.length then 2 else 0
        let slot := slice e.desc 0 20 ++ leBytes k.u0.toNat 8 ++ leBytes k.u1.toNat 8 ++ leBytes k.u2.toNat 8
          ++ [x.code, k.port, BitVec.ofNat 8 flags, 0, 0, BitVec.ofNat 8 cflags] ++ leBytes frame.length 2
          ++ leBytes k.assoc.toNat 4 ++ leBytes k.pn.toNat 8
        let s := s.emit (.dma (BitVec.ofNat 64 (leAt e.desc 8 8)) (frame.take len))
        let s := s.setRing dom 3 g.pop
        some ((s.emit (.hostSlot dom 3 e.idx slot)).ringDone dom 3 ((e.desc.getD 2 0).getLsbD 0))

/-- R31: the records that wait for a slot of a PUNT ring, written oldest first as far as slots have been fetched. -/
def State.drainPunt (s : State) (dom : Nat) : Nat → State
  | 0 => s
  | n + 1 =>
    match s.beam.puntWait.find? (fun x => x.dom == dom) with
    | none => s
    | some x =>
      match s.tryPunt x with
      | none => s
      | some t =>
        State.drainPunt { t with beam := { t.beam with
          puntWait := t.beam.puntWait.eraseP (fun x => x.dom == dom) } } dom n

/-- R31: the waiting records of a PUNT ring served. -/
def State.servePunt (s : State) (dom : Nat) : State := s.drainPunt dom s.beam.puntWait.length

/-- R31, R383: a punt or mirror record that its reed releases, behind those that wait for the same ring. -/
def State.writePunt (s : State) (x : PuntRec) : State :=
  { s with beam := { s.beam with puntWait := s.beam.puntWait ++ [x] } }.servePunt x.dom

/-- R106: one mirror copy delivered to its queue or PUNT ring. -/
def State.deliverMirror (k : Pick) (s : State) (m : Mirror) : State :=
  let f := if m.original then k.orig else k.endFrame.getD k.frame
  if m.toQueue then
    let q := k.asFrame f true s.tb.elapsed
    s.admitQueue m.target (.held q) (fun s => s.occurFrame q) id q
  else s.writePunt { dom := m.target, k := k, code := 0, frame := f, mirror := true, original := m.original }

/-- R106: the mirror copies of a pick delivered in the order they were issued. -/
def State.deliverMirrors (s : State) (k : Pick) : State := k.mirrors.foldl (State.deliverMirror k) s

/-! ### Release (R30, R31) -/

/-- R30: a pick that later picks' release waits for: not ended, or ended with `enq` or `fwd` and not yet released. -/
def Pick.holdsRel (k : Pick) : Bool := !k.left && (k.disp == 0 || k.st == .ended)

/-- R15, R95: the pick's cipher operation lets it be released: finished, or a cut-through `open` for a clear port. -/
def State.mayRelease (s : State) (k : Pick) : Bool :=
  match k.cipher with
  | none => true
  | some c => c.phase == .done || (s.cutPick k c && !s.spills k.queue.toNat)

/-- R31: a pick whose end, or whose records, the records of later picks wait for. -/
def Pick.holdsRec (k : Pick) : Bool :=
  (!k.left && k.disp == 0) || (k.st == .ended && (!k.mirrors.isEmpty || k.puntTo.isSome))

/-- R30, R31, R106, R281: the reed releases an ENDED pick in sequence order, with its mirror copies, to its queue or weft
port; copies go behind the records of lower picks, which nothing but an unfinished cipher job then holds (log entry 104). -/
def execPickRelease (p : Nat) (s : State) : Host.Outcome State Fault Refusal :=
  .next (match s.pick p with
    | none => s
    | some k =>
      if k.st ≠ .ended ∨ (k.disp ≠ 1 ∧ k.disp ≠ 4) ∨ s.held = true ∨ s.mayRelease k = false
          ∨ s.lowerHolds p k Pick.holdsRel = true
          ∨ (!k.mirrors.isEmpty && s.lowerHolds p k Pick.holdsRec) = true then s
      else
        let s' := s.deliverMirrors k
        let k := { k with left := true, mirrors := [], st := .queued, queuedAt := s.tb.elapsed }
        let s' := s'.setPick p k
        if k.disp = 4 then s'.releaseFwd p k
        else s'.admitQueue k.queue.toNat (.pick p) (fun s => s.occurPick k) (fun s => s.endPick p 0)
          (k.asFrame k.frame false s.tb.elapsed))

/-- R31, R104: the mirror copies and the punt record of a pick that ended with `drop` or `punt` are written once every
lower pick of its domain has ended; its slot and cells are then freed. -/
def execPuntMirrorRelease (p : Nat) (s : State) : Host.Outcome State Fault Refusal :=
  .next (match s.pick p with
    | none => s
    | some k =>
      let busy := match k.cipher with
        | some c => c.phase != .done
        | none => false
      if k.st ≠ .ended ∨ (k.disp ≠ 2 ∧ k.disp ≠ 3) ∨ busy = true ∨ s.lowerHolds p k Pick.holdsRec = true then s
      else
        let t := s.deliverMirrors k
        (match k.puntTo with
          | none => t
          | some (code, dom) =>
            t.writePunt { dom := dom, k := k, code := code, frame := k.frame, mirror := false, original := false }).delPick p)

/-- R123: a window write or a cipher job that waits for beam store cells goes on when enough are free. -/
def execCellWaitEnd (p : Nat) (s : State) : Host.Outcome State Fault Refusal :=
  .next (match s.pick p with
    | none => s
    | some k =>
      match k.cipher with
      | some c =>
        if c.phase = .cellWait ∧ outputCells k ≤ s.cellsFree then
          s.setPick p { k with cipher := some { c with phase := .job }, cells := k.cells + outputCells k }
        else s
      | none => if k.cellWait = true ∧ 0 < s.cellsFree then s.setPick p { k with cellWait := false } else s)

end Sys2Proof.Machine
end

