-- ==== Sys2Proof/Machine/Sheds.lean ====
section
/-! DEFINITION. Shed lists (R276 to R279): a bank's entries, the open window of a class, and the instant of a switch. -/

namespace Sys2Proof.Machine

/-- R276: a bank as its registers give it: the base time and the (duration, gates) of its entries. -/
structure Bank where
  base : Int
  durs : List (Nat × Nat)

/-- R293: COUNT of a bank of a port. -/
def State.shedCount (s : State) (p : Nat) (b : Bool) : Nat := s.field .schShedCnt p (if b then 8 else 0) 7

/-- R294, R295: a bank of a port. -/
def State.bank (s : State) (p : Nat) (b : Bool) : Bank :=
  let r : RegId := if b then .schShedBaseB else .schShedBaseA
  let off := if b then 128 else 0
  { base := ((s.reg r p 0).toNat + fld (s.reg r p 1) 0 16 * 2 ^ 32 : Int) * 10 ^ 9 + fld (s.reg r p 2) 0 30
    durs := (List.range (s.shedCount p b)).map (fun e =>
      (fld (s.reg .schShedEnt p (off + 2 * e)) 0 30, fld (s.reg .schShedEnt p (off + 2 * e + 1)) 0 8)) }

/-- R276: the cycle length. -/
def Bank.len (k : Bank) : Nat := k.durs.foldl (fun n e => n + e.1) 0

/-- The entry in which an offset of the cycle lies, with the offset of its end. -/
def entryAt (off acc i : Nat) : List (Nat × Nat) → Nat × Nat
  | [] => (0, acc)
  | e :: es => if off < acc + e.1 then (i, acc + e.1) else entryAt off (acc + e.1) (i + 1) es

/-- R276: the entry in force at a time of day and the time at which it ends. -/
def Bank.place (k : Bank) (t : Int) : Nat × Int :=
  if k.durs = [] then (0, 0)
  else
    let off := ((t - k.base) % (k.len : Int)).toNat
    let e := entryAt off 0 0 k.durs
    (e.1, t - off + e.2)

/-- R276: a mask opens a class. -/
def opens (gates c : Nat) : Bool := gates / 2 ^ c % 2 == 1

/-- R276: every entry opens a class. -/
def Bank.always (k : Bank) (c : Nat) : Bool := k.durs.all (fun e => opens e.2 c)

/-- The time for which entries open a class, up to the first that does not. -/
def openRun (c : Nat) : List (Nat × Nat) → Nat
  | [] => 0
  | e :: es => if opens e.2 c then e.1 + openRun c es else 0

/-- R278: the longest open window of a class in a bank; none when its gate never closes. -/
def Bank.longest (k : Bank) (c : Nat) : Option Nat :=
  if k.always c then none
  else some ((List.range k.durs.length).foldl (fun m i => max m (openRun c (k.durs.rotate i))) 0)

/-- R292: the gates open now. -/
def State.gates (s : State) (p : Nat) : Nat :=
  match (s.bank p (s.port p).bankB).durs[(s.port p).entry]? with
  | some e => e.2
  | none => 255

/-- R277: the open window of a class from now, through a pending switch; none when it has no end. -/
def State.openWindow (s : State) (p c : Nat) : Option Nat :=
  let q := s.port p
  let k := s.bank p q.bankB
  if !opens (s.gates p) c then some 0
  else
    let run : Option Nat :=
      if k.always c then none
      else some ((q.entryEnd - s.tb.tod).toNat + openRun c (k.durs.rotate (q.entry + 1)))
    match q.switchAt with
    | none => run
    | some t =>
      let left := (t - s.tb.tod).toNat
      if run.any (fun n => decide (n < left)) then run
      else
        let k' := s.bank p (!q.bankB)
        if k'.always c then none else some (left + openRun c k'.durs)

/-- R279: the instant at which a switch requested now takes place. -/
def State.switchInstant (s : State) (p : Nat) : Int :=
  let q := s.port p
  let old := s.bank p q.bankB
  let new := s.bank p (!q.bankB)
  let now : Int := s.tb.tod
  let done : Int := if old.durs = [] then now else old.base + ((now - old.base) / (old.len : Int) + 1) * old.len
  if new.durs = [] then done
  else if done ≤ new.base then new.base
  else new.base + ((done - new.base + new.len - 1) / (new.len : Int)) * new.len

/-- R276, R283: a port's shed position taken anew from the time of day; a pending switch keeps its instant (R279). -/
def State.placeShed (s : State) (p : Nat) : State :=
  let e := (s.bank p (s.port p).bankB).place s.tb.tod
  s.setPort p { s.port p with
    entry := e.1, entryEnd := e.2 }

end Sys2Proof.Machine
end

