-- ==== Sys2Proof/Machine/Sched.lean ====
section
/-! DEFINITION. The scheduler (R265 to R283): selection of the next frame of a port, the course of a frame on it,
cut-through starts and ends (R177, R178), spilled frames' return, refill ticks, policers (R99, R274), sheds and
histograms. -/

namespace Sys2Proof.Machine

/-! ### Refill ticks (R271 to R274) -/

/-- Instances whose register, `stride` bytes apart from `base`, is listed in State.regs. -/
def State.listed (s : State) (base stride n : Nat) : List Nat :=
  (s.regs.filterMap (fun e =>
    if base ≤ e.1 ∧ (e.1 - base) % stride = 0 ∧ (e.1 - base) / stride < n then some ((e.1 - base) / stride) else none)).dedup

/-- R271, R272: n refills of a shaper's credit. -/
def refill (n : Nat) (credit : Int) (rate burst : Nat) : Int := min (credit + n * rate) (max ((125 * burst : Nat) : Int) 0)

/-- R269, R271: a queue that its shaper does not hold and that has frames is in its ring. -/
def State.rejoin (s : State) (q : Nat) : State :=
  if !(s.queue q).fifo.isEmpty && !s.qHeld q then s.joinRing q else s

/-- R271: after how many refills a queue's credit is no longer negative. -/
def State.ticksOwed (s : State) (q : Nat) : Nat :=
  let rate := s.field .schQRate q 0 22
  let owed := (-(s.queue q).credit).toNat
  if rate = 0 then owed else (owed + rate - 1) / rate

/-- R271: n refills of the queue shapers; queues whose credit recovers join their rings in the order in which it does,
lower numbers first. -/
def State.refillQueues (s : State) (n : Nat) : State :=
  let qs := (s.sch.queues.map (fun e => e.1)).insertionSort (fun x y => s.ticksOwed x ≤ s.ticksOwed y)
  let s := (s.listed 0xE0_4000 16 16384).foldl (fun s q =>
    if (s.reg .schQRate q).getLsbD 31 then
      let Q := s.queue q
      s.setQueue q { Q with credit := refill n Q.credit (s.field .schQRate q 0 22) (s.field .schQBurst q 0 24) }
    else s) s
  qs.foldl State.rejoin s

/-- R271: n refills of the port shapers. -/
def State.refillPorts (s : State) (n : Nat) : State :=
  (s.listed 0xE0_0100 16 64).foldl (fun s p =>
    if (s.reg .schPRate p).getLsbD 31 then
      let P := s.port p
      s.setPort p { P with credit := refill n P.credit (s.field .schPRate p 0 22) (s.field .schPBurst p 0 24) }
    else s) s

/-- R274: n refills of the policers; Tp at CIR while PIR is below CIR. -/
def State.refillPolicers (s : State) (n : Nat) : State :=
  let known := s.sch.pols.map (fun e => e.1) ++ s.listed 0xE8_0004 16 32768 ++ s.listed 0xE8_000C 16 32768
  known.dedup.foldl (fun s i =>
    let p := tget {} s.sch.pols i
    let cir := s.field .schPolCir i 0 22
    let pir := s.field .schPolPir i 0 22
    let p' : Policer :=
      { tc := min (p.tc + n * cir) (125 * s.field .schPolCbs i 0 24)
        tp := min (p.tp + n * max pir cir) (125 * s.field .schPolPbs i 0 24) }
    { s with sch := { s.sch with pols := tset {} s.sch.pols i p' } }) s

/-- R271, R274: n refill ticks taken. -/
def State.refillBy (s : State) (n : Nat) : State :=
  let s := ((s.refillQueues n).refillPorts n).refillPolicers n
  { s with sch := { s.sch with lastTick := s.sch.lastTick + 64 * n } }

/-- R271, R273: a refill tick, every 64 ns of elapsed time base. -/
def execRefillTick (s : State) : Host.Outcome State Fault Refusal :=
  .next (if s.tb.elapsed < s.sch.lastTick + 64 then s else s.refillBy 1)

/-- R273: a debit or `pol` comes after every refill tick that is due. -/
def State.refillDue (s : State) : State :=
  if s.tb.elapsed < s.sch.lastTick + 64 then s else s.refillBy ((s.tb.elapsed - s.sch.lastTick) / 64)

/-! ### Policers (R99, R274) -/

/-- R274: a policer meters n bytes; the pre-colour counts when `pre` gives one. -/
def meter (pl : Policer) (n : Nat) (pre : Option (BitVec 2)) : BitVec 2 × Policer :=
  let u := 125 * n
  if pre = some 2 ∨ pl.tp < u then (2, pl)
  else if pre = some 1 ∨ pl.tc < u then (1, { pl with tp := pl.tp - u })
  else (0, { pl with tp := pl.tp - u, tc := pl.tc - u })

/-- R99, R273: `pol`; R44 lets it wait for no slice (NOTES, Answers to the review). -/
def execPol (b : Nat) (d a c : Reg) (imm : BitVec 6) (s : State) : Host.Outcome State Fault Refusal :=
  .next (s.refillDue.issue b (encU 0x26 d a c 0 imm) false [d, a, c] (fun s B k =>
    let i := (B.rd a).toNat % 2 ^ 20
    if 2 ≤ imm.toNat then .trap .illegal
    else if s.variant.policers ≤ i then .trap .absent
    else
      let n := if c = 0 then k.frame.length else (B.rd c).toNat
      let r := meter (tget {} s.sch.pols i) n (if imm.getLsbD 0 then some k.color else none)
      let s := { s with sch := { s.sch with pols := tset {} s.sch.pols i r.2 } }
      let s := s.updPick b (fun k => { k with color := r.1 })
      .go (s.setBob b ((s.bob b).wr d (r.1.setWidth 64))) (B.pc + 1)))

/-! ### Items -/

/-- R281: a queue item discarded and counted by a source. -/
def State.discard (s : State) (i : QItem) (src : Src) (index : Nat) : State :=
  match i with
  | .pick p =>
    match s.pick p with
    | some k => (s.occurPick k src index).endPick p 0
    | none => s
  | .held f => s.occurFrame f src index
  | .spilled f _ _ _ => s.occurFrame f src index

/-- The queues mapped to a port that hold a frame, ascending. -/
def State.portQueues (s : State) (p : Nat) : List Nat :=
  (s.sch.queues.filter (fun e => !e.2.fifo.isEmpty && s.qPort e.1 == p)).map (fun e => e.1)

/-- R278: one frame of a class without an open gate counted in SHED_CLOSED_WAIT, once. -/
def State.closedWait (p : Nat) (s : State) (i : QItem) : State × QItem :=
  match i with
  | .pick n =>
    match s.pick n with
    | some k =>
      if k.closedCounted then (s, i)
      else ((s.occurPick k .shedClosedWait p).setPick n { k with closedCounted := true }, i)
    | none => (s, i)
  | .held f => if f.closedCounted then (s, i) else (s.occurFrame f .shedClosedWait p, .held { f with closedCounted := true })
  | .spilled f m x o =>
    if f.closedCounted then (s, i)
    else (s.occurFrame f .shedClosedWait p, .spilled { f with closedCounted := true } m x o)

/-- R278: every frame waiting in a queue counted so. -/
def State.closedQueue (s : State) (p q : Nat) : State :=
  let r := (s.queue q).fifo.foldl (fun acc i =>
    let t := State.closedWait p acc.1 i
    (t.1, acc.2 ++ [t.2])) (s, [])
  r.1.setQueue q { r.1.queue q with fifo := r.2 }

/-- R277: a frame of a charged length fits a window on a port. -/
def State.fitsWindow (s : State) (p charged : Nat) (w : Option Nat) : Bool :=
  match w with
  | none => true
  | some n => let t := s.portTime p charged; decide (t.1 ≤ n * t.2)

/-- R278: head frames of a queue that no window of the bank can hold are dropped and counted. -/
def State.dropNeverFit (s : State) (p q : Nat) (longest : Option Nat) : Nat → State
  | 0 => s
  | fuel + 1 =>
    match (s.queue q).fifo with
    | [] => s
    | i :: rest =>
      if s.fitsWindow p (s.chargedLen p i) longest then s
      else State.dropNeverFit ((s.setFifo q rest).discard i .shedNeverFit p) p q longest fuel

/-- R278: what the active bank means for the frames of a class at the heads of a port's queues; a port without a rate
judges none. -/
def State.judgeClass (s : State) (p c : Nat) : State :=
  let qs := (s.portQueues p).filter (fun q => s.qClass q == c)
  match (if (s.portTime p 1).2 = 0 then none else (s.bank p (s.port p).bankB).longest c) with
  | none => s
  | some 0 => qs.foldl (fun s q => s.closedQueue p q) s
  | some n => qs.foldl (fun s q => s.dropNeverFit p q (some n) ((s.queue q).fifo.length + 1)) s

/-! ### Cut-through (R177) -/

/-- R387: the operation code of a lookaside job. -/
def Job.op (j : Job) : Nat := leAt j.desc 0 2

/-- R169: AES blocks of a job: ⌈p ÷ 16⌉ + 1 for GCM (R162), the blocks of each data unit and its tweak for XTS. -/
def State.jobBlocks (s : State) (j : Job) : Nat :=
  match j.kind with
  | .xts => j.src.length / (leAt j.desc 29 3) * ((leAt j.desc 29 3 + 15) / 16 + 1)
  | .gcm => (j.src.length - leAt j.desc 30 2 - (if j.op = 0x0604 then 16 else 0) + 15) / 16 + 1
  | _ =>
    match j.pick with
    | none => 0
    | some p => match s.pick p with
      | none => 0
      | some k => match k.cipher with
        | none => 0
        | some c => (k.frame.length - c.aad - (if c.isOpen then 16 else 0) + 15) / 16 + 1

/-- R161, R177: the running job of a pick. -/
def State.runningJob (s : State) (p : Nat) : Option Job :=
  s.cie.jobs.find? (fun j => j.pick == some p && (match j.st with
    | .running _ => true
    | _ => false))

/-- R177: the block of the encrypted data that holds the 64th byte to be sent, none when it lies before that data. -/
def lastBlock64 (k : Pick) (c : Cipher) : Option Nat :=
  let tag := if k.strips then (if (k.frame.getD 14 0).getLsbD 5 then 16 else 8) else 0
  let at_ := min (if tag = 0 then 63 else 63 + tag) (k.frame.length - 17)
  if at_ < c.aad then none else some ((at_ - c.aad) / 16)

/-- R95, R177: the MAC may start a cut-through frame: its verdict is known, or, on a clear port, the engine has produced the
first 64 bytes and the verdict predicted from its remaining blocks comes in time. -/
def State.cutMayStart (s : State) (port p : Nat) (k : Pick) (c : Cipher) : Bool :=
  let depth := s.field .pmcSsc 0 0 4
  let t := s.portTime port (k.sent port).length
  match c.phase with
  | .done => true
  | .engineDone => decide (port < 32)
  | .job =>
    match s.runningJob p with
    | none => false
    | some j =>
      let done := Config.blocksUsed j.id s.tb.elapsed
      let first : Bool := match lastBlock64 k c with
        | none => true
        | some b => decide (b < done)
      decide (port < 32) && !j.stalled && first
        && decide ((Config.predictedVerdict (s.jobBlocks j - done) depth + 2) * t.2 ≤ t.1)
  | _ => false

/-- R177: the item is a cut-through frame whose verdict is still to come. -/
def State.cutPending (s : State) (i : QItem) : Bool :=
  match i with
  | .pick p =>
    match s.pick p with
    | some k => (match k.cipher with
      | some c => c.isOpen && c.cut && c.phase != .done
      | none => false)
    | none => false
  | _ => false

/-- R95, R177, R267: the MAC of an Ethernet port can start an item now: a cut-through frame waits in its queue until it may. -/
def State.macStarts (s : State) (port : Nat) (i : QItem) : Bool :=
  match i with
  | .pick p =>
    match s.pick p with
    | some k => match k.cipher with
      | some c => !s.cutPending i || s.cutMayStart port p k c
      | none => true
    | none => true
  | _ => true

/-! ### Selection (R267, R269) -/

/-- R267, R269: deficit round robin in a class: the queue whose head may start, with the turns taken; queues in `skip` hold a
head that does not fit the window, may not start at once by `ok`, or has not returned from DRAM. -/
def State.drr (s : State) (p c : Nat) (w : Option Nat) (ok : State → QItem → Bool) (skip : List Nat) :
    Nat → Option Nat × State
  | 0 => (none, s)
  | fuel + 1 =>
    let ring := (s.port p).ring c
    match ring.find? (fun q => !skip.contains q) with
    | none => (none, s)
    | some q =>
      let Q := s.queue q
      if s.qHeld q then State.drr ((s.setQueue q { Q with inTurn := false }).leaveRing q) p c w ok skip fuel
      else match Q.fifo.head? with
        | none => State.drr (s.leaveRing q) p c w ok skip fuel
        | some (.spilled ..) => State.drr s p c w ok (q :: skip) fuel
        | some i =>
          let n := s.chargedLen p i
          let Q := if Q.inTurn then Q
            else { Q with inTurn := true, deficit := satTo 16777215 (Q.deficit + s.field .schQQuantum q 0 20) }
          if n ≤ Q.deficit then
            if s.fitsWindow p n w && ok s i then (some q, s.setQueue q Q)
            else State.drr (s.setQueue q Q) p c w ok (q :: skip) fuel
          else
            let s := s.setQueue q { Q with inTurn := false }
            let P := s.port p
            State.drr (s.setPort p (P.setRing c (ring.filter (· != q) ++ [q]))) p c w ok skip fuel

/-- R267: strict priority over the classes given, highest first, for items that may start at once by `ok`. -/
def State.selectQueue (s : State) (p : Nat) (ok : State → QItem → Bool) : List Nat → Option Nat × State
  | [] => (none, s)
  | c :: cs =>
    let s := s.judgeClass p c
    let w := s.openWindow p c
    if w = some 0 then State.selectQueue s p ok cs
    else
      let r := s.drr p c w ok [] (256 * (((s.port p).ring c).length + 1))
      match r.1 with
      | some q => (some q, r.2)
      | none => State.selectQueue r.2 p ok cs

/-- R271: the port's shaper holds it. -/
def State.portHeld (s : State) (p : Nat) : Bool := (s.reg .schPRate p).getLsbD 31 && decide ((s.port p).credit < 0)

/-- R267, R270, R271: the head of a queue taken, its lengths debited from the deficit, the queue's and the port's
shaper. -/
def State.takeHead (s : State) (p q : Nat) (i : QItem) (rest : List QItem) : State :=
  let n := s.shapedLen p i
  let Q := s.queue q
  let Q := { Q with
    deficit := Q.deficit - s.chargedLen p i
    credit := if (s.reg .schQRate q).getLsbD 31 then Q.credit - 125 * n else Q.credit }
  let P := s.port p
  let P := { P with credit := if (s.reg .schPRate p).getLsbD 31 then P.credit - 125 * n else P.credit }
  let s := ((s.setQueue q Q).setPort p P).setFifo q rest
  if s.qHeld q then (s.setQueue q { s.queue q with inTurn := false }).leaveRing q else s

/-- R267: the frame that a port's selection returns, with its queue, taken from it and debited. -/
def State.takeNext (s : State) (p : Nat) (ok : State → QItem → Bool) : Option (Nat × QItem) × State :=
  let r := s.selectQueue p ok [7, 6, 5, 4, 3, 2, 1, 0]
  match r.1 with
  | none => (none, r.2)
  | some q =>
    match (r.2.queue q).fifo with
    | [] => (none, r.2)
    | i :: rest => (some (q, i), r.2.takeHead p q i rest)

/-! ### Histograms (R282, R297) -/

/-- R282: the bin of a value. -/
def histBin (v : Nat) : Nat := if v < 64 then 0 else min 15 (Nat.log2 v - 5)

/-- R282, R297: a sample counted in a unit, saturating. -/
def Hist.sample (h : Hist) (v : Nat) : Hist :=
  { h with bins := tset 0 h.bins (histBin v) (satTo 0xFFFF_FFFF (tget 0 h.bins (histBin v) + 1)) }

/-- R282: a histogram unit's state. -/
def State.hist (s : State) (h : Nat) : Hist := tget {} s.sch.hists h

/-- R282: a histogram unit set. -/
def State.setHist (s : State) (h : Nat) (x : Hist) : State :=
  { s with sch := { s.sch with hists := tset {} s.sch.hists h x } }

/-- R282: the delay units that watch a queue see one of its frames start: one in every 2^RATE is sampled. -/
def State.sampleDelay (s : State) (q since : Nat) : State :=
  (List.range 64).foldl (fun s h =>
    let cfg := s.reg .schHistCfg h
    if cfg.getLsbD 15 && !cfg.getLsbD 14 && fld cfg 0 14 == q then
      let H := s.hist h
      if 2 ^ fld cfg 16 5 ≤ H.seen + 1 then s.setHist h ({ H with seen := 0 }.sample (s.tb.elapsed - since))
      else s.setHist h { H with seen := H.seen + 1 }
    else s) s

/-- R282: when an item entered QUEUED. -/
def State.itemSince (s : State) (i : QItem) : Nat :=
  match i with
  | .pick p => ((s.pick p).map (fun k => k.queuedAt)).getD 0
  | .held f => f.queuedAt
  | .spilled f _ _ _ => f.queuedAt

/-- R282: a depth unit samples its queue's depth every 2^RATE µs. -/
def execHistDepthSample (h : Nat) (s : State) : Host.Outcome State Fault Refusal :=
  .next (
    let cfg := s.reg .schHistCfg h
    let H := s.hist h
    if 64 ≤ h ∨ cfg.getLsbD 15 = false ∨ cfg.getLsbD 14 = false ∨ s.tb.elapsed < H.last + 1000 * 2 ^ fld cfg 16 5 then s
    else s.setHist h ({ H with last := s.tb.elapsed }.sample (s.depth (fld cfg 0 14))))

/-- R297: the snapshot is complete. -/
def execSchHistSnapDone (h : Nat) (s : State) : Host.Outcome State Fault Refusal :=
  .next (s.setHist h { s.hist h with busy := false })

/-! ### A frame on a port -/

/-- R128, R270: the bytes of an item as the port sends them. -/
def State.itemBytes (s : State) (port : Nat) (i : QItem) : Bytes :=
  match i with
  | .pick p => ((s.pick p).map (fun k => k.sent port)).getD []
  | .held f => if port < 32 && f.strip then stripSecTag f.frame else f.frame
  | .spilled f _ _ _ => if port < 32 && f.strip then stripSecTag f.frame else f.frame

/-- R270: the time of a frame of n sent bytes on a port: to its FCS and to its end. -/
def State.txTimes (s : State) (port n : Nat) : Nat × Nat :=
  (s.tb.elapsed + ceilNs (s.portTime port n), s.tb.elapsed + ceilNs (s.portTime port (n + 24)))

/-- R177, R202: a selected frame on an Ethernet port: discarded above MAXLEN, otherwise started, cut-through while its verdict is
still to come. -/
def State.transmit (s : State) (p q : Nat) (i : QItem) : State :=
  let bytes := s.itemBytes p i
  let id := match i with
    | .pick n => some n
    | _ => none
  if 32 ≤ p ∧ s.field .tagPortCfg (p - 32) 16 14 < bytes.length then s.discard i .tagOversize p
  else
    let t := s.txTimes p bytes.length
    let cut := s.cutPending i
    let s' := match id.bind s.pick, id with
      | some k, some n => if cut then s.setPick n { k with cutStarted := true } else s
      | _, _ => s
    (s'.sampleDelay q (s.itemSince i)).setPort p
      { s.port p with tx := some { pick := id, bytes := bytes, cut := cut, fcsAt := t.1, ends := t.2 } }

/-- R201: frames queued to a tag-mode port with ENABLE 0 are discarded and counted. -/
def State.flushTagOff (s : State) (p : Nat) : State :=
  (s.portQueues p).foldl (fun s q => ((s.queue q).fifo).foldl (fun s i => s.discard i .tagOffTx p) (s.setFifo q [])) s

/-- R20, R27, R265: the slice that serves a port: its own, or, when that is quarantined, the first that is not. -/
def State.sliceOf (s : State) (p : Nat) : Nat :=
  if (s.dom (88 + p / 16)).ready = .quarantined then
    ((List.range 4).find? (fun i => s.variant.domain (88 + i) && (s.dom (88 + i)).ready != .quarantined)).getD (p / 16)
  else p / 16

/-- R265, R461: the slice that serves a port is powered and FRESH. -/
def State.sliceOn (s : State) (p : Nat) : Bool :=
  (s.dom (88 + s.sliceOf p)).up && (s.dom (88 + s.sliceOf p)).ready == .fresh

/-- R265, R267, R334: an Ethernet port can start a frame. -/
def State.macReady (s : State) (port : Nat) : Bool :=
  s.portKind port == .eth && s.portEn port && (s.port port).link && (s.port port).tx.isNone && !s.held && s.sliceOn port
    && !s.tagOff port && !s.portHeld port

/-- R177, R267, R277: a cut-through frame that its port's selection returns, as it may start, starts on its clear port. -/
def execCutThroughStart (port p : Nat) (s : State) : Host.Outcome State Fault Refusal :=
  .next (
    let u := s.refillDue
    if u.macReady port = false then s
    else
      let r := u.takeNext port (fun s i => s.macStarts port i)
      match r.1 with
      | some (q, .pick n) => if n = p ∧ r.2.cutPending (.pick n) = true then r.2.transmit port q (.pick n) else s
      | _ => s)

/-- R95, R178: the MAC reaches the FCS of a cut-through frame: the correct FCS after an OK verdict, otherwise the
poisoned one; a verdict that has not come is counted late and discarded. -/
def execCutFcsReached (port : Nat) (s : State) : Host.Outcome State Fault Refusal :=
  .next (match (s.port port).tx with
    | none => s
    | some t =>
      match t.pick with
      | none => s
      | some p =>
        match s.pick p with
        | none => s
        | some k =>
          if t.cut = false ∨ k.cutStarted = false ∨ s.tb.elapsed < t.fcsAt then s
          else
            let verdict := match k.cipher with
              | some c => c.phase == .done
              | none => false
            if verdict && !k.cutFailed then s.setPort port { s.port port with tx := some { t with cut := false } }
            else
              let s := (s.occurPick k .cutPoison port).cutRecord k true port
              let s := if verdict then s else s.occurPick k .cutLate port
              let s := s.setPort port { s.port port with tx := some { t with cut := false, poison := true, pick := none } }
              s.endPick p 0)

/-- R10, R124: a frame finishes on its port with its FCS; its pick's slot and cells are freed. -/
def execFrameTxEnd (port : Nat) (s : State) : Host.Outcome State Fault Refusal :=
  .next (match (s.port port).tx with
    | none => s
    | some t =>
      if t.cut = true ∨ s.tb.elapsed < t.ends then s
      else
        let s := s.emit (.frame port t.bytes (if t.poison then poisonedFcs t.bytes else fcs t.bytes))
        let s := s.setPort port { s.port port with tx := none }
        match t.pick with
        | some p => s.endPick p 0
        | none => s)

/-! ### Spilled frames (R281) -/

/-- R300: the buffer-region lines of a spilled frame. -/
def State.spillLines (s : State) (f : QFrame) (ext off : Nat) : List Nat :=
  (List.range ((f.frame.length + 63) / 64)).map (fun i => s.extentLine ext + off + i)

/-- R281, R311: the first spilled frame of a queue returns to the beam store, or is dropped with reason INTEGRITY when
its memory fails verification; it waits for its channel to be FRESH (R461). -/
def execSpillReturn (q : Nat) (intact : Bool) (s : State) : Host.Outcome State Fault Refusal :=
  .next (
    let Q := s.queue q
    let front := Q.fifo.takeWhile (fun i => match i with | .spilled .. => false | _ => true)
    match Q.fifo.drop front.length with
    | .spilled f _ x o :: rest =>
      let lines := s.spillLines f x o
      let s := s.useLines true lines
      if lines.any (fun l => s.rerooted true l) || s.linesOff true lines then s
      else if s.cellsFree < cellsFor f.frame.length then s
      else match lines.find? (fun l => s.suspect true l) with
        | some l => ((s.suspectHit l true).setFifo q (front ++ rest)).occurFrame f .dropReason 2
        | none =>
          let s := s.answered true lines
          if intact then s.setQueue q { Q with fifo := front ++ .held f :: rest }
          else (s.setFifo q (front ++ rest)).occurFrame f .dropReason 2
    | _ => s)

/-! ### Sheds (R276 to R279) -/

/-- R276: the running entry's duration ends and the next entry's gates open. -/
def execShedEntryAdvance (port : Nat) (s : State) : Host.Outcome State Fault Refusal :=
  .next (
    let P := s.port port
    let k := s.bank port P.bankB
    if k.durs = [] ∨ (s.tb.tod : Int) < P.entryEnd then s
    else
      let e := (P.entry + 1) % k.durs.length
      s.setPort port { P with entry := e, entryEnd := P.entryEnd + (k.durs.getD e (0, 0)).1 })

/-- R278, R279: the requested bank becomes active: entry 0 begins at the switch instant and the classes' frames are
judged by it. -/
def State.switchBank (s : State) (port : Nat) : State :=
  let P := s.port port
  match P.switchAt with
  | none => s
  | some t =>
    let k := s.bank port (!P.bankB)
    let s := s.setPort port { P with
      bankB := !P.bankB, switchAt := none, entry := 0
      entryEnd := match k.durs with
        | [] => 0
        | e :: _ => t + e.1 }
    [7, 6, 5, 4, 3, 2, 1, 0].foldl (fun s c => s.judgeClass port c) s

/-- R279: the pending switch takes place at its instant. -/
def execShedBankSwitch (port : Nat) (s : State) : Host.Outcome State Fault Refusal :=
  .next (match (s.port port).switchAt with
    | none => s
    | some t => if (s.tb.tod : Int) < t then s else s.switchBank port)

/-- R279, R292: SEL written: back to the active bank cancels a switch, the other bank requests one. -/
def State.shedSelect (s : State) (port : Nat) (sel : Bool) : State :=
  let P := s.port port
  let s := s.setReg .schShedCtl port 0 (putB sel 0)
  if sel = P.bankB then s.setPort port { P with switchAt := none }
  else if P.switchAt.isSome then s
  else
    let t := s.switchInstant port
    let s := s.setPort port { P with switchAt := some t }
    if t ≤ s.tb.tod then s.switchBank port else s

/-- R297: SNAP and CLEAR written to a histogram unit; a write while a snapshot runs is ignored. -/
def State.histSnap (s : State) (h : Nat) (v : Word) : State :=
  let H := s.hist h
  if v.getLsbD 0 && !H.busy then
    s.setHist h { H with snap := H.bins, busy := true, bins := if v.getLsbD 1 then [] else H.bins }
  else s

end Sys2Proof.Machine
end

