-- ==== Sys2Proof/Machine/Wake.lean ====
section
/-! DEFINITION. Power domains as the other units see them (R452 to R460): what a domain is, how its wake is asked for,
how it is quarantined, and the standby pair. -/

namespace Sys2Proof.Machine

/-- R452: the kinds of switched domains. -/
inductive DomKind where
  | cluster (c : Nat)
  | pair (p : Nat)
  | quad (q : Nat)
  | dram (ch : Nat)
  | cache
  | slice (k : Nat)
  | weft (n : Nat)
deriving DecidableEq, Repr

/-- R452: what domain d is. -/
def domKind (d : Nat) : DomKind :=
  if d < 24 then .cluster d
  else if d < 48 then .pair (d - 24)
  else if d < 64 then .quad (d - 48)
  else if d < 80 then .dram (d - 64)
  else if d < 88 then .cache
  else if d < 92 then .slice (d - 88)
  else .weft (d - 92)

/-- R452: wake weights. -/
def DomKind.weight : DomKind → Nat
  | .cluster _ => 1
  | .pair _ => 2
  | .quad _ => 2
  | .dram _ => 4
  | .cache => 1
  | .slice _ => 1
  | .weft _ => 2

/-- R453: deepest state of a kind: P2 for a DRAM channel. -/
def DomKind.bottom : DomKind → PSt
  | .dram _ => .p2
  | _ => .p3

/-- R454: typical exit latency in ns; none where the table shows none. -/
def DomKind.exit (k : DomKind) (st : PSt) : Option Nat :=
  match k, st with
  | _, .p0 => some 0
  | .cluster _, .p1 => some 20 | .cluster _, .p2 => some 35000 | .cluster _, .p3 => some 45000
  | .pair _, .p1 => some 20 | .pair _, .p2 => some 38000 | .pair _, .p3 => some 48000
  | .quad _, .p1 => some 1000 | .quad _, .p2 => some 2000000 | .quad _, .p3 => some 5000000
  | .dram _, .p1 => some 100 | .dram _, .p2 => some 2500
  | .cache, .p1 => some 20 | .cache, .p2 => some 3000 | .cache, .p3 => some 5000
  | .slice _, .p1 => some 20 | .slice _, .p2 => some 4000 | .slice _, .p3 => some 6000
  | .weft _, .p2 => some 11000000 | .weft _, .p3 => some 11000000
  | _, _ => none

/-- R333, R454: modes of the ports on a lane quad that run link training. -/
def State.trainModes (s : State) (q : Nat) : List Nat :=
  ((List.range 64).filter (fun p =>
    let w := s.reg .lnePortCfg p
    w.getLsbD 8 && fld w 5 2 != 0 && fld w 1 4 != 0 && fld w 1 4 != 12
      && decide (p / 4 ≤ q ∧ q ≤ (p + modeWidth (fld w 1 4) - 1) / 4))).map s.portMode

/-- R454: typical exit latency of domain d in ns, a lane quad's with its link training. -/
def State.exit (s : State) (d : Nat) (st : PSt) : Option Nat :=
  match domKind d, st with
  | .quad _, .p0 => some 0
  | .quad q, _ =>
    let m := s.trainModes q
    ((domKind d).exit st).map (· + if m.isEmpty then 0 else Config.trainingTime m)
  | k, _ => k.exit st

/-- R453: running or clock-gated: all state is kept and work is taken. -/
def PSt.awake : PSt → Bool
  | .p0 => true
  | .p1 => true
  | _ => false

/-- R460, R463: a domain quarantined: powered down, with a queued wake withdrawn, and the RECOVERY record it owes; a record
that was due already stays due. -/
def State.quarantineDom (s : State) (d owed : Nat) : State :=
  let s := s.setDom d { s.dom d with
    st := (domKind d).bottom, ready := .quarantined, wake := none, bist := false, up := false
    owed := if owed = 0 then (s.dom d).owed else owed }
  { s with pmc := { s.pmc with wakes := s.pmc.wakes.filter (· != d) } }

/-- R457: a port is enabled, an Ethernet port or a woven group's. -/
def State.anyPort (s : State) : Bool :=
  (List.range 64).any (fun p => s.portEn p && s.portMode p != 0)
    || (List.range 8).any (fun g => (s.reg .wovGrpCfg g).getLsbD 0 && s.reg .wovGrpLanes g != 0)

/-- R457: the lowest-numbered sleeping pair. -/
def State.sleepingPair (s : State) : Option Nat :=
  (List.range 24).find? (fun p => s.variant.domain (24 + p) && (s.dom (24 + p)).st.deep
    && (s.dom (24 + p)).ready != .quarantined && (s.dom (24 + p)).wake.isNone && (s.dom (24 + p)).upOnce)

/-- R175, R457: while a port is enabled the next sleeping pair becomes the standby and is woken. -/
def State.nextStandby (s : State) : State :=
  if !s.anyPort then s
  else match s.sleepingPair with
    | none => { s with pmc := { s.pmc with standby := none } }
    | some p => ({ s with pmc := { s.pmc with standby := some p } }).askWake (24 + p) .sleep

end Sys2Proof.Machine
end

