-- ==== Sys2Proof/Machine/Engines.lean ====
section
/-! DEFINITION. The cipher engines (R159 to R190) and the DRBG (R17, R399): dispatch and preemption of jobs, their
results, masks, known-answer tests, retirement. -/

namespace Sys2Proof.Machine

/-! ### Jobs and engines -/

/-- R163: a job runs on engine e, or is being stopped there (R165). -/
def Job.onEngine (j : Job) (e : Nat) : Bool := j.st == .running e || j.st == .doomed e

/-- R165: a job in engine e's job context store or on it. -/
def Job.holds (j : Job) (e : Nat) : Bool := j.onEngine e || j.st == .suspended e

/-- R159: the job that engine e runs. -/
def State.jobOn (s : State) (e : Nat) : Option Job := s.cie.jobs.find? (fun j => j.st == .running e)

/-- A job replaced by its new form. -/
def State.setJob (s : State) (j : Job) : State :=
  { s with cie := { s.cie with jobs := s.cie.jobs.map (fun x => if x.id = j.id then j else x) } }

/-- R164, R523: engine e takes jobs: present, FRESH and not being emptied for a return. -/
def State.engineOpen (s : State) (e : Nat) : Bool :=
  decide (e < s.variant.engines) && (s.engine e).st == .fresh && !(s.pair (e / 2)).leaving

/-- R164: an idle FRESH engine. -/
def State.engineIdle (s : State) (e : Nat) : Bool := s.engineOpen e && !s.cie.jobs.any (fun j => j.onEngine e)

/-- R188: the profile of a pair, true CONSTANT. -/
def State.profileOf (s : State) (p : Nat) : Bool := (s.reg .cieProfile p).getLsbD 0

/-- R182: engines that run LOW jobs, with those that hold one suspended (log entry 23). -/
def State.lowBusy (s : State) : Nat := s.cie.jobs.countP (fun j => j.level == 0 && j.st != .queued)

/-- R123, R182, R496: a queued job may start now. -/
def State.jobReady (s : State) (j : Job) : Bool :=
  j.st == .queued
    && (j.level != 0 || (decide (s.lowBusy < s.field .lksCap 0 0 6) && !s.shedding))
    && (match j.pick with
        | none => true
        | some p => (match s.pick p with
          | some k => (match k.cipher with
            | some c => c.phase == .job
            | none => false)
          | none => false))

/-- R163: the order in which jobs are served: by level, then by first submission. -/
def Job.before (x y : Job) : Bool := if x.level = y.level then decide (x.ord < y.ord) else decide (y.level < x.level)

/-- R163: the job to start next. -/
def State.nextJob (s : State) : Option Job :=
  (s.cie.jobs.filter s.jobReady).foldl (fun best j =>
    match best with
    | none => some j
    | some b => if j.before b then some j else some b) none

/-- R164: the idle engine a job goes to: one whose pair holds its key context, otherwise the lowest. -/
def State.idleFor (s : State) (j : Job) : Option Nat :=
  let idle := (List.range s.variant.engines).filter s.engineIdle
  match idle.find? (fun e => (s.pair (e / 2)).ctx.contains j.ctx) with
  | some e => some e
  | none => idle.head?

/-- R164, R165: the engine whose job a job of a level preempts: the lowest level, the lowest engine among equals; HIGH
preempts any lower level, NORMAL preempts LOW. A job whose last AES block has entered the pipeline is not suspended. -/
def State.victimFor (s : State) (level : Nat) : Option Nat :=
  let levelOn (e : Nat) : Option Nat :=
    ((s.jobOn e).filter (fun j => !Config.lastBlockIn j.id s.tb.elapsed)).map (fun j => j.level)
  (List.range s.variant.engines).foldl (fun best e =>
    match levelOn e with
    | none => best
    | some l =>
      if level ≤ l ∨ s.engineOpen e = false then best
      else match best with
        | none => some e
        | some b => if l < (levelOn b).getD 3 then some e else best) none

/-- R166: a key context used: most recently used first; a full store replaces the least recently used entry that no
running or suspended job of the pair names. -/
def touchCtx (ctx : List CtxKey) (named : List CtxKey) (k : CtxKey) : List CtxKey :=
  if ctx.contains k then k :: ctx.filter (· != k)
  else if ctx.length < 64 then k :: ctx
  else match ctx.reverse.find? (fun x => !named.contains x) with
    | some v => k :: ctx.filter (· != v)
    | none => k :: ctx.dropLast

/-- R166: the key contexts that jobs running or suspended on a pair name. -/
def State.namedCtx (s : State) (p : Nat) : List CtxKey :=
  s.cie.jobs.filterMap (fun j => if j.holds (2 * p) || j.holds (2 * p + 1) then some j.ctx else none)

/-- R166, R169: a job's key context brought into a pair's store, counted when it is missing. -/
def State.loadCtx (s : State) (e : Nat) (j : Job) : State :=
  let p := e / 2
  let hit := (s.pair p).ctx.contains j.ctx
  let s := if hit then s else s.occur .ctxMiss e
  let s := if hit || s.profileOf p then s else (s.takeMask p 1).1
  s.setPair p { s.pair p with ctx := touchCtx (s.pair p).ctx (s.namedCtx p) j.ctx }

/-- R181: a GCM encryption that asks for a device IV draws it. -/
def State.drawIv (s : State) (j : Job) : State × Job :=
  if j.kind = .gcm ∧ (j.desc.getD 29 0).getLsbD 0 = true ∧ j.iv = none then
    let r := s.draw
    (r.2, { j with iv := some ((bytes256 r.1).take 12) })
  else (s, j)

/-- R164, R171, R456: a job started on engine e; a clock-gated pair runs again. -/
def State.startJob (s : State) (e : Nat) (j : Job) : State :=
  let s := s.loadCtx e j
  let r := s.drawIv j
  (r.1.touchDom (24 + e / 2)).setJob { r.2 with st := .running e, startedAt := s.tb.elapsed, constant := s.profileOf (e / 2) }

/-- R164, R17: the next job goes to an idle FRESH engine, or preempts a lower-level one, whose job runs on to its next
block boundary. -/
def execEngineJobStart (s : State) : Host.Outcome State Fault Refusal :=
  .next (
    if s.cieHold then s
    else match s.nextJob with
      | none => s
      | some j =>
        match s.idleFor j with
        | some e => s.startJob e j
        | none =>
          match s.victimFor j.level with
          | none => s
          | some e =>
            let s := match s.jobOn e with
              | some v => s.setJob { v with st := .doomed e }
              | none => s
            (s.occur .preempt e).startJob e j)

/-- R165: a preempted job reaches its block boundary and its context is saved. -/
def execJobSuspend (e : Nat) (s : State) : Host.Outcome State Fault Refusal :=
  .next { s with cie := { s.cie with
    jobs := s.cie.jobs.map (fun j => if j.st = .doomed e then { j with st := .suspended e, saved := Config.blocksUsed j.id s.tb.elapsed } else j) } }

/-! ### What a job computes (R161, R180, R181) -/

/-- R93, R94, R161: the key and IV of a pick's cipher operation. -/
def Cipher.keyIv (c : Cipher) : Bytes × Bytes :=
  let sl := c.snap.entry.slot (c.snap.slot.getD false)
  (sl.key.take c.snap.entry.keyLen, suiteIv c.snap.entry.xpn sl c.sci c.pn.toNat)

/-- R93: the frame that a `seal` leaves. -/
def Cipher.sealed (c : Cipher) (f : Bytes) : Bytes :=
  let k := c.keyIv
  let aad := f.take c.aad
  let r := gcmSeal k.1 k.2 aad (f.drop c.aad)
  aad ++ r.1 ++ r.2

/-- R94: the verdict of an `open` and the frame it leaves. -/
def Cipher.opened (c : Cipher) (f : Bytes) : Bool × Bytes :=
  let k := c.keyIv
  let n := f.length - 16
  let aad := f.take c.aad
  let r := gcmOpen k.1 k.2 aad ((f.take n).drop c.aad) (f.drop n)
  (r.2, aad ++ r.1)

/-- R180: an XTS job's output. -/
def Job.xtsOut (j : Job) (key : Bytes) : Bytes :=
  let unit := leAt j.desc 29 3
  xtsJob (j.op == 0x0601) key unit (leAt j.desc 32 16) j.src (j.src.length / unit)

/-- R181: a GCM job's status and output: zeros in place of the text when the tag fails. -/
def Job.gcmOut (j : Job) (key : Bytes) : HStat × Bytes :=
  let a := leAt j.desc 30 2
  let aad := j.src.take a
  let iv := j.iv.getD (slice j.desc 32 12)
  if j.op = 0x0603 then
    let r := gcmSeal (key.take 32) iv aad (j.src.drop a)
    (.ok, r.1 ++ r.2)
  else
    let n := j.src.length - 16
    let r := gcmOpen (key.take 32) iv aad ((j.src.take n).drop a) (j.src.drop n)
    if r.2 then (.ok, r.1) else (.integrity, List.replicate r.1.length 0)

/-- R181: the plaintext that a GCM decryption writes as it goes, before its tag is known. -/
def State.streamPlain (s : State) (j : Job) (key : Bytes) : State :=
  if j.op = 0x0604 then
    let n := j.src.length - 16
    let a := leAt j.desc 30 2
    let out := (gcmOpen (key.take 32) (j.iv.getD (slice j.desc 32 12)) (j.src.take a) ((j.src.take n).drop a)
      (j.src.drop n)).1
    if out = [] then s else s.emit (.dma (BitVec.ofNat 64 (leAt j.desc 20 8)) out)
  else s

/-! ### Completion -/

/-- R373, R378, R387: the front slots of a LOOKASIDE ring whose jobs have ended complete in index order, each after its
output has been written (a GCM decryption's plaintext has gone as it came, R181); none while a completion waits to be
written again. -/
def State.flushLookaside (s : State) (f : Nat) : Nat → State
  | 0 => s
  | fuel + 1 =>
    match (if (s.ring f 5).rewrite.isSome then none else (s.ring f 5).front) with
    | none => s
    | some e =>
      match e.result with
      | none => s
      | some (st, outp) =>
        let sent := outp = [] ∨ (leAt e.desc 0 2 = 0x0604 ∧ st = 0)
        let s := if sent then s else s.emit (.dma (BitVec.ofNat 64 (leAt e.desc 20 8)) outp)
        State.flushLookaside (s.complete f 5 (HStat.ofCode st) outp.length) f fuel

/-- R387: a lookaside job's result stored in its slot, and the ring's finished slots completed. -/
def State.lookasideDone (s : State) (j : Job) (st : HStat) (outp : Bytes) : State :=
  let f := j.fn
  let g := s.ring f 5
  let put (e : Fetched) : Fetched :=
    if e.job = some j.id then
      { e with
        desc := match j.iv with
          | some iv => patch e.desc 32 iv
          | none => e.desc
        result := some (st.code, outp) }
    else e
  (s.setRing f 5 { g with fetched := g.fetched.map put }).flushLookaside f (g.fetched.length + 1)

/-- R161, R387: what a finished job leaves: the engine's output waits for its commit, or the lookaside slot completes. -/
def State.jobResult (s : State) (j : Job) : State :=
  match j.pick with
  | some p =>
    match s.pick p with
    | none => s
    | some k =>
      match k.cipher with
      | none => s
      | some c =>
        let r := if c.isOpen then c.opened k.frame else (true, c.sealed k.frame)
        s.setPick p { k with cipher := some { c with phase := .engineDone, result := some r } }
  | none =>
    let key := match j.ctx with
      | .lks n _ => (tget {} s.cie.lks n).key
      | .assoc .. => []
    match j.kind with
    | .xts => s.lookasideDone j .ok (j.xtsOut key)
    | _ => let r := j.gcmOut key; (s.streamPlain j key).lookasideDone j r.1 r.2

/-- R161, R165, R170: the job that engine e runs completes and the highest suspended one resumes; a masked job that its
expander cannot serve stalls. -/
def execEngineJobComplete (e : Nat) (s : State) : Host.Outcome State Fault Refusal :=
  .next (match s.jobOn e with
    | none => s
    | some j =>
      if j.stalled ∨ s.cie.jobs.any (fun x => x.st == .doomed e) = true then s
      else
        let need := if j.constant then 0 else s.jobBlocks j - j.paid
        let r := s.takeMask (e / 2) need
        if r.2 ≠ 0 then
          (r.1.occur .maskStall e).setJob { j with stalled := true, late := true, paid := j.paid + need - r.2 }
        else
          let s := r.1
          let rest := s.cie.jobs.filter (fun x => x.id != j.id)
          ({ s with cie := { s.cie with jobs := resumeOn e rest } }).jobResult j)

/-- R170: the hold ends for a stalled job: its expander is seeded and it goes on. -/
def execMaskStallEnd (e : Nat) (s : State) : Host.Outcome State Fault Refusal :=
  .next (match s.jobOn e with
    | none => s
    | some j =>
      if !j.stalled || s.cieHold then s
      else
        let s := s.drawSeeds 1
        let P := s.pair (e / 2)
        (s.setPair (e / 2) { P with blocks := P.blocks + 65536, seededAt := s.tb.elapsed }).setJob
          { j with stalled := false })

/-- R169: an awake pair's expander draws a new seed while 16,384 blocks' worth remain, or 100 µs after its last seeding. -/
def execMaskExpanderReseed (pair : Nat) (s : State) : Host.Outcome State Fault Refusal :=
  .next (
    let P := s.pair pair
    let old := decide (P.seededAt + 100000 ≤ s.tb.elapsed)
    if s.variant.engines ≤ 2 * pair ∨ s.cieHold = true ∨ (s.dom (24 + pair)).st.awake = false
        ∨ s.profileOf pair = true ∨ (16384 < P.blocks ∧ old = false) then s
    else
      (s.drawSeeds 1).setPair pair
        { P with blocks := if old then 65536 else P.blocks + 65536, seededAt := s.tb.elapsed })

/-! ### Retirement (R42, R175, R176) -/

/-- R42: the job of a frame that has started on a clear port is cancelled: its verdict never comes. -/
def State.cutUnderway (s : State) (j : Job) : Bool :=
  match j.pick with
  | none => false
  | some p => match s.pick p with
    | some k => k.cutStarted
    | none => false

/-- R175: the jobs of a retired engine go back to their queues, to restart from block 0. -/
def State.requeueJobs (s : State) (e : Nat) : State :=
  let s := (s.cie.jobs.filter (fun j => j.holds e)).foldl State.spendMask s
  let keep := s.cie.jobs.filter (fun j => !(j.holds e && s.cutUnderway j))
  { s with cie := { s.cie with
    jobs := keep.map (fun j => if j.holds e then { j with st := .queued, stalled := false, paid := 0, late := true } else j) } }

/-- R176: a retirement within the burst window of the previous one raises CIPHER_BURST. -/
def State.burst (s : State) : State :=
  let s' := { s with cie := { s.cie with lastRetire := some s.tb.elapsed } }
  match s.cie.lastRetire with
  | none => s'
  | some t => if s.tb.elapsed ≤ t + 1000000 * s.field .cieBurst 0 0 16 then s'.fire 13 else s'

/-- R175: an engine quarantined with a fault code, its jobs requeued. -/
def State.stopEngine (s : State) (e fault : Nat) : State :=
  let E := s.engine e
  (s.requeueJobs e).setEngine e
    { E with st := .quarantined, passed := false, fault := BitVec.ofNat 3 fault, retires := satTo 255 (E.retires + 1) }

/-- R174: the engines of a pair that have passed become FRESH once neither of them is still to be tested. -/
def State.settlePair (s : State) (p : Nat) : State :=
  let ready (e : Nat) : Bool := (s.engine e).passed || (s.engine e).st == .quarantined
  if ready (2 * p) && ready (2 * p + 1) then
    [2 * p, 2 * p + 1].foldl (fun s e =>
      if (s.engine e).passed then s.setEngine e { s.engine e with st := .fresh, passed := false } else s) s
  else s

/-- R463, R523: a pair whose engines are both retired is quarantined and powered down. -/
def State.pairGone (s : State) (p owed : Nat) : State :=
  if (s.engine (2 * p)).st = .quarantined ∧ (s.engine (2 * p + 1)).st = .quarantined then
    (s.quarantineDom (24 + p) owed).setPair p {}
  else s

/-- R21, R175, R176: engine e is retired with a fault code. -/
def State.retire (s : State) (e fault : Nat) : State :=
  let s := (s.stopEngine e fault).occur .engineRetired e
  let s := (s.event 0 .cie 1 e fault).faultRec false .cie 1 e fault
  let s := ({ s with cie := { s.cie with recovering := s.cie.recovering ++ [(e, fault)] } }).burst
  ((s.settlePair (e / 2)).pairGone (e / 2) 0).nextStandby

/-- R173: a residue or parity mismatch stops a working engine, which is retired. -/
def execEngineSelfCheckFault (e : Nat) (s : State) : Host.Outcome State Fault Refusal :=
  .next (
    if decide (e < s.variant.engines) && ((s.engine e).st == .fresh || (s.engine e).st == .testing) then s.retire e 1
    else s)

/-- R174: engine e runs its own test. -/
def Engine.inTest (E : Engine) : Bool := E.st == .testing && !E.passed

/-- R174: the partner of engine e. -/
def partner (e : Nat) : Nat := e / 2 * 2 + (1 - e % 2)

/-- R174: the test that engine e runs ends: a mismatch retires it; after a pass it is FRESH again, or on a return waits for
its partner. -/
def State.katEnd (s : State) (e : Nat) (pass : Bool) : State :=
  let E := s.engine e
  if !pass then (s.occur .katFail e).retire e 2
  else if (s.dom (24 + e / 2)).st == .waking then
    (s.setEngine e { E with passed := true, lastKat := s.tb.elapsed }).settlePair (e / 2)
  else s.setEngine e { E with st := .fresh, lastKat := s.tb.elapsed }

/-- R169, R174: engine e's test begins: it reads TESTING and its expander gives the test's masks. -/
def State.katBegin (s : State) (e : Nat) : State :=
  let s := if s.profileOf (e / 2) then s else (s.takeMask (e / 2) Config.katBlocks).1
  s.setEngine e { s.engine e with st := .testing }

/-- R174: a known-answer test of engine e begins: periodic, on an idle FRESH engine whose period has passed, or on a pair
that has powered up; never while the partner is tested, and not during a DRBG hold (R170). The command that finds the
test running ends it with its result (log entry 105). -/
def execKatPeriodic (e : Nat) (pass : Bool) (s : State) : Host.Outcome State Fault Refusal :=
  .next (
    let E := s.engine e
    let D := s.dom (24 + e / 2)
    let periodic := E.st == .fresh && !s.cie.jobs.any (fun j => j.holds e)
      && decide (E.lastKat + 100000 * s.field .cieKat 0 0 16 ≤ s.tb.elapsed)
    let returning := E.st == .stale && D.st == .waking && D.ready == .stale && D.up
    if s.variant.engines ≤ e then s
    else if E.inTest then s.katEnd e pass
    else if s.cieHold = true ∨ (s.engine (partner e)).inTest = true ∨ (periodic = false ∧ returning = false) then s
    else s.katBegin e)

/-! ### Register effects (R172, R185, R188, R190) -/

/-- R185: GO retires a present engine that is not quarantined; otherwise RSVD. -/
def State.retireWrite (s : State) (off : Nat) (v : Word) : State :=
  let e := fld v 0 6
  if !v.getLsbD 31 then s
  else if decide (e < s.variant.engines) && (s.engine e).st != .quarantined then s.retire e 5
  else s.accessErr 0 false off 2

/-- R172, R188: a profile write; CONSTANT is refused once MASK_ONLY is 1. -/
def State.profileWrite (s : State) (pair off : Nat) (v : Word) : State :=
  if v.getLsbD 0 && (s.reg .ciePolicy).getLsbD 0 then s.accessErr 0 false off 2
  else s.setReg .cieProfile pair 0 (v &&& 1)

/-- R172: MASK_ONLY written 1 returns every pair to MASKED. -/
def State.maskOnly (s : State) : State := (List.range 24).foldl (fun s p => s.setReg .cieProfile p 0 0) s

/-! ### The DRBG (R17, R399) -/

/-- R150, R399: the DRBG gives output; its first request of a start is the secret of the flow table's hash. -/
def State.drbgUp (s : State) : State :=
  let r := s.draw
  { r.2 with tab := { r.2.tab with secret := s.kcu.draws } }

/-- R399: the start-up test runs, at once and then every 1 ms until it passes. -/
def execDrbgStartupTest (pass : Bool) (s : State) : Host.Outcome State Fault Refusal :=
  .next (
    if s.kcu.drbg ≠ 1 ∨ (s.kcu.testedAt ≠ 0 ∧ s.tb.elapsed + 1 < s.kcu.testedAt + 1000000) then s
    else
      let t := { s with kcu := { s.kcu with drbg := if pass then 2 else 1, testedAt := s.tb.elapsed + 1, requests := 0 } }
      if pass then t.drbgUp else t)

/-- R399: a reseed, after 2^20 requests, or every 1 ms in HOLD until one passes. -/
def execDrbgReseed (pass : Bool) (s : State) : Host.Outcome State Fault Refusal :=
  .next (
    let due := (s.kcu.drbg == 2 && decide (2 ^ 20 ≤ s.kcu.requests))
      || (s.kcu.drbg == 3 && decide (s.kcu.testedAt + 1000000 ≤ s.tb.elapsed + 1))
    if due then
      { s with kcu := { s.kcu with
        drbg := if pass then 2 else 3, testedAt := s.tb.elapsed + 1, requests := if pass then 0 else s.kcu.requests } }
    else s)

/-- R17, R399: a failed health test holds the traffic path. -/
def execDrbgHealthFail (s : State) : Host.Outcome State Fault Refusal :=
  .next (
    if s.kcu.drbg = 2 then { s with kcu := { s.kcu with drbg := 3, testedAt := s.tb.elapsed + 1 } } else s)

end Sys2Proof.Machine
end

