-- ==== Sys2Proof/Machine/Host.lean ====
section
/-! DEFINITION. Rings and commands (R369 to R384): how a descriptor is fetched and checked, how a command reaches its unit
and completes, the watchdog, DMA faults, ring registers' effects, INJECT and PUNT_BUF. -/

namespace Sys2Proof.Machine

/-! ### Operation codes (R370, R379, R416, R447) -/

/-- R379: the buffer of an operation. -/
inductive BufKind where
  | none
  | block (n : Nat)     -- a parameter block of fixed size
  | data                -- read by the T32
  | output              -- written by the T32
deriving DecidableEq, Repr

/-- R379: an operation's ring, buffer, named argument bytes, and whether it allows GATHER. -/
structure OpInfo where
  ring : Nat
  buf : BufKind
  args : List Nat := []
  gather : Bool := false

/-- Numbers lo to hi. -/
def span (lo hi : Nat) : List Nat := (List.range (hi + 1 - lo)).map (· + lo)

/-- R379, R387, R416, R447: the operations. -/
def opInfo (op : Nat) : Option OpInfo :=
  match op with
  | 0x0101 => some { ring := 0, buf := .block 64 }
  | 0x0102 => some { ring := 0, buf := .block 32 }
  | 0x0103 => some { ring := 0, buf := .none, args := [20, 21, 22, 24] }
  | 0x0104 => some { ring := 0, buf := .none, args := [20, 21, 22, 24] }
  | 0x0105 => some { ring := 0, buf := .none, args := [20, 21, 22, 24] }
  | 0x0106 => some { ring := 0, buf := .none, args := [20, 21, 22, 24] ++ span 28 35 }
  | 0x0107 => some { ring := 0, buf := .none, args := [20, 21, 22, 24] ++ span 28 31 }
  | 0x0108 => some { ring := 0, buf := .output, args := [20, 21, 22] }
  | 0x0109 => some { ring := 1, buf := .data, gather := true }
  | 0x0201 => some { ring := 0, buf := .block 64 }
  | 0x0202 => some { ring := 0, buf := .block 64 }
  | 0x0203 => some { ring := 0, buf := .none, args := span 20 36 }
  | 0x0204 => some { ring := 0, buf := .output, args := span 20 36 }
  | 0x0301 => some { ring := 0, buf := .none, args := span 20 27 }
  | 0x0302 => some { ring := 0, buf := .none, args := [20, 21, 22] }
  | 0x0401 => some { ring := 1, buf := .data, gather := true }
  | 0x0501 => some { ring := 0, buf := .none, args := [20] }
  | 0x0502 => some { ring := 0, buf := .none, args := [20] }
  | 0x0601 => some { ring := 5, buf := .data, args := span 20 47, gather := true }
  | 0x0602 => some { ring := 5, buf := .data, args := span 20 47, gather := true }
  | 0x0603 => some { ring := 5, buf := .data, args := span 20 43, gather := true }
  | 0x0604 => some { ring := 5, buf := .data, args := span 20 43, gather := true }
  | 0x0701 => some { ring := 4, buf := .data, args := [20, 21] ++ span 24 47 }
  | 0x0702 => some { ring := 3, buf := .output, args := span 20 47 }
  | 0x0801 => some { ring := 0, buf := .none, args := span 20 27 }
  | 0x0802 => some { ring := 0, buf := .none, args := [20] }
  | 0x0803 => some { ring := 0, buf := .output }
  | 0x0804 => some { ring := 0, buf := .none, args := [20] }
  | 0x0805 => some { ring := 0, buf := .output }
  | 0x0806 => some { ring := 0, buf := .block 208 }
  | 0x0807 => some { ring := 0, buf := .block 160 }
  | 0x0808 => some { ring := 0, buf := .block 160 }
  | 0x0901 => some { ring := 0, buf := .block 160 }
  | 0x0902 => some { ring := 0, buf := .output, args := [20] }
  | 0x0903 => some { ring := 0, buf := .block 160 }
  | 0x0904 => some { ring := 0, buf := .data, args := [20] }
  | 0x0905 => some { ring := 0, buf := .output, args := [20] }
  | _ => none

/-- R375, R382, R387, R416: reserved bits inside an argument byte that R379 names. -/
def argBitsBad (op : Nat) (d : Bytes) : Bool :=
  match op with
  | 0x0701 => decide (8 ≤ (d.getD 21 0).toNat)
  | 0x0603 => decide (2 ≤ (d.getD 29 0).toNat)
  | 0x0604 => decide (2 ≤ (d.getD 29 0).toNat)
  | 0x0801 => decide (4 ≤ (d.getD 23 0).toNat)
  | _ => false

/-- The operation code of a descriptor. -/
def descOp (d : Bytes) : Nat := leAt d 0 2

/-! ### Checking a descriptor (R376, R377) -/

/-- R377: the total length of a gather list's data, or the ring error it stops with. -/
def gatherLen (maxlen : Nat) (l : Bytes) : Nat → Except (BitVec 3) Nat
  | 0 => .ok 0
  | n + 1 =>
    let len := leAt l 8 3
    if !zeros l 11 5 then .error 1
    else if len = 0 ∨ maxlen < len then .error 2
    else (gatherLen maxlen (l.drop 16) n).map (· + len)

/-- R376, R387: the data of an XTS job or of any other buffer read, checked for length. -/
def dataOk (op : Nat) (d : Bytes) (len : Nat) : Bool :=
  match op with
  | 0x0601 => xtsLen
  | 0x0602 => xtsLen
  | _ => true
where
  xtsLen : Bool :=
    let unit := leAt d 29 3
    decide (len < 2 ^ 24) && (decide (unit < 16 ∨ 1048576 < unit) || len % unit == 0)

/-- R376, R377: a fetched descriptor and what its DMA read returned (a gather list before its data): the ring error, or
the buffer's bytes and how many there must be. -/
def checkDesc (g : Ring) (r : Nat) (d raw : Bytes) : Except (BitVec 3) (Bytes × Nat) :=
  match opInfo (descOp d) with
  | none => .error 1
  | some info =>
    let flags := (d.getD 2 0).toNat
    let len := leAt d 16 3
    let gather := flags / 4 % 2 = 1
    if info.ring ≠ r ∨ 8 ≤ flags ∨ d.getD 3 0 ≠ 0 ∨ d.getD 19 0 ≠ 0 ∨ (gather ∧ info.gather = false)
        ∨ ((span 20 47).any (fun i => !info.args.contains i && d.getD i 0 != 0)) = true
        ∨ argBitsBad (descOp d) d = true then .error 1
    else match info.buf with
      | .none => if len ≠ 0 ∨ leAt d 8 8 ≠ 0 then .error 1 else .ok ([], 0)
      | .block n => if len ≠ n ∨ g.maxlen < len then .error 2 else .ok (slice raw 0 n, n)
      | .output => if len = 0 ∨ g.maxlen < len then .error 2 else .ok ([], 0)
      | .data =>
        if len = 0 ∨ g.maxlen < len then .error 2
        else if gather then
          if len % 16 ≠ 0 then .error 2
          else match gatherLen g.maxlen (raw.take len) (len / 16) with
            | .error e => .error e
            | .ok n => if dataOk (descOp d) d n then .ok ((raw.drop len).take n, n) else .error 2
        else if dataOk (descOp d) d len then .ok (raw.take len, len) else .error 2

/-- R370 to R376: the next slot of a running ring is fetched and handed to its unit; a malformed one completes
DESC_ERROR, once every earlier slot has completed, and stops the ring. -/
def execDescriptorFetch (f r : Nat) (desc buf : Bytes) (s : State) : Host.Outcome State Fault Refusal :=
  .next (
    let g := s.ring f r
    if s.fnExists f = false ∨ ¬ (r = 0 ∨ r = 1 ∨ r = 3 ∨ r = 4 ∨ r = 5) ∨ g.en = false ∨ g.stopped = true
        ∨ g.rewrite ≠ none ∨ g.fetchIdx = g.tail then s
    else
      let d := slice desc 0 64
      let slot (b : Bytes) : Fetched := { idx := g.fetchIdx, desc := d, buf := b, at_ := s.tb.elapsed }
      let put (b : Bytes) : State :=
        s.setRing f r { g with fetched := g.fetched ++ [slot b], fetchIdx := g.fetchIdx + 1 }
      match checkDesc g r d buf with
      | .ok (b, n) =>
        if b.length < n ∧ descOp d ≠ 0x0109 then put (slice b 0 n) else put b
      | .error code =>
        if g.front.isSome then s else
          let t := (put []).completeStop f r .descError code
          if r = 3 then t.servePunt f else t)

/-! ### Commands at their units -/

/-- R373, R378: the slot that a ring's unit has next; none while the ring is stopped. -/
def State.handed (s : State) (f r : Nat) : Option Fetched :=
  if !s.fnExists f || (s.ring f r).stopped then none
  else match (s.ring f r).front with
    | some e => if e.posted then none else some e
    | none => none

/-- R408: the commands absent in RMA. -/
def rmaDenied (op : Nat) : Bool :=
  op == 0x0101 || op == 0x0102 || op == 0x0109 || op == 0x0301 || op == 0x0501 || op == 0x0801 || op == 0x0802
    || op == 0x0803 || op == 0x0805 || op == 0x0806 || op == 0x0807 || op == 0x0808

/-- R299, R305, R308: the commands on the association and flow tables. -/
def tableOp (op : Nat) : Bool := decide (0x0100 ≤ op ∧ op < 0x0300)

/-- R376, R305, R408, R416, R447, R519: what holds for every command before its unit looks at it: DENIED by the lifecycle or by
the domain, ABSENT on a variant without its unit, STATE while the tables, and with them the card staging (log entry 135), are not
initialised. -/
def State.gate (s : State) (f op : Nat) : Option HStat :=
  if s.kcu.lc = 0 ∨ s.kcu.lc = 5 then
    if op = 0x0901 ∨ op = 0x0905 then none
    else if op = 0x0808 ∧ f = 0 then some .state
    else some .denied
  else if s.kcu.lc = 4 ∧ rmaDenied op = true then some .denied
  else if (op = 0x0501 ∨ op = 0x0502 ∨ (0x0600 ≤ op ∧ op < 0x0700)) ∧ s.variant ≠ .tv32f then some .absent
  else if op = 0x0806 ∧ s.variant.weftPorts = 0 then some .absent
  else if f ≠ 0 ∧ (op = 0x0301 ∨ op = 0x0302 ∨ op = 0x0401 ∨ (0x0804 ≤ op ∧ op ≤ 0x0808) ∨ op = 0x0902 ∨ op = 0x0903
      ∨ op = 0x0904) then some .denied
  else if (tableOp op = true ∨ op = 0x0401) ∧ s.variant ≠ .tv16e ∧ (s.msc.done = false ∨ s.msc.tableKey = none) then some .state
  else none

/-- R371 to R381: the command at the front of a ring, if `want` recognises it, runs: refused by the gate, or answered by
`run`, which completes it. -/
def State.command (s : State) (f r : Nat) (want : Fetched → Bool) (run : Fetched → State) : State :=
  match s.handed f r with
  | none => s
  | some e =>
    if !want e then s
    else match s.gate f (descOp e.desc) with
      | some st => s.complete f r st
      | none => run e

/-- The outcome of a command that returns no result words. -/
def State.answer (s : State) (f r : Nat) : Except HStat State → State
  | .ok t => t.complete f r .ok
  | .error st => s.complete f r st

/-- A slot's operation code is one of a list. -/
def Fetched.isOp (e : Fetched) (op : Nat) : Bool := descOp e.desc == op

/-- Byte i of a slot's descriptor. -/
def Fetched.arg (e : Fetched) (i : Nat) : Nat := (e.desc.getD i 0).toNat

/-- R379: the 24-bit index argument. -/
def Fetched.index (e : Fetched) : Nat := leAt e.desc 20 3

/-! ### Key pages (R400, R401) -/

/-- R401, R407: the key a command of a function takes, of a wanted length; STATE when the page holds none. -/
def State.takeKey (s : State) (f len : Nat) : Except HStat Bytes :=
  let p := s.page f
  if s.kcu.st = 4 ∨ p.st ≠ 1 then .error .state
  else if p.len ≠ len then .error .range
  else .ok p.key

/-- R401: a command that takes a key waits while a commit is unwrapping. -/
def State.pageBusy (s : State) (f : Nat) : Bool := (s.page f).unwrap.isSome

/-- R401: a key page emptied. -/
def State.emptyPage (s : State) (f : Nat) : State := s.setPage f {}

/-! ### Watchdog and late answers (R381) -/

/-- R381: the commands that the watchdog does not time. -/
def untimed (op : Nat) : Bool := op == 0x0901 || op == 0x0903

/-- R381: the watchdog of a COMMAND-ring command expires: it is withdrawn and completes BUSY. -/
def execHifCmdWatchdogExpiry (f : Nat) (s : State) : Host.Outcome State Fault Refusal :=
  .next (match s.handed f 0 with
    | none => s
    | some e =>
      if untimed (descOp e.desc) = true ∨ s.tb.elapsed ≤ e.at_ + 1000 * s.field .hifCmdWdog 0 0 16 then s
      else
        let t := s.complete f 0 .busy
        t.setRing f 0 { t.ring f 0 with fetched := { e with withdrawn := true } :: (t.ring f 0).fetched })

/-- R34, R381: the answer of a withdrawn command is discarded and counted. -/
def execHifLateAnswer (f : Nat) (s : State) : Host.Outcome State Fault Refusal :=
  .next (
    let g := s.ring f 0
    if g.fetched.any (fun e => e.withdrawn) then
      (s.setRing f 0 { g with fetched := g.fetched.eraseP (fun e => e.withdrawn) }).occur .hifLate f
    else s)

/-! ### DMA faults (R378) -/

/-- The last slot a ring's hardware wrote, with what had left the device before and after it. -/
def lastSlot (f r : Nat) (out : List Out) : Option (Word × Bytes × List Out) :=
  let isIt (o : Out) : Bool := match o with
    | .hostSlot f' r' _ _ => f' == f && r' == r
    | _ => false
  match out.reverse.find? isIt with
  | some (.hostSlot _ _ i b) => some (i, b, (out.reverse.eraseP isIt).reverse)
  | _ => none

/-- R378, R383, R384: the write of a ring's last completion failed: HEAD stays on the slot. On a PUNT or EVENT ring the
record is lost and the slot takes the next one; otherwise the completion is written again on RESUME. A slot handed over before its
ring was enabled anew has moved no HEAD. -/
def State.writeFault (s : State) (f r : Nat) : State :=
  match lastSlot f r s.out with
  | none => s
  | some (i, b, out) =>
    let g := s.ring f r
    let cur : Bool := i + 1 == g.head
    let s := { s with out := out }
    let lost := if g.lost = 0xFFFF_FFFF then g.lost else g.lost + 1
    let back := { g with head := if cur then i else g.head }
    let g' : Ring :=
      if r = 2 then { back with lost := lost, overflow := true }
      else if r = 3 then
        { back with
          lost := lost
          fetched := if cur then { idx := i, desc := b, buf := [], at_ := s.tb.elapsed, posted := true } :: g.fetched else g.fetched }
      else { back with rewrite := some b, rewriteAt := if cur then none else some i }
    let t := (s.setRing f r g').ringStop f r 4
    if r = 3 then t.servePunt f else t

/-- R373, R378: a LOOKASIDE ring's finished slots complete. -/
def State.flushRing (s : State) (f r : Nat) : State :=
  if r = 5 then s.flushLookaside f ((s.ring f 5).fetched.length + 1) else s

/-- R374, R378, R394: RESUME on a stopped ring: a completion that failed is written again, signalled as its descriptor asks, and
the ring continues from HEAD. -/
def State.ringResume (s : State) (f r : Nat) : State :=
  let g := s.ring f r
  if !g.stopped then s
  else
    let s := s.setRing f r { g with stopped := false, err := 0, rewrite := none, rewriteAt := none }
    let t := match g.rewrite, g.rewriteAt with
      | none, _ => s
      | some b, some i => s.emit (.hostSlot f r i b)
      | some b, none => (s.emit (.hostSlot f r g.head b)).ringDone f r ((b.getD 2 0).getLsbD 0)
    t.flushRing f r

/-- R392, R371: TAIL written: a value that would overfill the ring is discarded, and an enabled ring stops with OVERRUN. -/
def State.tailWrite (s : State) (f r : Nat) (v : Word) : State :=
  let g := s.ring f r
  if 2 ^ g.size < (v - g.head).toNat then
    if g.en then
      let t := s.ringStop f r 6
      if r = 3 then t.servePunt f else t
    else s
  else s.setRing f r { g with tail := v }

/-- R372, R393, R394: EN of a ring written. Slots handed to a unit before stay with it (R372, R381); receive buffers are given up.
EN = 0 clears a stop, one that came while EN was 0 already too. -/
def State.ringEnable (s : State) (f r : Nat) (en : Bool) : State :=
  let g := s.ring f r
  if en && !g.en then
    let kept := if r = 3 then [] else g.fetched.map (fun e => { e with old := true })
    s.setRing f r { g with
      en := true, head := 0, tail := 0, fetchIdx := 0, fetched := kept, stopped := false, err := 0, rewrite := none
      rewriteAt := none, unsignalled := 0 }
  else if !en && (g.en || g.stopped) then
    let t := s.setRing f r { g with en := false, stopped := false, err := 0, rewrite := none, rewriteAt := none }
    if r = 3 then t.servePunt f else t.flushRing f r
  else s

/-- R374: the moderation time of a ring has passed since its first completion not signalled. -/
def execImodTimerExpiry (f r : Nat) (s : State) : Host.Outcome State Fault Refusal :=
  .next (
    let g := s.ring f r
    if g.unsignalled = 0 ∨ g.imodTime = 0 ∨ s.tb.elapsed < g.firstAt + 1000 * g.imodTime then s
    else s.ringSignal f r)

/-! ### INJECT and PUNT_BUF (R382, R383) -/

/-- R382: INJECT: a frame becomes a pick with src HOST and port 64, or the slot completes BUSY when it is refused or
traffic is held. -/
def execInject (f : Nat) (s : State) : Host.Outcome State Fault Refusal :=
  .next (s.command f 4 (fun e => e.isOp 0x0701) (fun e =>
    let vec := e.arg 20
    let k : Pick :=
      { src := 4, odom := 64, port := 64, cls := BitVec.ofNat 3 (e.arg 21), frame := e.buf, vec := vec
        u0 := BitVec.ofNat 64 (leAt e.desc 24 8), u1 := BitVec.ofNat 64 (leAt e.desc 32 8)
        u2 := BitVec.ofNat 64 (leAt e.desc 40 8 / 256 * 256 + f) }
    if (s.reg .hifFnCfg f).getLsbD 0 = false then s.complete f 4 .denied
    else if e.buf.length < 60 ∨ 16128 < e.buf.length ∨ 16 ≤ vec ∨ (vec ≠ 4 ∧ vec < 6) then s.complete f 4 .range
    else if s.held then s.complete f 4 .busy
    else match s.admission k.cls k.frame.length with
      | none => (s.refuse k).complete f 4 .busy
      | some s' => (s'.createPick k).complete f 4 .ok))

/-- R383: PUNT_BUF: the slot stays on the ring as a receive buffer, for a record that waits for it (R31) or a later one. -/
def execPuntBuf (f : Nat) (s : State) : Host.Outcome State Fault Refusal :=
  .next (
    let g := s.ring f 3
    if s.fnExists f = false ∨ g.stopped = true then s
    else match g.fetched.find? (fun e => !e.posted) with
      | none => s
      | some e =>
        match s.gate f 0x0702 with
        | some st => if g.front = some e then s.complete f 3 st else s
        | none =>
          (s.setRing f 3 { g with
            fetched := g.fetched.map (fun x => if x.idx = e.idx then { x with posted := true } else x) }).servePunt f)

end Sys2Proof.Machine
end

