-- ==== Sys2Proof/Machine/Assoc.lean ====
section
/-! DEFINITION. Associations and flows as host commands change them (R129 to R158): install, load, retire, drain, states,
single fields, reads, bundles, and the flow table. -/

namespace Sys2Proof.Machine

/-! ### The entry as bytes (R129, R130) -/

/-- R130, R137: a slot's 56 bytes with KEY read as 0. -/
def Slot.bytes (x : Slot) : Bytes := List.replicate 32 0 ++ slice x.salt 0 12 ++ slice x.ssci 0 4 ++ leBytes x.pn.toNat 8

/-- R137, R157: what AT_READ returns; of a POISONED entry the common part alone, or zeros if nothing was installed. Its STATE is
the present one, POISONED (DESIGN CHOICE, log entry 136). -/
def AtEntry.bytes (e : AtEntry) : Bytes :=
  if e.st = .poisoned then
    (if e.suite = 0 then List.replicate 16 0 else e.common) ++ List.replicate 112 0
  else e.common ++ e.a.bytes ++ e.b.bytes

/-- R129: the fields of the common part, as a command's block or a bundle record gives them (without the bits that the T32
sets). -/
def AtEntry.ofCommon (b : Bytes) : AtEntry :=
  let w := leAt b 0 4
  let f (lo n : Nat) : Nat := w / 2 ^ lo % 2 ^ n
  let w2 := leAt b 8 4
  { suite := BitVec.ofNat 4 (f 4 4), mode := f 8 1 == 1, txslot := f 9 1 == 1, cut := f 10 1 == 1, replay := f 11 1 == 1
    k := BitVec.ofNat 6 (f 12 6), domain := BitVec.ofNat 6 (f 18 6), window := BitVec.ofNat 32 (leAt b 4 4)
    policer := BitVec.ofNat 20 w2, cutEvent := w2 / 2 ^ 20 % 2 == 1, qbase := BitVec.ofNat 14 (leAt b 12 4)
    a := { kn := BitVec.ofNat 2 (f 24 2) }, b := { kn := BitVec.ofNat 2 (f 26 2) } }

/-- R129, R380: reserved bits, DRAIN and EXH bits of the common part are 0. -/
def commonClear (b : Bytes) : Bool :=
  leAt b 0 4 / 2 ^ 30 == 0 && leAt b 8 4 / 2 ^ 21 == 0 && leAt b 12 4 / 2 ^ 14 == 0

/-! ### Values (R131, R132) -/

/-- R131, R132: SUITE is one that AT_INSTALL takes, and K fits it. -/
def AtEntry.suiteOk (e : AtEntry) : Bool :=
  e.suite != 0 && decide (e.suite.toNat ≤ 4) && (if e.xpn then decide (31 ≤ e.k.toNat) else e.k == 31)

/-- R132: a slot PN the entry accepts: 1 to 2^k − 1. -/
def AtEntry.pnOk (e : AtEntry) (pn : Nat) : Bool := pn != 0 && decide (pn ≤ e.ceiling)

/-- R132: the values of an entry. -/
def State.valuesOk (s : State) (e : AtEntry) : Bool :=
  e.suiteOk && decide (e.window.toNat ≤ 2 ^ 30) && decide (e.policer.toNat < s.variant.policers)

/-- R132, R133: a slot with EXH as its counter and the ceiling give it. -/
def AtEntry.exhaust (e : AtEntry) (x : Slot) : Slot := { x with exh := x.valid && decide (e.ceiling ≤ x.pn.toNat) }

/-! ### Domains and the order of checks (R134, R522) -/

/-- R134: function f may command index i: its range, and an entry of its own or an EMPTY one. -/
def State.mayCommand (s : State) (f i : Nat) : Bool :=
  let base := s.field .atDomBase f 0 24
  f == 0 || (decide (base ≤ i ∧ i < base + s.field .atDomCount f 0 25)
    && ((s.assoc i).st == .empty || (s.assoc i).domain.toNat == f))

/-- R154, R311, R461: a command that writes association i waits. -/
def State.atWaits (s : State) (i : Nat) : Bool := s.writeWaits (assocLines i)

/-- R522: steps 1 and 2, and R309: the index, the domain, the memory. -/
def State.atCheck (s : State) (f i : Nat) : Except HStat State :=
  if s.capacity ≤ i then .error .range
  else if !s.mayCommand f i then .error .denied
  else match s.tableBad (assocLines i) with
    | some _ => .error .integrity
    | none => .ok s

/-- R309, R310: the bus error of a table command is counted. -/
def State.atBusHit (s : State) (i : Nat) : State :=
  match s.tableBad (assocLines i) with
  | some l => s.suspectHit l
  | none => s

/-- R154, R303, R313: the answer of a command on association i, whose lines are written with its result; at a write clock's
end it meets a bus error and changes nothing. -/
def State.answerAt (s : State) (f i : Nat) : Except HStat State → State
  | .error st => (s.answered false (assocLines i)).complete f 0 st
  | .ok t =>
    if t.tableRoom (assocLines i) then (t.writeAssoc i).complete f 0 .ok else s.clockEnd.complete f 0 .integrity

/-- R137, R157, R522: an association command other than AT_INSTALL and AT_READ: its checks 1 and 2, and STATE on an EMPTY
entry or, unless the command is `onPoisoned`, on a POISONED one. -/
def State.atCommand (s : State) (f : Nat) (want : Fetched → Bool) (index : Fetched → Nat) (onPoisoned : Bool)
    (run : Fetched → Nat → AtEntry → Except HStat State) : State :=
  s.command f 0 want (fun e =>
    let i := index e
    if s.atWaits i && decide (i < s.capacity) then s.askTable (assocLines i)
    else match s.atCheck f i with
      | .error st => (if st = .integrity then s.atBusHit i else s).answer f 0 (.error st)
      | .ok _ =>
        let x := s.assoc i
        if x.st = .empty ∨ (x.st = .poisoned ∧ onPoisoned = false) then
          (s.answered false (assocLines i)).answer f 0 (.error .state)
        else s.answerAt f i (run e i x))

/-! ### Drains (R139, R140) -/

/-- R139: the number of a slot in the reference counts and drain timers. -/
def slotNo (i : Nat) (b : Bool) : Nat := 2 * i + if b then 1 else 0

/-- R140: a slot's DRAIN set and its timer started. -/
def State.startDrain (s : State) (i : Nat) (b : Bool) : State :=
  let e := s.assoc i
  let s := s.setAssoc i (e.setSlot b { e.slot b with drain := true })
  let t := s.tb.elapsed + 1000 * s.field .atDrain 0 0 16 + 1
  { s with tab := { s.tab with drains := tset 0 s.tab.drains (slotNo i b) t } }

/-- R167: every key context of a slot invalidated. -/
def State.dropCtx (s : State) (i : Nat) (b : Bool) : State :=
  let keep (k : CtxKey) : Bool := match k with
    | .assoc idx sb _ => !(idx.toNat == i && sb == b)
    | .lks .. => true
  { s with cie := { s.cie with pairs := s.cie.pairs.filterMap (fun e =>
      let p : Pair := { e.2 with ctx := e.2.ctx.filter keep }
      if p = {} then none else some (e.1, p)) } }

/-- R129, R140: an EMPTY entry whose slots are both empty reads as after reset. -/
def AtEntry.cleared (e : AtEntry) : AtEntry :=
  if e.st = .empty ∧ e.a.valid = false ∧ e.b.valid = false then { a := { loads := e.a.loads }, b := { loads := e.b.loads } }
  else e

/-- R140, R167, R386: a slot destroyed at the end of its drain, in its DRAM lines too, and SLOT_RETIRED raised. -/
def State.destroySlot (s : State) (i : Nat) (b : Bool) : State :=
  let e := s.assoc i
  let sl := e.slot b
  let s := s.event e.domain.toNat .at_ 2 (i + (if b then 2 ^ 24 else 0) + sl.kn.toNat * 2 ^ 25)
  let s := (s.setAssoc i ((e.setSlot b { loads := sl.loads, kn := sl.kn }).cleared)).writeAssoc i
  ({ s with tab := { s.tab with drains := tset 0 s.tab.drains (slotNo i b) 0 } }).dropCtx i b

/-- R140: a drain timer of an association's slot expires: the slot is destroyed, or with references the timer starts
again. -/
def State.drainAssoc (s : State) (i : Nat) (b : Bool) : State :=
  let k := slotNo i b
  let t := tget 0 s.tab.drains k
  if t = 0 ∨ s.tb.elapsed + 1 < t then s
  else if tget 0 s.tab.refs k = 0 then s.destroySlot i b
  else
    let s := s.occur .drainExtend i
    let t := s.tb.elapsed + 1000 * s.field .atDrain 0 0 16 + 1
    { s with tab := { s.tab with drains := tset 0 s.tab.drains k t } }

/-- R149, R239: a cloth key slot of a group. -/
def Group.ck (g : Group) (slot : Nat) : CkSlot := tget {} g.cks slot

/-- R149: the framer holds a reference to a cloth key slot: its headers are still sealed or opened under it. -/
def Group.ckInUse (g : Group) (slot : Nat) : Bool :=
  if slot < 2 then g.sealing == some (slot == 1) else g.rxSlot == some (slot == 3)

/-- R149, R140: a drain timer of a cloth key slot expires. -/
def State.drainCloth (s : State) (g slot : Nat) : State :=
  let G := s.group g
  let c := G.ck slot
  if c.drain = false ∨ s.tb.elapsed + 1 < c.drainAt then s
  else if !G.ckInUse slot then s.setGroup g { G with cks := tset {} G.cks slot {} }
  else
    let c' := { c with drainAt := s.tb.elapsed + 1000 * s.field .atDrain 0 0 16 + 1 }
    s.setGroup g { G with cks := tset {} G.cks slot c' }

/-- R140, R149: a drain timer expires. -/
def execDrainTimerExpiry (r : DrainRef) (s : State) : Host.Outcome State Fault Refusal :=
  .next (match r with
    | .assoc i b => s.drainAssoc i.toNat b
    | .cloth g slot => s.drainCloth g slot)

/-! ### Installing and loading (R137, R401) -/

/-- R401: the key length of a suite. -/
def AtEntry.pageLen (e : AtEntry) : Nat := e.keyLen

/-- R130: a slot filled with a key. -/
def fillSlot (old : Slot) (key salt ssci : Bytes) (kn : BitVec 2) (pn : Nat) : Slot :=
  { key := slice key 0 32, salt := salt, ssci := ssci, pn := BitVec.ofNat 64 pn, kn := kn, valid := true
    loads := old.loads + 1 }

/-- R137, R380, R522: AT_INSTALL. -/
def execAtInstall (f : Nat) (s : State) : Host.Outcome State Fault Refusal :=
  .next (s.command f 0 (fun e => e.isOp 0x0101) (fun c =>
    let b := c.buf
    let i := leAt b 0 3
    if s.atWaits i && decide (i < s.capacity) then s.askTable (assocLines i)
    else if s.pageBusy f then s
    else match s.atCheck f i with
      | .error st => (if st = .integrity then s.atBusHit i else s).answer f 0 (.error st)
      | .ok _ =>
        let s := s.answered false (assocLines i)
        let x := s.assoc i
        let n := AtEntry.ofCommon (slice b 8 16)
        let n := if f = 0 then n else { n with domain := BitVec.ofNat 6 f }
        let req := (b.getD 4 0).toNat
        let pn := leAt b 40 8
        let w0 := leAt b 8 4
        if x.st ≠ .empty ∧ x.st ≠ .poisoned then s.answer f 0 (.error .state)
        else if x.a.drain ∨ x.b.drain then s.answer f 0 (.error .busy)
        else if n.txslot then s.answer f 0 (.error .state)
        else if !(zeros b 3 1 && zeros b 5 3 && zeros b 48 16) || w0 % 16 != 0 || w0 / 2 ^ 28 % 4 != 0
            || !commonClear (slice b 8 16) || !(req == 1 || req == 2) || !s.valuesOk n || !n.pnOk pn then
          s.answer f 0 (.error .range)
        else match s.takeKey f n.pageLen with
          | .error st => s.answer f 0 (.error st)
          | .ok key =>
            let a := n.exhaust (fillSlot x.a key (slice b 24 12) (slice b 36 4) n.a.kn pn)
            let e := { n with st := if req = 1 then .active else .suspended, a := a, b := { n.b with loads := x.b.loads } }
            s.answerAt f i (.ok (((s.setAssoc i e).dropCtx i false).emptyPage f))))

/-- R137, R380: AT_SLOT_LOAD. -/
def execAtSlotLoad (f : Nat) (s : State) : Host.Outcome State Fault Refusal :=
  .next (if s.pageBusy f then s else
    s.atCommand f (fun e => e.isOp 0x0102) (fun e => leAt e.buf 0 3) false (fun c i x =>
      let b := c.buf
      let slot := (b.getD 4 0).toNat
      let kn := (b.getD 5 0).toNat
      let pn := leAt b 24 8
      let B := slot == 1
      if 2 ≤ slot then .error .range
      else if (x.slot B).drain then .error .busy
      else if (x.slot B).valid then .error .state
      else if (x.slot (!B)).valid ∧ (x.slot (!B)).kn.toNat = kn % 4 ∧ kn < 4 then .error .state
      else if 4 ≤ kn ∨ zeros b 3 1 = false ∨ zeros b 6 2 = false ∨ x.pnOk pn = false then .error .range
      else match s.takeKey f x.pageLen with
        | .error st => .error st
        | .ok key =>
          let sl := x.exhaust (fillSlot (x.slot B) key (slice b 8 12) (slice b 20 4) (BitVec.ofNat 2 kn) pn)
          .ok (((s.setAssoc i (x.setSlot B sl)).dropCtx i B).emptyPage f)))

/-- R137: AT_TXSLOT. -/
def execAtTxslot (f : Nat) (s : State) : Host.Outcome State Fault Refusal :=
  .next (s.atCommand f (fun e => e.isOp 0x0103) Fetched.index false (fun c i x =>
    let B := c.arg 24 == 1
    if 2 ≤ c.arg 24 then .error .range
    else if !(x.slot B).valid then .error .state
    else .ok (s.setAssoc i { x with txslot := B })))

/-- R137, R140: AT_SLOT_RETIRE. -/
def execAtSlotRetire (f : Nat) (s : State) : Host.Outcome State Fault Refusal :=
  .next (s.atCommand f (fun e => e.isOp 0x0104) Fetched.index false (fun c i x =>
    let B := c.arg 24 == 1
    if 2 ≤ c.arg 24 then .error .range
    else if (x.slot B).valid = false ∨ (x.slot B).drain = true ∨ x.txslot = B then .error .state
    else .ok (s.startDrain i B)))

/-! ### States (R133) -/

/-- R133, R379: AT_STATE SUSPEND; an action that is none of the three completes RANGE. -/
def execAtStateSuspend (f : Nat) (s : State) : Host.Outcome State Fault Refusal :=
  .next (s.atCommand f (fun e => e.isOp 0x0105 && !(e.arg 24 == 2 || e.arg 24 == 3)) Fetched.index false (fun c i x =>
    if c.arg 24 ≠ 1 then .error .range
    else if x.st ≠ .active then .error .state
    else .ok (s.setAssoc i { x with st := .suspended })))

/-- R133: AT_STATE RESUME. -/
def execAtStateResume (f : Nat) (s : State) : Host.Outcome State Fault Refusal :=
  .next (s.atCommand f (fun e => e.isOp 0x0105 && e.arg 24 == 2) Fetched.index false (fun _ i x =>
    if x.st ≠ .suspended then .error .state else .ok (s.setAssoc i { x with st := .active })))

/-- R133, R140: AT_STATE REMOVE: EMPTY at once, and each VALID slot drains. -/
def execAtStateRemove (f : Nat) (s : State) : Host.Outcome State Fault Refusal :=
  .next (s.atCommand f (fun e => e.isOp 0x0105 && e.arg 24 == 3) Fetched.index true (fun _ i x =>
    let s := s.setAssoc i ({ x with st := .empty }).cleared
    let s := if x.a.valid && !x.a.drain then s.startDrain i false else s
    .ok (if x.b.valid && !x.b.drain then s.startDrain i true else s)))

/-! ### Single fields (R137) -/

/-- R137: AT_RX_PN. -/
def execAtRxPn (f : Nat) (s : State) : Host.Outcome State Fault Refusal :=
  .next (s.atCommand f (fun e => e.isOp 0x0106) Fetched.index false (fun c i x =>
    let B := c.arg 24 == 1
    let sl := x.slot B
    let v := leAt c.desc 28 8
    if 2 ≤ c.arg 24 then .error .range
    else if !sl.valid then .error .state
    else if v < sl.pn.toNat ∨ x.pnOk v = false then .error .range
    else .ok (s.setAssoc i (x.setSlot B (x.exhaust { sl with pn := BitVec.ofNat 64 v })))))

/-- R137: AT_SET of one field code; `run` gives the new entry. -/
def State.atSet (s : State) (f : Nat) (mine : Nat → Bool) (run : Nat → AtEntry → Except HStat AtEntry) : State :=
  s.atCommand f (fun e => e.isOp 0x0107 && mine (e.arg 24)) Fetched.index false (fun c i x =>
    (run (leAt c.desc 28 4) x).map (fun x' => s.setAssoc i x'))

/-- R137: a one-bit field's value. -/
def oneBit (v : Nat) (x : AtEntry) : Except HStat AtEntry := if 2 ≤ v then .error .range else .ok x

/-- R137: AT_SET CUT; field code 0 and the reserved codes complete RANGE. -/
def execAtSetCut (f : Nat) (s : State) : Host.Outcome State Fault Refusal :=
  .next (s.atCommand f (fun e => e.isOp 0x0107 && !decide (2 ≤ e.arg 24 ∧ e.arg 24 ≤ 10)) Fetched.index false
    (fun c i x =>
      let v := leAt c.desc 28 4
      if c.arg 24 ≠ 1 ∨ 2 ≤ v then .error .range else .ok (s.setAssoc i { x with cut := v == 1 })))

/-- R137: AT_SET AT_CUT_EVENT. -/
def execAtSetCutEvent (f : Nat) (s : State) : Host.Outcome State Fault Refusal :=
  .next (s.atSet f (· == 2) (fun v x => oneBit v { x with cutEvent := v == 1 }))

/-- R137: AT_SET REPLAY. -/
def execAtSetReplay (f : Nat) (s : State) : Host.Outcome State Fault Refusal :=
  .next (s.atSet f (· == 3) (fun v x => oneBit v { x with replay := v == 1 }))

/-- R132, R137: AT_SET WINDOW. -/
def execAtSetWindow (f : Nat) (s : State) : Host.Outcome State Fault Refusal :=
  .next (s.atSet f (· == 4) (fun v x =>
    if 2 ^ 30 < v then .error .range else .ok { x with window := BitVec.ofNat 32 v }))

/-- R132, R137: AT_SET POLICER. -/
def execAtSetPolicer (f : Nat) (s : State) : Host.Outcome State Fault Refusal :=
  .next (s.atSet f (· == 5) (fun v x =>
    if s.variant.policers ≤ v then .error .range else .ok { x with policer := BitVec.ofNat 20 v }))

/-- R132, R137: AT_SET QBASE. -/
def execAtSetQbase (f : Nat) (s : State) : Host.Outcome State Fault Refusal :=
  .next (s.atSet f (· == 6) (fun v x =>
    if 16384 ≤ v then .error .range else .ok { x with qbase := BitVec.ofNat 14 v }))

/-- R132, R133, R137: AT_SET K: raised at any time; lowered only while SUSPENDED and above both slots' counters. -/
def execAtSetK (f : Nat) (s : State) : Host.Outcome State Fault Refusal :=
  .next (s.atSet f (· == 7) (fun v x =>
    let y := { x with k := BitVec.ofNat 6 v }
    if v < x.k.toNat ∧ x.st ≠ .suspended then .error .state
    else if v < x.k.toNat ∧ (2 ^ (v + 1) - 1 ≤ x.a.pn.toNat ∨ 2 ^ (v + 1) - 1 ≤ x.b.pn.toNat) then .error .range
    else if 64 ≤ v ∨ y.suiteOk = false then .error .range
    else .ok { y with a := y.exhaust x.a, b := y.exhaust x.b }))

/-- R131, R132, R137: AT_SET SUITE, while SUSPENDED. -/
def execAtSetSuite (f : Nat) (s : State) : Host.Outcome State Fault Refusal :=
  .next (s.atSet f (· == 8) (fun v x =>
    let y := { x with suite := BitVec.ofNat 4 v }
    if x.st ≠ .suspended then .error .state
    else if 16 ≤ v ∨ y.suiteOk = false then .error .range
    else .ok y))

/-- R137: AT_SET MODE, while SUSPENDED. -/
def execAtSetMode (f : Nat) (s : State) : Host.Outcome State Fault Refusal :=
  .next (s.atSet f (· == 9) (fun v x => if x.st ≠ .suspended then .error .state else oneBit v { x with mode := v == 1 }))

/-- R134, R137: AT_SET DOMAIN, by domain 0. -/
def execAtSetDomain (f : Nat) (s : State) : Host.Outcome State Fault Refusal :=
  .next (s.atSet f (· == 10) (fun v x =>
    if f ≠ 0 then .error .denied
    else if 64 ≤ v then .error .range
    else .ok { x with domain := BitVec.ofNat 6 v }))

/-- R137, R157, R379: AT_READ. -/
def execAtRead (f : Nat) (s : State) : Host.Outcome State Fault Refusal :=
  .next (s.command f 0 (fun e => e.isOp 0x0108) (fun c =>
    let i := c.index
    if s.tableWaits (assocLines i) && decide (i < s.capacity) then s
    else match s.atCheck f i with
      | .error st => (if st = .integrity then s.atBusHit i else s).answer f 0 (.error st)
      | .ok _ => (s.answered false (assocLines i)).completeOut f 0 (s.assoc i).bytes true))

/-! ### Flows (R150 to R152) -/

/-- R152: flow entries a domain holds. -/
def State.flowCount (s : State) (d : Nat) : Nat := s.tab.flows.countP (fun x => x.domain.toNat == d)

/-- R150: entries in a bucket. -/
def inBucket (l : List Flow) (b : Nat) : List Flow := l.filter (fun x => x.bucket == b)

/-- R150: the other candidate bucket of a flow. -/
def State.otherBucket (s : State) (x : Flow) : Nat :=
  match s.bucketsOf x.space x.lo x.hi with
  | [b0, b1] => if x.bucket = b0 then b1 else b0
  | _ => x.bucket

/-- R150: the lowest place of a bucket that no flow holds. -/
def freePlace (l : List Flow) (b : Nat) : Nat :=
  ((List.range 4).find? (fun p => !(inBucket l b).any (fun x => x.place == p))).getD 0

/-- R151: a flow put into one of its buckets, relocating at most so many residents; none when no place is found. Which
residents move is free. -/
def State.placeFlow (s : State) (l : List Flow) (x : Flow) (n : Nat) : Nat → Option (List Flow)
  | 0 => none
  | fuel + 1 =>
    let b := x.bucket
    let o := s.otherBucket x
    if (inBucket l b).length < 4 then some ({ x with place := freePlace l b } :: l)
    else if (inBucket l o).length < 4 then some ({ x with bucket := o, place := freePlace l o } :: l)
    else match (inBucket l b)[Config.flowVictim n % 4]? with
      | none => none
      | some v =>
        State.placeFlow s ({ x with place := v.place } :: l.erase v) { v with bucket := s.otherBucket v } (n + 1) fuel

/-- R151, R311: the lines of a flow's two buckets. -/
def State.flowLines (s : State) (space : BitVec 6) (lo hi : DWord) : List Nat :=
  (s.bucketsOf space lo hi).flatMap s.bucketLines

/-- R150, R380: the reserved bytes of a flow entry are 0. -/
def flowClear (b : Bytes) : Bool := leAt b 16 4 / 2 ^ 15 == 0 && zeros b 27 1 && zeros b 32 32

/-- R150: the flow a block or record gives, for a domain. -/
def State.flowOf (s : State) (f : Nat) (b : Bytes) : Flow :=
  let sp := BitVec.ofNat 6 (leAt b 16 4)
  let lo := BitVec.ofNat 64 (leAt b 0 8)
  let hi := BitVec.ofNat 64 (leAt b 8 8)
  { space := sp, lo := lo, hi := hi, domain := BitVec.ofNat 6 f, poisoned := false
    result := BitVec.ofNat 56 (leAt b 20 7), hits := 0, bucket := (s.bucketsOf sp lo hi).headD 0 }

/-- R151, R154, R303, R310: the flow table replaced and the lines that change written, or a bus error at a suspect line among them
or at a write clock's end. -/
def State.putFlows (s : State) (l : List Flow) : Except HStat State × State :=
  if let some x := s.tableBad (s.flowChanges s.tab.flows l) then (.error .integrity, s.suspectHit x)
  else if s.tableRoom (s.flowChanges s.tab.flows l) then (.ok (s.setFlows l), s) else (.error .integrity, s.clockEnd)

/-- R151, R152, R157: one flow inserted for domain f: STATE for an ACTIVE entry of its key, DENIED for another domain's
POISONED one, EXHAUSTED at the quota, STATE and FT_INSERT_FAIL without a place. -/
def State.insertFlow (s : State) (f : Nat) (b : Bytes) : Except HStat State × State :=
  let x := s.flowOf f b
  let old := s.tab.flows.find? (fun (y : Flow) => y.hasKey x.space x.lo x.hi)
  if !flowClear b then (.error .range, s)
  else match old with
    | some y =>
      if f ≠ 0 ∧ y.domain.toNat ≠ f then (.error .denied, s)
      else if !y.poisoned then (.error .state, s)
      else if f ≠ 0 ∧ s.field .ftDomQuota f 0 25 ≤ s.flowCount f then (.error .exhausted, s)
      else
        s.putFlows (s.tab.flows.map (fun (z : Flow) =>
          if z = y then { x with bucket := y.bucket, place := y.place } else z))
    | none =>
      if f ≠ 0 ∧ s.field .ftDomQuota f 0 25 ≤ s.flowCount f then (.error .exhausted, s)
      else
        let r := s.freeNo
        match r.2.placeFlow s.tab.flows x (17 * r.1) 17 with
        | none => (.error .state, r.2.event 0 .ft 1 f x.space.toNat x.lo.toNat x.hi.toNat)
        | some l => r.2.putFlows l

/-- R151: the key and space that FT_DELETE and FT_READ name. -/
def Fetched.flowKey (e : Fetched) : BitVec 6 × DWord × DWord :=
  (BitVec.ofNat 6 (e.arg 36), BitVec.ofNat 64 (leAt e.desc 20 8), BitVec.ofNat 64 (leAt e.desc 28 8))

/-- R309 to R311: a flow command at its buckets: it waits, meets a bus error, or goes on. -/
def State.ftCommand (s : State) (f op : Nat) (key : Fetched → BitVec 6 × DWord × DWord) (run : Fetched → State) : State :=
  s.command f 0 (fun e => e.isOp op) (fun e =>
    let k := key e
    let lines := s.flowLines k.1 k.2.1 k.2.2
    if s.writeWaits lines then s.askTable lines
    else match s.tableBad lines with
      | some l => (s.suspectHit l).complete f 0 .integrity
      | none => (run e).answered false lines)

/-- R380: the key that a flow entry's block names. -/
def Fetched.blockKey (e : Fetched) : BitVec 6 × DWord × DWord :=
  (BitVec.ofNat 6 (leAt e.buf 16 4), BitVec.ofNat 64 (leAt e.buf 0 8), BitVec.ofNat 64 (leAt e.buf 8 8))

/-- R151, R157: the entry a flow command names, with the domain rule: STATE when there is none, or a POISONED one, which
takes no FT_REPLACE, FT_DELETE or FT_READ. -/
def State.ownFlow (s : State) (f : Nat) (k : BitVec 6 × DWord × DWord) : Except HStat Flow :=
  match s.tab.flows.find? (fun (y : Flow) => y.hasKey k.1 k.2.1 k.2.2) with
  | none => .error .state
  | some y => if f ≠ 0 ∧ y.domain.toNat ≠ f then .error .denied else if y.poisoned then .error .state else .ok y

/-- R151: a flow command that replaces the table completes. -/
def State.flowDone (s : State) (f : Nat) (l : List Flow) (fin : State → State) : State :=
  match s.putFlows l with
  | (.ok t, _) => fin t
  | (.error st, t) => t.complete f 0 st

/-- R151: FT_INSERT. -/
def execFtInsert (f : Nat) (s : State) : Host.Outcome State Fault Refusal :=
  .next (s.ftCommand f 0x0201 Fetched.blockKey (fun e =>
    match s.insertFlow f e.buf with
    | (.ok t, _) => t.complete f 0 .ok
    | (.error st, t) => t.complete f 0 st))

/-- R151, R157: FT_REPLACE; a POISONED entry does not accept it. -/
def execFtReplace (f : Nat) (s : State) : Host.Outcome State Fault Refusal :=
  .next (s.ftCommand f 0x0202 Fetched.blockKey (fun e =>
    if !flowClear e.buf then s.complete f 0 .range
    else match s.ownFlow f e.blockKey with
    | .error st => s.complete f 0 st
    | .ok y =>
      let y' := { y with result := (s.flowOf f e.buf).result }
      s.flowDone f (s.tab.flows.map (fun (z : Flow) => if z = y then y' else z)) (fun t => t.complete f 0 .ok)))

/-- R151: FT_DELETE. -/
def execFtDelete (f : Nat) (s : State) : Host.Outcome State Fault Refusal :=
  .next (s.ftCommand f 0x0203 Fetched.flowKey (fun e =>
    if 64 ≤ e.arg 36 then s.complete f 0 .range
    else match s.ownFlow f e.flowKey with
      | .error st => s.complete f 0 st
      | .ok y => s.flowDone f (s.tab.flows.erase y) (fun t => t.complete f 0 .ok)))

/-- R151: FT_READ: the entry is returned and HITS cleared. -/
def execFtRead (f : Nat) (s : State) : Host.Outcome State Fault Refusal :=
  .next (s.ftCommand f 0x0204 Fetched.flowKey (fun e =>
    if 64 ≤ e.arg 36 then s.complete f 0 .range
    else match s.ownFlow f e.flowKey with
      | .error st => s.complete f 0 st
      | .ok y =>
        s.flowDone f (s.tab.flows.map (fun (z : Flow) => if z = y then { y with hits := 0 } else z))
          (fun t => t.completeOut f 0 y.bytes true)))

/-! ### Bundles (R155, R156, R405) -/

/-- R397, R404: K_bks. -/
def kBks : Bytes := rootKey "bks" 32

/-- R404: what a slot's seal covers: the key and the attributes, 48 bytes. -/
def Bks.plain (b : Bks) (k : Nat) : Bytes := b.key ++ leBytes (Config.bksRecord k b.purpose b.owner b.uses b.starts).toNat 16

/-- R404: slot k sealed under K_bks, with its number as additional data. -/
def sealBks (k : Nat) (b : Bks) : Bks :=
  { b with cells := gcmSeal kBks (Config.bksIv k) [BitVec.ofNat 8 k] (b.plain k) }

/-- R404: the cells of slot k open under K_bks with its number, to what the slot says. -/
def bksOpens (k : Nat) (b : Bks) : Bool := gcmOpen kBks (Config.bksIv k) [BitVec.ofNat 8 k] b.cells.1 b.cells.2 == (b.plain k, true)

/-- R405: a use of a key store slot: USES_LEFT falls, and the slot is destroyed when it reaches 0. -/
def State.useBks (s : State) (k : Nat) : State :=
  let b := s.bks k
  match b.uses with
  | none => s
  | some n => if n ≤ 1 then s.setBks k {} else s.setBks k (sealBks k { b with uses := some (n - 1) })

/-- R405: no WRAPPED commit waits for the key store. -/
def State.storeFree (s : State) : Bool := s.hif.pages.all (fun e => e.2.unwrap.isNone)

/-- R155: the header of a bundle of KIND 1 or 2 and its length are right. -/
def bundleOk (b : Bytes) : Bool :=
  let kind := leAt b 6 2
  let n := leAt b 8 4
  leAt b 0 4 == 0x41544231 && leAt b 4 2 == 1 && decide (1 ≤ n ∧ n ≤ 1048576) && zeros b 0x0D 51
    && (if kind = 1 then true else kind == 2)

/-- R155: the length a bundle must have. -/
def bundleLen (b : Bytes) : Nat := 64 + (if leAt b 6 2 = 2 then 64 else 176) * leAt b 8 4

/-- R155: the wrapping key of a bundle that function f may use. -/
def State.bundleKey (s : State) (f k : Nat) : Except HStat Bytes :=
  let b := s.bks k
  if 64 ≤ k then .error .range
  else if s.kcu.root = false ∨ s.kcu.st ≠ 2 ∨ b.purpose ≠ 1 then .error .state
  else if f ≠ 0 ∧ b.owner ≠ f then .error .denied
  else .ok b.key

/-- R155, R156, R309: one record of an association bundle: the state with it installed; or its index when it is refused, or none,
with the state, when its tag fails or its lines meet a bus error, which ends the load. -/
def State.bulkRecord (s : State) (f : Nat) (key hdr r : Bytes) : Except (Option Nat × State) State :=
  let i := leAt r 0 4
  let d := gcmOpen key (slice r 8 12) (hdr.take 32 ++ r.take 32) (slice r 32 128) (slice r 160 16)
  if !d.2 then .error (none, s)
  else
    let b := d.1
    let w0 := leAt b 0 4
    let x := s.assoc i
    let n := AtEntry.ofCommon (slice b 0 16)
    let n := if f = 0 then n else { n with domain := BitVec.ofNat 6 f }
    let va := w0 / 2 ^ 28 % 2 == 1
    let vb := w0 / 2 ^ 29 % 2 == 1
    let slotOf (v : Bool) (off : Nat) (old : Slot) (kn : BitVec 2) : Slot :=
      if v then n.exhaust (fillSlot old (slice b off n.keyLen) (slice b (off + 32) 12) (slice b (off + 44) 4) kn (leAt b (off + 48) 8))
      else { loads := old.loads, kn := kn }
    let e := { n with st := if w0 % 16 = 2 then .suspended else .active
                      a := slotOf va 16 x.a n.a.kn, b := slotOf vb 72 x.b n.b.kn }
    let bad := !(x.st == .empty || x.st == .poisoned) || x.a.drain || x.b.drain
      || !zeros r 4 4 || !zeros r 20 12 || !commonClear (slice b 0 16) || !(w0 % 16 == 1 || w0 % 16 == 2)
      || !s.valuesOk n || !(if n.txslot then vb else va)
      || (va && !n.pnOk (leAt b 64 8)) || (vb && !n.pnOk (leAt b 120 8)) || (va && vb && n.a.kn == n.b.kn)
    if s.capacity ≤ i ∨ s.mayCommand f i = false then .error (some i, s)
    else match s.tableBad (assocLines i) with
      | some l => .error (none, s.suspectHit l)
      | none =>
        if bad then .error (some i, s)
        else if s.tableRoom (assocLines i) = false then .error (none, s.clockEnd)
        else .ok ((((s.setAssoc i e).dropCtx i false).dropCtx i true).writeAssoc i)

/-- R156: what a bulk load has done: the state, records loaded and refused, the first refused index, a failed tag or a bus
error. -/
structure BulkSum where
  s : State
  loaded : Nat := 0
  refused : Nat := 0
  first : Nat := 0xFFFFFFFF
  broken : Bool := false

/-- R156: the records of an association bundle from the n-th on. -/
def bulkAssocs (f : Nat) (key hdr : Bytes) : Bytes → Nat → BulkSum → BulkSum
  | _, 0, acc => acc
  | b, n + 1, acc =>
    match acc.s.bulkRecord f key hdr (b.take 176) with
    | .error (none, t) => { acc with s := t, broken := true }
    | .ok t => bulkAssocs f key hdr (b.drop 176) n { acc with s := t, loaded := acc.loaded + 1 }
    | .error (some i, _) =>
      bulkAssocs f key hdr (b.drop 176) n
        { acc with refused := acc.refused + 1, first := if acc.refused = 0 then i else acc.first }

/-- R156: the records of a flow bundle from the n-th on, record j being the next. -/
def bulkFlows (f : Nat) : Bytes → Nat → Nat → BulkSum → BulkSum
  | _, 0, _, acc => acc
  | b, n + 1, j, acc =>
    let r := slice b 0 64
    let x := acc.s.flowOf f r
    let res : Except HStat State × State := match acc.s.tableBad (acc.s.flowLines x.space x.lo x.hi) with
      | some l => (.error .integrity, acc.s.suspectHit l)
      | none => acc.s.insertFlow f r
    match res with
    | (.error .integrity, t) => { acc with s := t, broken := true }
    | (.ok t, _) => bulkFlows f (b.drop 64) n (j + 1) { acc with s := t, loaded := acc.loaded + 1 }
    | (.error _, t) =>
      bulkFlows f (b.drop 64) n (j + 1)
        { acc with s := t, refused := acc.refused + 1, first := if acc.refused = 0 then j else acc.first }

/-- R156: the completion of a bulk load. -/
def BulkSum.finish (a : BulkSum) (f : Nat) : State :=
  a.s.complete f 1 (if a.broken then .integrity else if a.refused = 0 then .ok else .state) a.loaded a.refused a.first

/-- R154, R311, R461: a bulk load waits while a range is re-rooted, or a channel or, on TV16-E, a cache bank sleeps. -/
def State.bulkWaits (s : State) : Bool :=
  !s.msc.rerooting.isEmpty || (s.msc.done && (List.range s.channels).any s.chanSleeps)
    || (s.variant == .tv16e && (List.range s.banks).any (fun k => !s.bankOn (80 + k)))

/-- R154, R460: what a bulk load needs is asked for. -/
def State.askBulk (s : State) : State :=
  (if s.variant = .tv16e then List.range s.banks else []).foldl
    (fun t k => if (t.dom (80 + k)).upOnce then t.askWake (80 + k) .sleep else t) (s.useChannels (List.range s.channels))

/-- R155: the slot holds a bundle of a kind. -/
def isBundle (kind : Nat) (e : Fetched) : Bool := e.isOp 0x0109 && leAt e.buf 6 2 == kind

/-- R155, R156, R405: AT_BULK_LOAD of associations, after the WRAPPED commits that reached the key store before it; a bundle of
neither kind, or of a wrong form, completes RANGE. -/
def execAtBulkLoad (f : Nat) (s : State) : Host.Outcome State Fault Refusal :=
  .next (s.command f 1 (fun e => e.isOp 0x0109 && !isBundle 2 e) (fun e =>
    if !bundleOk e.buf || e.buf.length != bundleLen e.buf then s.complete f 1 .range
    else if s.bulkWaits then s.askBulk
    else if !s.storeFree then s
    else
      let k := (e.buf.getD 12 0).toNat
      match s.bundleKey f k with
      | .error st => s.complete f 1 st
      | .ok key =>
        (bulkAssocs f key (e.buf.take 64) (e.buf.drop 64) (leAt e.buf 8 4) { s := s.useBks k }).finish f))

/-- R155, R156: AT_BULK_LOAD of flows. -/
def execAtBulkLoadFlows (f : Nat) (s : State) : Host.Outcome State Fault Refusal :=
  .next (s.command f 1 (isBundle 2) (fun e =>
    if !bundleOk e.buf || e.buf.length != bundleLen e.buf then s.complete f 1 .range
    else if s.bulkWaits then s.askBulk
    else (bulkFlows f (e.buf.drop 64) (leAt e.buf 8 4) 0 { s := s }).finish f))

/-- R378: the records of a bundle that were read whole before its read failed are installed. -/
def State.bulkPart (s : State) (f : Nat) (b : Bytes) : State :=
  if !bundleOk b || (s.gate f 0x0109).isSome then s
  else if leAt b 6 2 = 2 then (bulkFlows f (b.drop 64) (min (leAt b 8 4) ((b.length - 64) / 64)) 0 { s := s }).s
  else
    let k := (b.getD 12 0).toNat
    match s.bundleKey f k with
    | .error _ => s
    | .ok key => (bulkAssocs f key (b.take 64) (b.drop 64) (min (leAt b 8 4) ((b.length - 64) / 176)) { s := s.useBks k }).s

/-- R378, R405: a ring's DMA fails: a buffer read, whose slot completes DESC_ERROR (a bulk load's after the WRAPPED commits that
reached the key store before it); a result or completion write; a descriptor read. -/
def execDmaFault (f r : Nat) (k : DmaKind) (s : State) : Host.Outcome State Fault Refusal :=
  .next (
    let g := s.ring f r
    if s.fnExists f = false ∨ 6 ≤ r ∨ g.stopped = true then s
    else match k with
      | .read =>
        match s.handed f r with
        | none => s
        | some e =>
          let reads := match (opInfo (descOp e.desc)).map (fun o => o.buf) with
            | some .data => true
            | some (.block _) => true
            | _ => false
          if !reads || (e.isOp 0x0109 && !isBundle 2 e && !s.storeFree) then s
          else
            let s := if e.isOp 0x0109 then s.bulkPart f e.buf else s
            s.completeStop f r .descError 3
      | .write => s.writeFault f r
      | .fetch => if g.en = false ∨ g.front.isSome ∨ g.fetchIdx = g.tail ∨ r = 2 then s
        else
          let t := s.ringStop f r 5
          if r = 3 then t.servePunt f else t)

end Sys2Proof.Machine
end

