-- ==== Sys2Proof/Machine/Cards.lean ====
section
/-! DEFINITION. Pattern cards (R111 to R122): staging and checking, the clusters' card registers, drain, load, and what a
cluster's quarantine does (R41, R126, R127). -/

namespace Sys2Proof.Machine

/-! ### OTP items (R409) -/

/-- R409: the size of an item. -/
def otpSize (code : Nat) : Nat := [0, 8, 97, 4096, 2048, 97, 97, 97, 97, 97, 97, 1, 4, 4].getD code 0

/-- R409: an OTP item that is neither blank nor DAMAGED, without its CRC-32. -/
def State.otpItem (s : State) (code : Nat) : Option Bytes :=
  if s.kcu.damaged.contains code then none else (tfind s.kcu.otp code).map (fun b => b.take (otpSize code))

/-- R409: a bit of OTP item POLICY. -/
def State.policyBit (s : State) (i : Nat) : Bool :=
  match s.otpItem 12 with
  | some b => (b.getD 0 0).getLsbD i
  | none => false

/-! ### Checking an image (R111 to R114) -/

/-- R114: the CHECK codes and the status each completes with. -/
def checkStatus (c : Nat) : HStat :=
  if c = 1 then .ok
  else if c = 8 then .integrity
  else if c = 10 then .absent
  else if c = 11 ∨ c = 12 then .denied
  else if c = 13 then .state
  else .range

/-- R111: the 16 entries of an image. -/
def imageEntries (img : Bytes) : List Nat := (List.range 16).map (fun i => leAt img (0x0C + 2 * i) 2)

/-- R111: the body words of an image. -/
def bodyWords (img : Bytes) (n : Nat) : List Word := (List.range n).map (fun i => BitVec.ofNat 32 (leAt img (64 + 4 * i) 4))

/-- R113: the scan of the opcode fields. -/
def scanOk (flags : Nat) (ws : List Word) : Bool :=
  ws.all (fun w =>
    let op := fld w 26 6
    !((op == 0x26 || op == 0x27) && flags % 2 == 0) && !(op == 0x2B && flags / 2 % 2 == 0))

/-- R112, R409: the image's signature verifies under the key it names. -/
def State.cardSigned (s : State) (img : Bytes) (n : Nat) : Bool :=
  let slot := (img.getD 0x31 0).toNat
  let revoked := match s.otpItem 11 with
    | some b => (b.getD 0 0).getLsbD slot
    | none => false
  match s.otpItem (7 + slot) with
  | none => false
  | some key => !revoked && ecdsaVerify (key.drop 1) (sha384 (img.take (64 + 4 * n))) (slice img (64 + 4 * n) 96)

/-- R114: a generation that CURRENT or a cluster holds. -/
def State.genHeld (s : State) (gen : BitVec 16) : Bool :=
  s.shu.cur.any (fun c => c.gen == gen)
    || s.shu.clusters.any (fun e => e.2.card.any (fun c => c.gen == gen))

/-- R114: the CHECK code of an image, first failing check. -/
def State.checkImage (s : State) (img : Bytes) : Nat :=
  let n := leAt img 8 2
  let flags := leAt img 10 2
  let sig := (img.getD 0x30 0).toNat
  let signer := (img.getD 0x31 0).toNat
  let len := 64 + 4 * n + (if sig = 1 then 96 else 0)
  let gen := BitVec.ofNat 16 (leAt img 6 2)
  if leAt img 0 4 ≠ 0x455A4755 then 2
  else if leAt img 4 2 ≠ 1 then 3
  else if n = 0 ∨ 16384 < n then 4
  else if (imageEntries img).any (fun e => decide (n ≤ e) && e != 0xFFFF) then 5
  else if 4 ≤ flags ∨ 2 ≤ sig ∨ 4 ≤ signer ∨ (sig = 0 ∧ signer ≠ 0) ∨ zeros img 0x32 14 = false then 6
  else if img.length ≠ len then 7
  else if leBytes (crcProfile0.feed (slice img 64 (4 * n))).value 4 ≠ slice img 0x2C 4 then 8
  else if !scanOk flags (bodyWords img n) then 9
  else if flags / 2 % 2 = 1 ∧ s.variant.weftPorts = 0 then 10
  else if sig = 0 ∧ s.kcu.lc = 3 ∧ s.policyBit 0 = true then 11
  else if sig = 1 ∧ s.cardSigned img n = false then 12
  else if gen = 0 ∨ s.genHeld gen = true then 13
  else 1

/-- R111: the card an image holds. -/
def cardOf (img : Bytes) : Card :=
  { gen := BitVec.ofNat 16 (leAt img 6 2), timeAware := leAt img 10 2 % 2 == 1, entry := imageEntries img
    words := bodyWords img (leAt img 8 2) }

/-- R114: CARD_STAGE: BUSY while a check runs, STATE while NEXT is valid; an impossible length is refused at once;
otherwise the image is read and its check runs. -/
def execCardStage (f : Nat) (s : State) : Host.Outcome State Fault Refusal :=
  .next (s.command f 1 (fun e => e.isOp 0x0401) (fun e =>
    if s.shu.staging.isSome then s.complete f 1 .busy s.shu.check.toNat
    else if s.shu.next.isSome then s.complete f 1 .state s.shu.check.toNat
    else if e.buf.length < 64 ∨ 65696 < e.buf.length then
      ({ s with shu := { s.shu with check := 7 } }).complete f 1 .range 7
    else
      let g := s.ring f 1
      let s := s.setRing f 1 { g with fetched := g.fetched.map (fun x =>
        if x.idx = e.idx ∧ x.old = e.old then { x with posted := true } else x) }
      { s with shu := { s.shu with staging := some e.buf, stagingFn := f } }))

/-- R300: the table-region lines of n bytes staged as NEXT, or as CURRENT. -/
def State.stageLines (s : State) (next : Bool) (n : Nat) : List Nat :=
  (List.range ((n + 63) / 64)).map (fun i => s.stageBase next + i)

/-- R114, R303, R309: the CHECK code of an image, where its lines of NEXT's staging area take the write: a bus error completes
the command INTEGRITY, as check 8 does (log entry 41). -/
def State.stageCheck (s : State) (img : Bytes) : Nat :=
  let c := s.checkImage img
  let lines := s.stageLines true img.length
  if c = 1 ∧ ((s.tableBad lines).isSome ∨ s.tableRoom lines = false) then 8 else c

/-- R313: an image written to NEXT's staging area. -/
def State.writeStage (s : State) (img : Bytes) : State :=
  match s.msc.tableKey with
  | none => s
  | some d => s.writeBytes false 0 d (s.stageBase true) img

/-- R114: a running check ends with a code: NEXT becomes valid and is written to its lines, or the code is reported. -/
def State.stageEnd (s : State) (img : Bytes) (c : Nat) : State :=
  let s := { s with shu := { s.shu with
    staging := none, check := BitVec.ofNat 4 c, next := if c = 1 then some (cardOf img) else none, nextLost := false } }
  let s := if c = 1 then s.writeStage img else s
  if (s.ring s.shu.stagingFn 1).front.any (fun e => e.posted) then s.complete s.shu.stagingFn 1 (checkStatus c) c else s

/-- R114, R311, R378: the running check ends: NEXT becomes valid and is written to its lines, or the first failing check is
reported; it waits while a completion of its ring is to be written again, a line of NEXT's area is re-rooted or a channel of
it sleeps. -/
def execCardStageDone (s : State) : Host.Outcome State Fault Refusal :=
  .next (match (if (s.ring s.shu.stagingFn 1).rewrite.isSome then none else s.shu.staging) with
    | none => s
    | some img =>
      if s.writeWaits (s.stageLines true img.length) then s.askTable (s.stageLines true img.length)
      else
      let room := s.tableRoom (s.stageLines true img.length)
      (if s.checkImage img = 1 ∧ room = false then s.clockEnd else s).stageEnd img (s.stageCheck img))

/-! ### SHU_STAGE_CTL (R115) -/

/-- R115: every present cluster's SHU_CARD_CTL.GEN names a generation. -/
def State.allName (s : State) (gen : BitVec 16) : Bool :=
  (List.range s.variant.clusters).all (fun c => (s.clu c).ctlGen == gen)

/-- R115: some present cluster's SHU_CARD_CTL.GEN names a generation. -/
def State.someName (s : State) (gen : BitVec 16) : Bool :=
  (List.range s.variant.clusters).any (fun c => (s.clu c).ctlGen == gen)

/-- R115: a PROMOTE or DISCARD refused. -/
def State.stageRefused (s : State) : State := { s with shu := { s.shu with refused := true } }

/-- R115: PROMOTE: NEXT becomes CURRENT, its staging area CURRENT's, unless it is refused. -/
def State.promote (s : State) : State :=
  match s.shu.next with
  | some c =>
    if s.allName c.gen then
      { s with shu := { s.shu with
        cur := some c, next := none, curSecond := !s.shu.curSecond, curLost := s.shu.nextLost, nextLost := false } }
    else s.stageRefused
  | none => s.stageRefused

/-- R115: DISCARD. -/
def State.discardNext (s : State) : State :=
  match s.shu.next with
  | some c => if s.someName c.gen then s.stageRefused else { s with shu := { s.shu with next := none } }
  | none => s

/-- R115: a write of SHU_STAGE_CTL; with both bits, a PROMOTE that is carried out leaves nothing to discard, and one that
is refused changes nothing. -/
def State.stageWrite (s : State) (v : Word) : State :=
  if v.getLsbD 0 then s.promote
  else if v.getLsbD 1 then s.discardNext
  else s

/-! ### SHU_CARD_CTL (R118 to R120) -/

/-- R118: a generation in staging, not 0. -/
def State.staged (s : State) (gen : BitVec 16) : Option Card :=
  if gen = 0 then none
  else match s.shu.cur with
    | some c => if c.gen = gen then some c else s.shu.next.filter (fun c => c.gen == gen)
    | none => s.shu.next.filter (fun c => c.gen == gen)

/-- R120: the domain of a cluster is powered and its own start or return is over. -/
def State.cluAwake (s : State) (c : Nat) : Bool := (s.dom c).st.awake && (s.dom c).ready == .fresh

/-- R41: restarted picks that no cluster of their generation can take, none that is FRESH with it, on its way to it or waking,
wake one that would hold it. -/
def State.wakeForGen (s : State) : State :=
  let want := s.beam.picks.filter (fun e => e.2.restarted && e.2.st == .waiting && (s.clusterFor e.2).isNone)
  want.foldl (fun s e =>
    let asleep (c : Nat) : Bool := (s.dom c).st.deep || (s.dom c).st.isEntering
    let has (c : Nat) : Bool := (s.clu c).ctlGen == e.2.gen && (s.dom c).ready != .quarantined && !(s.clu c).hold
    let serves (c : Nat) : Bool := ((s.clu c).st == .fresh && (s.clu c).card.any (fun x => x.gen == e.2.gen))
      || (has c && ((s.clu c).st == .draining || (s.clu c).st == .loading || (s.dom c).st == .waking))
    if (List.range s.variant.clusters).any (fun c => if asleep c then has c && (s.dom c).wake.isSome else serves c) then s
    else match (List.range s.variant.clusters).find? (fun c => has c && asleep c) with
      | some c => s.askWake c .sleep
      | none => s) s

/-- R118, R120: a write of SHU_CARD_CTL: GEN must be staged, otherwise REJECT; a FRESH or HELD cluster with another card
drains, one without a card loads, and HELD ends with HOLD 0. -/
def State.cardCtlWrite (s : State) (c : Nat) (v : Word) : State :=
  let gen : BitVec 16 := v.setWidth 16
  let hold := v.getLsbD 16
  let k := s.clu c
  if (s.staged gen).isNone then s.setClu c { k with reject := true }
  else
    let k := { k with ctlGen := gen, hold := hold, heldBack := k.heldBack && hold }
    let differs : Bool := !k.card.any (fun x => x.gen == gen)
    if (k.st == .fresh || k.st == .held) && differs then s.setClu c { k with st := .draining }
    else if k.st = .held ∧ hold = false then s.setClu c { k with st := .fresh }
    else if k.st = .none ∧ s.cluAwake c = true then
      s.setClu c { k with st := .loading, loadGen := gen, retried := false }
    else s.setClu c k

/-- R120: a draining cluster's last running pick has ended: it loads the card that GEN names. -/
def execClusterDrained (c : Nat) (s : State) : Host.Outcome State Fault Refusal :=
  .next (
    let k := s.clu c
    if k.st ≠ .draining ∨ s.busyBobs c ≠ 0 then s
    else s.setClu c { k with st := .loading, loadGen := k.ctlGen, retried := false })

/-- R120: a cluster with its card loaded: FRESH, or HELD while HOLD is 1. -/
def Cluster.serve (k : Cluster) : Cluster := { k with st := if k.hold then .held else .fresh }

/-- R120, R300: the lines that a load of a generation copies. -/
def State.loadLines (s : State) (gen : BitVec 16) : List Nat :=
  s.stageLines (!s.shu.cur.any (fun c => c.gen == gen)) (64 + 4 * ((s.staged gen).map (fun c => c.words.length)).getD 0)

/-- R309, R310, R316, R452: a load has read its lines: their channels were asked, a suspect one is counted, and fetches that had
expired once have arrived. -/
def State.loadRead (s : State) (gen : BitVec 16) : State :=
  let lines := s.loadLines gen
  let s := s.useLines false lines
  match s.tableBad lines with
  | some l => s.suspectHit l
  | none => s.answered false lines

/-- R120, R309, R311: what a copy of a staged card of a generation meets: a bus error at a suspect line, a bad CRC where a
line of its area has been poisoned, otherwise what the copy found. -/
def State.loadResult (s : State) (gen : BitVec 16) (res : LoadResult) : LoadResult :=
  let isCur := s.shu.cur.any (fun c => c.gen == gen)
  if (s.tableBad (s.loadLines gen)).isSome then .integrity
  else if (if isCur then s.shu.curLost else s.shu.nextLost) && res == .good then .crc
  else res

/-- R120: a load fails with a LOADFAIL code: it is retried once. -/
def State.loadBad (s : State) (c : Nat) (code : BitVec 3) : State :=
  let k := { s.clu c with loadfail := code }
  if k.retried then (s.setClu c { k with st := .stale, card := none }).event 0 .shu 1 c code.toNat
  else s.setClu c { k with retried := true }

/-- R120: a copy and check of a card ends: a good one is compared with GEN as it stands now; a bad one is retried once. A
returning cluster then waits for the rest of its return (R461). From DRAM it waits for the channels to be FRESH. -/
def execCardLoadDone (c : Nat) (res : LoadResult) (s : State) : Host.Outcome State Fault Refusal :=
  .next (
    let k := s.clu c
    let found := s.loadResult k.loadGen res
    let off := s.variant != .tv16e && s.linesOff false (s.loadLines k.loadGen)
    let s := if k.st = .loading ∧ s.variant ≠ .tv16e then (if off then s.useLines false (s.loadLines k.loadGen) else s.loadRead k.loadGen) else s
    if k.st ≠ .loading ∨ off = true then s
    else match found with
      | .crc => s.loadBad c 1
      | .integrity => s.loadBad c 3
      | .good =>
        if k.loadGen ≠ k.ctlGen then s.setClu c { k with loadGen := k.ctlGen }
        else match s.staged k.loadGen with
          | none => s.loadBad c 3
          | some card =>
            let k := { k with card := some card }
            if k.returning then s.setClu c { k with st := .stale, cardDone := true, heldBack := k.hold }
            else s.setClu c k.serve)

/-! ### Quarantine and restart (R41, R126, R127) -/

/-- R94, R126: the place in the service order that a pick's `open` keeps when a cluster fault cancels its job before the
verdict (R20; log entry 102). -/
def Pick.keptPlace (k : Pick) : Option (BitVec 24 × Nat) :=
  match k.cipher with
  | some c =>
    if c.isOpen && (c.phase == .cellWait || c.phase == .job || c.phase == .engineDone) then some (c.assoc, c.ord)
    else k.openPlace
  | none => k.openPlace

/-- R39, R126: a pick as it starts again: its original frame and record, its sequence number and domain. -/
def Pick.restart (k : Pick) : Pick :=
  { k with
    st := .waiting, restarted := true, runs := k.runs + 1
    frame := k.orig, cells := cellsFor k.orig.length, copied := [], cellWait := false
    cls := k.defCls, woff := 0, assoc := k.init.1, slot := false, kn := k.init.2.1, astat := 7, queue := 0, color := 0
    disp := 0, reason := 0, pn := k.init.2.2.1, u0 := k.init.2.2.2.1, u1 := k.init.2.2.2.2.1, u2 := k.init.2.2.2.2.2
    snap := none, servedNow := [], pnPassed := false, ordPassed := false, ordUsed := false, ordWait := false
    pnIssued := false, cipher := none, opened := false, mirrors := [], endFrame := none, mirrorCount := 0
    puntTo := none, fwdTo := none, memTrap := false, openPlace := k.keptPlace }

/-- R126, R127: a pick whose cluster has failed returns to WAITING, or is dropped at its third fault; its mirror copies are then
delivered, as R106 says of every drop but those for INTEGRITY and ERASED (DEDUCED, log entry 136). -/
def State.restartPick (s : State) (p : Nat) : State :=
  let s := s.cancelJobs p
  match s.pick p with
  | none => s
  | some k =>
    if 2 ≤ k.runs then ((s.occurPick k .restartLimit 0).setPick p { k with runs := k.runs + 1, cipher := none }).dropPick p 1
    else s.setPick p k.restart

/-- R126: every bobbin of a cluster is emptied and the picks RUNNING in it restart. -/
def State.restartCluster (s : State) (c : Nat) : State :=
  ((s.shu.bobs.filter (fun e => clusterOf e.1 == c)).map (fun e => (e.1, e.2.pick))).foldl (fun s e =>
    let s := s.freeBob e.1
    match e.2 with
    | some p => s.restartPick p
    | none => s) s

/-- R119, R126, R463: a cluster quarantined: its picks restart elsewhere and it is powered down. -/
def State.cluGone (s : State) (c owed : Nat) : State :=
  let s := s.restartCluster c
  let s := s.setClu c { s.clu c with
    st := .quarantined, card := none, scratchDone := false, copying := false, copyOnce := false, cardDone := false
    heldBack := false, returning := false }
  (s.quarantineDom c owed).wakeForGen

/-- R20, R126: an uncorrectable program memory error or the watchdog quarantines a cluster. -/
def execClusterQuarantine (c : Nat) (s : State) : Host.Outcome State Fault Refusal :=
  .next (
    if s.variant.clusters ≤ c ∨ (s.clu c).st = .quarantined then s
    else (s.cluGone c 2).faultRec false .shu 2 c 0)

end Sys2Proof.Machine
end

