-- ==== Sys2Proof/Machine/BlackBox.lean ====
section
/-! DEFINITION. The black box (R441 to R451): where a record goes, its bytes and its chain. -/

namespace Sys2Proof.Machine

/-- R409: OTP item SERIAL as 8 bytes; zeros while it is blank or DAMAGED. -/
def State.serial (s : State) : Bytes := slice ((s.otpItem 1).getD []) 0 8

/-- R443: types that go to the pinned area. -/
def pinnedType (t : Nat) : Bool := t == 5 || t == 6 || t == 11 || t == 15

/-- R443: types that go to the lock reserve. -/
def lockType (t : Nat) : Bool := t == 3 || t == 4

/-- R441: the slot of the next record of a type. -/
def Bbx.slotFor (b : Bbx) (t : Nat) : Nat :=
  if lockType t then 1008 + b.lockNext
  else if pinnedType t && decide (b.pinned < 1008) then b.pinned
  else b.head

/-- R442: FLAGS of the next record. -/
def Bbx.flags (b : Bbx) (q : BbxReq) : Nat :=
  (if pinnedType q.type && decide (b.pinned < 1008) then 1 else 0) + (if q.battery then 2 else 0)
    + (if pinnedType q.type && !decide (b.pinned < 1008) then 4 else 0)

/-- R442: bytes 0 to 47 of the next record. -/
def State.recordBytes (s : State) (q : BbxReq) : Bytes :=
  leBytes s.bbx.seq 4 ++ [BitVec.ofNat 8 q.type, BitVec.ofNat 8 q.unit, BitVec.ofNat 8 (s.bbx.flags q),
      if q.battery || q.early then 0 else s.kcu.lc.setWidth 8]
    ++ leBytes s.now64.toNat 8 ++ leBytes s.bbx.starts 4 ++ leBytes q.ticks 4
    ++ leBytes q.p0.toNat 8 ++ leBytes q.p1.toNat 8 ++ leBytes q.p2.toNat 8

/-- R445, R451: the chain value before the first record. -/
def State.chainStart (s : State) : Bytes := (sha384 s.serial).take 16

/-- R445: CHAIN of the newest record. -/
def State.chainNow (s : State) : Bytes := s.bbx.chain.getD s.chainStart

/-- R441, R444, R445: one record written: its slot, the chain, the counters of its area, and the base of what it
overwrites; a torn slot holds no record to be overwritten. -/
def State.writeRecord (s : State) (q : BbxReq) : State :=
  let b := s.bbx
  let body := s.recordBytes q
  let chain := (sha384 (s.chainNow ++ body)).take 16
  let slot := b.slotFor q.type
  let old := if b.torn.contains slot then none else tfind b.mram slot
  let pin : Bool := pinnedType q.type && decide (b.pinned < 1008)
  let ring : Bool := !lockType q.type && !pin
  { s with bbx := { b with
    mram := tput b.mram slot (body ++ chain)
    torn := b.torn.filter (fun x => x != slot)
    seq := (b.seq + 1) % 2 ^ 32
    chain := some chain
    base := match old with
      | some r => some (leAt r 0 4, slice r 48 16)
      | none => b.base
    pinned := if pin then b.pinned + 1 else b.pinned
    pinFull := b.pinFull || (pin && b.pinned == 1007)
    lockNext := if lockType q.type then (b.lockNext + 1) % 16 else b.lockNext
    lock := if lockType q.type then q.type == 3 else b.lock
    head := if ring then (if b.head = 8191 then 1024 else b.head + 1) else b.head
    newest := (q.type, q.unit)
    tampers := if q.type = 1 then b.tampers + 1 else b.tampers } }

/-- R444: the next record written: the count of lost requests once the queue has had space again, otherwise the request that
has waited longest, whose place is the space that returns. -/
def State.writeNext (s : State) : State :=
  let b := s.bbx
  if b.lost ≠ 0 ∧ (b.ovfDue = true ∨ b.queue.length < 256) then
    let t := s.writeRecord { type := 2, unit := EvUnit.bbx.code, p0 := BitVec.ofNat 64 b.lost }
    { t with bbx := { t.bbx with lost := 0, ovfDue := false } }
  else match b.queue with
    | [] => s
    | q :: qs => ({ s with bbx := { b with queue := qs, ovfDue := b.lost != 0 } }).writeRecord q

/-- R444, R445: the power fails while the black box may be writing a record. It was not, or the record's slot is torn: what it
then holds is not stated, the SEQ is not counted, and the record that stood there has gone to BBX_BASE. -/
def State.tearRecord (s : State) : State :=
  match s.bbx.queue with
  | [] => s
  | q :: _ =>
    let r := s.freeBits
    let s := r.2
    if s.bbx.ready = false ∨ r.1.getLsbD 0 = false then s
    else
      let slot := s.bbx.slotFor q.type
      let old := if s.bbx.torn.contains slot then none else tfind s.bbx.mram slot
      let bs := s.freeBytes 8
      { bs.2 with bbx := { s.bbx with
        mram := tput s.bbx.mram slot bs.1
        torn := if s.bbx.torn.contains slot then s.bbx.torn else slot :: s.bbx.torn
        base := match old with
          | some x => some (leAt x 0 4, slice x 48 16)
          | none => s.bbx.base } }

/-- R444: BBX_RECORD_WRITE, once the box is ready. -/
def execBbxRecordWrite (s : State) : Host.Outcome State Fault Refusal :=
  .next (if s.bbx.ready = false ∨ s.pins.inReset = true then s else s.writeNext)

end Sys2Proof.Machine
end

