-- ==== Sys2Proof/Machine/Branch.lean ====
section
/-! DEFINITION. Ezgus control transfer (R79, R80), `wait`, `trap`, `halt`, the event-counter instructions (R107 to R110)
and the fetch of a word that no instruction has (R63). -/

namespace Sys2Proof.Machine

/-- R79: a branch: target pc + offset when the comparison holds, else the next word. -/
def State.branch (s : State) (b op : Nat) (a c : Reg) (off : BitVec 16) (p : DWord → DWord → Bool) : State :=
  s.issue b (encB op a c off) true [a, c] (fun s B _ =>
    .go s (if p (B.rd a) (B.rd c) then pcAdd B.pc off.toInt else B.pc + 1))

/-- R79: `beq`. -/
def execBeq (b : Nat) (a c : Reg) (off : BitVec 16) (s : State) : Host.Outcome State Fault Refusal :=
  .next (s.branch b 0x10 a c off (fun x y => x == y))

/-- R79: `bne`. -/
def execBne (b : Nat) (a c : Reg) (off : BitVec 16) (s : State) : Host.Outcome State Fault Refusal :=
  .next (s.branch b 0x11 a c off (fun x y => x != y))

/-- R79: `blt`. -/
def execBlt (b : Nat) (a c : Reg) (off : BitVec 16) (s : State) : Host.Outcome State Fault Refusal :=
  .next (s.branch b 0x12 a c off (fun x y => x.slt y))

/-- R79: `bge`. -/
def execBge (b : Nat) (a c : Reg) (off : BitVec 16) (s : State) : Host.Outcome State Fault Refusal :=
  .next (s.branch b 0x13 a c off (fun x y => y.sle x))

/-- R79: `bltu`. -/
def execBltu (b : Nat) (a c : Reg) (off : BitVec 16) (s : State) : Host.Outcome State Fault Refusal :=
  .next (s.branch b 0x14 a c off (fun x y => x.ult y))

/-- R79: `bgeu`. -/
def execBgeu (b : Nat) (a c : Reg) (off : BitVec 16) (s : State) : Host.Outcome State Fault Refusal :=
  .next (s.branch b 0x15 a c off (fun x y => y.ule x))

/-- R80: `jal`: d := pc + 1, then the jump. -/
def execJal (b : Nat) (d : Reg) (off : BitVec 21) (s : State) : Host.Outcome State Fault Refusal :=
  .next (s.issue b (encJ d off) true [d] (fun s B _ =>
    .go (s.setBob b ((s.bob b).wr d (BitVec.ofNat 64 (B.pc + 1)))) (pcAdd B.pc off.toInt)))

/-- R80: `jr`: a jump to the word index in a, ILLEGAL above 16,383. -/
def execJr (b : Nat) (d a c : Reg) (s : State) : Host.Outcome State Fault Refusal :=
  .next (s.issue b (encA 0x17 d a c 0) true [a] (fun s B _ =>
    if 16383 < (B.rd a).toNat then .trap .illegal else .go s (B.rd a).toNat))

/-- R107, R474: an amount added to a counter a program names, or PROG_EVC_DENIED. -/
def State.progCount (s : State) (k : Pick) (n amount : Nat) : State :=
  if (s.evcCfg n).src = 255 ∧ (s.evcCfg n).chain = false then s.evcAdd n amount 4096
  else s.occurPick k .progDenied n

/-- R107: `evc.inc`. -/
def execEvcInc (b : Nat) (d a c : Reg) (imm : BitVec 6) (s : State) : Host.Outcome State Fault Refusal :=
  .next (s.issue b (encU 0x2D d a c 0 imm) true [a] (fun s B k =>
    .go (s.progCount k ((B.rd a).toNat % 4096) 1) (B.pc + 1)))

/-- R107: `evc.add`. -/
def execEvcAdd (b : Nat) (d a c : Reg) (imm : BitVec 6) (s : State) : Host.Outcome State Fault Refusal :=
  .next (s.issue b (encU 0x2D d a c 1 imm) true [a, c] (fun s B k =>
    .go (s.progCount k ((B.rd a).toNat % 4096) ((B.rd c).toNat % 2 ^ 48)) (B.pc + 1)))

/-- R108: `wait`: it issues when the selected scoreboard bits are clear. -/
def execWaitSb (b : Nat) (d a c : Reg) (imm : BitVec 6) (s : State) : Host.Outcome State Fault Refusal :=
  .next (s.issue b (encU 0x2E d a c 0 imm) true (if imm.getLsbD 0 then [] else [a]) (fun s B _ =>
    let mask : Word := if imm.getLsbD 0 then 0xFFFF_FFFF else (B.rd a).setWidth 32
    if B.sb &&& mask = 0 then .go s (B.pc + 1) else .stall s))

/-- R109: `trap` raises PROGRAM. -/
def execTrapProg (b : Nat) (d a c : Reg) (imm : BitVec 6) (s : State) : Host.Outcome State Fault Refusal :=
  .next (s.issue b (encU 0x2F d a c 0 imm) false [] (fun _ _ _ => .trap .program))

/-- R110: `halt`: it issues when the scoreboard is empty, traps NOEND without a disposition, and frees the bobbin. -/
def execHalt (b : Nat) (d a c : Reg) (imm : BitVec 6) (s : State) : Host.Outcome State Fault Refusal :=
  .next (s.issue b (encU 0x30 d a c 0 imm) true [] (fun s B k =>
    if B.sb ≠ 0 then .stall s
    else if k.disp = 0 then .trap .noend
    else .free ((s.landFadds b).freeBob b)))

/-- R63: a bobbin whose pc holds a reserved word, or lies at or beyond the card's instruction count, traps ILLEGAL; the
handler finds 0 in g3 where there is no word (log entry 10). -/
def execIllegalFetch (b : Nat) (s : State) : Host.Outcome State Fault Refusal :=
  .next (match s.bobPick b with
    | none => s
    | some _ =>
      match s.fetchWord b with
      | none => s.trapAt b .illegal (s.bob b).pc 0
      | some w => if reservedWord w then s.trapAt b .illegal (s.bob b).pc w else s)

end Sys2Proof.Machine
end

