-- ==== Sys2Proof/Machine/Woven.lean ====
section
/-! DEFINITION. The sending side of a woven group (R206 to R213, R221 to R225, R231 to R240, R245 to R248): lane frames,
items in the cloth, the selection of a port's next frame (R267), cloth key changes, membership changes, and what the group registers' writes do. -/

namespace Sys2Proof.Machine

/-! ### Groups and members (R206) -/

/-- R206: the line lanes of a group, as member numbers. -/
def State.lanesOf (s : State) (g : Nat) : List Nat := dataMembers (s.reg .wovGrpLanes g)

/-- R234: ENABLE of a group. -/
def State.grpOn (s : State) (g : Nat) : Bool := (s.reg .wovGrpCfg g).getLsbD 0

/-- R234: the binder's member number, none when BINDER is 0. -/
def State.binder (s : State) (g : Nat) : Option Nat :=
  if (s.reg .wovGrpCfg g).getLsbD 1 then some (s.field .wovGrpCfg g 2 5) else none

/-- R336, R452: a member lane that sends: mode 6, C2M or KR, EN = 1, its lane quad powered. -/
def State.memberLive (s : State) (m : Nat) : Bool :=
  let w := s.reg .lnePortCfg (32 + m)
  s.variant.lane (32 + m) && w.getLsbD 0 && fld w 1 4 == 6 && decide (fld w 5 2 ≤ 1)
    && (s.dom (48 + (32 + m) / 4)).up

/-- R206: the members of a group that send. -/
def State.liveMembers (s : State) (g : Nat) : List Nat := (s.lanesOf g).filter s.memberLive

/-- R211, R217: cloth bytes of a lane frame and of a path multiframe with n data members. -/
def frameBytes (n : Nat) : Nat := 16368 * n

/-- R213: what the group sends on its path. -/
inductive PathLabel where
  | uneq
  | woven
  | pais
deriving DecidableEq, Repr

/-- R213: the path label of an enabled group. -/
def Group.label (g : Group) : PathLabel :=
  if g.pais || g.seqStop then .pais else if g.sealing.isNone then .uneq else .woven

/-- R213: its code. -/
def PathLabel.code : PathLabel → Byte
  | .uneq => 0x00
  | .woven => 0x21
  | .pais => 0xFF

/-- R211: a lane frame of a path marker, none of its members sent. -/
def Group.atMarker (g : Group) : Bool := g.mfc % 16 == 0 && g.sent.isEmpty

/-- R231: a KEYMARK comes first after this marker. -/
def Group.keyDue (g : Group) : Bool := !g.ckDone && g.announced == 9 && g.atMarker

/-- R232: an announced map takes effect at this marker. -/
def Group.mapDue (g : Group) : Bool := g.atMarker && g.change.any (fun c => c.announced)

/-! ### Selvedge headers (R221, R222) -/

/-- R221: the 16 bytes of a header's content. -/
def hdrContent (type kn len : Nat) (assoc : Nat) (pn : Nat) : Bytes :=
  [BitVec.ofNat 8 (16 + type)] ++ beBytes (kn * 16384 + len) 2 ++ beBytes assoc 3 ++ beBytes pn 8 ++ [0, 0]

/-- R222: the IV of header number s under a cloth key slot. -/
def CkSlot.iv (c : CkSlot) (s : Nat) : Bytes := slice c.salt 0 4 ++ beBytes s 8

/-- R222: a header sealed: 16 content bytes encrypted and an 8-byte tag. -/
def CkSlot.sealHdr (c : CkSlot) (s : Nat) (content : Bytes) : Bytes :=
  let r := gcmSeal c.key (c.iv s) [] content
  r.1 ++ r.2.take 8

/-- R222: n fill bytes behind header s. -/
def CkSlot.fill (c : CkSlot) (s n : Nat) : Bytes :=
  let rks := roundKeys c.key
  ((List.range ((n + 15) / 16)).flatMap (fun i => aesEnc rks (c.iv s ++ beBytes (3 + i) 4))).take n

/-- R169, R222: AES blocks of a header and of n fill bytes behind it. -/
def sealBlocks (n : Nat) : Nat := 2 + (n + 15) / 16

/-- R223: the number that no header is sealed with. -/
def lastHdr : Nat := 2 ^ 64 - 2 ^ 32

/-- R160, R221, R223, R224: an item appended to the cloth behind its header, with the masks that its header and `fill`
bytes of fill take. -/
def Group.place (g : Group) (content body : Bytes) (c : CkSlot) (fill : Nat := 0) : Group :=
  { g with
    cloth := g.cloth ++ c.sealHdr g.txSeq content ++ body
    placed := g.placed + 24 + body.length
    firstHdr := match g.firstHdr with
      | some h => some h
      | none => some (g.placed, g.txSeq)
    txSeq := g.txSeq + 1
    seqStop := g.txSeq + 1 == lastHdr
    maskBlocks := g.maskBlocks - sealBlocks fill
    tested := true }

/-- R160, R169, R170: the header sealer's mask expander draws a seed while 16,384 blocks' worth remain, or 100 µs after its
last one, unless the DRBG holds. -/
def State.seedSealer (s : State) (g : Nat) : State :=
  let G := s.group g
  let old := decide (G.maskAt + 100000 ≤ s.tb.elapsed)
  if s.kcu.drbg ≠ 2 ∨ (16384 < G.maskBlocks ∧ old = false) then s
  else s.draw.2.setGroup g
    { G with maskBlocks := if old then 65536 else G.maskBlocks + 65536, maskAt := s.tb.elapsed }

/-- R224: the length of a FILL placed with r bytes left before the marker, from the length wanted. -/
def fillLen (r want : Nat) : Nat :=
  let f := min want 232
  if r ≤ 24 + f then r - 24
  else if r - 24 - f < 24 then (if 48 ≤ r then r - 48 else r - 24)
  else f

/-- R225: the association, key number, packet number, frame and length of the item that the framer holds ready, if it
accepts it. -/
def State.wovenItem (s : State) (i : QItem) : Option (BitVec 24 × BitVec 2 × DWord × Bytes) :=
  match i with
  | .pick p =>
    match s.pick p with
    | some k => k.wovenInfo.map (fun x => (x.1, x.2.1, x.2.2, k.frame))
    | none => none
  | .held f => f.woven.map (fun x => (x.1, x.2.1, x.2.2, f.frame))
  | .spilled .. => none

/-- R124, R224: an item has gone into the cloth. -/
def State.itemSent (s : State) (i : QItem) : State :=
  match i with
  | .pick p => s.endPick p 0
  | _ => s

/-- R277: the frame that waits in the framer still fits the open window of its class. -/
def State.readyFits (s : State) (g : Nat) (i : QItem) : Bool :=
  let p := s.groupPort g
  s.fitsWindow p (s.chargedLen p i) (s.openWindow p (s.qClass (s.group g).readyQ))

/-- R224: the framer of group g places the next item: the ready frame if it is accepted, fits its class's open window
(R277) and fits before the marker, otherwise a FILL of the length given, within the rules; a frame it does not accept is
discarded. Only a frame whose header is placed is a delay sample (R282). Without masks the sealer stalls (R160, R170). -/
def State.placeItem (s : State) (g fill : Nat) : State :=
  let s := s.seedSealer g
  let G := s.group g
  match G.sealing with
  | none => s
  | some b =>
    let c := G.ck (if b then 1 else 0)
    let r := 16 * frameBytes (dataMembers G.mapInForce).length - G.placed
    let putFill (n : Nat) : State :=
      if G.maskBlocks < sealBlocks n then s
      else s.setGroup g (G.place (hdrContent 2 0 n 0 0) (c.fill G.txSeq n) c n)
    match (if s.held then none else G.ready.filter (s.readyFits g)) with
    | none => putFill (fillLen r fill)
    | some i =>
      match s.wovenItem i with
      | none => (s.setGroup g { G with ready := none }).discard i .wovUnsealed g
      | some (assoc, kn, pn, frame) =>
        let t := 24 + frame.length
        let lastBeforeKey : Bool := !G.ckDone && G.announced == 8
        if t < r ∧ r - t < 24 then putFill (if r - 24 < 24 then r - 24 else 0)
        else if lastBeforeKey ∧ r < t then putFill (fillLen r fill)
        else if G.maskBlocks < sealBlocks 0 then s
        else
          let G' := { G with ready := none }.place (hdrContent 1 kn.toNat frame.length assoc.toNat pn.toNat) frame c
          ((s.sampleDelay G.readyQ (s.itemSince i)).setGroup g G').itemSent i

/-- R224: the framer of group g may place an item: up to the next path marker, and after a marker's map change and
KEYMARK. -/
def State.clothOpen (s : State) (g : Nat) : Bool :=
  let G := s.group g
  s.grpOn g && G.label == .woven && !G.mapDue && !G.keyDue
    && decide (G.placed < 16 * frameBytes (dataMembers G.mapInForce).length)

/-- R221 to R225: CLOTH_ITEM_SEND. -/
def execClothItemSend (g fill : Nat) (s : State) : Host.Outcome State Fault Refusal :=
  .next (if s.clothOpen g then s.placeItem g fill else s)

/-! ### Selection (R267) -/

/-- R265, R267: the port of a woven group can start a frame: no item is in progress beyond the lane frame that its framer
fills, and no frame waits. -/
def State.clothReady (s : State) (g : Nat) : Bool :=
  let G := s.group g
  s.clothOpen g && G.ready.isNone && decide (G.cloth.length < frameBytes (dataMembers G.mapInForce).length)

/-- R160, R170, R224, R231, R267: the framer can start an item now, with masks for its header, before the next marker, where need
be behind a FILL of length 0, and past no marker that a KEYMARK follows; a frame that it does not accept it takes at once. -/
def State.framerStarts (s : State) (g : Nat) (i : QItem) : Bool :=
  let G := (s.seedSealer g).group g
  let r := 16 * frameBytes (dataMembers G.mapInForce).length - G.placed
  !s.cutPending i && G.sealing.isSome && (match s.wovenItem i with
    | none => true
    | some x =>
      let t := 24 + x.2.2.2.length
      let last : Bool := !G.ckDone && G.announced == 8
      if t < r ∧ r - t < 24 then !last && decide (48 ≤ r ∧ 2 * sealBlocks 0 ≤ G.maskBlocks) && G.txSeq + 1 != lastHdr
      else !(last && decide (r < t)) && decide (sealBlocks 0 ≤ G.maskBlocks))

/-- R224, R267: a selected frame starts at once in the cloth, behind the FILL that R224 asks for. -/
def State.startWoven (s : State) (g q : Nat) (i : QItem) : State :=
  let s := (s.setGroup g { s.group g with ready := some i, readyQ := q }).placeItem g 232
  if (s.group g).ready.isSome && s.clothOpen g then s.placeItem g 232 else s

/-- R267, R268, R273, R334, R426: a port that can start a frame selects one; a woven group's framer places it at once. -/
def execSchedSelect (port : Nat) (s : State) : Host.Outcome State Fault Refusal :=
  .next (
    let s := s.refillDue
    let P := s.port port
    let woven := match s.portKind port with
      | .woven g => some g
      | _ => none
    let ready := match s.portKind port with
      | .none => false
      | .eth => s.portEn port && P.link && P.tx.isNone
      | .woven g => s.clothReady g
    if ready = false ∨ s.held = true ∨ s.sliceOn port = false then s
    else if woven = none ∧ s.tagOff port = true then s.flushTagOff port
    else if s.portHeld port then s
    else match woven with
      | some g =>
        let r := s.takeNext port (fun s i => s.framerStarts g i)
        (match r.1 with
        | some x => r.2.startWoven g x.1 x.2
        | none => r.2)
      | none =>
        let r := s.takeNext port (fun s i => s.macStarts port i)
        (match r.1 with
        | some x => r.2.transmit port x.1 x.2
        | none => r.2))

/-! ### Lane frames (R208 to R212, R245 to R248) -/

/-- R245: the BIP-8 of bytes. -/
def bip8 (bs : Bytes) : Byte := bs.foldl (· ^^^ ·) 0

/-- Number of bits in which two bytes differ. -/
def bitDiff (a b : Byte) : Nat := (List.range 8).countP (fun i => (a ^^^ b).getLsbD i)

/-- R250: the receive lane of the same number is in a lane defect. -/
def Lane.defect (l : Lane) : Bool := l.dfc &&& 0x3F != 0

/-- R210: the lowest data-member number that this end's receiver finds in lane defect. While a lane in defect has never
brought a LANE byte, it stands for the data members that no lane has announced (DEDUCED, log entry 109). -/
def State.failingMember (s : State) (g : Nat) : Option Nat :=
  if !s.grpOn g then none
  else
    let heard := (s.lanesOf g).filter (fun m => (s.lane (32 + m)).known)
    let dark : Bool := (s.lanesOf g).any (fun m => !(s.lane (32 + m)).known && (s.lane (32 + m)).defect)
    ((dataMembers (s.group g).rxMap).filter (fun n =>
      let own := heard.filter (fun m => (s.lane (32 + m)).member == n)
      if own.isEmpty then dark else own.any (fun m => (s.lane (32 + m)).defect))).min?

/-- R212: the path overhead byte at position p of an enabled group. -/
def State.pathByte (s : State) (g p : Nat) : Byte :=
  let G := s.group g
  if G.label = .pais then 0xFF
  else
    let hdr : Nat × Nat := match G.label, G.firstHdr with
      | .woven, some (off, n) => (off, n % 65536)
      | _, _ => (0xFFFF, 0)
    let next := (G.ck (if G.ckSlot then 1 else 0)).kn.toNat
    let nka : Bool := !G.ckDone && G.announced != 0 && G.sealing.isSome
    let mapByte (i : Nat) : Byte := BitVec.ofNat 8 (G.mapInForce.toNat / 2 ^ (24 - 8 * i))
    match p with
    | 0 => G.txBipPrev
    | 1 => BitVec.ofNat 8 (16 * min G.preiOwed 8 + if G.dfc.getLsbD 5 then 1 else 0)
    | 2 => G.label.code
    | 3 => BitVec.ofNat 8 (G.txKn.toNat + (if nka then 4 * next + 16 else 0))
    | 4 => mapByte 0
    | 5 => mapByte 1
    | 6 => mapByte 2
    | 7 => mapByte 3
    | 8 => match G.change with
      | some c => if c.announced then BitVec.ofNat 8 (128 + (if c.add then 64 else 32) + c.member) else 0
      | none => 0
    | 9 => BitVec.ofNat 8 (hdr.1 / 256)
    | 10 => BitVec.ofNat 8 hdr.1
    | 11 => BitVec.ofNat 8 (hdr.2 / 256)
    | 12 => BitVec.ofNat 8 hdr.2
    | _ => 0

/-- R212, R213, R217: what the first member to send the lane frame of MFC fixes for all: the cloth taken, the path
overhead byte and the member reported failing; none while the framer has not placed enough cloth. -/
def State.openFrame (s : State) (g : Nat) : Option State :=
  let G := s.group g
  let n := frameBytes (dataMembers G.mapInForce).length
  let mfn := s.failingMember g
  if !s.grpOn g then
    some (s.setGroup g { G with rowBytes := List.replicate n 0, txPoh := 0, txMfn := none })
  else
    let row : Option (Bytes × Bytes) := match G.label with
      | .uneq => some (List.replicate n 0, G.cloth)
      | .pais => some (List.replicate n 0xFF, G.cloth)
      | .woven => if G.cloth.length < n then none else some (G.cloth.take n, G.cloth.drop n)
    match row with
    | none => none
    | some (b, rest) =>
      let p := G.mfc % 16
      some (s.setGroup g { G with
        rowBytes := b, cloth := rest, txPoh := s.pathByte g p, txMfn := mfn, txBip := G.txBip ^^^ bip8 b
        preiOwed := if p = 1 then 0 else G.preiOwed })

/-- R217: the payload of the data member of rank k of n. -/
def memberPayload (row : Bytes) (n k : Nat) : Bytes :=
  (List.range 2046).flatMap (fun w => slice row (8 * (n * w + k)) 8)

/-- R218: the binder's payload: the exclusive or of the data members' words. -/
def binderPayload (row : Bytes) (n : Nat) : Bytes :=
  (List.range n).foldl (fun acc k => xorBytes acc (memberPayload row n k)) (List.replicate 16368 0)

/-- R209, R338: bits of PRBS31, x^31 + x^28 + 1, from a state of 31 bits (PRESUMED, log entry 24), as n bytes. -/
def prbsBytes (st : Nat) : Nat → Bytes
  | 0 => []
  | n + 1 =>
    let r := (List.range 8).foldl (fun (acc : Nat × Nat) _ =>
      let b := (acc.1 / 2 ^ 30 + acc.1 / 2 ^ 27) % 2
      ((2 * acc.1 + b) % 2 ^ 31, 2 * acc.2 + b)) (st, 0)
    BitVec.ofNat 8 r.2 :: prbsBytes r.1 n

/-- R209: the SSL and payload of a member in the lane frame of MFC; PRBS31 stands where it happens to stand (free). -/
def State.memberFrame (s : State) (g m : Nat) : Byte × Bytes × State :=
  let G := s.group g
  let data := dataMembers G.mapInForce
  let ones : Bytes := List.replicate 16368 0xFF
  let test : Byte × Bytes × State := let r := s.freeBits; (0x01, prbsBytes (r.1.toNat % (2 ^ 31 - 1) + 1) 16368, r.2)
  let force := s.field .wovLaneTx m 0 2
  if force = 1 then test
  else if force = 2 then (0xFF, ones, s)
  else if !s.grpOn g then (0x00, List.replicate 16368 0, s)
  else if s.binder g = some m then
    (0x11, (match G.label with
      | .woven => binderPayload G.rowBytes data.length
      | .pais => ones
      | .uneq => List.replicate 16368 0), s)
  else if data.contains m then (0x10, memberPayload G.rowBytes data.length (data.idxOf m), s)
  else test

/-- R208: the two overhead words of a member's lane frame. -/
def State.overhead (s : State) (g m : Nat) (ssl : Byte) : BitVec 64 × BitVec 64 :=
  let G := s.group g
  let l := s.lane (32 + m)
  let leaving : Bool := match G.change with
    | some c => c.announced && !c.add && c.member == m
    | none => false
  let lane := m + if s.binder g = some m then 128 else 0
  let w0 := beNat ([0xA6, 0x5B, 0xE1, 0x1C] ++ beBytes G.mfc 2 ++ [BitVec.ofNat 8 lane, ssl])
  let srei := (if l.align = .inFrame then 16 * min l.sreiOwed 8 else 0) + if l.defect then 1 else 0
  let lstat := (match G.txMfn with
    | some n => 128 + n
    | none => 0) + if leaving then 64 else 0
  let gid := s.field .wovGrpCfg g 8 8
  let w1 := beNat ([l.txBip, BitVec.ofNat 8 srei, BitVec.ofNat 8 gid, G.txPoh, BitVec.ofNat 8 lstat, 0, 0, 0])
  (BitVec.ofNat 64 w0, BitVec.ofNat 64 w1)

/-- R223: from now on headers are sealed under another slot's key, or under none: numbering goes on where that key's headers
ended, at 1 for a new key. SEQ_STOP stands until a key with numbers left seals. -/
def Group.sealWith (g : Group) (b : Option Bool) : Group :=
  let no (x : Bool) : Nat := if x then 1 else 0
  let g := match g.sealing with
    | some o => { g with cks := tset {} g.cks (no o) { g.ck (no o) with next := g.txSeq } }
    | none => g
  match b with
  | some n =>
    let c := g.ck (no n)
    { g with sealing := some n, txSeq := c.next, seqStop := c.next == lastHdr }
  | none => { g with sealing := none }

/-- R211, R231, R232: all members have sent the lane frame of MFC: the next one begins, and at a path marker the path
multiframe ends. -/
def Group.nextFrame (g : Group) : Group :=
  let g := { g with mfc := (g.mfc + 1) % 65536, sent := [] }
  if g.mfc % 16 ≠ 0 then g
  else
    let g := { g with
      txBipPrev := g.txBip, txBip := 0, firstHdr := none
      placed := g.placed - 16 * frameBytes (dataMembers g.mapInForce).length
      change := g.change.map (fun (c : MemberChange) => { c with armed := true }) }
    match g.sealing with
    | some _ => if g.ckDone then g else { g with announced := min 9 (g.announced + 1) }
    | none =>
      let b := g.ckSlot
      let c := g.ck (if b then 1 else 0)
      if c.valid then
        { g.sealWith (some b) with txKn := c.kn, ckDone := true, announced := 0, placed := 0, cloth := [] }
      else g

/-- R211: the lane frame of MFC ends once every member that sends has sent it. -/
def State.closeFrame (s : State) (g : Nat) : State :=
  let G := s.group g
  if G.sent.isEmpty || !(s.liveMembers g).all (fun m => G.sent.contains m) then s
  else s.setGroup g (if s.grpOn g then G.nextFrame else { G with mfc := (G.mfc + 1) % 65536, sent := [] })

/-- R208 to R213: LANE_FRAME_SEND: member lane l sends its lane frame of the group's MFC, once for each MFC, after the
marker's map change and KEYMARK. -/
def execLaneFrameSend (l : Nat) (s : State) : Host.Outcome State Fault Refusal :=
  .next (match (if l < 32 then s.groupOf l else none) with
    | none => s
    | some g =>
      let s := s.closeFrame g
      let G := s.group g
      if s.memberLive l = false ∨ G.sent.contains l = true
          ∨ (s.grpOn g = true ∧ (G.mapDue = true ∨ (G.keyDue = true ∧ G.label ≠ .uneq))) then s
      else match (if G.sent.isEmpty then s.openFrame g else some s) with
        | none => s
        | some s =>
          let r := s.memberFrame g l
          let w := s.overhead g l r.1
          let s := r.2.2.emit (.laneFrame l 1 w.1 w.2 r.2.1)
          let L := s.lane (32 + l)
          let s := s.setLane (32 + l)
            { L with txBip := bip8 (beBytes w.1.toNat 8 ++ beBytes w.2.toNat 8 ++ r.2.1), sreiOwed := 0 }
          let G := s.group g
          (s.setGroup g { G with sent := l :: G.sent }).closeFrame g)

/-! ### Cloth key change (R147, R231) -/

/-- R231: at the change marker the KEYMARK is sealed under the old key and the new key starts; a group that has stopped at
the last header number has no number for a KEYMARK and starts the new key (R148). -/
def execKeymarkSend (g : Nat) (s : State) : Host.Outcome State Fault Refusal :=
  .next (
    let s := if (s.group g).keyDue then s.seedSealer g else s
    let G := s.group g
    match G.sealing with
    | none => s
    | some b =>
      if s.grpOn g = false ∨ G.keyDue = false ∨ G.mapDue = true ∨ G.maskBlocks < sealBlocks 16 then s
      else
        let new := G.ck (if G.ckSlot then 1 else 0)
        let G := if G.seqStop || G.pais then { G with cloth := [], placed := 0, firstHdr := none }
          else G.place (hdrContent 3 new.kn.toNat 0 0 0) [] (G.ck (if b then 1 else 0)) 16
        s.setGroup g { G.sealWith (some G.ckSlot) with txKn := new.kn, ckDone := true, announced := 0 })

/-- R244: a WOV register write rejected. -/
def State.wovReject (s : State) : State := s.setRegBit .wovStat 0

/-- R147, R238: a write of WOV_CK_TX.SLOT. The slot already selected starts no change, for R223 lets no header number be
used twice; while the group is disabled the slot is selected at once and DONE stays 1 (log entry 56). -/
def State.ckTxWrite (s : State) (g : Nat) (v : Word) : State :=
  let G := s.group g
  let b := v.getLsbD 0
  if !(G.ck (if b then 1 else 0)).valid || !G.ckDone then s.wovReject
  else if G.sealing = some b then s.setGroup g { G with ckSlot := b }
  else s.setGroup g { G with ckSlot := b, ckDone := !s.grpOn g, announced := 0 }

/-! ### Membership (R232, R233, R236) -/

/-- R232: the one member in which two maps differ, and whether it is added. -/
def mapDiff (old new : Word) : Option (Nat × Bool) :=
  match dataMembers (old ^^^ new) with
  | [m] => some (m, new.getLsbD m)
  | _ => none

/-- R232, R236: a write of WOV_TX_MAP. -/
def State.txMapWrite (s : State) (g : Nat) (v : Word) : State :=
  let G := s.group g
  if !s.grpOn g then s.setGroup g { G with map := v }
  else match mapDiff G.map v with
    | none => s.wovReject
    | some (m, add) =>
      if G.change.isSome ∨ s.binder g = some m ∨ (s.reg .wovGrpLanes g).getLsbD m = false ∨ v = 0 then s.wovReject
      else s.setGroup g
        { G with map := v, change := some { add := add, member := m, armed := false, announced := false, auto := false } }

/-- R232: MEMBER_ANNOUNCE: position 8 of the next path multiframe announces the change. -/
def execMemberAnnounce (g : Nat) (s : State) : Host.Outcome State Fault Refusal :=
  .next (
    let G := s.group g
    match G.change with
    | none => s
    | some c =>
      if s.grpOn g = true ∧ c.armed = true ∧ c.announced = false ∧ G.mfc % 16 = 8 ∧ G.sent = [] then
        s.setGroup g { G with change := some { c with announced := true } }
      else s)

/-- R232, R233: MAP_TAKE_EFFECT: at the marker the new map is in force; an automatic removal is then shown and reported. -/
def execMapTakeEffect (g : Nat) (s : State) : Host.Outcome State Fault Refusal :=
  .next (
    let G := s.group g
    match G.change with
    | none => s
    | some c =>
      if s.grpOn g = false ∨ G.mapDue = false then s
      else
        let bit := put 1 c.member
        let now := if c.add then G.mapInForce ||| bit else G.mapInForce &&& ~~~bit
        let s := s.setGroup g { G with mapInForce := now, map := if c.auto then now else G.map, change := none }
        if c.auto then s.event 0 .wov 1 g c.member else s)

/-- R233: the automatic removal of a member that the far end reports failing. -/
def State.autoRemove (s : State) (g m : Nat) : State :=
  let G := s.group g
  if (s.reg .wovGrpCfg g).getLsbD 7 && s.grpOn g && (s.binder g).isNone && G.change.isNone
      && G.mapInForce.getLsbD m && decide (2 ≤ (dataMembers G.mapInForce).length) then
    s.setGroup g
      { G with change := some { add := false, member := m, armed := false, announced := false, auto := true } }
  else s

/-! ### Group registers (R234, R235, R240) -/

/-- R209, R211, R248: the sending side of a group that is enabled or disabled: a lane frame begun is over for all members,
and nothing is kept of the path multiframes before. -/
def Group.restartTx (g : Group) : Group :=
  { g.sealWith none with
    mfc := if g.sent.isEmpty then g.mfc else (g.mfc + 1) % 65536
    sent := [], cloth := [], placed := 0, firstHdr := none, announced := 0, change := none, ckDone := true, txBip := 0
    txBipPrev := 0, preiOwed := 0 }

/-- R209, R230: a group enabled: the map takes effect, and the receiver starts without a reference. -/
def Group.enable (g : Group) : Group :=
  { g.restartTx with
    mapInForce := g.map
    sync := false, noref := true, rxSlot := none, rxNext := none, rxSeq := 1, rxSince := 0, rxMean := (100, 1), rxItems := 0
    rxItemBytes := 0, rxCloth := [], rxPos := 0, rxLen := 0, rxHold := false, rxFirst := none, rxUneq := false
    rxKnown := false, rxNka := 0, rxLost := 0, rxMap := 0, rxChange := none, poh := [], row := none, rxBip := 0
    rxWhole := false, rxBipOk := false, rxSkip := false, rxMark := false, due := none, rei := 0, rxNear := false
    unrebuilt := false, runs := [], keyMiss := false, mfRun := 0 }

/-- R209: a group disabled. -/
def Group.disable (g : Group) : Group :=
  { g.restartTx with
    sync := false, noref := false, rxSlot := none, rxNext := none, rxCloth := [], row := none, due := none
    keyMiss := false, runs := [], mfFar := false, mfnFar := 0, mfRun := 0 }

/-- R234: what forbids a write that sets ENABLE to 1. -/
def State.enableBad (s : State) (g : Nat) (v : Word) : Bool :=
  let map := (s.group g).map
  let lanes := s.reg .wovGrpLanes g
  let b := fld v 2 5
  map == 0 || map &&& ~~~lanes != 0 || (v.getLsbD 1 && (!lanes.getLsbD b || map.getLsbD b))

/-- R214, R250: a lane outside any group is not aligned and not monitored. -/
def Lane.leaveGroup (l : Lane) : Lane :=
  { l with
    align := .none, cands := [], part := [], store := [], runs := [], rxBip := none, lastErased := none, sreiOwed := 0, delay := 0
    lags := (0, 0), known := false
    waived := none, lastMfc := none, erasedNow := false, fawMiss := 0, mfcMiss := 0, mfcRise := 0 }

/-- R240: a write of WOV_RX_CFG. -/
def State.rxCfgWrite (s : State) (g : Nat) (v : Word) : State :=
  let top := if s.variant = .tv16e then 24 else 2000
  if fld v 0 12 = 0 ∨ top < fld v 0 12 ∨ fld v 12 4 = 0
      ∨ (s.grpOn g = true ∧ fld v 16 8 ≠ s.field .wovRxCfg g 16 8) then s.wovReject
  else s.setReg .wovRxCfg g 0 v

/-- R160, R213: HEADER_SEALER_KAT_FAIL: the test due since the start fails: the group sends path AIS. The woven framers are in
the always-on domain, which is never in P2 or P3 (R452). -/
def execHeaderSealerKatFail (g : Nat) (s : State) : Host.Outcome State Fault Refusal :=
  .next (if 8 ≤ g ∨ (s.group g).tested = true then s
    else s.setGroup g { s.group g with pais := true, sealerFail := true })

end Sys2Proof.Machine
end

