-- ==== Sys2Proof/Machine/Defects.lean ====
section
/-! DEFINITION. Line maintenance (R245 to R264): defects of lanes and groups with their suppression, the counts of errored
blocks, and the seconds counted from them. -/

namespace Sys2Proof.Machine

/-! ### Suppression (R249) -/

/-- R249: the defects of one level after an evaluation, highest first, from whether each was declared, and whether its
entry and exit criteria are met: a higher one declared or cleared in it keeps every lower one down. -/
def suppress : List (Bool × Bool × Bool) → List Bool
  | [] => []
  | (d, enter, leave) :: rest =>
    let now := if d then !leave else enter
    if now || d then now :: rest.map (fun _ => false) else false :: suppress rest

/-- Bits of a list, the first at bit 0. -/
def packBits (l : List Bool) : Nat := l.foldr (fun b n => 2 * n + if b then 1 else 0) 0

/-- R251, R252: a run count after an evaluation in which its condition held or not. -/
def runNext (n : Nat) (held : Bool) : Nat := if held then min 3 (n + 1) else 0

/-! ### What a group's receiver maps (R242, R251, R254) -/

/-- R208: the local member lane that carries a far-end member number, one in frame first. -/
def State.laneOfMember (s : State) (g n : Nat) : Option Nat :=
  let c := (s.lanesOf g).filter (fun m => (s.lane (32 + m)).known && (s.lane (32 + m)).member == n)
  match c.find? (fun m => (s.lane (32 + m)).align == .inFrame) with
  | some m => some m
  | none => c.head?

/-- R219: the far-end numbers of a group's mapped members, the binder included. -/
def State.mapped (s : State) (g : Nat) : List Nat :=
  let data := dataMembers (s.group g).rxMap
  match s.binder g with
  | some b => if data.contains b then data else data ++ [b]
  | none => data

/-- R216, R300: largest relative delay in ns that a group with n data members tolerates. -/
def State.skewLimit (s : State) (g n : Nat) : Nat :=
  let max := 1000 * s.field .wovRxCfg g 0 12
  let share := match s.variant with
    | .tv32f => 805306368
    | .tv32s => 402653184
    | .tv16e => 0
  if max ≤ 24000 then max else min max (share * 131072 / (100 * (frameBytes n + if n = 0 then 1 else 0)))

/-- R216, R240: a group keeps its deskew in DRAM. -/
def State.deepDeskew (s : State) (g : Nat) : Bool := s.grpOn g && decide (24 < s.field .wovRxCfg g 0 12)

/-- R216, R305, R306: a group's deskew in DRAM is kept: the memory is initialised, and the group's key index keyed. -/
def State.deskewKept (s : State) (g : Nat) : Bool :=
  !s.deepDeskew g || (s.msc.done && (tget {} s.msc.mkis (s.field .wovRxCfg g 16 8)).st == .active)

/-- R216: a member lane is beyond its group's SKEW_MAX. -/
def State.beyondSkew (s : State) (g m : Nat) : Bool :=
  decide (s.skewLimit g (dataMembers (s.group g).rxMap).length < (s.lane (32 + m)).delay)

/-- R253: a mapped member is in a lane defect, SLM, GIDM or beyond SKEW_MAX, or no lane carries it. -/
def State.memberBad (s : State) (g n : Nat) : Bool :=
  match s.laneOfMember g n with
  | none => true
  | some m => (s.lane (32 + m)).dfc &&& 0xFF != 0 || s.beyondSkew g m

/-- R252: a lane of the group is in frame without a lane defect. -/
def State.isSource (s : State) (m : Nat) : Bool :=
  (s.lane (32 + m)).align == .inFrame && !(s.lane (32 + m)).defect

/-- R252: the group has a path overhead source. -/
def State.hasSource (s : State) (g : Nat) : Bool := (s.lanesOf g).any s.isSource

/-- R253: path signal fail. -/
def State.pathFail (s : State) (g : Nat) : Bool :=
  let G := s.group g
  let bad := (s.mapped g).countP (s.memberBad g)
  s.grpOn g && (!s.hasSource g || G.dfc &&& 0x0E != 0 || decide (2 ≤ bad) || (bad == 1 && (s.binder g).isNone))

/-! ### Performance entities (R255 to R257) -/

/-- R255: a performance entity. -/
def State.ent (s : State) (k : Nat) : Entity := tget {} s.wov.lmt.ents k
/-- R255: a performance entity set. -/
def State.setEnt (s : State) (k : Nat) (x : Entity) : State :=
  { s with wov := { s.wov with lmt := { s.wov.lmt with ents := tset {} s.wov.lmt.ents k x } } }

/-- R256: a second with one more block, errored or not. -/
def Sec.count (x : Sec) (errored : Bool) : Sec :=
  { x with blocks := x.blocks + 1, errored := x.errored + if errored then 1 else 0 }

/-- R255: one block of a second counted for an entity, errored or not, with the error count it adds. -/
def State.block (s : State) (k sec : Nat) (errored : Bool) (bip : Nat) : State :=
  let e := s.ent k
  let e := if sec = s.wov.lmt.second then { e with now := e.now.count errored }
    else { e with wait := e.wait.map (fun x => if x.sec = sec then x.count errored else x) }
  s.setEnt k { e with bip := satTo 0xFFFFFFFF (e.bip + bip) }

/-- R256: a defect of R256 in the running second of an entity. -/
def State.hurt (s : State) (k : Nat) : State :=
  let e := s.ent k
  s.setEnt k { e with now := { e.now with defect := true } }

/-- R256: a defect of R256 in a second of an entity, the running one or one that waits. -/
def State.hurtIn (s : State) (k sec : Nat) : State :=
  let e := s.ent k
  if sec = s.wov.lmt.second then s.hurt k
  else s.setEnt k { e with wait := e.wait.map (fun x => if x.sec = sec then { x with defect := true } else x) }

/-- R257: the near end of a far-end entity has a defect of R256 in the running second. -/
def State.blind (s : State) (k : Nat) : State :=
  let e := s.ent k
  s.setEnt k { e with now := { e.now with nearDefect := true } }

/-- R256, R257: the near-end defects of lane l marked in its entities' running second. -/
def State.markLane (s : State) (l : Nat) : State :=
  if (s.lane (32 + l)).dfc &&& 0xFF != 0 then (s.hurt (4 * l)).blind (4 * l + 1) else s

/-- R256, R257: the defects of group g marked in its entities' running second. -/
def State.markGroup (s : State) (g : Nat) : State :=
  let d := (s.group g).dfc
  let s := if d &&& 0x2F != 0 then (s.hurt (4 * g + 2)).blind (4 * g + 3) else s
  if d.getLsbD 4 then s.hurt (4 * g + 3) else s

/-! ### Lane defects (R249 to R251, R261) -/

/-- R250: a lane is monitored. -/
def State.monitored (s : State) (l : Nat) : Bool := (s.groupOf l).isSome

/-- R261: LMT_LANE_DEF. -/
def State.laneDef (s : State) (l : Nat) : Word :=
  if s.monitored l then (s.lane (32 + l)).dfc.setWidth 32 ||| put 1 9 else 0

/-- R261, R264: new lane conditions: history, and one event for all that changed and are enabled. -/
def State.setLaneDef (s : State) (l : Nat) (d : BitVec 9) : State :=
  let L := s.lane (32 + l)
  let diff : Word := (L.dfc ^^^ d).setWidth 32
  let rise : Word := (d &&& ~~~L.dfc).setWidth 32
  let s := s.setLane (32 + l) { L with dfc := d }
  let s := s.setReg .lmtLaneHist l 0 (s.reg .lmtLaneHist l ||| rise)
  let s := s.markLane l
  if diff &&& s.reg .lmtLaneEven l &&& 0x1FF != 0 then s.event 0 .lmt 1 l (s.laneDef l).toNat else s

/-- R20, R21: the loss of a mapped member writes a FAULT record, its return or removal from the map a RECOVERY record. -/
def State.memberRecord (s : State) (g l : Nat) : State :=
  let L := s.lane (32 + l)
  let lost := s.grpOn g && L.known && (s.mapped g).contains L.member && L.defect
  if lost == L.faulted then s
  else (s.setLane (32 + l) { L with faulted := lost }).faultRec (!lost) .wov 5 l 0

/-- R251: the SSL expected of a far-end member number. -/
def State.expectedSsl (s : State) (g n : Nat) : Byte :=
  if s.binder g = some n then 0x11 else if (s.group g).rxMap.getLsbD n then 0x10 else 0x01

/-- R250: the time criteria of the detectors are met: asserted for 1 µs, deasserted for 100 µs. -/
def detector (now since : Nat) (asserted declared : Bool) : Bool × Bool × Bool :=
  (declared, asserted && decide (since + 1000 ≤ now), !asserted && decide (since + 100000 ≤ now))

/-- R250, R357: block lock, and FEC alignment where FEC runs. -/
def Lane.locked (l : Lane) : Bool := l.block && !l.fecLost

/-- R249 to R251: one evaluation of lane l's defects; `frame` says that a lane frame has been received in it, so that the counts of
LAIS, SLM and GIDM move, `srdi` the SRDI it brought. As LOS clears, LOL's time starts afresh. Runs 0 to 5: LAIS, SLM and GIDM entry
and exit. -/
def State.evalLane (s : State) (l : Nat) (frame : Bool) (srdi : Option Bool) : State :=
  match s.groupOf l with
  | none => s
  | some g =>
    let L := s.lane (32 + l)
    let d (i : Nat) : Bool := L.dfc.getLsbD i
    let run (i : Nat) (held : Bool) : Nat := if frame then runNext (tget 0 L.runs i) held else tget 0 L.runs i
    let lais := L.ssl == 0xFF
    let r0 := run 0 lais
    let r1 := run 1 (!lais)
    let los := detector s.tb.elapsed L.losAt L.los (d 0)
    let lol := detector s.tb.elapsed L.lolAt L.lol (d 1)
    let main := suppress [los, lol, (d 2, !L.locked, L.locked), (d 3, L.align != .inFrame, L.align == .inFrame),
      (d 4, L.mfcMiss == 3, L.mfcRise == 2), (d 5, r0 == 3, r1 == 3)]
    let bad := main.any id
    let slm := L.ssl != s.expectedSsl g L.member
    let gid := L.gid.toNat != s.field .wovGrpCfg g 16 8
    let r2 := if bad then 0 else run 2 slm
    let r3 := if bad then 0 else run 3 (!slm)
    let r4 := if bad then 0 else run 4 gid
    let r5 := if bad then 0 else run 5 (!gid)
    let cond (old : Bool) (enter leave : Nat) : Bool := !bad && (if old then leave != 3 else enter == 3)
    let higher := (main.take 5).any id || L.dfc &&& 0x1F != 0
    let runs := [(0, if higher then 0 else r0), (1, if higher then 0 else r1), (2, r2), (3, r3), (4, r4), (5, r5)].foldl
      (fun t (e : Nat × Nat) => tset 0 t e.1 e.2) L.runs
    let lom := main.getD 4 false
    let s := s.setLane (32 + l) { L with
      runs := runs
      lolAt := if d 0 && !main.getD 0 false then s.tb.elapsed else L.lolAt
      mfcMiss := if lom || (main.take 4).any id then 0 else L.mfcMiss
      mfcRise := if lom then L.mfcRise else 0 }
    let bits := packBits (main ++ [cond (d 6) r2 r3, cond (d 7) r4 r5, srdi.getD (d 8)])
    (s.setLaneDef l (BitVec.ofNat 9 bits)).memberRecord g l

/-! ### Group defects (R252 to R254, R262) -/

/-- R262: LMT_GRP_DEF. -/
def State.grpDef (s : State) (g : Nat) : Word :=
  let G := s.group g
  (G.dfc.setWidth 32 &&& 0x3F) ||| putB (s.hasSource g) 6 ||| putB (s.grpOn g) 7 ||| put G.psl.toNat 8

/-- R262, R264: new group conditions: history, and one event for all that changed and are enabled. -/
def State.setGrpDef (s : State) (g : Nat) (d : BitVec 8) : State :=
  let G := s.group g
  let diff : Word := (G.dfc ^^^ d).setWidth 32
  let rise : Word := (d &&& ~~~G.dfc).setWidth 32 &&& 0x3F
  let s := s.setGroup g { G with
    dfc := d, rxBipOk := G.rxBipOk && !d.getLsbD 5, rxNear := G.rxNear || d &&& 0x2F != 0 }
  let s := s.setReg .lmtGrpHist g 0 (s.reg .lmtGrpHist g ||| rise)
  let s := s.markGroup g
  if diff &&& s.reg .lmtGrpEven g &&& 0x3F != 0 then s.event 0 .lmt 2 g (s.grpDef g).toNat else s

/-- R252: lanes of mapped members without a lane defect. -/
def State.soundLanes (s : State) (g : Nat) : List Nat :=
  ((s.mapped g).filterMap (s.laneOfMember g)).filter (fun m => s.isSource m)

/-- R249, R252, R253: one evaluation of group g's defects: `lane` once per lane frame, `label` when the path signal label
of a path multiframe and `rdi` when its RDI byte has been received. Runs 0 to 5: PLM, PAIS and PRDI entry and exit. -/
def State.evalGroup (s : State) (g : Nat) (lane : Bool) (label : Bool) (rdi : Option Bool) : State :=
  let G := s.group g
  if !s.grpOn g then s
  else if !s.hasSource g then
    let s := s.setGroup g { G with runs := [] }
    s.setGrpDef g 0x20
  else
    let d (i : Nat) : Bool := G.dfc.getLsbD i
    let run (i : Nat) (now held : Bool) : Nat := if now then runNext (tget 0 G.runs i) held else tget 0 G.runs i
    let sound := s.soundLanes g
    let skew := lane && sound.any (s.beyondSkew g)
    let level := lane && sound.all (fun m => tget 0 (s.lane (32 + m)).runs 6 == 3)
    let gidm (m : Nat) : Bool := (s.lane (32 + m)).dfc.getLsbD 7
    let gim := lane && !sound.isEmpty && sound.all gidm
    let same := lane && sound.any (fun m => !gidm m)
    let plm := G.psl != 0x21 && G.psl != 0xFF
    let r0 := run 0 label plm
    let r1 := run 1 label (G.psl == 0x21)
    let r2 := run 2 label (G.psl == 0xFF)
    let r3 := run 3 label (G.psl != 0xFF)
    let r4 := run 4 rdi.isSome (rdi == some true)
    let r5 := run 5 rdi.isSome (rdi == some false)
    let main := suppress [(d 0, skew, level), (d 1, gim, same), (d 2, r0 == 3, r1 == 3), (d 3, r2 == 3, r3 == 3),
      (d 4, r4 == 3, r5 == 3)]
    let high (n : Nat) : Bool := (main.take n).any id || (List.range n).any d
    let keep (n r : Nat) : Nat := if high n then 0 else r
    let runs := [(0, keep 2 r0), (1, keep 2 r1), (2, keep 3 r2), (3, keep 3 r3), (4, keep 4 r4), (5, keep 4 r5)].foldl
      (fun t (e : Nat × Nat) => tset 0 t e.1 e.2) G.runs
    let s := s.setGroup g { G with runs := runs, dfc := (G.dfc &&& 0xE0) ||| BitVec.ofNat 8 (packBits main) }
    let psf := s.pathFail g
    (s.setGroup g { s.group g with dfc := G.dfc }).setGrpDef g (BitVec.ofNat 8 (packBits main + if psf then 32 else 0))

/-! ### Seconds (R255 to R258) -/

/-- R257: a second is severely errored. -/
def Sec.severe (x : Sec) : Bool :=
  if x.nearDefect || x.off then false else x.defect || (decide (0 < x.blocks) && decide (3 * x.blocks ≤ 10 * x.errored))

/-- R257: a second is errored. -/
def Sec.bad (x : Sec) : Bool := !x.nearDefect && !x.off && (x.defect || x.errored != 0)

/-- R257, R258: the oldest waiting second settled, the nine after it known; with what changed in availability. -/
def Entity.settle (e : Entity) : Entity × Option (Bool × Nat) :=
  match e.wait with
  | [] => (e, none)
  | x :: rest =>
    let ten := e.wait.take 10
    let un := if x.off then e.unavail else if e.unavail then !ten.all (fun y => !y.severe) else ten.all (fun y => y.severe)
    let up (n : Nat) : Nat := satTo 0xFFFFFFFF (n + 1)
    let e' := { e with
      wait := rest, unavail := un
      es := if !un && x.bad then up e.es else e.es
      ses := if !un && x.severe then up e.ses else e.ses
      uas := if un && !x.off then up e.uas else e.uas }
    (e', if un = e.unavail then none else some (un, x.sec))

/-- R255, R257, R258, R264: an entity's second ended, counted while `on`, and the second nine before it settled; a change
of availability raises its event where `ev` enables it. Seconds that do not count are kept only among those that do. -/
def State.endSecond (s : State) (k sec : Nat) (on ev : Bool) (code what : Nat) : State :=
  let e := s.ent k
  let e := { e with now := {}, wait := if !on && e.wait.all (fun x => x.off) then []
    else e.wait ++ [{ e.now with sec := sec, off := !on }] }
  if e.wait.length < 10 then s.setEnt k e
  else
    let r := e.settle
    let s := s.setEnt k r.1
    match r.2 with
    | none => s
    | some (un, first) => if ev then s.event 0 .lmt (if un then 3 else 4) (code + 256 * what) first else s

/-- R255, R258: the time base has entered another second: the eight entities of each lane and group close the one that
ended, and it settles nine seconds later. A second counts whole, or not at all, by whether the lane is monitored or the group
enabled at its end (DESIGN CHOICE, log entry 136). -/
def execPmSecondEnd (s : State) : Host.Outcome State Fault Refusal :=
  .next (
    let now := s.tb.tod / 1000000000
    let sec := s.wov.lmt.second
    if now = sec then s
    else
      let s := (List.range 32).foldl (fun s l =>
        let on := s.monitored l
        let ev := (s.reg .lmtLaneEven l).getLsbD 9
        ((s.endSecond (4 * l) sec on ev 0 l).endSecond (4 * l + 1) sec on ev 1 l).markLane l) s
      let s := (List.range 8).foldl (fun s g =>
        let on := s.grpOn g
        let ev := (s.reg .lmtGrpEven g).getLsbD 7
        ((s.endSecond (4 * g + 2) sec on ev 2 g).endSecond (4 * g + 3) sec on ev 3 g).markGroup g) s
      let m := s.wov.lmt
      let ended := m.ended ++ [sec]
      { s with wov := { s.wov with lmt := { m with
        second := now, settled := if 10 ≤ ended.length then ended.headD 0 else m.settled
        ended := if 10 ≤ ended.length then ended.drop 1 else ended } } })

/-! ### Snapshots (R259, R260, R263) -/

/-- R263: the eight counter words of a near and a far entity. -/
def entWords (n f : Entity) : List Nat := [n.bip, f.bip, n.es, n.ses, n.uas, f.es, f.ses, f.uas]

/-- R259: an entity with its counters zeroed. -/
def Entity.cleared (e : Entity) : Entity := { e with es := 0, ses := 0, uas := 0, bip := 0 }

/-- R259: SNAP and CLEAR of LMT_CTL. -/
def State.lmtSnap (s : State) (v : Word) : State :=
  let m := s.wov.lmt
  if !v.getLsbD 0 || m.busy then s
  else
    let pairs := (List.range 32).map (fun l => (l, 4 * l)) ++ (List.range 8).map (fun g => (32 + g, 4 * g + 2))
    let snap := pairs.foldl (fun t (e : Nat × Nat) =>
      ((entWords (s.ent e.2) (s.ent (e.2 + 1))).zipIdx).foldl (fun t (w : Nat × Nat) => tset 0 t (8 * e.1 + w.2) w.1) t) []
    let ents := if v.getLsbD 1 then
        (m.ents.map (fun e => (e.1, e.2.cleared))).filter (fun e => e.2 != {})
      else m.ents
    { s with wov := { s.wov with lmt := { m with snap := snap, snapSec := m.settled, busy := true, ents := ents } } }

/-- R259: the snapshot's copy is complete. -/
def execLmtSnapshotDone (s : State) : Host.Outcome State Fault Refusal :=
  .next { s with wov := { s.wov with lmt := { s.wov.lmt with busy := false } } }

end Sys2Proof.Machine
end

