-- ==== Sys2Proof/Machine/Cloth.lean ====
section
/-! DEFINITION. The receiving side of a woven group (R214 to R220, R226 to R233, R246): alignment of member lanes, the
release of rows with binder rebuild, path overhead, the parsing of items and resynchronisation. -/

namespace Sys2Proof.Machine

/-! ### Alignment (R214, R215) -/

/-- R208: words of a lane frame. -/
def frameWords : Nat := 2048

/-- R214: a word received sound whose bytes 0 to 3 are the FAW. -/
def isFaw (w : RxWord) : Bool := !w.erased && w.val.toNat / 2 ^ 32 == 0xA65BE11C

/-- R208: byte i of a word, byte 0 first. -/
def rxByte (w : RxWord) (i : Nat) : Byte := BitVec.ofNat 8 (w.val.toNat / 2 ^ (8 * (7 - i)))

/-- R208: MFC of a word 0. -/
def rxMfc (w : RxWord) : Nat := w.val.toNat / 2 ^ 16 % 65536

/-- R214: a new candidate; with 4 held it replaces the oldest. -/
def addCand (c : List (Nat × Nat × Nat)) (p m : Nat) : List (Nat × Nat × Nat) :=
  (if c.length < 4 then c else c.drop 1) ++ [(p, (m + 1) % 65536, 0)]

/-- R214: one word of the hunt at a position: the candidates after it, and whether the one at the position is
confirmed. -/
def huntWord (c : List (Nat × Nat × Nat)) (p : Nat) (w : RxWord) : List (Nat × Nat × Nat) × Bool :=
  match c.find? (fun e => e.1 == p) with
  | some (_, next, n) =>
    if isFaw w && rxMfc w == next then
      (c.map (fun e => if e.1 = p then (p, (next + 1) % 65536, n + 1) else e), n == 1)
    else
      let c := c.filter (fun e => e.1 != p)
      (if isFaw w then addCand c p (rxMfc w) else c, false)
  | none => (if isFaw w then addCand c p (rxMfc w) else c, false)

/-- R214: the hunt over words from a position on: the candidates left, or the position confirmed with the words from it
on. -/
def hunt (c : List (Nat × Nat × Nat)) (p : Nat) : List RxWord → List (Nat × Nat × Nat) × Option (Nat × List RxWord)
  | [] => (c, none)
  | w :: ws =>
    let r := huntWord c p w
    if r.2 then ([], some (p, w :: ws)) else hunt r.1 ((p + 1) % frameWords) ws

/-- R214, R247: loss of frame or of block lock: the lane hunts again, from the words at a position on that it already has. -/
def Lane.lof (l : Lane) (p : Nat) (ws : List RxWord) : Lane :=
  let c := (hunt [] p ws).1
  { l with align := if c.isEmpty then .hunt else .candidate, cands := c, part := [], fawMiss := 0, mfcMiss := 0, mfcRise := 0
           lastMfc := none, rxBip := none, lastErased := none, sreiOwed := 0, lags := (0, 0) }

/-- R215: what a lane frame's word 0 makes of the expected MFC, its misses and its rises during LOM; and the MFC the frame
is indexed by. -/
def Lane.follow (l : Lane) (w0 : RxWord) : Lane × Nat :=
  let lom := l.dfc.getLsbD 4
  let m := l.mfc
  let got := rxMfc w0
  let bump (x : Nat) : Nat := (x + 1) % 65536
  if !isFaw w0 then ({ l with fawMiss := l.fawMiss + 1, mfcRise := 0, mfc := bump m, lastMfc := some m }, m)
  else
    let l := { l with fawMiss := 0 }
    if lom then
      let rise := if l.lastMfc.map bump = some got then l.mfcRise + 1 else 0
      let idx := if rise = 2 then got else m
      ({ l with mfcRise := rise, mfc := bump idx, lastMfc := some got }, idx)
    else if got = m then ({ l with mfcMiss := 0, mfc := bump m, lastMfc := some m }, m)
    else
      let miss := l.mfcMiss + 1
      ({ l with mfcMiss := miss, mfcRise := 0, mfc := bump m, lastMfc := some (if miss = 3 then got else m) }, m)

/-! ### Deskew (R216) -/

/-- R216: how far MFC a is behind MFC b, counted signed. -/
def mfcDiff (a b : Nat) : Int :=
  let d := (a + 65536 - b) % 65536
  if d < 32768 then (d : Int) else (d : Int) - 65536

/-- R216: arrival of word 0 of the lane frame of MFC m on a lane, from the last one that arrived, in the lane's units. -/
def Lane.arrival (l : Lane) (m : Nat) : Option Int :=
  l.lastMfc.map (fun k => (l.arrived : Int) - mfcDiff k m * 131072)

/-- R216: the in-frame members of a group. -/
def State.framed (s : State) (g : Nat) : List Nat := (s.lanesOf g).filter (fun k => (s.lane (32 + k)).align == .inFrame)

/-- R216: arrival of word 0 of the lane frame of MFC m on the earliest in-frame member of a group. -/
def State.earliest (s : State) (g m : Nat) : Option Int :=
  ((s.framed g).filterMap (fun k => (s.lane (32 + k)).arrival m)).min?

/-- R216, R242, R252: the relative delay of lane l, the mean over its lane frames since it came in frame (log entry 59),
measured at its lane frame of MFC m; WOV_RX_SKEW; and the count of lane frames within SKEW_MAX. -/
def State.measure (s : State) (g l m : Nat) : State :=
  match (s.lane (32 + l)).arrival m, s.earliest g m with
  | some a, some e =>
    let L := s.lane (32 + l)
    let sum := L.lags.1 + (a - e).toNat
    let n := L.lags.2 + 1
    let s := s.setLane (32 + l) { L with lags := (sum, n), delay := sum / n / 100 }
    let s := s.setLane (32 + l) { s.lane (32 + l) with runs := tset 0 L.runs 6 (runNext (tget 0 L.runs 6) (!s.beyondSkew g l)) }
    let all := (s.framed g).map (fun k => (s.lane (32 + k)).delay)
    s.setGroup g { s.group g with skew := satTo 0xFFFFFF (all.foldl max 0) }
  | _, _ => s

/-! ### A received lane frame (R208, R210, R245 to R248) -/

/-- The bytes of received words. -/
def wordBytes (ws : List RxWord) : Bytes := ws.flatMap (fun w => beBytes w.val.toNat 8)

/-- R245, R255, R256: the lane frame that waits for its check counted as a block: with its BIP error count when the frame
after it brings an SBIP and both came without a lane defect, without a check where no frame follows. -/
def State.sectionBlock (s : State) (l : Nat) (w1 : Option RxWord) : State :=
  let L := s.lane (32 + l)
  match L.lastErased with
  | none => s
  | some er =>
    let e := match (if L.defect then none else w1.filter (fun w => !w.erased)), L.rxBip with
      | some w, some b => bitDiff b (rxByte w 0)
      | _, _ => 0
    (s.block (4 * l) L.blockSec (er || e != 0) e).setLane (32 + l) { L with sreiOwed := L.sreiOwed + e, lastErased := none }

/-- R247: a received REI count, one of 9 to 15 read as 0 and counted about entity number k of LMT_REI_INVALID. -/
def State.reiOf (s : State) (k : Nat) (b : Byte) : Nat × State :=
  let v := b.toNat / 16
  if 8 < v then (0, s.occur .reiInvalid k) else (v, s)

/-- R255, R256, R263: a lane frame of a second counted as a block of the far end, with the section REI and RDI of its word 1; `near`
says that the lane was in a defect of R256 during it. -/
def State.sectionFar (s : State) (l sec : Nat) (w1 : RxWord) (near : Bool) : State :=
  if w1.erased then s.block (4 * l + 1) sec false 0
  else
    let s := if (rxByte w1 1).getLsbD 0 then s.hurtIn (4 * l + 1) sec else s
    let r := s.reiOf l (rxByte w1 1)
    r.2.block (4 * l + 1) sec (r.1 != 0) (if near then 0 else r.1)

/-- R210, R233, R237: received LSTAT of the path overhead source: MF_FAR, and the automatic removal at the third lane frame
with the same MFN. -/
def State.lstat (s : State) (g : Nat) (b : Byte) : State :=
  let G := s.group g
  let mf := b.getLsbD 7
  let n := b.toNat % 32
  let run := if !mf then 0 else if G.mfFar && G.mfnFar == n then min 3 (G.mfRun + 1) else 1
  let s := s.setGroup g { G with mfFar := mf, mfnFar := if mf then n else 0, mfRun := run }
  if run = 3 then s.autoRemove g n else s

/-- R212: the path overhead source of a group. -/
def State.source (s : State) (g : Nat) : Option Nat := (s.lanesOf g).find? s.isSource

/-- R216, R300, R320: the buffer-region line of a group's deskew share that holds a member's lane frame of an MFC from a block of
8 words on; in place of a line of a failed stack, whose extents are withdrawn, one of the same 4 KiB row on another stack. -/
def State.deskewAt (s : State) (g l m b : Nat) : Nat :=
  let base := s.variant.shareLines * g
  let r := Config.deskewLine g l m b % max 1 s.variant.shareLines
  let up := (List.range s.channels).filter (fun ch => tget .ok s.msc.stks (ch / 4) != .failed)
  if up.contains (s.lineChannel true (base + r)) || up.isEmpty then base + r
  else base + 64 * (r / 64 / s.channels * s.channels + up.getD (r / 64 % up.length) 0) + r % 64

/-- R216, R306, R313, R461: the payload words of a lane frame written to its group's deskew share under the group's memory key
index; a suspect line takes no write, nor one whose channel is not FRESH, which is woken. -/
def State.writeDeskew (s : State) (g l m : Nat) (f : List RxWord) : State :=
  let k := s.field .wovRxCfg g 16 8
  match (if s.deepDeskew g && s.deskewKept g then s.keyDraw true k true else none) with
  | none => s
  | some d => (List.range 256).foldl (fun t b =>
      let line := t.deskewAt g l m b
      if t.linesOff true [line] then t else t.ownStore true k d line (wordBytes ((f.drop (2 + 8 * b)).take 8)))
      (s.useLines true ((List.range 256).map (s.deskewAt g l m)))

/-- R214 to R219, R243, R245 to R254: lane l of group g has received a whole lane frame in frame, its word 0 in a second. -/
def State.laneFrame (s : State) (g l sec : Nat) (f : List RxWord) : State :=
  let w0 := f.getD 0 ⟨0, true, 1⟩
  let w1 := f.getD 1 ⟨0, true, 1⟩
  let s := s.sectionBlock l (some w1)
  let was := (s.lane (32 + l)).defect
  let near : Bool := (s.lane (32 + l)).dfc &&& 0xFF != 0
  let er := f.any (fun w => w.erased)
  let r := (s.lane (32 + l)).follow w0
  let L := r.1
  let m := r.2
  if 5 ≤ L.fawMiss then
    let s := (s.block (4 * l) sec er 0).sectionFar l sec w1 true
    ((s.setLane (32 + l) (L.lof ((L.pos + 1) % frameWords) (f.drop 1 ++ L.part))).evalLane l false none).evalGroup g true false none
  else
    let p := L.pos
    let L := { L with arrived := 100 * s.tb.elapsed + if p = 0 then 131072 else 64 * p }
    let L := if isFaw w0 then
        { L with known := true, member := (rxByte w0 6).toNat % 32, binder := (rxByte w0 6).getLsbD 7, ssl := rxByte w0 7 }
      else L
    let L := if w1.erased then L else { L with gid := rxByte w1 2 }
    let s := (s.setLane (32 + l) L).evalLane l true (if w1.erased then none else some ((rxByte w1 1).getLsbD 0))
    let s := s.sectionFar l sec w1 (near || (s.lane (32 + l)).dfc &&& 0xFF != 0)
    let s := (s.measure g l m).writeDeskew g l m f
    let L := s.lane (32 + l)
    let erase : Bool := L.dfc &&& 0xFF != 0 || !s.deskewKept g
    let kept := if erase then f.take 2 ++ (f.drop 2).map (fun w => { w with erased := true }) else f
    let s := s.setLane (32 + l) { L with
      rxBip := if was || L.defect then none else some (bip8 (wordBytes f))
      lastErased := some er, blockSec := sec
      store := if s.grpOn g then L.store ++ [(m, kept)] else [] }
    let s := if s.source g = some l ∧ w1.erased = false then s.lstat g (rxByte w1 4) else s
    s.evalGroup g true false none

/-- R214: the words of an in-frame lane cut into lane frames while it stays in frame, at most n of them. -/
def State.laneFrames (s : State) (g l sec : Nat) : Nat → State
  | 0 => s
  | n + 1 =>
    let L := s.lane (32 + l)
    if L.align ≠ .inFrame ∨ L.part.length < frameWords then s
    else
      let s := s.setLane (32 + l) { L with part := L.part.drop frameWords }
      State.laneFrames (s.laneFrame g l sec (L.part.take frameWords)) g l sec n

/-- R207, R219: a received word with an invalid or control sync header is erased. -/
def heardWord (w : RxWord) : RxWord := { w with erased := w.erased || w.sync != 1 }

/-- R214 to R219: LANE_FRAME_RECEIVE: a lane of a group receives the 2,048 words that its word count numbers 0 to 2,047. -/
def execLaneFrameReceive (l : Nat) (ws : List RxWord) (s : State) : Host.Outcome State Fault Refusal :=
  .next (match (if l < 32 then s.groupOf l else none) with
    | none => s
    | some g =>
      let L := s.lane (32 + l)
      let now := s.wov.lmt.second
      let ws := ws.map heardWord
      if L.locked = false ∨ ws.length ≠ frameWords then s
      else match L.align with
        | .inFrame =>
          (s.setLane (32 + l) { L with part := L.part ++ ws, partSec := now }).laneFrames g l
            (if L.part.isEmpty then now else L.partSec) 2
        | _ =>
          let r := hunt L.cands 0 ws
          match r.2 with
          | some (p, rest) =>
            let m := match rest with
              | w :: _ => rxMfc w
              | [] => 0
            (s.setLane (32 + l) { L with
              align := .inFrame, cands := [], pos := p, mfc := m, fawMiss := 0, mfcMiss := 0, mfcRise := 0, part := rest
              partSec := now, lastMfc := none, lags := (0, 0), runs := tset 0 L.runs 6 0 }).laneFrames g l now 2
          | none =>
            let s := s.setLane (32 + l) { L with cands := r.1, align := if r.1.isEmpty then .hunt else .candidate }
            (s.evalLane l false none).evalGroup g true false none)

/-! ### Receive keys (R230, R231) -/

/-- R231: the VALID receive slot with a key number. -/
def Group.rxWith (g : Group) (kn : BitVec 2) : Option Bool :=
  if (g.ck 2).valid && (g.ck 2).kn == kn then some false
  else if (g.ck 3).valid && (g.ck 3).kn == kn then some true
  else none

/-- The slot of `Group.cks` that a receive slot is. -/
def Group.rxCk (g : Group) (b : Bool) : CkSlot := g.ck (if b then 3 else 2)

/-- R229: the received cloth not yet parsed is discarded and counted. -/
def State.dropCloth (s : State) (g : Nat) : State :=
  let G := s.group g
  let n := G.rxCloth.length
  let s := s.setGroup g { G with
    sync := false, rxHold := false, rxSkip := false, rxMark := false, rxCloth := [], rxPos := G.rxPos + n, rxSince := G.rxSince + n }
  if n = 0 then s else s.occur .wovResyncBytes g n

/-- R148, R229 to R231: position 3 of a path multiframe: the current key number, the announced one, and what the receiver does about
a key it does not open with yet. A key that was seen to start while no slot held it is opened from the multiframe in which one
does; the numbers still count from its start, whose cloth before position 3 is kept or already discarded. -/
def State.keyByte (s : State) (g : Nat) (b : Byte) : State :=
  let G := s.group g
  let kn := BitVec.ofNat 2 b.toNat
  let next := BitVec.ofNat 2 (b.toNat / 4)
  let nka := b.getLsbD 4
  let slot := G.rxWith kn
  let first : Bool := G.rxUneq && G.psl == 0x21
  let mark : Bool := G.rxMark && !nka
  let announcedSlot := if nka then G.rxWith next else none
  let G := { G with
    keyMiss := slot.isNone || (nka && announcedSlot.isNone)
    rxMark := mark
    rxNka := if nka then min 8 (G.rxNka + 1) else if mark then G.rxNka else 0
    rxLost := if nka || mark then G.rxLost else 0
    rxNext := if mark then G.rxNext else announcedSlot }
  if first then
    s.setGroup g { G with rxUneq := false, rxKnown := true, rxKn := kn, rxSlot := slot, rxSeq := 1, noref := false
                          rxSince := if G.rxHold then 0 else G.rxPos }
  else if mark then s.setGroup g G
  else if G.rxKnown && G.rxKn != kn then
    let held := G.rxHold
    let s := s.setGroup g { G with
      rxKn := kn, rxSlot := slot, rxSeq := 1, noref := false, rxSince := if held then 0 else G.rxPos }
    if G.sync then s.dropCloth g else s
  else if G.rxKnown && G.rxSlot.isNone && !G.noref then s.setGroup g { G with rxSlot := slot }
  else if G.rxSlot.isNone || !(G.rxCk (G.rxSlot.getD false)).valid then
    (s.setGroup g { G with rxKnown := true, rxKn := kn, rxSlot := slot, noref := true }).dropCloth g
  else s.setGroup g { G with rxKnown := true, rxKn := kn }

/-! ### Path overhead and markers (R212, R232, R246 to R248) -/

/-- R232: the map at the receiver, with the records of members that leave or return with it. -/
def State.setRxMap (s : State) (g : Nat) (map : Word) : State :=
  let s := s.setGroup g { s.group g with rxMap := map }
  (s.lanesOf g).foldl (fun s l => s.memberRecord g l) s

/-- R246, R248, R255, R256: the path multiframe that waits for its check counted as a block, with its BIP error count where
the one after it has not fallen in path signal fail. -/
def State.settlePath (s : State) (g : Nat) : State :=
  let G := s.group g
  match G.due with
  | none => s
  | some (sec, n, er) =>
    let e := if G.rxBipOk then n else 0
    (s.block (4 * g + 2) sec (er || e != 0) e).setGroup g { G with due := none, preiOwed := G.preiOwed + e }

/-- R246, R255, R256, R263: at a marker the check before is settled; the path multiframe that ends, where it was received
whole, counts for the far end and waits for its own check. -/
def State.pathBlock (s : State) (g : Nat) (poh : Option Byte) : State :=
  let s := s.settlePath g
  let G := s.group g
  if !G.rxWhole then s
  else
    let e := match (if G.rxBipOk && !s.pathFail g then poh else none) with
      | some b => bitDiff G.rxBip b
      | none => 0
    (s.block (4 * g + 3) G.mfSec (G.rei != 0) (if G.rxNear then 0 else G.rei)).setGroup g
      { G with due := some (G.mfSec, e, G.unrebuilt) }

/-- R229: in sync, PTR and PSEQ compared with the receiver's own parse. -/
def State.ptrCheck (s : State) (g : Nat) : State :=
  let G := s.group g
  match tfind G.poh 9, tfind G.poh 10, tfind G.poh 11, tfind G.poh 12 with
  | some a, some b, some c, some d =>
    let pseq := c.toNat * 256 + d.toNat
    let own := match G.rxFirst with
      | some (off, some n) => (off, n % 65536)
      | some (off, none) => (off, pseq)
      | none => (0xFFFF, 0)
    if G.sync && G.rxWhole && own != (a.toNat * 256 + b.toNat, pseq) then s.occur .wovPtrMismatch g
    else s
  | _, _, _, _ => s

/-- R231: a key change has been announced in 8 path multiframes, counting those whose position 3 was lost. -/
def Group.changeDue (g : Group) : Bool := g.rxNext.isSome && decide (8 ≤ g.rxNka + g.rxLost)

/-- R229, R231, R232: a path marker: the multiframe before it ends, the announced map is in force, and a receiver out of
sync begins to keep the cloth; at a key change it has a KEYMARK to verify, or skips it for want of a reference. -/
def State.marker (s : State) (g : Nat) (bip : Option Byte) : State :=
  let s := (s.pathBlock g bip).ptrCheck g
  let G := s.group g
  let s := match G.rxChange with
    | none => s
    | some (add, m) => s.setRxMap g (if add then G.rxMap ||| put 1 m else G.rxMap &&& ~~~(put 1 m))
  let s := if (s.group g).sync then s else s.dropCloth g
  let G := s.group g
  let len := 16 * frameBytes (dataMembers G.rxMap).length
  let mean := if G.sync && G.rxItems != 0 then (G.rxItemBytes, G.rxItems) else G.rxMean
  let G := { G with
    rxChange := none, poh := [], rxBip := 0, unrebuilt := false, rxWhole := true, rxBipOk := !s.pathFail g
    rxLost := if (tfind G.poh 3).isNone then min 8 (G.rxLost + 1) else G.rxLost
    rxMark := false, mfSec := s.wov.lmt.second, rei := 0, rxNear := G.dfc &&& 0x2F != 0
    rxMean := mean, rxItems := 0, rxItemBytes := 0 }
  let fresh : Bool := !G.sync || G.rxCloth.isEmpty
  let G := if fresh then { G with rxPos := 0, rxLen := len, rxFirst := none } else G
  let G := if G.sync then G else { G with rxHold := true }
  s.setGroup g (if G.sync || !G.changeDue then G
    else if !G.noref && G.rxSlot.isSome then { G with rxMark := true }
    else if G.rxNka == 8 then
      { G with
        rxSkip := true, rxSlot := G.rxNext, rxNext := none, rxNka := 0, rxSeq := 1, rxSince := 0, noref := false
        rxKn := (G.rxCk (G.rxNext.getD false)).kn }
    else G)

/-- R232: the map of positions 4 to 7. -/
def Group.pohMap (g : Group) : Option Word :=
  match tfind g.poh 4, tfind g.poh 5, tfind g.poh 6, tfind g.poh 7 with
  | some a, some b, some c, some d => some (BitVec.ofNat 32 (beNat [a, b, c, d]))
  | _, _, _, _ => none

/-- R247, R252: the PRDI bit of the path multiframe, none when its byte was lost. -/
def Group.prdi (g : Group) : Option Bool := (tfind g.poh 1).map (fun r => r.getLsbD 0)

/-- R212, R230 to R232, R247, R252: the path overhead byte at position p of the source. Under path AIS the positions after
the label carry nothing. -/
def State.pathOverhead (s : State) (g p : Nat) (b : Byte) : State :=
  let G := s.group g
  let s := s.setGroup g { G with poh := tput G.poh p b }
  let ais : Bool := tfind G.poh 2 == some 0xFF
  if p = 1 then
    let r := s.reiOf (32 + g) b
    r.2.setGroup g { r.2.group g with rei := r.1 }
  else if p = 2 then
    let s := s.setGroup g { s.group g with psl := b, rxUneq := b == 0 || G.rxUneq }
    s.evalGroup g false true G.prdi
  else if ais then s
  else if p = 3 then s.keyByte g b
  else if p = 7 then
    match (s.group g).pohMap with
    | some map => if map = G.rxMap then s else (s.setRxMap g map).dropCloth g
    | none => s
  else if p = 8 then
    let act := b.toNat / 32 % 4
    if b.getLsbD 7 && (act == 1 || act == 2) then
      s.setGroup g { s.group g with rxChange := some (act == 2, b.toNat % 32) }
    else s
  else s

/-! ### Rows (R216, R219, R220) -/

/-- A lane's stored lane frame of an MFC. -/
def Lane.stored (l : Lane) (m : Nat) : Option (List RxWord) := (l.store.find? (fun e => e.1 == m)).map (·.2)

/-- R219, R254: every word of the member on a lane is erased now. -/
def State.memberErased (s : State) (g m : Nat) : Bool :=
  (s.lane (32 + m)).dfc &&& 0xFF != 0 || s.beyondSkew g m || (s.group g).dfc &&& 0x0E != 0

/-- R219: the word of a far-end member number in row (m, w): none while it has neither arrived nor been given up, and
whether it is erased. R220 gives a word that never arrived no value: it is free (log entry 140). -/
def State.rowWord (s : State) (g n m w : Nat) : Option (BitVec 64 × Bool) :=
  let missing : BitVec 64 × Bool := (Config.missingWord [g, n, m, w, s.tb.elapsed], true)
  match s.laneOfMember g n with
  | none => some missing
  | some l =>
    let L := s.lane (32 + l)
    match L.stored m with
    | some f => (f[w]?).map (fun x => (x.val, x.erased || s.memberErased g l))
    | none =>
      let gone : Bool := match L.waived with
        | some (a, b) => a == m && decide (w ≤ b)
        | none => false
      if gone || s.memberErased g l then some missing else none

/-- R220: the data words of a row released, after binder rebuild: the words, whether one was rebuilt, and how many erased
words were left. -/
def rowData (data : List (BitVec 64 × Bool)) (binder : Option (BitVec 64 × Bool)) : List (BitVec 64) × Bool × Nat :=
  let n := data.countP (fun x => x.2)
  let words := data.map (fun x => x.1)
  match binder with
  | some (b, false) =>
    if n = 1 then
      let all := (data.filter (fun x => !x.2)).foldl (fun a x => a ^^^ x.1) b
      (data.map (fun x => if x.2 then all else x.1), true, 0)
    else (words, false, n)
  | _ => (words, false, n)

/-- R243: ERASED of the lanes of a group in the row now released. -/
def State.showErased (s : State) (g m w : Nat) : State :=
  (s.lanesOf g).foldl (fun s l =>
    let L := s.lane (32 + l)
    let e : Bool := L.known && (s.rowWord g L.member m w).elim false (fun x => x.2) && (s.mapped g).contains L.member
    if e = L.erasedNow then s else s.setLane (32 + l) { L with erasedNow := e }) s

/-- R216: lane frames up to and with MFC m are no longer kept. -/
def State.dropStored (s : State) (g m : Nat) : State :=
  (s.lanesOf g).foldl (fun s l =>
    let L := s.lane (32 + l)
    s.setLane (32 + l) { L with store := L.store.filter (fun e => decide (0 < mfcDiff e.1 m)) }) s

/-- R220, R226, R246: row (m, w) released with its data words: counts, path BIP, and the cloth handed to the parser or
discarded. -/
def State.releaseRow (s : State) (g m w : Nat) (data : List (BitVec 64 × Bool)) (binder : Option (BitVec 64 × Bool)) :
    State :=
  let r := rowData data binder
  let s := s.showErased g m w
  let s := if r.2.1 then s.occur .wovRebuilt g else s
  let s := if r.2.2 = 0 then s else s.occur .wovUnrebuilt g r.2.2
  let bytes := r.1.flatMap (fun x => beBytes x.toNat 8)
  let G := s.group g
  let G := { G with rxBip := G.rxBip ^^^ bip8 bytes, unrebuilt := G.unrebuilt || r.2.2 != 0 }
  let keep : Bool := (G.sync || G.rxHold) && G.dfc &&& 0x0E == 0
  let s :=
    if keep then s.setGroup g { G with rxCloth := G.rxCloth ++ bytes }
    else (s.setGroup g { G with rxPos := G.rxPos + bytes.length, rxSince := G.rxSince + bytes.length }).occur
      .wovResyncBytes g bytes.length
  let next := if w = 2047 then ((m + 1) % 65536, 2) else (m, w + 1)
  let s := s.setGroup g { s.group g with row := some next }
  if w = 2047 then s.dropStored g m else s

/-- R254: GIM, PLM or PAIS: no item is parsed and sync is lost. -/
def State.pathOff (s : State) (g : Nat) : State :=
  let G := s.group g
  if G.dfc &&& 0x0E != 0 && (G.sync || G.rxHold) then s.dropCloth g else s

/-- R212: the path overhead byte that the source brings with the lane frame of MFC m. -/
def State.sourceByte (s : State) (g m : Nat) : Option Byte :=
  let l := (s.lanesOf g).find? (fun k => s.isSource k && ((s.lane (32 + k)).stored m).isSome)
  match l.bind (fun k => (s.lane (32 + k)).stored m) with
  | some f => match f[1]? with
    | some w => if w.erased then none else some (rxByte w 3)
    | none => none
  | none => none

/-- R211, R212, R249: what precedes word 2 of the lane frame of MFC m: the marker, and the path overhead byte; where the label is
lost, PRDI is evaluated by itself. -/
def State.rowHead (s : State) (g m : Nat) : State :=
  let b := s.sourceByte g m
  let s := if m % 16 = 0 then s.marker g b else s
  let G := s.group g
  let s := if s.pathFail g then s.setGroup g { G with rxBipOk := false } else s
  match b with
  | some x => (s.pathOverhead g (m % 16) x).pathOff g
  | none => (if m % 16 = 2 then s.evalGroup g false false (s.group g).prdi else s).pathOff g

/-- R216: the row a group's receiver begins with: the latest of its sources' oldest stored lane frames. -/
def State.firstRow (s : State) (g : Nat) : Option Nat :=
  let all := ((s.lanesOf g).filter s.isSource).filterMap (fun l => ((s.lane (32 + l)).store.head?).map (·.1))
  match all with
  | [] => none
  | a :: rest => some (rest.foldl (fun x y => if 0 < mfcDiff y x then y else x) a)

/-! ### Items (R226, R231) -/

/-- R222: a header opened under a slot and number: its 16 content bytes, if its tag verifies. -/
def CkSlot.openHdr (c : CkSlot) (s : Nat) (h : Bytes) : Option Bytes :=
  let pt := xorBytes (slice h 0 16) (aesEnc (roundKeys c.key) (c.iv s ++ [0, 0, 0, 2]))
  if c.sealHdr s pt = slice h 0 24 then some pt else none

/-- R226, R231: a header's TYPE and length if its content is valid at offset `off` of a path multiframe of `len` cloth
bytes; `key` is the number of the key that R231 lets begin here. -/
def hdrValid (h : Bytes) (off len : Nat) (key : Option (BitVec 2)) : Option (Nat × Nat) :=
  let b0 := (h.getD 0 0).toNat
  let kl := beNat (slice h 1 2)
  let n := kl % 16384
  let type := b0 % 16
  if b0 / 16 ≠ 1 ∨ zeros h 14 2 = false ∨ len < off + 24 then none
  else if type = 1 then (if n = 0 ∨ 16128 < n then none else some (1, n))
  else if zeros h 3 11 = false then none
  else if type = 2 then (if kl / 16384 ≠ 0 ∨ len < off + 24 + n then none else some (2, n))
  else if type = 3 then (if n = 0 ∧ off = 0 ∧ key = some (BitVec.ofNat 2 (kl / 16384)) then some (3, 0) else none)
  else none

/-- R231: the key number that a KEYMARK may bring at the present place. -/
def Group.keyHere (g : Group) : Option (BitVec 2) :=
  if g.changeDue then g.rxNext.map (fun b => (g.rxCk b).kn) else none

/-- R229, R231: the parser moves past an item of n body bytes. -/
def Group.past (g : Group) (n : Nat) : Group :=
  let pos := g.rxPos + 24 + n
  let g' := { g with
    rxCloth := g.rxCloth.drop (24 + n), rxPos := pos, rxSeq := g.rxSeq + 1, rxSince := n
    rxFirst := match g.rxFirst with
      | some f => some f
      | none => some (g.rxPos, some g.rxSeq)
    rxItems := g.rxItems + 1, rxItemBytes := g.rxItemBytes + 24 + n }
  if g.rxLen < pos then
    { g' with rxPos := pos - g.rxLen, rxLen := 16 * frameBytes (dataMembers g.rxMap).length, rxFirst := none }
  else g'

/-- R226: a FRAME's body becomes a pick. -/
def State.clothPick (s : State) (g : Nat) (h body : Bytes) : State :=
  let port := s.groupPort g
  if s.held then s.occur .quiesceRx port
  else
    s.arrive { src := 2, odom := BitVec.ofNat 12 port, port := BitVec.ofNat 8 port, cls := s.defClass port, frame := body
               assoc := BitVec.ofNat 24 (beNat (slice h 3 3)), kn := BitVec.ofNat 2 (beNat (slice h 1 2) / 16384)
               pn := BitVec.ofNat 64 (beNat (slice h 6 8)), vec := 2 }

/-- R226, R229, R231: the next item of the received cloth, none while the parser has nothing it can decide. -/
def State.clothItem (s : State) (g : Nat) : Option State :=
  let G := s.group g
  if !s.grpOn g || G.dfc &&& 0x0E != 0 then none
  else if G.rxSkip then
    if G.rxCloth.length < 24 then none
    else
      let s := s.occur .wovResyncBytes g 24
      some (s.setGroup g { s.group g with
        rxSkip := false, rxHold := false, sync := true, rxCloth := G.rxCloth.drop 24, rxPos := 24, rxSince := 0
        rxFirst := some (0, none) })
  else if !G.sync then none
  else match G.rxSlot with
    | none => none
    | some b =>
      let fail : State := (s.occur .wovHdrFail g).dropCloth g
      if G.rxCloth.length < 24 then (if !G.rxCloth.isEmpty && decide (G.rxLen < G.rxPos + 24) then some fail else none)
      else match (G.rxCk b).openHdr G.rxSeq G.rxCloth with
        | none => some fail
        | some h =>
          match hdrValid h G.rxPos G.rxLen G.keyHere with
          | none => some fail
          | some (type, n) =>
            if G.rxCloth.length < 24 + n then none
            else
              let G' := G.past n
              if type = 1 then some ((s.setGroup g G').clothPick g h (slice G.rxCloth 24 n))
              else if type = 3 then
                some (s.setGroup g { G' with
                  rxSlot := G.rxNext, rxNext := none, rxNka := 0, rxLost := 0, rxMark := false, rxSeq := 1, rxKn := G.keyHere.getD G.rxKn })
              else some (s.setGroup g G')

/-- R226: CLOTH_ITEM_RECEIVE: the receiving framer takes the next item. -/
def execClothItemReceive (g : Nat) (s : State) : Host.Outcome State Fault Refusal :=
  .next ((s.clothItem g).getD s)

/-- R216 to R220: row (m, w) of a group released, once every mapped member has delivered its word or is erased for it, and
at the start of a lane frame once the items before it are parsed. Until a map is known only the path overhead is taken. -/
def State.releaseNext (s : State) (g m w : Nat) : State :=
  let ready : Bool := (s.mapped g).all (fun n => (s.rowWord g n m w).isSome)
  if ready = false ∨ (w = 2 ∧ (s.clothItem g).isSome = true) then s
  else
    let s := if w = 2 then s.rowHead g m else s
    if (s.group g).rxMap = 0 then
      (s.setGroup g { s.group g with row := some ((m + 1) % 65536, 2) }).dropStored g m
    else
      let word (n : Nat) : BitVec 64 × Bool := (s.rowWord g n m w).getD (0, true)
      s.releaseRow g m w ((dataMembers (s.group g).rxMap).map word) ((s.binder g).map word)

/-- R216 to R220: ROW_RELEASE: a group's receiver releases its next row. -/
def execRowRelease (g : Nat) (s : State) : Host.Outcome State Fault Refusal :=
  .next (
    if s.grpOn g = false then s
    else match (if (s.group g).rxMap = 0 then none else (s.group g).row) with
      | some (m, w) => s.releaseNext g m w
      | none => match s.firstRow g with
        | some m => s.releaseNext g m 2
        | none => s)

/-- R219: ROW_WAIT_EXPIRY: a member's words that have not arrived ROW_WAIT after the time its relative delay predicts are
given up, in the row to be released and those after it of its lane frame whose wait has ended too. -/
def execRowWaitExpiry (g m : Nat) (s : State) : Host.Outcome State Fault Refusal :=
  .next (match (s.group g).row, s.laneOfMember g m with
    | some (k, w), some l =>
      let L := s.lane (32 + l)
      match s.earliest g k with
      | some e =>
        let late : Int := (100 * s.tb.elapsed + 262144 : Nat)
          - (e + (100 * L.delay : Nat) + (100000 * s.field .wovRxCfg g 12 4 : Nat))
        if s.grpOn g = false ∨ (L.stored k).isSome = true ∨ late < (64 * w : Nat) then s
        else s.setLane (32 + l) { L with waived := some (k, min 2047 (late / 64).toNat) }
      | none => s
    | _, _ => s)

/-! ### Resynchronisation (R229) -/

/-- R229: candidate sequence numbers congruent to PSEQ above S, at most ⌈B ÷ 24⌉ further than S + 1, nearest to
S + B ÷ L first, the lower first of two as near, at most 64; L is given as bytes and items. -/
def candidates (S B : Nat) (L : Nat × Nat) (pseq : Nat) : List Nat :=
  let lo := S + 1
  let first := lo + (pseq + 65536 - lo % 65536) % 65536
  let top := S + 1 + (B + 23) / 24
  if top < first then []
  else
    let count := (top - first) / 65536 + 1
    let mid := (S + B * L.2 / L.1 - first) / 65536
    let from_ := mid - 64
    let ks := (List.range 130).filterMap (fun i => if from_ + i < count then some (first + 65536 * (from_ + i)) else none)
    let dist (c : Nat) : Nat := ((L.1 * c : Nat) - ((L.1 * S + B * L.2 : Nat) : Int)).natAbs
    (ks.insertionSort (fun a b => dist a ≤ dist b)).take 64

/-- R229: RESYNC_AT_MARKER: a receiver out of sync that has read PTR and PSEQ tries its candidates at offset PTR. -/
def execResyncAtMarker (g : Nat) (s : State) : Host.Outcome State Fault Refusal :=
  .next (
    let G := s.group g
    match tfind G.poh 9, tfind G.poh 10, tfind G.poh 11, tfind G.poh 12, G.rxSlot with
    | some a, some b, some c, some d, some slot =>
      let ptr := a.toNat * 256 + b.toNat
      let pseq := c.toNat * 256 + d.toNat
      if s.grpOn g = false ∨ G.sync = true ∨ G.noref = true ∨ G.rxHold = false ∨ G.rxSkip = true
          ∨ G.dfc &&& 0x0E ≠ 0 then s
      else if ptr = 0xFFFF then s.dropCloth g
      else if G.rxCloth.length < ptr + 24 then s
      else
        let ck := G.rxCk slot
        let hdr := slice G.rxCloth ptr 24
        match (candidates (G.rxSeq - 1) (G.rxSince + ptr) G.rxMean pseq).find? (fun n => (ck.openHdr n hdr).isSome) with
        | none => s.dropCloth g
        | some n =>
          let s := if ptr = 0 then s else s.occur .wovResyncBytes g ptr
          (s.occur .wovResync g).setGroup g { G with
            sync := true, rxHold := false, rxCloth := G.rxCloth.drop ptr, rxPos := ptr, rxSeq := n, rxSince := 0
            rxFirst := some (ptr, some n) }
    | _, _, _, _, _ => s)

/-! ### Group registers (R234, R235) -/

/-- R234: a write of WOV_GRP_CFG of group g at an offset. -/
def State.grpCfgWrite (s : State) (g off : Nat) (v : Word) : State :=
  let old := s.reg .wovGrpCfg g
  if s.variant = .tv16e ∧ v.getLsbD 1 = true then s.wovReject.accessErr 0 false off 0
  else if old.getLsbD 0 && ((old ^^^ v) &&& ~~~(0x81 : Word)) != 0 then s.wovReject
  else if v.getLsbD 0 && !old.getLsbD 0 && s.enableBad g v then s.wovReject
  else
    let s := (if v.getLsbD 0 == old.getLsbD 0 then s else s.settlePath g).setReg .wovGrpCfg g 0 v
    let G := s.group g
    if v.getLsbD 0 && !old.getLsbD 0 then s.setGroup g G.enable
    else if !v.getLsbD 0 && old.getLsbD 0 then s.setGroup g G.disable
    else s

/-- R235: a write of WOV_GRP_LANES. -/
def State.grpLanesWrite (s : State) (g : Nat) (v : Word) : State :=
  let old := s.reg .wovGrpLanes g
  let bad (m : Nat) : Bool :=
    !s.variant.lane (32 + m) || (s.reg .tagPortCfg m).getLsbD 0
      || (List.range 8).any (fun h => h != g && (s.reg .wovGrpLanes h).getLsbD m)
  if s.grpOn g || (dataMembers v).any bad then s.wovReject
  else
    let s := s.setReg .wovGrpLanes g 0 v
    (dataMembers (old ^^^ v)).foldl (fun s m =>
      let s := s.sectionBlock m none
      let L := (s.lane (32 + m)).leaveGroup
      s.setLane (32 + m) (if v.getLsbD m && L.locked then { L with align := .hunt } else L)) s

end Sys2Proof.Machine
end

