-- ==== Sys2Proof/Machine/Dram.lean ====
section
/-! DEFINITION. The memory security controller (R299 to R329): how a line is verified, the suspect list, poisoning and
re-rooting, memory key indexes, timeouts, patrol scrub, cache write-back, mirror mode and stack failure. -/

namespace Sys2Proof.Machine

/-! ### Outcomes (R309 to R312) -/

/-- R9, R312, R388: the device enters RECOVERY and keeps its first cause; TEST stays TEST. -/
def State.enterRecovery (s : State) (cause : BitVec 4) : State :=
  if s.hif.mode = 2 ∨ s.hif.mode = 3 then s else { s with hif := { s.hif with mode := 2, cause := cause } }

/-- R310: a line listed as suspect, or SUSPECT_OVF. -/
def State.listSuspect (s : State) (buffer : Bool) (level index : Nat) : State :=
  if s.msc.suspects.contains (buffer, level, index) then s
  else if s.msc.suspects.length < 1024 then
    { s with msc := { s.msc with suspects := s.msc.suspects ++ [(buffer, level, index)] } }
  else s.setRegBit .mscStat 1

/-- R309, R310: an integrity failure: alarm, record and suspect list. -/
def State.integrity (s : State) (buffer : Bool) (level index : Nat) : State :=
  let s := (s.fire 12).record { type := 10, unit := EvUnit.msc.code, p0 := BitVec.ofNat 64 (regionNo buffer),
                                p1 := BitVec.ofNat 64 level, p2 := BitVec.ofNat 64 index }
  s.listSuspect buffer level index

/-- R300: a range of lines overlaps the staging area of CURRENT, or of NEXT. -/
def State.stageHit (s : State) (next : Bool) (first count : Nat) : Bool :=
  decide (first < s.stageBase next + 2048 ∧ s.stageBase next < first + count)

/-- R133, R157, R311: table entries that overlap a range of lines, all but EMPTY ones, become POISONED, picks that name such
an association are marked, and a card staged there is lost. -/
def State.poisonTable (s : State) (first count : Nat) : State :=
  let cap := s.capacity
  let lo := first / 2
  let hi := min cap ((first + count + 1) / 2)
  let hit (k : Nat) : Bool := decide (lo ≤ k ∧ k < hi)
  let assocs := s.tab.assocs.map (fun (e : Nat × AtEntry) =>
    if hit e.1 && e.2.st != .empty then (e.1, { e.2 with st := .poisoned }) else e)
  let inRange (l : Nat) : Bool := decide (first ≤ l ∧ l < first + count)
  let flows := s.tab.flows.map (fun (f : Flow) => if inRange (s.flowLine f) then { f with poisoned := true } else f)
  let named (k : Pick) : Bool := k.snap.isSome && hit k.assoc.toNat
  let picks := s.beam.picks.map (fun (e : Nat × Pick) => if named e.2 then (e.1, { e.2 with memTrap := true }) else e)
  { s with
      tab := { s.tab with assocs := assocs, flows := flows }, beam := { s.beam with picks := picks }
      shu := { s.shu with
        curLost := s.shu.curLost || s.stageHit false first count, nextLost := s.shu.nextLost || s.stageHit true first count } }

/-- R311: spilled frames that satisfy a test on their lines are dropped with reason INTEGRITY, and their extents freed. -/
def State.dropSpilled (s : State) (hit : Nat → Bool) : State :=
  let bad (i : QItem) : Bool := match i with
    | .spilled f _ x o => (s.spillLines f x o).any hit
    | _ => false
  s.sch.queues.foldl (fun t e =>
    let out := e.2.fifo.filter bad
    if out.isEmpty then t
    else out.foldl (fun t i => t.discard i .dropReason 2) (t.setFifo e.1 (e.2.fifo.filter (fun i => !bad i)))) s

/-- R219, R311: the words of a group's deskew share on lines that satisfy a test are lost, and their rows erased. -/
def State.loseDeskew (s : State) (g : Nat) (hit : Nat → Bool) : State :=
  if !s.deepDeskew g then s
  else (s.lanesOf g).foldl (fun s l =>
    let L := s.lane (32 + l)
    let gone (e : Nat × List RxWord) : List RxWord :=
      let bad := (List.range 256).filter (fun b => hit (s.deskewAt g l e.1 b))
      e.2.zipIdx.map (fun (w : RxWord × Nat) =>
        if decide (2 ≤ w.2) && bad.contains ((w.2 - 2) / 8) then { w.1 with erased := true } else w.1)
    s.setLane (32 + l) { L with store := L.store.map (fun e => (e.1, gone e)) }) s

/-- R309, R311, R316: what buffer-region lines that satisfy a test held is lost: spilled frames and deskew words. -/
def State.loseBuffer (s : State) (hit : Nat → Bool) : State :=
  (List.range 8).foldl (fun s g => s.loseDeskew g hit) (s.dropSpilled hit)

/-- R311 steps 1 to 4: a range of data lines lost: the event, the entries or frames, and the re-rooting begun. -/
def State.loseRange (s : State) (buffer : Bool) (first count : Nat) : State :=
  let s := s.event 0 .msc 1 (regionNo buffer) first count
  let s := if buffer then s.loseBuffer (fun l => decide (first ≤ l ∧ l < first + count)) else s.poisonTable first count
  { s with msc := { s.msc with rerooting := s.msc.rerooting ++ [(buffer, first, count)] } }

/-- R311, R312: a range poisoned; a wide one takes the device to RECOVERY. -/
def State.poison (s : State) (buffer : Bool) (level index : Nat) : State :=
  let c := s.cover buffer level index
  let n := min c.2 (s.lines buffer - c.1)
  let s := s.loseRange buffer c.1 n
  if 2 ^ s.field .mscPoisonCfg 0 0 5 ≤ n then s.enterRecovery 2 else s

/-! ### Verifying a path (R309, R319) -/

/-- How a path verified. -/
inductive Verdict where
  | good
  | busError
  | poisoned
deriving DecidableEq, Repr

/-- R309: the lines of a path checked in order, up to the first failure: corrections that pass counted, and what failed. -/
def State.checkPath (s : State) (buffer b : Bool) (ce : Src) : List PathObs → State × Option (PathObs × List PathObs)
  | [] => (s, none)
  | o :: os =>
    if o.sym = .uncorrectable then (s, some (o, os))
    else if !o.pass then (s, some (o, os))
    else State.checkPath (if o.sym = .corrected then s.occur ce (s.channelOf buffer b o.level o.index) else s) buffer b ce os

/-- R309, R310, R319: the path of a line of copy b verified, for a read or a write: a suspect line gives a bus error, counted
for a read; a poisoning is read again from the other copy in mirror mode, whose path follows the failing line in the
observations. -/
def State.verify (s : State) (read buffer b : Bool) (line : Nat) (ce : Src) (path : List PathObs) : State × Verdict :=
  if s.suspect buffer line then (if read then s.suspectHit line buffer else s, .busError)
  else
    let r := s.checkPath buffer b ce path
    match r.2 with
    | none => (r.1, .good)
    | some (o, rest) =>
      if o.sym ≠ .uncorrectable then (r.1.integrity buffer o.level o.index, .busError)
      else if !buffer && s.msc.mirror == 1 then
        let q := r.1.checkPath buffer (!b) ce rest
        match q.2 with
        | none =>
          let c := s.cover buffer o.level o.index
          ((q.1.copyOver b c.1 c.2).occur .mscMirrorFix (s.channelOf buffer b o.level o.index), .good)
        | some (p, _) =>
          if p.sym = .uncorrectable then (q.1.poison buffer o.level o.index, .poisoned)
          else (q.1.integrity buffer p.level p.index, .busError)
      else (r.1.poison buffer o.level o.index, .poisoned)

/-- R452, R458, R460: the channels of the copies that a request of a line goes to are asked for, in ascending order. -/
def State.useLine (s : State) (buffer : Bool) (line : Nat) (copies : List Bool) : State :=
  s.useChannels (copies.map (fun b => s.lineChannel buffer line b))

/-- R305, R310, R311: a line can be reached: its channels answer, the regions are initialised, the line exists and its
range is not being re-rooted. -/
def State.reachable (s : State) (buffer : Bool) (line : Nat) (copies : List Bool) : Bool :=
  copies.all (fun b => s.chanOn (s.lineChannel buffer line b)) && s.msc.done && decide (line < s.lines buffer)
    && !s.rerooted buffer line

/-- R300: an operation of a shuttle is a lookup that needs a line of the table region. -/
def State.lookNeeds (s : State) (line : Nat) (o : PendOp) : Bool :=
  match o.op with
  | .lookAt i _ _ => decide (i.toNat < s.capacity) && (assocLines i.toNat).contains line
  | .lookFt sp lo hi => (s.flowLines sp lo hi).contains line
  | _ => false

/-- R300, R522: the lines that a table command waiting at the front of ring 0 needs, if its function may have it. -/
def State.commandLines (s : State) (f : Nat) (e : Fetched) : List Nat :=
  let op := descOp e.desc
  if (s.gate f op).isSome then []
  else if 0x0101 ≤ op ∧ op ≤ 0x0108 then
    let i := if op ≤ 0x0102 then leAt e.buf 0 3 else e.index
    if decide (i < s.capacity) && s.mayCommand f i then assocLines i else []
  else if op = 0x0201 ∨ op = 0x0202 then s.flowLines e.blockKey.1 e.blockKey.2.1 e.blockKey.2.2
  else if op = 0x0203 ∨ op = 0x0204 then s.flowLines e.flowKey.1 e.flowKey.2.1 e.flowKey.2.2
  else []

/-- R300: the table command at the front of a function's ring 0 that needs a line. -/
def State.commandNeeds (s : State) (line f : Nat) : Option Fetched :=
  (s.handed f 0).filter (fun e => (s.commandLines f e).contains line)

/-- R155, R300: the lines that the bundle at the front of a function's ring 1 loads. -/
def State.bulkLines (s : State) (f : Nat) : List Nat :=
  match (s.handed f 1).filter (fun e => e.isOp 0x0109 && bundleOk e.buf && (s.gate f 0x0109).isNone) with
  | none => []
  | some e => (List.range (leAt e.buf 8 4)).flatMap (fun j =>
      if isBundle 2 e then
        let x := s.flowOf f (slice e.buf (64 + 64 * j) 64)
        s.flowLines x.space x.lo x.hi
      else
        let i := leAt e.buf (64 + 176 * j) 4
        if i < s.capacity then assocLines i else [])

/-- R309: a bus error reaches the bulk loads, the staging check and the card loads that need a line: INTEGRITY, CHECK CRC with
INTEGRITY (log entry 41), and LOADFAIL INTEGRITY. -/
def State.faultLoads (s : State) (line : Nat) : State :=
  let t := (List.range 64).foldl (fun t f =>
    if (s.bulkLines f).contains line then t.complete f 1 .integrity 0 0 0xFFFF_FFFF else t) s
  let t := match s.shu.staging with
    | some img => if (s.stageLines true img.length).contains line then t.stageEnd img 8 else t
    | none => t
  (List.range s.variant.clusters).foldl (fun t c =>
    if (s.clu c).st == .loading && (s.loadLines (s.clu c).loadGen).contains line then t.loadBad c 3 else t) t

/-- R309, R314, R316: a bus error for a line reaches who waits for it: lookups of shuttles trap MEM, table commands, bulk loads
and the staging of cards complete INTEGRITY, and card loads fail; a spilled frame or deskew words that cannot be read are
lost. -/
def State.faultRequests (s : State) (buffer : Bool) (line : Nat) : State :=
  if buffer then s.loseBuffer (· == line)
  else
    let t := s.shu.bobs.foldl (fun t e => match e.2.pend.find? (s.lookNeeds line) with
      | some o => t.memFault e.1 o.pc
      | none => t) s
    ((List.range 64).foldl (fun t f => if (t.commandNeeds line f).isSome then t.complete f 0 .integrity else t) t).faultLoads line

/-- R309: DRAM_READ: the path verified; a bus error reaches who asked. -/
def execDramRead (buffer : Bool) (line : Nat) (path : List PathObs) (s : State) : Host.Outcome State Fault Refusal :=
  .next (
    let c := s.readCopy buffer
    let s := s.useLine buffer line [c]
    if s.reachable buffer line [c] = false ∨ (s.keyDraw buffer (s.lineMki buffer line) false).isNone = true then s
    else
      let r := s.verify true buffer c line .mscCe path
      let s := if r.2 = .busError then r.1.faultRequests buffer line else r.1
      s.fetched (s.lineChannel buffer line c) buffer line)

/-- R303, R313: a verified line written, or the bus error of a clock's end. -/
def State.putLine (s : State) (buffer : Bool) (mki d line : Nat) (plain : Bytes) (path : List PathObs) : State × Verdict :=
  if s.clockRoom (s.writeChannels buffer line path) then (s.storeLine buffer mki d line plain path, .good)
  else (s.clockEnd, .busError)

/-- R313, R319: the path of a write verified, in mirror mode that of each copy that takes the write; the other copy's lines follow
those of the copy that serves reads, or its failing line. -/
def State.verifyWrite (s : State) (buffer : Bool) (line : Nat) (path : List PathObs) : State × Verdict :=
  let c := s.readCopy buffer
  let p := splitPath path
  let first := if (s.checkPath buffer c .mscCe p.1).2.isSome || decide ((s.copies buffer).length ≤ 1) then path else p.1
  let r := s.verify false buffer c line .mscCe first
  if r.2 ≠ .good ∨ first = path then r else r.1.verify false buffer (!c) line .mscCe p.2

/-- R306, R309, R310, R313: DRAM_LINE_WRITE: the path verified, then the line written with a new counter; a bus error reaches who
asked. -/
def execDramLineWrite (buffer : Bool) (mki line : Nat) (data : Bytes) (path : List PathObs) (s : State) :
    Host.Outcome State Fault Refusal :=
  .next (
    let s := s.useLine buffer line (s.copies buffer)
    match s.keyDraw buffer mki true with
    | none => s
    | some d =>
      if s.reachable buffer line (s.copies buffer) = false then s
      else
        let r := s.verifyWrite buffer line path
        let r := if r.2 = .good then r.1.putLine buffer (if buffer then mki else 0) d line data path else r
        if r.2 = .busError then r.1.faultRequests buffer line else r.1)

/-- R314: a write of some bytes of a line: read, verified, merged and written. -/
def State.mergeLine (s : State) (buffer : Bool) (mki d line off : Nat) (data : Bytes) (path : List PathObs) :
    State × Verdict :=
  let r := s.verifyWrite buffer line path
  if r.2 = .good then r.1.putLine buffer mki d line ((patch (r.1.plainLine buffer d line) off data).take 64) path else r

/-- R309, R314: DRAM_PARTIAL_WRITE; a bus error reaches who asked. -/
def execDramPartialWrite (buffer : Bool) (mki line off : Nat) (data : Bytes) (path : List PathObs) (s : State) :
    Host.Outcome State Fault Refusal :=
  .next (
    let s := s.useLine buffer line (s.copies buffer)
    match s.keyDraw buffer mki true with
    | none => s
    | some d =>
      if s.reachable buffer line (s.copies buffer) = false ∨ 64 ≤ data.length ∨ 64 < off + data.length then s
      else
        let r := s.mergeLine buffer (if buffer then mki else 0) d line off data path
        if r.2 = .busError then r.1.faultRequests buffer line else r.1)

/-- R130: the bytes of line 2i + 1 of association i, which holds both slots' packet numbers: slot A's in its first eight
bytes, slot B's in its last eight. -/
def AtEntry.counters (e : AtEntry) (old : Bytes) : Bytes :=
  leBytes e.a.pn.toNat 8 ++ slice old 8 48 ++ leBytes e.b.pn.toNat 8

/-- R154, R314: CACHE_WRITEBACK: an evicted association's counters written back; on a failure the entry stays in the
cache. -/
def execCacheWriteback (idx : BitVec 24) (path : List PathObs) (s : State) : Host.Outcome State Fault Refusal :=
  .next (
    let s := s.useLine false (2 * idx.toNat + 1) (s.copies false)
    match s.keyDraw false 0 true with
    | none => s
    | some d =>
      let line := 2 * idx.toNat + 1
      if s.capacity ≤ idx.toNat ∨ s.reachable false line (s.copies false) = false then s
      else
        let r := s.verifyWrite false line path
        if r.2 = .good then
          (r.1.putLine false 0 d line ((r.1.assoc idx.toNat).counters (r.1.plainLine false d line)) path).1
        else if r.2 = .busError then r.1.fire 12 else r.1)

/-- R154: a cache bank holds table entries, where the caches are the whole tables. -/
def State.bankHolds (s : State) (d : Nat) : Bool :=
  s.tab.assocs.any (fun e => e.2.st != .empty && s.bankOf false e.1 == d)
    || s.tab.flows.any (fun (x : Flow) => s.bankOf true x.bucket == d)

/-- R154, R314: a cache bank writes back the entries of its own that DRAM does not have as they stand; one on a suspect line
raises MEM_INTEGRITY. -/
def State.writeBackBank (s : State) (d : Nat) : State :=
  match s.msc.tableKey with
  | none => s
  | some k =>
    let listed := (s.msc.lines.filter (fun e => e.1 % 2 == 0 && decide (2 ^ 40 ≤ e.1 / 2) == s.readCopy false)).map
      (fun e => e.1 / 2 % 2 ^ 40)
    (listed.filter (fun l => s.lineBank l == some d && s.plainLine false k l != s.tableBytes l)).foldl (fun t l =>
      if t.suspect false l then t.fire 12 else (t.useLines false [l]).ownStore false 0 k l (t.tableBytes l)) s

/-- R317: the number, since reset, of the scrub period that runs, with its length. -/
def State.scrubNow (s : State) : Nat × Nat :=
  let p := s.field .mscScrub 0 0 16
  (p, s.tb.elapsed / (p * 3600000000000))

/-- R317: PATROL_SCRUB_READ: as a read, with corrections counted in MSC_SCRUB_CE and no requester, once per line and period.
A line number from 2^39 on names the line that many lower in copy B of the table region (log entry 118). -/
def execPatrolScrubRead (buffer : Bool) (line : Nat) (path : List PathObs) (s : State) :
    Host.Outcome State Fault Refusal :=
  .next (
    let c := decide (2 ^ 39 ≤ line)
    let n := line % 2 ^ 39
    let done := if s.msc.scrubEra = s.scrubNow then s.msc.scrubbed else []
    if s.shedding = true ∨ s.field .mscScrub 0 0 16 = 0 ∨ (c = true ∧ (buffer = true ∨ s.msc.mirror = 0))
        ∨ done.contains (c, buffer, n) = true then s
    else if s.reachable buffer n [c] = false ∨ (s.keyDraw buffer (s.lineMki buffer n) false).isNone = true then
      s.useLine buffer n [c]
    else
      let s := s.useLine buffer n [c]
      let s := { s with msc := { s.msc with scrubEra := s.scrubNow, scrubbed := (c, buffer, n) :: done } }
      (s.verify true buffer c n .mscScrubCe path).1)

/-! ### Re-rooting and re-initialisation (R311, R315, R325) -/

/-- R311, R315, R319: REROOT_DONE: the range verifies again: its lines and nodes are written afresh with counters from the
write clocks; a re-initialisation of it is complete. At a clock's end the writes are refused and the range stays as it is (R303). -/
def execRerootDone (buffer : Bool) (first count : Nat) (s : State) : Host.Outcome State Fault Refusal :=
  .next (
    if s.msc.rerooting.contains (buffer, first, count) = false then s
    else if s.msc.done && !(s.copies buffer).all (fun b => s.freshRoom buffer b first count) then s.clockEnd
    else
      let t := if s.msc.done then (s.copies buffer).foldl (fun t b => t.freshen buffer b first count) s else s
      let mine := t.msc.reinit == some (buffer, first, count)
      { t with msc := { t.msc with
          rerooting := t.msc.rerooting.erase (buffer, first, count), result := if mine then 1 else t.msc.result
          reinit := if mine then none else t.msc.reinit } })

/-- R301, R325: the tree level of a line, that of the lines whose MACs it holds for a MAC line. -/
def State.treeLevel (s : State) (buffer : Bool) (level index : Nat) : Nat :=
  if level = 15 then s.macLevel buffer index else level

/-- R315: the suspect entries that a line or node covers. -/
def State.coveredSuspects (s : State) (buffer : Bool) (level index : Nat) : List (Bool × Nat × Nat) :=
  let c := s.cover buffer level index
  s.msc.suspects.filter (fun e =>
    let d := s.cover buffer e.2.1 e.2.2
    e.1 == buffer && decide (s.treeLevel buffer e.2.1 e.2.2 ≤ s.treeLevel buffer level index)
      && decide (c.1 ≤ d.1 ∧ d.1 + d.2 ≤ c.1 + c.2))

/-- R315, R325: a write of word 1 of MSC_LINE_REINIT with GO: RESULT is RANGE, or BUSY until the re-rooting ends; a
second GO meanwhile is taken, and RESULT follows the newest (DESIGN CHOICE, log entry 136). -/
def State.reinitWrite (s : State) (v : Word) : State :=
  let s := s.setReg .mscReinit1 0 0 (v &&& 0x1F)
  if !v.getLsbD 5 then s
  else
    let buffer := v.getLsbD 0
    let level := fld v 1 4
    let index := (s.reg .mscReinit0).toNat
    if !s.lineAt buffer level index then { s with msc := { s.msc with result := 2, reinit := none } }
    else
      let gone := s.coveredSuspects buffer level index
      let c := s.cover buffer level index
      let n := min c.2 (s.lines buffer - c.1)
      let s := s.record { type := 11, unit := EvUnit.msc.code, p0 := BitVec.ofNat 64 (regionNo buffer),
                          p1 := BitVec.ofNat 64 level, p2 := BitVec.ofNat 64 (index + gone.length * 2 ^ 32) }
      let s := { s with msc := { s.msc with
        suspects := s.msc.suspects.filter (fun e => !gone.contains e), result := 3, reinit := some (buffer, c.1, n) } }
      s.loseRange buffer c.1 n

/-! ### Timeouts and stacks (R316, R320) -/

/-- R321: MSC_MIRROR.STATE in mirror mode, from the stacks. -/
def State.mirrorNow (s : State) : BitVec 2 :=
  if s.msc.mirror = 0 then 0
  else if s.copyClear false (· != .ok) && s.copyClear true (· != .ok) then 1
  else if (List.range s.variant.stacks).any (fun st => tget .ok s.msc.stks st == .rebuilding) then 3
  else 2

/-- R320, R21: a stack fails, by a channel of it. In mirror mode the other copy serves; where that has a failed stack too,
or without mirror mode, the table lines of the stack are poisoned. -/
def State.failStack (s : State) (st ch : Nat) : State :=
  let s := s.loseBuffer (fun l => s.lineChannel true l / 4 == st)
  let m := s.msc
  let mask := tget 0 m.chFailed st
  let mask := if mask / 2 ^ ch % 2 = 1 then mask else mask + 2 ^ ch
  let s := { s with msc := { m with
    stks := tset .ok m.stks st .failed, chFailed := tset 0 m.chFailed st mask
    retried := m.retried.filter (fun r => r.ch / 4 != st) } }
  let s := s.event 0 .msc 2 st mask
  let s := s.faultRec false .msc 4 st 0
  let s := (List.range 4).foldl (fun s c => s.quarantineDom (64 + 4 * st + c) (s.dom (64 + 4 * st + c)).owed) s
  let s := { s with msc := { s.msc with mirror := s.mirrorNow } }
  let b := s.msc.serveB
  if s.msc.mirror ≠ 0 ∧ decide (s.variant.stacks / 2 ≤ st) ≠ b then s
  else if s.msc.mirror ≠ 0 ∧ s.copyClear (!b) (· != .ok) = true then { s with msc := { s.msc with serveB := !b } }
  else
    let chunks := s.lines false / 64
    let s := (List.range chunks).foldl (fun s c =>
      if s.lineChannel false (64 * c) b / 4 = st then (s.event 0 .msc 1 0 (64 * c) 64).poisonTable (64 * c) 64 else s) s
    s.enterRecovery 3

/-- R299: stack st of the variant has not failed. -/
def State.stackOk (s : State) (st : Nat) : Bool :=
  decide (st < s.variant.stacks) && tget .ok s.msc.stks st != .failed

/-- R316, R320: STACK_FAIL: a channel fails its interface training, or is marked failed. -/
def execStackFail (st ch : Nat) (s : State) : Host.Outcome State Fault Refusal :=
  .next (if s.stackOk st = true ∧ ch < 4 then s.failStack st ch else s)

/-- R316: elapsed ns at which the earliest request now waiting for a line was made; for a fetch that no lookup or host command
waits for (a spilled frame, deskew words, a card load, the scrub, a write-back) a time that the spec leaves open. -/
def State.fetchStart (s : State) (buffer : Bool) (line : Nat) : Nat :=
  let own := Config.fetchBegan buffer line s.tb.elapsed % (s.tb.elapsed + 1)
  if buffer then own
  else
    let looks := s.shu.bobs.flatMap (fun e => (e.2.pend.filter (s.lookNeeds line)).map (fun o => o.at_))
    let cmds := (List.range 64).filterMap (fun f => (s.commandNeeds line f).map (fun e => e.at_))
    let bulks := (List.range 64).filterMap (fun f =>
      if (s.bulkLines f).contains line then (s.handed f 1).map (fun e => e.at_) else none)
    ((looks ++ cmds ++ bulks).min?).getD own

/-- R316: a line of a region is held on a channel. -/
def State.onChannel (s : State) (ch : Nat) (buffer : Bool) (line : Nat) : Bool :=
  decide (line < s.lines buffer) && (s.copies buffer).any (fun b => s.lineChannel buffer line b == ch)

/-- R34, R316: DRAM_FETCH_TIMEOUT: a fetch not answered by the end of MSC_TIMEOUT.TIME: the first expiry retries, the second
fails the fetch with a bus error, and two failures in a row on different lines of a channel fail the channel. A line number
from 2^39 on names the line that many lower in the buffer region (log entry 118). -/
def execDramFetchTimeout (ch line : Nat) (s : State) : Host.Outcome State Fault Refusal :=
  .next (
    let m := s.msc
    let buffer := decide (2 ^ 39 ≤ line)
    let n := line % 2 ^ 39
    let time := s.field .mscTimeout 0 0 16
    let mine (r : Retried) : Bool := r.ch == ch && r.buffer == buffer && r.line == n
    if s.channels ≤ ch ∨ s.stackOk (ch / 4) = false ∨ s.onChannel ch buffer n = false then s
    else match m.retried.find? mine with
      | none =>
        if s.tb.elapsed ≤ s.fetchStart buffer n + time then s
        else { s with msc := { m with
            retried := { ch := ch, buffer := buffer, line := n, at_ := s.tb.elapsed } :: m.retried
            expired := tset 0 m.expired ch (tget 0 m.expired ch + 1) } }
      | some r =>
        if s.tb.elapsed ≤ r.at_ + time then s
        else
          let last := tget none m.lastFail ch
          let s := { s with msc := { m with
            retried := m.retried.filter (fun r => !mine r), expired := tset 0 m.expired ch (tget 0 m.expired ch + 1)
            lastFail := tset none m.lastFail ch (some (buffer, n)) } }
          let s := (s.occur .mscTimeoutFail ch).faultRequests buffer n
          if last.isSome ∧ last ≠ some (buffer, n) then s.failStack (ch / 4) (ch % 4) else s)

/-- R34, R316: DRAM_LATE_ARRIVAL: the answer of a fetch that has expired. -/
def execDramLateArrival (ch : Nat) (s : State) : Host.Outcome State Fault Refusal :=
  .next (
    let n := tget 0 s.msc.expired ch
    if s.channels ≤ ch ∨ n = 0 then s
    else { s with msc := { s.msc with expired := tset 0 s.msc.expired ch (n - 1) } }.occur .mscLate ch)

/-- R320, R21: a returned stack holds its lines again: ACTIVE, MIRROR_REBUILT and the RECOVERY record. -/
def execMirrorRebuildDone (st : Nat) (s : State) : Host.Outcome State Fault Refusal :=
  .next (
    let m := s.msc
    if tget .ok m.stks st ≠ .rebuilding then s
    else
      let b := decide (s.variant.stacks / 2 ≤ st)
      let s := if b = s.msc.serveB then s else s.copyOver b 0 (s.lines false)
      let s := { s with msc := { s.msc with stks := tset .ok m.stks st .ok, chFailed := tset 0 m.chFailed st 0 } }
      let s := { s with msc := { s.msc with mirror := s.mirrorNow } }
      (s.event 0 .msc 4 st).faultRec true .msc 4 st 0)

/-! ### Initialisation (R305, R318, R322) -/

/-- R305, R322: a write of MSC_INIT. -/
def State.mscInitWrite (s : State) (v : Word) : State :=
  if v.getLsbD 0 && !s.msc.go then { s with msc := { s.msc with go := true, busy := true } } else s

/-- R302: n sets of three keys drawn. -/
def State.drawKeys (s : State) : Nat → State
  | 0 => s
  | n + 1 => State.drawKeys s.draw.2.draw.2.draw.2 n

/-- R305, R493: every present DRAM channel is FRESH. -/
def State.dramFresh (s : State) : Bool := (List.range s.channels).all (fun c => (s.dom (64 + c)).ready == .fresh)

/-- R305, R493: MSC_INIT_START: the region keys are drawn and the write of every line begins. -/
def execMscInitStart (s : State) : Host.Outcome State Fault Refusal :=
  .next (
    if s.msc.go = false ∨ s.msc.started = true ∨ s.kcu.drbg ≠ 2 ∨ s.dramFresh = false then s
    else
      let n := s.kcu.draws
      let s := s.drawKeys 257
      let keys := (List.range 256).map (fun k => (k, ({ st := .active, draw := n + 3 + 3 * k } : Mki)))
      { s with msc := { s.msc with
          started := true, busy := true, tableKey := some n, mkis := keys
          mirror := if s.field .mscMirror 0 0 1 = 1 then 1 else 0, serveB := false } })

/-- R305, R318: MSC_INIT_DONE: every line and node of both regions has been written afresh, table entries EMPTY; a
re-initialisation asked for before is done with it. -/
def execMscInitDone (s : State) : Host.Outcome State Fault Refusal :=
  .next (
    if s.msc.started = false ∨ s.msc.done = true ∨ s.msc.tableKey = none then s
    else
      let m := s.msc
      let s := { s with
        msc := { m with
          done := true, busy := false, lines := [], nodes := [], passes := [], rerooting := []
          result := if m.reinit.isSome then 1 else m.result, reinit := none }
        tab := { s.tab with assocs := [], flows := [] } }
      let s := (s.copies false).foldl (fun t b => t.freshen false b 0 (t.lines false)) s
      s.freshen true false 0 (s.lines true))

/-! ### Memory key indexes (R306, R307, R327, R328) -/

/-- R328: registers SCH_Q_MAP and WOV_RX_CFG that name memory key index k. -/
def State.mkiRefs (s : State) (k : Nat) : Nat :=
  let q := s.listed 0xE0_400C 16 16384
  q.countP (fun i => s.field .schQMap i 11 8 == k) + (if k = 0 then 16384 - q.length else 0)
    + (List.range 8).countP (fun g => s.field .wovRxCfg g 16 8 == k)

/-- R328: spill extents and deskew shares held under index k, a share counting as its extents. -/
def State.mkiExtents (s : State) (k : Nat) : Nat :=
  s.usedExtents.countP (fun e => e.2 == k)
    + (List.range 8).countP (fun g => s.deepDeskew g && s.field .wovRxCfg g 16 8 == k) * (s.variant.shareLines / 1024)

/-- R307, R327: a write of MSC_MKI_CTL; RETIRE of an index that holds no key, or that retires already, is rejected as well
(DESIGN CHOICE, log entry 136). -/
def State.mkiCtlWrite (s : State) (v : Word) : State :=
  let k := fld v 0 8
  let m := tget {} s.msc.mkis k
  if !v.getLsbD 31 then s
  else if m.st ≠ .active ∨ s.mkiRefs k ≠ 0 then s.setRegBit .mscStat 0
  else { s with msc := { s.msc with mkis := tset {} s.msc.mkis k { m with st := .retiring } } }

/-- R307: a configuration that names a RETIRING index is rejected. -/
def State.mkiRetiring (s : State) (k : Nat) : Bool := (tget {} s.msc.mkis k).st == .retiring

/-- R307: MKI_RETIRED: the last extent is freed: new keys, ACTIVE again, and the event. -/
def execMkiRetired (k : Nat) (s : State) : Host.Outcome State Fault Refusal :=
  .next (
    if s.mkiRetiring k = false ∨ s.mkiExtents k ≠ 0 ∨ s.kcu.drbg ≠ 2 then s
    else
      let n := s.kcu.draws
      let s := s.drawKeys 1
      let s := { s with msc := { s.msc with mkis := tset {} s.msc.mkis k { st := .active, draw := n } } }
      s.event 0 .msc 3 k)

end Sys2Proof.Machine
end

