-- ==== Sys2Proof/Machine/Lines.lean ====
section
/-! DEFINITION. Warp lanes and their ports (R330 to R338, R355 to R359): link state, loss of signal and of lock, link
training, the PRBS checker, and what the writes of the port and lane registers do. -/

namespace Sys2Proof.Machine

/-- R331: the lanes that the port with first lane p covers. -/
def State.portLanes (s : State) (p : Nat) : List Nat := (List.range (modeWidth (s.portMode p))).map (fun i => p + i)

/-- R331: the port that lane l belongs to: the enabled port that covers it, otherwise its own number. -/
def State.portOfLane (s : State) (l : Nat) : Nat :=
  match (List.range 8).find? (fun d =>
      decide (d ≤ l % 32) && s.portEn (l - d) && decide (d < modeWidth (s.portMode (l - d)))) with
  | some d => l - d
  | none => l

/-- R332: FEC runs on a port. -/
def State.runsFec (s : State) (p : Nat) : Bool :=
  decide (3 ≤ s.portMode p ∧ s.portMode p ≤ 11) || (s.portMode p == 2 && (s.reg .lnePortCfg p).getLsbD 7)

/-- R334, R461: what LINK of a port is now; a quad that is not FRESH takes no work. -/
def State.linkNow (s : State) (p : Nat) : Bool :=
  s.portEn p && decide (0 < modeWidth (s.portMode p)) && s.portMode p != 12
    && (s.portLanes p).all (fun l => (s.dom (48 + l / 4)).ready == .fresh)
    && (s.portLanes p).all (fun l => !(s.lane l).los && !(s.lane l).lol && (s.lane l).locked)

/-- R334: LINK of a port brought up to date, a change raising LINK_CHANGE. -/
def State.updateLink (s : State) (p : Nat) : State :=
  let up := s.linkNow p
  if up = (s.port p).link then s
  else (s.setPort p { s.port p with link := up }).event 0 .lne 1 p (if up then 1 else 0)

/-- R249, R252: a lane's defects, and those of its group, evaluated after a change that is no lane frame. -/
def State.evalMember (s : State) (l : Nat) : State :=
  if 32 ≤ l then
    match s.groupOf (l - 32) with
    | some g => (s.evalLane (l - 32) false none).evalGroup g true false none
    | none => s
  else s

/-- R250, R334, R337: LOS_DETECTOR_CHANGE: what the two detectors of a lane report; a report without a change evaluates the
times of R250 again. -/
def execLosDetectorChange (lane : Nat) (los lol : Bool) (s : State) : Host.Outcome State Fault Refusal :=
  .next (
    if s.variant.lane lane = false then s
    else
      let L := s.lane lane
      let s := s.setLane lane { L with
        los := los, lol := lol
        losAt := if los = L.los then L.losAt else s.tb.elapsed
        lolAt := if lol = L.lol then L.lolAt else s.tb.elapsed }
      (s.evalMember lane).updateLink (s.portOfLane lane))

/-- R214, R250, R357: what the PCS of a lane reports: block lock, and a loss of FEC alignment under it. A member lane starts
its hunt, or stops it, as it gains or loses the two. -/
def State.setPcs (s : State) (lane : Nat) (block fecLost : Bool) : State :=
  let L := s.lane lane
  let member : Bool := decide (32 ≤ lane) && (s.groupOf (lane - 32)).isSome
  if block = L.block ∧ fecLost = L.fecLost then s
  else if member then
    let s := s.sectionBlock (lane - 32) none
    (s.setLane lane { (s.lane lane).lof 0 [] with block := block, fecLost := fecLost }).evalMember lane
  else s.setLane lane { L with block := block, fecLost := fecLost }

/-- R214, R250: block lock and FEC alignment of a lane gained, or block lock lost. -/
def State.setBlock (s : State) (lane : Nat) (locked : Bool) : State := s.setPcs lane locked false

/-- R333: the port runs link training before its PCS starts. -/
def State.trains (s : State) (p : Nat) : Bool :=
  let w := s.reg .lnePortCfg p
  w.getLsbD 0 && w.getLsbD 8 && fld w 5 2 != 0 && decide (0 < modeWidth (fld w 1 4)) && fld w 1 4 != 12

/-- R333: link training of a port runs: its PCS has not started. -/
def State.training (s : State) (p : Nat) : Bool :=
  s.trains p && !(s.port p).trainDone && !(s.portLanes p).all (fun l => (s.lane l).block)

/-- R332, R356: the PCS of a port runs: the port is enabled, in a mode that has one. -/
def State.pcsRuns (s : State) (p : Nat) : Bool := s.portEn p && decide (0 < modeWidth (s.portMode p)) && s.portMode p != 12

/-- R214, R250, R332, R333, R334: BLOCK_LOCK_CHANGE; a lane whose port runs no PCS, or is still training, gains no lock. -/
def execBlockLockChange (lane : Nat) (locked : Bool) (s : State) : Host.Outcome State Fault Refusal :=
  .next (if s.variant.lane lane = false ∨ (locked = true ∧ (s.dom (48 + lane / 4)).up = false)
      ∨ (locked = true ∧ (s.pcsRuns (s.portOfLane lane) = false ∨ s.training (s.portOfLane lane) = true)) then s
    else (s.setBlock lane locked).updateLink (s.portOfLane lane))

/-- R332, R333, R334, R357: LINK_CHANGE: the PCS of a port that runs one reports block lock and, where FEC runs, FEC alignment, its report
following the training where the port trains; or their loss, where FEC runs that of FEC alignment. -/
def execLinkChange (port : Nat) (up : Bool) (s : State) : Host.Outcome State Fault Refusal :=
  .next (
    if s.variant.lane port = false ∨ s.pcsRuns port = false
        ∨ (up = true ∧ (s.portLanes port).any (fun l => !(s.dom (48 + l / 4)).up) = true) then s
    else
      let s := if up && s.trains port then s.setPort port { s.port port with trainDone := true } else s
      ((s.portLanes port).foldl (fun s l =>
        if up then s.setBlock l true
        else if s.runsFec port then s.setPcs l (s.lane l).block (s.lane l).block
        else s.setBlock l false) s).updateLink port)

/-- R333: LINK_TRAINING_TIMEOUT: 500 ms without completion. -/
def execLinkTrainingTimeout (port : Nat) (s : State) : Host.Outcome State Fault Refusal :=
  .next (
    let P := s.port port
    if s.training port = false ∨ s.tb.elapsed < P.trainAt + 500000000 then s
    else (s.setPort port { P with trainFail := true, trainAt := s.tb.elapsed }).occur .lneTrainFail port)

/-- R338: the checker of a lane runs: enabled, with a pattern, in mode 12 or on a lane whose port is disabled. -/
def State.checks (s : State) (lane : Nat) : Bool :=
  let p := s.portOfLane lane
  (s.reg .lneLaneCfg lane).getLsbD 6 && s.field .lneLaneCfg lane 2 3 != 0 && (!s.portEn p || s.portMode p == 12)

/-- R338: PRBS_LOCK_CHANGE: the checker of a lane locks, having seen 256 bits without error, or loses lock, having counted a
number of errored bits while it was locked, 64 of the last 256 at least; told that it is still locked, it has counted so many
more. -/
def execPrbsLockChange (lane : Nat) (locked : Bool) (errors : Nat) (s : State) : Host.Outcome State Fault Refusal :=
  .next (
    let L := s.lane lane
    let run := L.prbsRun + errors
    if s.variant.lane lane = false ∨ s.checks lane = false ∨ (L.prbsLock = true ∧ locked = false ∧ run < 64) then s
    else s.setLane lane { L with
      prbsLock := locked
      prbsRun := if L.prbsLock && locked then run else 0
      prbsLost := L.prbsLost || (L.prbsLock && !locked)
      prbsErr := if L.prbsLock then satTo (2 ^ 48 - 1) (L.prbsErr + errors) else L.prbsErr })

/-- R338: the generator of a lane runs: enabled, with a pattern, in mode 12 or on a lane whose port is disabled. -/
def State.generates (s : State) (lane : Nat) : Nat :=
  let p := s.portOfLane lane
  if (s.reg .lneLaneCfg lane).getLsbD 5 && (!s.portEn p || s.portMode p == 12) then s.field .lneLaneCfg lane 2 3 else 0

/-- R332, R358: a lane runs at a PAM4 rate. -/
def State.pam4 (s : State) (lane : Nat) : Bool :=
  let m := s.portMode (s.portOfLane lane)
  if m = 12 then decide (3 ≤ s.field .lneLaneCfg lane 7 3) else m == 3 || decide (5 ≤ m)

/-- R338: the lanes of a list whose generator sends another pattern than before, or the same otherwise coded, show it. -/
def State.showPrbs (s old : State) (lanes : List Nat) : State :=
  lanes.foldl (fun t l =>
    let now := (s.generates l, s.generates l != 0 && s.pam4 l)
    if now = (old.generates l, old.generates l != 0 && old.pam4 l) then t else t.emit (.lanePrbs l now.1 now.2)) s

/-! ### Register writes (R331, R332, R336, R338, R355 to R358) -/

/-- R355: an LNE register write rejected. -/
def State.lneReject (s : State) : State := s.setRegBit .lneStat 0

/-- R332, R356: MODE, ELEC and FEC of a port configuration are a supported combination. -/
def modeOk (v : Word) : Bool :=
  let mode := fld v 1 4
  let elec := fld v 5 2
  decide (mode ≤ 12) && decide (elec ≤ 2) && (!v.getLsbD 7 || mode == 2)
    && !(mode == 1 && elec == 2) && !(mode == 9 && elec != 0)

/-- R331: another enabled port has a lane among the w lanes from p on. -/
def State.overlaps (s : State) (p w : Nat) : Bool :=
  (List.range w).any (fun i => (List.range 64).any (fun q =>
    q != p && s.portEn q && decide (q ≤ p + i ∧ p + i < q + modeWidth (s.portMode q))))

/-- R331, R332, R336, R356: what forbids a write of LNE_PORT_CFG. -/
def State.portCfgBad (s : State) (p : Nat) (v : Word) : Bool :=
  let old := s.reg .lnePortCfg p
  let w := modeWidth (fld v 1 4)
  let held : Bool := decide (32 ≤ p) && (match s.groupOf (p - 32) with
    | some g => s.grpOn g
    | none => false)
  held || !modeOk v || decide (0 < w ∧ p % 32 % w ≠ 0) || (List.range w).any (fun i => !s.variant.lane (p + i))
    || s.overlaps p (max w (if v.getLsbD 0 then 1 else 0))
    || (old.getLsbD 0 && (old ^^^ v) &&& 0xFE != 0) || decide (fld v 16 14 < 60 ∨ 16128 < fld v 16 14)

/-- R334, R356: a write of LNE_PORT_CFG; a PCS that starts or stops has reported no lock yet. -/
def State.portCfgWrite (s : State) (p : Nat) (v : Word) : State :=
  if s.portCfgBad p v then s.lneReject
  else
    let old := s
    let was := s.portEn p
    let began : Bool := v.getLsbD 0 && !was
    let s := s.setReg .lnePortCfg p 0 v
    let s := if began then s.setPort p { s.port p with trainDone := false, trainAt := s.tb.elapsed } else s
    let s := if began || was && !v.getLsbD 0 then (s.portLanes p).foldl (fun s l => s.setBlock l false) s else s
    let s := if began && s.portMode p != 12 then (s.portLanes p).foldl (fun s l =>
        if (s.lane l).prbsLock then s.setLane l { s.lane l with prbsLock := false, prbsRun := 0 } else s) s
      else s
    (s.updateLink p).showPrbs old ((List.range (max 1 (max (modeWidth (old.portMode p)) (modeWidth (s.portMode p))))).map (p + ·))

/-- R338, R358: a write of LNE_LANE_CFG. -/
def State.laneCfgWrite (s : State) (l : Nat) (v : Word) : State :=
  let p := s.portOfLane l
  let prbs : Bool := s.portMode p == 12
  let tests : Bool := v.getLsbD 5 || v.getLsbD 6
  if fld v 2 3 = 7 ∨ 5 < fld v 7 3 ∨ (fld v 7 3 ≠ 0 ∧ prbs = false)
      ∨ (tests = true ∧ s.portEn p = true ∧ prbs = false) then s.lneReject
  else
    let old := s
    let s := s.setReg .lneLaneCfg l 0 (v &&& 0x7FFF)
    let L := s.lane l
    let L := if v.getLsbD 15 then { L with prbsErr := 0 } else L
    (s.setLane l (if v.getLsbD 6 then L else { L with prbsLock := false, prbsRun := 0 })).showPrbs old [l]

end Sys2Proof.Machine
end

