-- ==== Sys2Proof/Machine/Weft.lean ====
section
/-! DEFINITION. Weft ports (R339 to R354): sideband messages and training, link states, link keys, the sending and
receiving of items with their retransmission, and the latency budget. The device's identity (R397) stands here too. -/

namespace Sys2Proof.Machine

/-! ### The device identity (R397) -/

/-- R397: the identity private key. -/
def identityKey : Nat := beNat (rootKey "identity" 56) % (p384N - 1) + 1

/-- R397: the identity public key, 97 bytes uncompressed. -/
def identityPub : Bytes := 4 :: publicOf identityKey

/-- An ECDSA signature by a private key over a message, with the next random nonce. -/
def State.sign (s : State) (d : Nat) (msg : Bytes) : Bytes × State :=
  let r := s.freeNo
  (ecdsaSign d (sha384 msg) (Config.ecdsaNonce r.1), r.2)

/-! ### Sideband messages (R341) -/

/-- R341: a sideband message on the wire; the CRC covers TYPE, LEN and the payload. -/
def sbMessage (type : Byte) (payload : Bytes) : Bytes :=
  let m := type :: beBytes payload.length 2 ++ payload
  0x5C :: m ++ fcs m

/-- R341: the message types that exist. -/
def sbTypes : List Byte := [0x01, 0x02, 0x03, 0x10, 0x11, 0x12, 0x20]

/-- R341: a message is discarded: its start byte, TYPE, LEN or CRC is wrong. -/
def sbBad (msg : Bytes) : Bool :=
  let len := beNat (slice msg 2 2)
  msg.getD 0 0 != 0x5C || !sbTypes.contains (msg.getD 1 0) || decide (1024 < len) || msg.length != len + 8
    || fcs (slice msg 1 (3 + len)) != msg.drop (4 + len)

/-- R341: SIDEBAND_MESSAGE_ERROR: a bad message is discarded and counted. -/
def execSidebandMessageError (n : Nat) (msg : Bytes) (s : State) : Host.Outcome State Fault Refusal :=
  .next (if n < s.variant.weftPorts ∧ sbBad msg = true then s.occur .wftSbErr n else s)

/-- R341: a message sent. -/
def State.sbSend (s : State) (n : Nat) (type : Byte) (payload : Bytes) : State :=
  s.emit (.sideband n (sbMessage type payload))

/-- R341: a request sent, which waits for its answer. -/
def State.sbRequest (s : State) (n : Nat) (type : Byte) (payload : Bytes) : State :=
  (s.sbSend n type payload).setWport n { s.wport n with sbReq := some (type, payload, s.tb.elapsed) }

/-- R341: the waiting request of a type has its answer. -/
def Weft.answered (w : Weft) (type : Byte) : Weft :=
  match w.sbReq with
  | some (t, _, _) => if t = type then { w with sbReq := none } else w
  | none => w

/-- R341: SIDEBAND_RETRY: 20 µs without an answer. -/
def execSidebandRetry (n : Nat) (s : State) : Host.Outcome State Fault Refusal :=
  .next (match (s.wport n).sbReq with
    | some (type, payload, since) =>
      if s.tb.elapsed < since + 20000 then s else s.sbRequest n type payload
    | none => s)

/-! ### Training (R342) -/

/-- R342: a tap setting is allowed. -/
def tapsOk (t : Nat × Nat × Nat) : Bool :=
  decide (t.1 ≤ 15 ∧ 24 ≤ t.2.1 ∧ t.2.1 ≤ 63 ∧ t.2.2 ≤ 31 ∧ 2 * (t.1 + t.2.2) ≤ t.2.1)

/-- R342: one tap (0 PRE, 1 MAIN, 2 POST) stepped by a request code (0 HOLD, 1 INC, 2 DEC), with its answer (0 UPDATED,
1 AT_LIMIT, 2 NOT_UPDATED). -/
def tapStep (t : Nat × Nat × Nat) (tap code : Nat) : (Nat × Nat × Nat) × Byte :=
  let move (v : Nat) : Option Nat := if code = 1 then some (v + 1) else if v = 0 then none else some (v - 1)
  if code = 0 then (t, 2)
  else
    let new := match tap with
      | 0 => (move t.1).map (fun v => (v, t.2.1, t.2.2))
      | 1 => (move t.2.1).map (fun v => (t.1, v, t.2.2))
      | _ => (move t.2.2).map (fun v => (t.1, t.2.1, v))
    match new with
    | some u => if tapsOk u then (u, 0) else (t, 1)
    | none => (t, 1)

/-- R341, R342: TRAIN_REQ: a lane's taps stepped, preset or initialised, and answered. The payload is the lane, 0 STEPS,
1 PRESET or 2 INIT, and the three step codes. -/
def execTrainReq (n : Nat) (payload : Bytes) (s : State) : Host.Outcome State Fault Refusal :=
  .next (
    let w := s.wport n
    let b (i : Nat) : Nat := (payload.getD i 0).toNat
    if w.st ≠ .train ∨ payload.length ≠ 5 ∨ 15 < b 0 ∨ 2 < b 1 ∨ 2 < b 2 ∨ 2 < b 3 ∨ 2 < b 4 then s
    else
      let old := tget (4, 51, 8) w.taps (b 0)
      let r : (Nat × Nat × Nat) × Bytes :=
        if b 1 = 1 then ((0, 63, 0), [0, 0, 0])
        else if b 1 = 2 then ((4, 51, 8), [0, 0, 0])
        else
          let x := tapStep old 0 (b 2)
          let y := tapStep x.1 1 (b 3)
          let z := tapStep y.1 2 (b 4)
          (z.1, [x.2, y.2, z.2])
      (s.setWport n { w with taps := tset (4, 51, 8) w.taps (b 0) r.1 }).sbSend n 0x02 (payload.take 1 ++ r.2))

/-- R342: this end's receiver asks for a step of a lane's taps; which one follows its eye measure (free). -/
def State.askTaps (s : State) (n lane : Nat) : State :=
  let r := s.freeBits
  let code (i : Nat) : Byte := BitVec.ofNat 8 (r.1.toNat / 4 ^ i % 4 % 3)
  r.2.sbRequest n 0x01 [BitVec.ofNat 8 lane, 0, code 0, code 1, code 2]

/-- R341, R342: TRAIN_RSP: the outcome of the request; the next lane is stepped while the eye measure has not passed. -/
def execTrainRsp (n : Nat) (payload : Bytes) (s : State) : Host.Outcome State Fault Refusal :=
  .next (
    let w := s.wport n
    let lane := (payload.getD 0 0).toNat
    if w.st ≠ .train ∨ payload.length ≠ 4 ∨ 15 < lane then s
    else
      let w := { w with tapRsp := tput w.tapRsp lane (payload.drop 1) }.answered 0x01
      let s := s.setWport n w
      if w.doneTx then s else s.askTaps n ((lane + 1) % 16))

/-! ### Link states (R343) -/

/-- R342, R343: a state entered, and reported to the peer; in TRAIN every data lane sends PRBS31. -/
def State.weftEnter (s : State) (n : Nat) (st : WeftSt) : State :=
  let code : Byte := match st with
    | .none => 0
    | .down => 1
    | .train => 2
    | .lock => 3
    | .key => 4
    | .up => 5
  let s := (s.setWport n { s.wport n with st := st, since := s.tb.elapsed, sbReq := none }).sbSend n 0x20 [code]
  if st = .train then s.emit (.weftPrbs n) else s

/-- R343, R344: the key agreement's temporary values destroyed. -/
def Weft.forget (w : Weft) : Weft :=
  { w with helloTx := [], helloRx := [], eph := 0, shareRx := [], shareTx := [], derived := none, sbReq := none }

/-- R344, R345, R350: what a link loses when it leaves UP: keys, numbers, timers and control items. -/
def Weft.fresh (w : Weft) : Weft :=
  { w.forget with
    keyed := false, peer := 0, linkTime := 0, refusedAt := none, rekeying := false, txKey := none, rxKey := none
    newTx := none, newRx := none, txSeq := 1, rxSeq := 0, txFn := 0, rxFn := 0, ctl := [], ackAt := none, expiries := 0
    sinceAck := 0, lastAck := 0, lastTime := 0, stamps := (0, 0), doneTx := false, doneRx := false, lanes := []
    wait := [], unacked := [], resend := [], txBlock := 0, scr := [] }

/-- R352: a FRAME routed: joined to a port's transmit order, or discarded and counted; `lost` counts a frame without a
route. -/
def State.routeWeft (s : State) (f : WFrame) (lost : State → State) : State :=
  match (if reservedId f.dest.toNat then none else s.routeTo f.dest.toNat) with
  | none => lost s
  | some n => if f.via = some n then s.occur .wftUTurn n else s.weftQueue n f

/-- R343, R344, R354: a link leaves UP for DOWN: WFT_LINK_DOWN, keys destroyed, FRAMEs routed again but for those whose
SKIP has been sent (R349). -/
def State.weftDown (s : State) (n : Nat) : State :=
  let w := s.wport n
  if w.st ≠ .up then s
  else
    let fs := (w.unacked ++ w.resend ++ w.wait).filter (fun f => f.budget != 0)
    let s := (s.setWport n w.fresh).weftEnter n .down
    let s := s.event 0 .wft 2 n 5
    fs.foldl (fun s f => s.routeWeft f (fun s => s.occurWeft f .wftLinkDrop n)) s

/-- R343: a link returns to DOWN from another state. -/
def State.weftReset (s : State) (n : Nat) : State :=
  if (s.wport n).st = .up then s.weftDown n else (s.setWport n (s.wport n).fresh).weftEnter n .down

/-! ### Key agreement (R344) -/

/-- R344: the KCU can serve the agreement: the identity exists and the DRBG gives output. -/
def State.canAgree (s : State) : Bool := s.kcu.root && s.kcu.drbg == 2 && s.kcu.cascade.isSome

/-- R344: step 1: KEY_HELLO sent. -/
def State.sendHello (s : State) (n : Nat) : State :=
  match s.kcu.cascade with
  | none => s
  | some cert =>
    if !s.canAgree then s
    else
      let r := s.draw
      let hello := beBytes s.devId 2 ++ bytes256 r.1 ++ cert
      let s := r.2.setWport n { (s.wport n).forget with helloTx := hello, refusedAt := none }
      s.sbRequest n 0x10 hello

/-- R344: the agreement is refused or fails: KEY again after 1 s, or DOWN for an UP link (R345). -/
def State.refuseAgreement (s : State) (n : Nat) : State :=
  if (s.wport n).st = .up then s.weftDown n
  else s.setWport n { (s.wport n).forget with refusedAt := some s.tb.elapsed }

/-- R398: a cascade certificate verifies under the anchor in OTP. -/
def State.certOk (s : State) (cert : Bytes) : Bool :=
  match s.otpItem 6 with
  | none => false
  | some anchor =>
    slice cert 0 4 == [0x57, 0x46, 0x43, 0x31] && beNat (slice cert 4 2) == 1 && zeros cert 105 7
      && ecdsaVerify (anchor.drop 1) (sha384 (slice cert 0 112)) (slice cert 112 96)

/-- R344: the weft device ID in a HELLO. -/
def helloId (h : Bytes) : Nat := beNat (slice h 0 2)

/-- R344: the peer is refused for its HELLO. -/
def State.peerBad (s : State) (n : Nat) (h : Bytes) : Bool :=
  let id := helloId h
  let want := s.field .wftPortCfg n 16 16
  let cert := slice h 34 208
  !s.certOk cert || beNat (slice cert 6 2) != id || (want != 0 && want != id) || id == s.devId

/-- R344: both HELLOs, lower device ID first. -/
def Weft.hellos (w : Weft) : Bytes :=
  if helloId w.helloTx < helloId w.helloRx then w.helloTx ++ w.helloRx else w.helloRx ++ w.helloTx

/-- R344: step 2: KEY_SHARE sent with a fresh ephemeral key. -/
def State.sendShare (s : State) (n : Nat) : State :=
  let e := s.freeNo
  let pub : Bytes := 4 :: publicOf (Config.ephemeralKey e.1)
  let r := e.2.sign identityKey ((s.wport n).hellos ++ pub)
  let share := pub ++ r.1
  (r.2.setWport n { s.wport n with eph := e.1, shareTx := share }).sbRequest n 0x11 share

/-- R343, R344: the state in which agreement messages are taken. -/
def Weft.agrees (w : Weft) : Bool := w.st == .key || w.st == .up

/-- R344: KEY_HELLO received: checked, and answered by KEY_SHARE; the peer of an UP link that begins a rekey is followed. -/
def execKeyHello (n : Nat) (payload : Bytes) (s : State) : Host.Outcome State Fault Refusal :=
  .next (
    let w := s.wport n
    if w.agrees = false ∨ payload.length ≠ 242 ∨ s.canAgree = false ∨ w.refusedAt ≠ none then s
    else if w.helloRx = payload ∧ w.shareTx ≠ [] then s.sbSend n 0x11 w.shareTx
    else if s.peerBad n payload then (s.event 0 .wft 3 n (helloId payload)).refuseAgreement n
    else
      let s := if w.helloTx = [] then
          (s.setWport n { w with rekeying := w.rekeying || w.st == .up }).sendHello n
        else s
      let s := s.setWport n { ((s.wport n).answered 0x10) with
        helloRx := payload, shareRx := [], shareTx := [], derived := none }
      s.sendShare n)

/-- R344: step 3: what both ends derive: the 72 bytes of the two directions, and the confirmation key. -/
def Weft.derive (w : Weft) (peerPub : Bytes) : Option (Bytes × Bytes) :=
  match ecdh (Config.ephemeralKey w.eph) (peerPub.drop 1) with
  | none => none
  | some z =>
    let low : Bool := decide (helloId w.helloTx < helloId w.helloRx)
    let nt := slice w.helloTx 2 32
    let nr := slice w.helloRx 2 32
    let nonces := if low then nt ++ nr else nr ++ nt
    some (kdf384 z (ascii "weft link") nonces 72, kdf384 z (ascii "weft confirm") nonces 48)

/-- R344: the confirmation over the transcript: the HELLOs and the SHAREs, lower device ID first. -/
def Weft.finish (w : Weft) (key : Bytes) : Bytes :=
  let low : Bool := decide (helloId w.helloTx < helloId w.helloRx)
  hmac384 key (w.hellos ++ if low then w.shareTx ++ w.shareRx else w.shareRx ++ w.shareTx)

/-- R344: KEY_SHARE received: its signature verified, the keys derived, KEY_FINISH sent. -/
def execKeyShare (n : Nat) (payload : Bytes) (s : State) : Host.Outcome State Fault Refusal :=
  .next (
    let w := s.wport n
    if w.agrees = false ∨ payload.length ≠ 193 ∨ w.helloRx = [] ∨ w.shareTx = [] ∨ w.refusedAt ≠ none then s
    else if w.shareRx = payload then
      match w.derived with
      | some d => s.sbSend n 0x12 (w.finish d.2)
      | none => s
    else
      let pub := slice payload 0 97
      let signer := (slice w.helloRx 42 97).drop 1
      if payload.getD 0 0 ≠ 4 ∨ ecdsaVerify signer (sha384 (w.hellos ++ pub)) (slice payload 97 96) = false then
        s.refuseAgreement n
      else match w.derive pub with
        | none => s.refuseAgreement n
        | some d =>
          let w := { w.answered 0x11 with shareRx := payload, derived := some d }
          (s.setWport n w).sbRequest n 0x12 (w.finish d.2))

/-- R344, R345: the keys of both directions installed: at once, or held until KEYSWITCH on an UP link. -/
def Weft.install (w : Weft) (d : Bytes) (now : Nat) : Weft :=
  let low : Bool := decide (helloId w.helloTx < helloId w.helloRx)
  let a : LinkKey := ⟨slice d 0 32, slice d 32 4⟩
  let b : LinkKey := ⟨slice d 36 32, slice d 68 4⟩
  let tx := if low then a else b
  let rx := if low then b else a
  let id := BitVec.ofNat 16 (helloId w.helloRx)
  if w.st = .up then
    { w.forget with newTx := some tx, newRx := some rx, ctl := w.ctl ++ [.keyswitch], keyedAt := now, rekeying := false }
  else
    { w.forget with
      txKey := some tx, rxKey := some rx, txSeq := 1, rxSeq := 0, keyed := true, peer := id, keyedAt := now }

/-- R344: KEY_FINISH received: the transcript confirmed and the keys installed, or the link back to KEY. -/
def execKeyFinish (n : Nat) (payload : Bytes) (s : State) : Host.Outcome State Fault Refusal :=
  .next (
    let w := s.wport n
    match w.derived with
    | none => s
    | some d =>
      if w.agrees = false then s
      else if payload = w.finish d.2 then s.setWport n (w.install d.1 s.tb.elapsed)
      else s.refuseAgreement n)

/-- R343: WEFT_KEY_RETRY: 1 s after a refused agreement KEY begins again. -/
def execWeftKeyRetry (n : Nat) (s : State) : Host.Outcome State Fault Refusal :=
  .next (
    let w := s.wport n
    match w.refusedAt with
    | some t =>
      if w.st = .key ∧ t + 1000000000 ≤ s.tb.elapsed then (s.setWport n { w with refusedAt := none }).sendHello n else s
    | none => if w.st = .key ∧ w.helloTx = [] ∧ w.keyed = false then s.sendHello n else s)

/-- R345: WEFT_REKEY_TIMER: an UP link agrees a new key pair at its interval or at the sequence limit. -/
def execWeftRekeyTimer (n : Nat) (s : State) : Host.Outcome State Fault Refusal :=
  .next (
    let w := s.wport n
    let due : Bool := decide (w.keyedAt + 60000000000 * s.field .wftPortBudget n 16 16 ≤ s.tb.elapsed)
      || decide (2 ^ 64 - 2 ^ 32 ≤ w.txSeq)
    if w.st ≠ .up ∨ w.rekeying = true ∨ w.newTx ≠ none ∨ due = false then s
    else if s.canAgree then (s.setWport n { w with rekeying := true }).sendHello n
    else s.weftDown n)

/-! ### Link state changes (R343, R352) -/

/-- R342, R343: training has ended in both directions. -/
def State.trained (s : State) (n : Nat) : State :=
  let w := s.wport n
  if w.doneTx && w.doneRx then s.weftEnter n .lock else s

/-- R340: a data lane after one sync header: HUNT ends with 64 valid ones in a row, an invalid one slipping the position by a bit,
LOCKED with 16 invalid in a window of 64. -/
def WeftLane.header (l : WeftLane) (valid : Bool) : WeftLane :=
  if !l.locked then
    if !valid then { l with good := 0, slip := (l.slip + 1) % 66 }
    else if l.good = 63 then { l with locked := true, good := 0, seen := 0, bad := 0 }
    else { l with good := l.good + 1 }
  else
    let bad := l.bad + if valid then 0 else 1
    if bad = 16 then { slip := l.slip }
    else if l.seen = 63 then { l with seen := 0, bad := 0 }
    else { l with seen := l.seen + 1, bad := bad }

/-- R340: data lane `lane` of a weft port. -/
def Weft.lane (w : Weft) (lane : Nat) : WeftLane := tget {} w.lanes lane

/-- R340: every data lane is locked and aligned. -/
def Weft.striped (w : Weft) : Bool := (List.range 16).all (fun i => (w.lane i).locked && (w.lane i).aligned)

/-- R340, R343: a data lane changed: an UP link that has lost a lane's lock or alignment goes DOWN. -/
def State.setWeftLane (s : State) (n lane : Nat) (l : WeftLane) : State :=
  let w := s.wport n
  let t := s.setWport n { w with lanes := tset {} w.lanes lane l }
  if w.striped && !(t.wport n).striped then t.weftDown n else t

/-- R343: WEFT_LINK_STATE_CHANGE. -/
def execWeftLinkStateChange (n : Nat) (e : WeftEdge) (s : State) : Host.Outcome State Fault Refusal :=
  .next (
    let w := s.wport n
    if s.variant.weftPorts ≤ n ∨ (s.dom (92 + n)).up = false then s
    else match e, w.st with
      | .present, .down =>
        if s.devId = 0 then s
        else ((s.setWport n { w.fresh with keyedAt := w.keyedAt }).weftEnter n .train).askTaps n 0
      | .trained, .train => ((s.setWport n { w with doneTx := true }).sbSend n 0x03 []).trained n
      | .headers lane valid, st =>
        if 16 ≤ lane ∨ ¬ (st = .lock ∨ st = .key ∨ st = .up) then s
        else s.setWeftLane n lane (valid.foldl WeftLane.header (w.lane lane))
      | .alignment lane named skew, st =>
        if 16 ≤ lane ∨ ¬ (st = .lock ∨ st = .key ∨ st = .up) ∨ (w.lane lane).locked = false then s
        else s.setWeftLane n lane { w.lane lane with aligned := named == lane && decide (skew ≤ 8) }
      | .aligned, .lock => if w.striped then (s.weftEnter n .key).sendHello n else s
      | .keysIn, .key =>
        if w.keyed then (s.weftEnter n .up).event 0 .wft 1 n w.peer.toNat else s
      | .lost, .up => s.weftDown n
      | _, _ => s)

/-- R341, R343: TRAIN_DONE: the peer's receiver has finished training all 16 lanes. -/
def execTrainDone (n : Nat) (s : State) : Host.Outcome State Fault Refusal :=
  .next (
    let w := s.wport n
    if w.st = .train then (s.setWport n { w with doneRx := true }).trained n else s)

/-- R343: WEFT_TRAIN_TIMEOUT: 100 ms in TRAIN. -/
def execWeftTrainTimeout (n : Nat) (s : State) : Host.Outcome State Fault Refusal :=
  .next (
    let w := s.wport n
    if w.st = .train ∧ w.since + 100000000 ≤ s.tb.elapsed then (s.weftReset n).occur .wftTrainFail n else s)

/-- R341: STATUS: the state the peer reports. -/
def execSidebandStatus (n : Nat) (payload : Bytes) (s : State) : Host.Outcome State Fault Refusal :=
  .next (match payload with
    | [b] => if n < s.variant.weftPorts ∧ b ≤ 5 then s.setWport n { s.wport n with peerSt := b } else s
    | _ => s)

/-- R361, R343: a write of EN of a weft port. -/
def State.weftEnable (s : State) (n : Nat) (en : Bool) : State :=
  let w := s.wport n
  if en then (if w.st = .none then s.weftEnter n .down else s)
  else if w.st = .none then s
  else (s.weftReset n).weftEnter n .none

/-! ### Sending items (R346 to R351) -/

/-- R351: an interval in 16 ns units, rounded up. -/
def units16 (ns : Nat) : Nat := (ns + 15) / 16

/-- R351: the budget a FRAME has left at its start on the link, none when a charge leaves it below 1. -/
def WFrame.left (f : WFrame) (now : Nat) : Option Nat :=
  let u := units16 (now - f.since)
  if u < f.budget then some (f.budget - u) else none

/-- R347: an item sealed under a link key: the clear header, the encrypted body and the tag. -/
def LinkKey.seal (k : LinkKey) (dest budget seq type : Nat) (body : Bytes) : Bytes :=
  let head := beBytes dest 2 ++ beBytes budget 2 ++ beBytes seq 8 ++ [BitVec.ofNat 8 type, 0, 0, 0]
  let r := gcmSeal k.key (slice k.salt 0 4 ++ beBytes seq 8) head body
  head ++ r.1 ++ r.2

/-- R346: the body of a FRAME. -/
def WFrame.body (f : WFrame) : Bytes :=
  beBytes f.fn.toNat 4 ++ beBytes f.src.toNat 2 ++ [BitVec.ofNat 8 (f.vec % 16 + 16 * f.cls.toNat), f.kn.setWidth 8]
    ++ beBytes f.assoc.toNat 3 ++ [0] ++ beBytes f.frame.length 2 ++ [0, 0] ++ beBytes f.pn.toNat 8
    ++ beBytes f.u.1.toNat 8 ++ beBytes f.u.2.1.toNat 8 ++ beBytes f.u.2.2.toNat 8 ++ f.frame

/-- R340: the blocks of an item, with their sync headers: a start block 0x78 with 7 bytes, data blocks, and the terminate block for
the bytes left over (Clause 49; log entry 137). -/
def itemBlocks (item : Bytes) : List (BitVec 2 × Bytes) :=
  let rest := item.drop 7
  let n := rest.length / 8
  let pad (b : Bytes) : Bytes := b ++ List.replicate (8 - b.length) 0
  let ends : List Byte := [0x87, 0x99, 0xAA, 0xB4, 0xCC, 0xD2, 0xE1, 0xFF]
  (2, pad (0x78 :: item.take 7)) :: (List.range n).map (fun i => (1, slice rest (8 * i) 8))
    ++ [(2, pad (ends.getD (rest.length % 8) 0 :: rest.drop (8 * n)))]

/-- R340: a byte through the self-synchronous scrambler of Clause 49, least significant bit first. -/
def scrambleByte (st : BitVec 58) (b : Byte) : BitVec 58 × Byte :=
  (List.range 8).foldl (fun (acc : BitVec 58 × Byte) i =>
    let o := b.getLsbD i ^^ acc.1.getLsbD 38 ^^ acc.1.getLsbD 57
    (acc.1 <<< 1 ||| (if o then 1 else 0), if o then acc.2 ||| (1 : Byte) <<< i else acc.2)) (st, 0)

/-- R340: a block's bytes through the scrambler. -/
def scramble (st : BitVec 58) (bs : Bytes) : BitVec 58 × Bytes :=
  bs.foldl (fun acc b =>
    let r := scrambleByte acc.1 b
    (r.1, acc.2 ++ [r.2])) (st, [])

/-- R340: the alignment block of a lane: type 0x4B with O code 0xF, the lane number in its first data byte. -/
def alignBlock (lane : Nat) : BitVec 2 × Bytes := (2, [0x4B, BitVec.ofNat 8 lane, 0, 0, 0x0F, 0, 0, 0])

/-- R340: one block scrambled and sent on a data lane of weft port n. -/
def Weft.sendBlock (w : Weft) (n lane : Nat) (b : BitVec 2 × Bytes) : (Nat × BitVec 2 × Bytes) × Weft :=
  let r := scramble ((tfind w.scr lane).getD (Config.scrambler n lane)) b.2
  ((lane, b.1, r.2), { w with scr := tput w.scr lane r.1 })

/-- R340: a port's block stream goes on: block i on lane i mod 16, and on all 16 lanes an alignment block before every 16,384th of
a lane. -/
def Weft.sendBlocks (w : Weft) (n : Nat) : List (BitVec 2 × Bytes) → List (Nat × BitVec 2 × Bytes) × Weft
  | [] => ([], w)
  | b :: bs =>
    let a := (if w.txBlock % 262144 = 0 then List.range 16 else []).foldl (fun acc l =>
      let r := acc.2.sendBlock n l (alignBlock l)
      (acc.1 ++ [r.1], r.2)) (([] : List (Nat × BitVec 2 × Bytes)), w)
    let x := a.2.sendBlock n (w.txBlock % 16) b
    let r := Weft.sendBlocks { x.2 with txBlock := w.txBlock + 1 } n bs
    (a.1 ++ x.1 :: r.1, r.2)

/-- R340: an item on a port's lanes, behind the idle blocks since the last one. -/
def Weft.sendItem (w : Weft) (n now : Nat) (item : Bytes) : List (Nat × BitVec 2 × Bytes) × Weft :=
  w.sendBlocks n (List.replicate (Config.idleBlocks n w.txBlock now) (2, 0x1E :: List.replicate 7 0) ++ itemBlocks item)

/-- R340, R347: one item sent: SEQ rises by 1, and its blocks go out on the lanes. -/
def State.weftEmit (s : State) (n dest budget type : Nat) (body : Bytes) : State :=
  let w := s.wport n
  match w.txKey with
  | none => s
  | some k =>
    let item := k.seal dest budget w.txSeq type body
    let r := { w with txSeq := w.txSeq + 1 }.sendItem n s.tb.elapsed item
    (s.setWport n r.2).emit (.weft n item r.1)

/-- R349: the acknowledgement timer's length. -/
def State.ackNs (s : State) (n : Nat) : Nat := s.field .wftPortTimers n 0 16

/-- R346, R351: a control item sent. Its DEST and BUDGET, and the fields of a TIME item beside its stamps, are stated
nowhere (free). -/
def State.sendCtl (s : State) (n : Nat) (c : WCtl) : State :=
  let r := s.freeBits
  let s := r.2
  let dest := r.1.toNat % 65536
  let budget := r.1.toNat / 65536 % 65535 + 1
  match c with
  | .ack fn => s.weftEmit n dest budget 2 (beBytes fn.toNat 4)
  | .nak fn => s.weftEmit n dest budget 3 (beBytes fn.toNat 4)
  | .skip fn => s.weftEmit n dest budget 6 (beBytes fn.toNat 4)
  | .keyswitch =>
    let s := s.weftEmit n dest budget 4 (beBytes (r.1.toNat / 2 ^ 32) 4)
    let w := s.wport n
    s.setWport n { w with txKey := w.newTx, newTx := none, txSeq := 1 }
  | .time =>
    let q := s.freeBytes 6
    let x := q.1
    let st := (s.wport n).stamps
    let body := beBytes (r.1.toNat / 2 ^ 32) 4 ++ slice x 0 2 ++ [x.getD 2 0 &&& 0x7F, x.getD 3 0 &&& 3] ++ slice x 4 3
      ++ [0, 0, 0, 0, 0] ++ slice x 8 32 ++ beBytes st.1 8 ++ beBytes st.2 8 ++ beBytes s.tb.elapsed 8 ++ slice x 40 8
    q.2.weftEmit n dest budget 5 body

/-- R349: the acknowledgement timer runs while a FRAME waits for its ACK. -/
def State.armAck (s : State) (n : Nat) : State :=
  let w := s.wport n
  if w.ackAt.isSome then s else s.setWport n { w with ackAt := some (s.tb.elapsed + s.ackNs n) }

/-- R347, R349, R351: a FRAME sent again, or a SKIP in its place. -/
def State.sendAgain (s : State) (n : Nat) (f : WFrame) : State :=
  let w := s.wport n
  match f.left s.tb.elapsed with
  | some b =>
    let s := s.setWport n { w with resend := w.resend.drop 1, unacked := w.unacked ++ [f] }
    ((s.weftEmit n f.dest.toNat b 1 f.body).occurWeft f .wftResend n).armAck n
  | none =>
    let s := s.setWport n { w with resend := w.resend.drop 1, unacked := w.unacked ++ [{ f with budget := 0 }] }
    let s := if f.budget = 0 then s else s.occurWeft f .wftBudgetDrop n
    (s.sendCtl n (.skip f.fn)).armAck n

/-- R350: the FRAME that is sent next: the highest CLASS, the oldest of it. -/
def nextFrame (l : List WFrame) : Option WFrame :=
  l.foldl (fun best f => match best with
    | none => some f
    | some g => if g.cls < f.cls then some f else some g) none

/-- R346, R349, R351: a FRAME sent for the first time, or discarded for its budget. -/
def State.sendFirst (s : State) (n : Nat) (f : WFrame) : State :=
  let w := s.wport n
  let w := { w with wait := w.wait.erase f }
  match f.left s.tb.elapsed with
  | none => (s.setWport n w).occurWeft f .wftBudgetDrop n
  | some b =>
    let f := { f with fn := w.txFn }
    let s := s.setWport n { w with txFn := w.txFn + 1, unacked := w.unacked ++ [f] }
    (s.weftEmit n f.dest.toNat b 1 f.body).armAck n

/-- R350: WEFT_ITEM_SEND: control items first, then FRAMEs to be resent, then waiting FRAMEs by CLASS; under QUIESCE
control items only (R426). -/
def execWeftItemSend (n : Nat) (s : State) : Host.Outcome State Fault Refusal :=
  .next (
    let w := s.wport n
    if w.st ≠ .up then s
    else match w.ctl with
      | c :: rest => (s.setWport n { w with ctl := rest }).sendCtl n c
      | [] =>
        if s.held then s
        else match w.resend with
          | f :: _ => s.sendAgain n f
          | [] => match nextFrame w.wait with
            | some f => s.sendFirst n f
            | none => s)

/-! ### Receiving items (R348, R352, R353) -/

/-- R346: a control item queued for sending. -/
def State.weftCtl (s : State) (n : Nat) (c : WCtl) : State :=
  let w := s.wport n
  s.setWport n { w with ctl := w.ctl ++ [c] }

/-- R348: the ACK of all frames received. -/
def State.ackNow (s : State) (n : Nat) : State :=
  let w := s.wport n
  (s.setWport n { w with sinceAck := 0, lastAck := s.tb.elapsed }).weftCtl n (.ack (w.rxFn - 1))

/-- R346, R348: an item of a TYPE checked under the receive key: its body, with SEQ accepted, or the state after a refusal. An item
of a reserved TYPE is taken with the FRAMEs: it is discarded once SEQ and tag are accepted, and so is one too short for its TYPE
(log entry 138). -/
def State.weftOpen (s : State) (n type : Nat) (item : Bytes) : Except State (State × Bytes) :=
  let w := s.wport n
  match w.rxKey with
  | none => .error s
  | some k =>
    let seq := beNat (slice item 4 8)
    let cut := item.length - 16
    let ty := (item.getD 12 0).toNat
    if w.st ≠ .up ∨ ¬ (ty = type ∨ (type = 1 ∧ (ty = 0 ∨ 6 < ty))) then .error s
    else if seq ≤ w.rxSeq then .error (s.occur .wftSeqFail n)
    else
      let r := gcmOpen k.key (slice k.salt 0 4 ++ beBytes seq 8) (item.take 16) ((item.take cut).drop 16) (item.drop cut)
      if item.length < 32 ∨ r.2 = false then .error ((s.occur .wftTagFail n).weftCtl n (.nak w.rxFn))
      else if ty ≠ type ∨ item.length < 36 then .error (s.setWport n { w with rxSeq := seq })
      else .ok (s.setWport n { w with rxSeq := seq }, r.1)

/-- The signed distance of two frame numbers. -/
def fnDiff (a b : Word) : Int := (a - b).toInt

/-- R348: the FN of a FRAME or SKIP against the expected one: accepted and counted towards the next ACK, or answered. -/
def State.weftFn (s : State) (n : Nat) (fn : Word) : Except State State :=
  let w := s.wport n
  if fnDiff fn w.rxFn < 0 then .error (s.ackNow n)
  else if 0 < fnDiff fn w.rxFn then .error (s.weftCtl n (.nak w.rxFn))
  else
    let s := s.setWport n { w with rxFn := w.rxFn + 1, sinceAck := w.sinceAck + 1 }
    .ok (if w.sinceAck + 1 = 16 then s.ackNow n else s)

/-- R353: the metadata block of a delivered FRAME. -/
def weftMeta (b : Bytes) : Bytes :=
  let kc := (b.getD 7 0).toNat % 4 + 4 * ((b.getD 6 0).toNat / 16 % 8)
  slice b 16 8 ++ slice b 8 3 ++ [BitVec.ofNat 8 kc] ++ slice b 4 2 ++ [0, 0] ++ slice b 24 24 ++ List.replicate 8 0

/-- R353: a FRAME delivered. -/
def State.weftDeliver (s : State) (n : Nat) (b : Bytes) : State :=
  s.arrive { src := 3, odom := BitVec.ofNat 12 (65 + n), port := BitVec.ofNat 8 (65 + n)
             cls := BitVec.ofNat 3 (s.field .wftPortCfg n 1 3), frame := weftMeta b ++ b.drop 48
             vec := (b.getD 6 0).toNat % 16 }

/-- R280, R351, R352: a FRAME in transit: admitted, and routed on, or refused and counted by port and class. -/
def State.weftTransit (s : State) (n dest budget : Nat) (b : Bytes) : State :=
  let cls := BitVec.ofNat 3 ((b.getD 6 0).toNat / 16)
  let frame := b.drop 48
  let f : WFrame :=
    { fn := 0, dest := BitVec.ofNat 16 dest, src := BitVec.ofNat 16 (beNat (slice b 4 2)), budget := budget
      since := s.tb.elapsed, vec := (b.getD 6 0).toNat % 16, cls := cls, kn := BitVec.ofNat 2 (b.getD 7 0).toNat
      assoc := BitVec.ofNat 24 (beNat (slice b 8 3)), pn := BitVec.ofNat 64 (beNat (slice b 16 8))
      u := (BitVec.ofNat 64 (beNat (slice b 24 8)), BitVec.ofNat 64 (beNat (slice b 32 8)),
        BitVec.ofNat 64 (beNat (slice b 40 8)))
      frame := frame, via := some n, cells := cellsFor frame.length, about := none }
  match s.admission cls frame.length with
  | some s' => s'.routeWeft f (fun s => s.occur .wftNoRoute n)
  | none => s.occurWith .admRefuse (65 + n) 0 3 (some cls.toNat) 1

/-- R348, R351: an item whose BUDGET the link's charge leaves below 1. -/
def State.overdue (s : State) (n : Nat) (item : Bytes) : Bool :=
  decide (beNat (slice item 2 2) ≤ units16 (s.wport n).linkTime)

/-- R348, R351: an item that has passed the other checks: discarded for its budget, or taken by `run`. -/
def State.inBudget (s : State) (n : Nat) (item : Bytes) (run : State → State) : State :=
  if s.overdue n item then s.occur .wftBudgetDrop n else run s

/-- R348, R351 to R353: WEFT_FRAME_RECEIVE. -/
def execWeftFrameReceive (n : Nat) (item : Bytes) (s : State) : Host.Outcome State Fault Refusal :=
  .next (match s.weftOpen n 1 item with
    | .error t => t
    | .ok (t, b) => match t.weftFn n (BitVec.ofNat 32 (beNat (slice b 0 4))) with
      | .error u => u
      | .ok u => u.inBudget n item (fun u =>
        let dest := beNat (slice item 0 2)
        if u.held then u.occur .quiesceRx (65 + n)
        else if dest = u.devId then u.weftDeliver n b
        else u.weftTransit n dest (beNat (slice item 2 2) - units16 (u.wport n).linkTime) b))

/-- R348: WEFT_SKIP_RECEIVE. -/
def execWeftSkipReceive (n : Nat) (item : Bytes) (s : State) : Host.Outcome State Fault Refusal :=
  .next (match s.weftOpen n 6 item with
    | .error t => t
    | .ok (t, b) => match t.weftFn n (BitVec.ofNat 32 (beNat (slice b 0 4))) with
      | .error u => u
      | .ok u => u.inBudget n item id)

/-- R34, R349: WEFT_ACK_RECEIVE: FRAMEs through FN are freed; an ACK that comes after the expiry of the frames it names is
late. -/
def execWeftAckReceive (n : Nat) (item : Bytes) (s : State) : Host.Outcome State Fault Refusal :=
  .next (match s.weftOpen n 2 item with
    | .error t => t
    | .ok (t, b) => t.inBudget n item (fun t =>
      let w := t.wport n
      let fn : Word := BitVec.ofNat 32 (beNat (slice b 0 4))
      let covered (f : WFrame) : Bool := decide (fnDiff f.fn fn ≤ 0)
      let hit := w.unacked.any covered
      if !hit && decide (0 < w.expiries) && w.resend.any covered then t.occur .wftLateAck n
      else if !hit && !w.resend.any covered then t
      else
        let un := w.unacked.filter (fun f => !covered f)
        let re := w.resend.filter (fun f => !covered f)
        t.setWport n { w with
          unacked := un, resend := re, expiries := 0
          ackAt := if un.isEmpty && re.isEmpty then none else some (t.tb.elapsed + t.ackNs n) }))

/-- R349: every unacked FRAME is to be resent from the oldest. -/
def State.resendAll (s : State) (n : Nat) : State :=
  let w := s.wport n
  s.setWport n { w with resend := w.unacked ++ w.resend, unacked := [] }

/-- R349: WEFT_NAK_RECEIVE. -/
def execWeftNakReceive (n : Nat) (item : Bytes) (s : State) : Host.Outcome State Fault Refusal :=
  .next (match s.weftOpen n 3 item with
    | .error t => t
    | .ok (t, _) => t.inBudget n item (fun t => t.resendAll n))

/-- R345: WEFT_KEYSWITCH_RECEIVE: the receiver moves to the new link key. -/
def execWeftKeyswitchReceive (n : Nat) (item : Bytes) (s : State) : Host.Outcome State Fault Refusal :=
  .next (match s.weftOpen n 4 item with
    | .error t => t
    | .ok (t, _) => t.inBudget n item (fun t =>
      let w := t.wport n
      match w.newRx with
      | some k => t.setWport n { w with rxKey := some k, newRx := none, rxSeq := 0 }
      | none => t))

/-- R351: WEFT_TIME_RECEIVE: t1 and t2 answer this end's last TIME item, t3 is the peer's send time, t4 the arrival. -/
def execWeftTimeReceive (n : Nat) (item : Bytes) (s : State) : Host.Outcome State Fault Refusal :=
  .next (match s.weftOpen n 5 item with
    | .error t => t
    | .ok (t, b) => t.inBudget n item (fun t =>
      let w := t.wport n
      let t1 := beNat (slice b 48 8)
      let t2 := beNat (slice b 56 8)
      let t3 := beNat (slice b 64 8)
      let t4 := t.tb.elapsed
      let time : Int := (((t4 : Int) - t1) - ((t3 : Int) - t2)) / 2
      t.setWport n { w with
        stamps := (t3, t4), linkTime := if t1 = 0 then w.linkTime else min 0xFFFFFF time.toNat }))

/-- R349, R343: WEFT_ACK_TIMEOUT: unacked FRAMEs are resent, or the link goes DOWN after RETRIES expiries. -/
def execWeftAckTimeout (n : Nat) (s : State) : Host.Outcome State Fault Refusal :=
  .next (
    let w := s.wport n
    match w.ackAt with
    | none => s
    | some t =>
      if w.st ≠ .up ∨ s.tb.elapsed ≤ t then s
      else if s.field .wftPortTimers n 16 4 ≤ w.expiries + 1 then s.weftDown n
      else (s.setWport n { w with expiries := w.expiries + 1, ackAt := some (s.tb.elapsed + s.ackNs n) }).resendAll n)

/-- R348: WEFT_ACK_SEND: an ACK at least every 1 µs while frames arrive. -/
def execWeftAckSend (n : Nat) (s : State) : Host.Outcome State Fault Refusal :=
  .next (
    let w := s.wport n
    if w.st ≠ .up ∨ w.sinceAck = 0 ∨ s.tb.elapsed < w.lastAck + 1000 then s else s.ackNow n)

/-- R351: WEFT_TIME_SEND: a TIME item every 1 ms. -/
def execWeftTimeSend (n : Nat) (s : State) : Host.Outcome State Fault Refusal :=
  .next (
    let w := s.wport n
    if w.st ≠ .up ∨ s.tb.elapsed < w.lastTime + 1000000 then s
    else (s.setWport n { w with lastTime := s.tb.elapsed }).weftCtl n .time)

/-! ### Register writes (R360 to R365) -/

/-- R360: a WFT register write rejected. -/
def State.wftReject (s : State) : State := s.setRegBit .wftStat 0

/-- R361: a write of WFT_PORT_CFG. -/
def State.weftCfgWrite (s : State) (n : Nat) (v : Word) : State :=
  let old := s.reg .wftPortCfg n
  if old.getLsbD 0 && fld v 16 16 != fld old 16 16 then s.wftReject
  else (s.setReg .wftPortCfg n 0 v).weftEnable n (v.getLsbD 0)

/-- R365: a write of WFT_ROUTE. -/
def State.routeWrite (s : State) (d : Nat) (v : Word) : State :=
  let bad (b lo : Nat) : Bool := v.getLsbD b && (decide (s.variant.weftPorts ≤ fld v lo 2) || reservedId d)
  if bad 2 0 || bad 5 3 then s.wftReject else s.setReg .wftRoute d 0 v

end Sys2Proof.Machine
end

