-- ==== Sys2Proof/Machine/Power.lean ====
section
/-! DEFINITION. The power management controller (R452 to R470, R523): tolerance and placement, the load rule, the wake
bucket, entering and leaving a sleep state, returns with their self-test, scratch images, and the clock monitors (R27). -/

namespace Sys2Proof.Machine

/-! ### Tolerance (R455, R456) -/

/-- R455: the tolerance of service group g in ns. -/
def State.groupTol (s : State) (g : Nat) : Nat := s.field .pmcLtol g 0 10 * 32 ^ s.field .pmcLtol g 10 3

/-- R455: the groups that domain d serves. -/
def State.domGroups (s : State) (d : Nat) : List Nat :=
  (List.range 64).filter (fun g => (s.reg .pmcDomGrp d (g / 32)).getLsbD (g % 32))

/-- R455: the tolerance of domain d and the group that sets it; none without a limit. -/
def State.domTol (s : State) (d : Nat) : Option (Nat × Nat) :=
  (s.domGroups d).foldl (fun best g =>
    match best with
    | none => some (s.groupTol g, g)
    | some (t, h) => if s.groupTol g < t then some (s.groupTol g, g) else some (t, h)) none

/-- R456: an exit latency fits a tolerance. -/
def fitsTol (lat : Option Nat) (tol : Option (Nat × Nat)) : Bool :=
  match lat, tol with
  | none, _ => false
  | some _, none => true
  | some n, some (t, _) => decide (n ≤ t)

/-- R456: the deepest state whose typical exit latency fits the tolerance, or P0. -/
def deepestFor (exit : PSt → Option Nat) (tol : Option (Nat × Nat)) : PSt :=
  if fitsTol (exit .p3) tol then .p3
  else if fitsTol (exit .p2) tol then .p2
  else if fitsTol (exit .p1) tol then .p1
  else .p0

/-- R454, R456: the deepest state that the tolerance of domain d allows. -/
def State.deepestNow (s : State) (d : Nat) : PSt := deepestFor (s.exit d) (s.domTol d)

/-- R453: the state codes. -/
def PSt.code : PSt → Nat
  | .p0 => 1
  | .p1 => 2
  | .p2 => 3
  | .p3 => 4
  | .entering _ => 5
  | .waking => 6

/-- R453: one state is deeper than another in which the domain runs. -/
def PSt.deeper (x y : PSt) : Bool := decide (y.code < x.code)

/-! ### Idle conditions (R452) -/

/-- R452: nothing has reached the domain for n ns. -/
def State.quietFor (s : State) (d n : Nat) : Bool :=
  match (s.dom d).idleSince with
  | none => true
  | some t => decide (t + n ≤ s.tb.elapsed)

/-- R452: port p uses a lane of quad q. -/
def State.portUses (s : State) (p q : Nat) : Bool := p / 4 == q || (s.portLanes p).any (fun l => l / 4 == q)

/-- R20, R283: every queue mapped to a slice's ports is empty, and no enabled shaper of its ports owes credit; the ports of a
quarantined slice are those of the slice that serves them. -/
def State.sliceIdle (s : State) (k : Nat) : Bool :=
  s.sch.queues.all (fun e => e.2.fifo.isEmpty || s.sliceOf (s.qPort e.1) != k)
    && (List.range 64).all (fun p =>
      s.sliceOf p != k || !(s.reg .schPRate p).getLsbD 31 || decide (0 ≤ (s.port p).credit))

/-- R452: the idle condition of domain d, the load rule apart. -/
def State.idle (s : State) (d : Nat) : Bool :=
  match domKind d with
  | .cluster c => s.busyBobs c == 0
  | .pair p => !s.cie.jobs.any (fun j => j.holds (2 * p) || j.holds (2 * p + 1))
  | .quad q =>
    (List.range 64).all (fun p => !s.portEn p || !s.portUses p q)
      && (q < 8 || (List.range 4).all (fun i => (s.groupOf (4 * q + i - 32)).isNone))
  | .dram _ => s.quietFor d 10000
  | .cache => s.quietFor d 100000
  | .slice k => s.sliceIdle k
  | .weft n => !(s.reg .wftPortCfg n).getLsbD 0

/-! ### Entering a sleep state (R453, R456) -/

/-- R456: a domain enters P1 at once, or begins to enter P2 or P3: it takes no work from then on. -/
def State.enterSleep (s : State) (d : Nat) (target : PSt) : State :=
  let D := s.dom d
  match target with
  | .p0 => s.setDom d { D with st := .p0 }
  | .p1 => s.setDom d { D with st := .p1 }
  | _ =>
    let s := s.setDom d { D with st := .entering (target == .p3), ready := .stale }
    match domKind d with
    | .cluster c => s.setClu c { s.clu c with st := .stale }
    | .pair p =>
      [2 * p, 2 * p + 1].foldl (fun s e =>
        if (s.engine e).st = .quarantined then s else s.setEngine e { s.engine e with st := .stale, passed := false }) s
    | _ => s

/-- R72, R462: the scratch of a cluster reads 0. -/
def State.clearScratch (s : State) (c : Nat) : State :=
  { s with shu := { s.shu with scratch := s.shu.scratch.filter (fun e => e.1 / 16384 != c) } }

/-- R154, R166, R462, R452: what a domain's logic loses with its supply; a cache bank writes back first. -/
def State.unpowered (s : State) (d : Nat) : State :=
  match domKind d with
  | .cluster c => (s.setClu c { s.clu c with card := none, scratchDone := false, copying := false, cardDone := false,
                                             heldBack := false, returning := false }).clearScratch c
  | .pair p => s.setPair p {}
  | .cache => s.writeBackBank d
  | .quad q =>
    let s := (List.range 64).foldl (fun s p =>
      if s.portEn p && s.portUses p q then s.setPort p { s.port p with trainDone := false } else s) s
    (List.range 4).foldl (fun s i => (s.setBlock (4 * q + i) false).updateLink (s.portOfLane (4 * q + i))) s
  | _ => s

/-- R453, R460: DOMAIN_SLEEP_ENTERED: ENTERING ends in P2 or P3; a wake queued meanwhile keeps its place. -/
def execDomainSleepEntered (dom : Nat) (s : State) : Host.Outcome State Fault Refusal :=
  .next (match (s.dom dom).st with
    | .entering deep =>
      (s.setDom dom { s.dom dom with st := if deep then .p3 else .p2, ready := .stale, up := false }).unpowered dom
    | _ => s)

/-! ### The load rule (R457) -/

/-- R457: what the load rule weighs for clusters or for cipher pairs. -/
structure LoadRule where
  /-- domains of the kind that are present, not quarantined and not being emptied -/
  doms : List Nat
  /-- domains kept in P0 or P1 -/
  keep : Nat
  /-- WAITING picks, or queued HIGH and NORMAL jobs -/
  load : Nat
  /-- the threshold of PMC_LOAD -/
  threshold : Nat
  /-- the load has been below half the threshold since -/
  low : Option Nat
  /-- the standby pair's domain -/
  standby : Option Nat

/-- R457: the rule for clusters. -/
def State.cluRule (s : State) : LoadRule :=
  { doms := (List.range 24).filter (fun d => s.variant.domain d && (s.dom d).ready != .quarantined)
    keep := s.field .pmcLoad 0 0 5
    load := s.beam.picks.countP (fun e => e.2.st == .waiting)
    threshold := s.field .pmcLoad 0 10 11
    low := s.pmc.cluLow
    standby := none }

/-- R457: the rule for cipher pairs: while a port is enabled one more is kept, the standby pair. -/
def State.pairRule (s : State) : LoadRule :=
  { doms := (span 24 47).filter (fun d =>
      s.variant.domain d && (s.dom d).ready != .quarantined && !(s.pair (d - 24)).leaving)
    keep := s.field .pmcLoad 0 5 5 + if s.anyPort then 1 else 0
    load := s.cie.jobs.countP (fun j => j.st == .queued && j.level != 0)
    threshold := s.field .pmcLoad 0 21 8
    low := s.pmc.cieLow
    standby := s.pmc.standby.map (· + 24) }

/-- R457: the domains of a kind in P0 or P1. -/
def State.running (s : State) (r : LoadRule) : Nat := r.doms.countP (fun d => (s.dom d).st.awake)

/-- R457: the domains of a kind that run, or are to run once their wake is admitted. -/
def State.serving (s : State) (r : LoadRule) : Nat :=
  r.doms.countP (fun d => (s.dom d).st.awake || (s.dom d).st == .waking || (s.dom d).wake.isSome)

/-- R457: the load is below half the threshold. -/
def LoadRule.below (r : LoadRule) : Bool := decide (2 * r.load < r.threshold)

/-- R457: since when the load has been below half the threshold. -/
def LoadRule.lowSince (r : LoadRule) (now : Nat) : Option Nat := if r.below then some (r.low.getD now) else none

/-- R457: the lowest-numbered sleeping domain, when one more is wanted. -/
def State.loadWake (s : State) (r : LoadRule) : Option Nat :=
  if s.serving r < r.keep ∨ r.threshold < r.load then
    r.doms.find? (fun d => (s.dom d).st.deep && (s.dom d).wake.isNone && (s.dom d).upOnce)
  else none

/-- R523: exactly one engine of a pair is retired while the pair serves. -/
def State.halfRetired (s : State) (p : Nat) : Bool :=
  ((s.engine (2 * p)).st == .quarantined) != ((s.engine (2 * p + 1)).st == .quarantined)
    && (s.dom (24 + p)).ready == .fresh

/-- R457, R523: the state into which a domain may be let go: P1 at most while no more than the kept ones are in P0 or P1, and for
the standby pair and a pair with one engine retired, which stays powered. -/
def State.letTarget (s : State) (r : LoadRule) (d : Nat) : PSt :=
  let t := s.deepestNow d
  if (s.running r ≤ r.keep ∨ r.standby = some d ∨ (24 ≤ d ∧ d < 48 ∧ s.halfRetired (d - 24) = true)) ∧ t.deeper .p1 = true then .p1 else t

/-- R457: the highest-numbered idle domain that may sleep deeper, once the load has been low for 100 µs. -/
def State.letGo (s : State) (r : LoadRule) : Option Nat :=
  match r.lowSince s.tb.elapsed with
  | none => none
  | some t =>
    if s.tb.elapsed < t + 100000 then none
    else r.doms.reverse.find? (fun d =>
      (s.dom d).st.awake && s.idle d && (s.letTarget r d).deeper (s.dom d).st)

/-! ### The decision (R455 to R457, R460, R523) -/

/-- R456: a domain that sleeps in a state its tolerance no longer allows. -/
def State.tolFell (s : State) (d : Nat) : Bool :=
  let D := s.dom d
  D.st.deep && !fitsTol (s.exit d D.st) (s.domTol d)

/-- R456, R460: a domain of another kind than a cluster or a pair has work while it sleeps or goes to sleep. -/
def State.workWaits (s : State) (d : Nat) : Bool :=
  decide (48 ≤ d) && ((s.dom d).st.deep || (match (s.dom d).st with | .entering _ => true | _ => false)) && !s.idle d

/-- R154: on TV16-E a cache bank that holds table entries is placed in P1 at most. -/
def State.capCache (s : State) (d : Nat) (t : PSt) : PSt :=
  if s.variant = .tv16e ∧ domKind d = .cache ∧ s.bankHolds d = true ∧ t.deeper .p1 = true then .p1 else t

/-- R154, R456: a domain that the load rule does not govern is placed: idle, in the deepest state that fits, otherwise in
P0. -/
def State.placeOther (s : State) (d : Nat) : State :=
  let D := s.dom d
  let t := if s.idle d then s.capCache d (s.deepestNow d) else .p0
  if !D.st.awake || D.ready != .fresh then s
  else if t.deeper D.st || t == .p0 then s.enterSleep d t else s

/-- R456: a clock-gated domain whose tolerance no longer allows P1 runs again. -/
def State.placeGated (s : State) (d : Nat) : State :=
  if (s.dom d).st = .p1 ∧ fitsTol (s.exit d .p1) (s.domTol d) = false then s.enterSleep d .p0 else s

/-- R174, R189: the engines of a pair that are not retired wait for their tests. -/
def State.staleEngines (s : State) (p : Nat) : State :=
  [2 * p, 2 * p + 1].foldl (fun s e =>
    if (s.engine e).st = .quarantined then s else s.setEngine e { s.engine e with st := .stale, passed := false }) s

/-- R523: a pair whose jobs have ended is powered down, and its return is queued. -/
def State.leavePair (s : State) (p : Nat) : State :=
  let d := 24 + p
  if (s.pair p).leaving && s.idle d then
    let s := (s.staleEngines p).setDom d { s.dom d with st := .p3, ready := .quarantined, bist := true, up := false }
    (s.setPair p {}).askWake d .back
  else s

/-- R21, R457: the recovery from an engine's retirement ends once the named standby pair serves, or none was to be
named. -/
def State.endRecoveries (s : State) : State :=
  let waits := match s.pmc.standby with
    | some p => (s.dom (24 + p)).wake.isSome || (s.dom (24 + p)).st == .waking
    | none => false
  if waits || s.cie.recovering.isEmpty then s
  else
    let t := s.cie.recovering.foldl (fun s e => s.faultRec true .cie 1 e.1 e.2) s
    { t with cie := { t.cie with recovering := [] } }

/-- R41, R456, R457: one decision of the PMC: every domain placed, wakes requested in ascending domain number, and a
cluster woken for restarted picks that no awake one can take. -/
def State.placeAll (s : State) : State :=
  let present := (List.range 96).filter s.variant.domain
  let s := present.foldl (fun s d =>
    s.setDom d { s.dom d with deepest := BitVec.ofNat 3 (s.deepestNow d).code }) s
  let c := s.cluRule
  let p := s.pairRule
  let wakeC := s.loadWake c
  let wakeP := s.loadWake p
  let gone := [(s.letGo c).map (fun d => (d, s.letTarget c d)), (s.letGo p).map (fun d => (d, s.letTarget p d))]
  let s := { s with pmc := { s.pmc with
    decided := s.tb.elapsed
    tols := present.foldl (fun m d => tset none m d (s.domTol d)) s.pmc.tols
    cluLow := if (s.letGo c).isSome then some s.tb.elapsed else c.lowSince s.tb.elapsed
    cieLow := if (s.letGo p).isSome then some s.tb.elapsed else p.lowSince s.tb.elapsed
    standby :=
      if !s.anyPort then none
      else match s.pmc.standby with
        | some q => some q
        | none => wakeP.map (· - 24) } }
  let s := present.foldl (fun s d =>
    if s.tolFell d || s.workWaits d || wakeC == some d || wakeP == some d then
      if (s.dom d).upOnce && (s.dom d).ready != .quarantined then s.askWake d .sleep else s
    else s) s
  let s := gone.foldl (fun s g => match g with
    | some (d, t) => s.enterSleep d t
    | none => s) s
  let s := present.foldl (fun s d => if d < 48 then s.placeGated d else s.placeOther d) s
  ((List.range 24).foldl State.leavePair s).endRecoveries.wakeForGen

/-- R458: the wakes requested since a list was in force, in ascending domain number behind it. -/
def State.orderWakes (s : State) (old : List Nat) : State :=
  let now := s.pmc.wakes
  { s with pmc := { s.pmc with
    wakes := now.filter (fun d => old.contains d) ++ (List.range 96).filter (fun d => now.contains d && !old.contains d) } }

/-- R456, R458: PMC_DECISION, once a microsecond. -/
def execPmcDecision (s : State) : Host.Outcome State Fault Refusal :=
  .next (if s.pins.inReset = true ∨ s.tb.elapsed < s.pmc.decided + 1000 then s else s.placeAll.orderWakes s.pmc.wakes)

/-! ### The wake bucket (R458 to R460) -/

/-- R468: PMC_WAKE.SEALED. -/
def State.wakeSealed (s : State) : Bool := (s.reg .pmcWake).getLsbD 31

/-- R458: the bucket refilled for the whole microseconds since the last refill. -/
def State.refillBucket (s : State) : State :=
  let n := s.tb.elapsed / 1000 - s.pmc.refilled / 1000
  { s with pmc := { s.pmc with
    refilled := s.tb.elapsed
    level := min (256 * s.field .pmcWake 0 0 8) (s.pmc.level + n * s.field .pmcWake 0 8 16) } }

/-- R459, R460: a wake from a state the PMC chose that has waited beyond the tolerance in force, the last decision's. -/
def State.missed (s : State) (d : Nat) (st : PSt) (since : Nat) : State :=
  match tget none s.pmc.tols d, s.exit d st with
  | some (t, g), some lat =>
    let wait := s.tb.elapsed - since
    if t ≠ 0 ∧ t < wait + lat then s.event 0 .pmc 1 d g wait else s
  | _, _ => s

/-- R458: the waking of domain d is admitted. -/
def State.admitWake (s : State) (d : Nat) : State :=
  let D := s.dom d
  let s := match D.wake with
    | some (.sleep, since) => s.missed d D.st since
    | _ => s
  let s := s.setDom d { D with st := .waking, wake := none, up := false }
  { s with pmc := { s.pmc with
    level := s.pmc.level - 256 * (domKind d).weight, wakes := s.pmc.wakes.erase d } }

/-- R458: waiting wakes admitted in request order while they fit; a domain still ENTERING holds the ones behind it. -/
def State.admitWakes (s : State) : List Nat → State
  | [] => s
  | d :: ds =>
    if (s.dom d).st.deep && decide (256 * (domKind d).weight ≤ s.pmc.level) then State.admitWakes (s.admitWake d) ds
    else s

/-- R458: WAKE_ADMIT. -/
def execWakeAdmit (s : State) : Host.Outcome State Fault Refusal :=
  .next (
    if s.pins.inReset = true ∨ s.wakeSealed = false then s
    else
      let s := s.refillBucket
      s.admitWakes s.pmc.wakes)

/-- R458, R459: the seal set: the first power-up of every present domain is requested. -/
def State.firstWakes (s : State) : State :=
  ((List.range 96).filter s.variant.domain).foldl (fun s d =>
    if (s.dom d).upOnce || (s.dom d).ready == .quarantined then s else s.askWake d .first) s

/-- R466, R470: a PMC register write rejected. -/
def State.pmcReject (s : State) : State := s.setRegBit .pmcStat 0

/-- R458, R468: a write of PMC_WAKE before its seal. -/
def State.wakeWrite (s : State) (v : Word) : State :=
  if fld v 0 8 < 4 ∨ fld v 8 16 = 0 then s.pmcReject
  else
    let s := s.refillBucket
    let s := s.setReg .pmcWake 0 0 (v &&& 0x80FF_FFFF)
    let s := { s with pmc := { s.pmc with level := min s.pmc.level (256 * fld v 0 8) } }
    if v.getLsbD 31 then s.firstWakes else s

/-! ### Powering up (R461 to R463) -/

/-- R462, R469: PMC_SCR_RELOAD bit of a cluster. -/
def State.armed (s : State) (c : Nat) : Bool := (s.reg .pmcScrReload).getLsbD c

/-- R120, R461, R462: a cluster powers up: at its first power-up it holds nothing; on a return it loads its card and, when
armed, its scratch, otherwise CLUSTER_STALE is raised. -/
def State.cluUp (s : State) (c : Nat) (again : Bool) : State :=
  let k := s.clu c
  let s := s.clearScratch c
  if !again then s.setClu c { k with st := .none, card := none, returning := false }
  else
    let k := { k with
      st := if k.ctlGen = 0 then .stale else .loading
      loadGen := k.ctlGen, retried := false, returning := true, card := none, cardDone := k.ctlGen = 0
      scratchDone := false, copying := s.armed c, copyOnce := false }
    let t := s.setClu c k
    if s.armed c then t else t.event 0 .pmc 2 c

/-- R279, R283: a port's shed position as its slice returns: a switch whose instant has come has taken place. -/
def State.shedBack (s : State) (p : Nat) : State :=
  match (s.port p).switchAt with
  | some t => (if t ≤ s.tb.tod then s.switchBank p else s).placeShed p
  | none => s.placeShed p

/-- R283: a slice's credits and deficits restart at 0 and its shed positions are taken from the time of day; its policers' buckets
stand as they were (DESIGN CHOICE, log entry 136: the spec names them in no way). -/
def State.sliceUp (s : State) (k : Nat) : State :=
  let qs := s.sch.queues.map (fun e => if s.qPort e.1 / 16 = k then e.1 else 16384)
  let s := (qs.filter (fun q => decide (q < 16384))).foldl (fun s q =>
    s.setQueue q { s.queue q with credit := 0, deficit := 0, inTurn := false }) s
  (span (16 * k) (16 * k + 15)).foldl (fun s p => (s.setPort p { s.port p with credit := 0 }).shedBack p) s

/-- R174, R461: a powered domain begins the steps of its kind; after PMC_RETURN both engines of a pair are tested. -/
def State.beginSteps (s : State) (d : Nat) : State :=
  let D := s.dom d
  let t := s.setDom d { D with ready := .stale, upOnce := true }
  match domKind d with
  | .cluster c => t.cluUp c D.upOnce
  | .pair p =>
    [2 * p, 2 * p + 1].foldl (fun s e =>
      if (s.engine e).st = .quarantined ∧ D.bist = false then s
      else s.setEngine e { s.engine e with st := .stale, passed := false }) (t.setPair p {})
  | .slice k => if D.upOnce then t.sliceUp k else t
  | .quad q => (List.range 64).foldl (fun s p =>
      if s.portEn p && s.portUses p q then s.setPort p { s.port p with trainAt := s.tb.elapsed } else s) t
  | _ => t

/-- R461, R463: DOMAIN_POWERED_UP: the steps of the kind begin, or, on a PMC_RETURN, the built-in self-test. -/
def execDomainPoweredUp (dom : Nat) (s : State) : Host.Outcome State Fault Refusal :=
  .next (
    let D := s.dom dom
    if D.st ≠ .waking ∨ D.up = true then s
    else
      let s := s.setDom dom { D with up := true }
      if D.ready = .quarantined then s else s.beginSteps dom)

/-- R443: unit, fault kind and index of a record about a domain. -/
def faultOf (d kind : Nat) : EvUnit × Nat × Nat :=
  if kind = 3 then (.pmc, 3, d)
  else match domKind d with
    | .cluster c => (.shu, 2, c)
    | .pair p => (.cie, 1, 2 * p)
    | .dram ch => (.msc, 4, ch / 4)
    | _ => (.pmc, 3, d)

/-- R189: both engines of a pair whose self-test has failed show fault BIST. -/
def State.bistFaults (s : State) (d : Nat) : State :=
  match domKind d with
  | .pair p => [2 * p, 2 * p + 1].foldl (fun s e => s.stopEngine e 4) s
  | _ => s

/-- R463: BIST_DONE: a passed self-test leads to the steps of R461; a failed one powers the domain down again. -/
def execBistDone (dom : Nat) (pass : Bool) (s : State) : Host.Outcome State Fault Refusal :=
  .next (
    let D := s.dom dom
    if D.st ≠ .waking ∨ D.up = false ∨ D.ready ≠ .quarantined then s
    else if pass then s.beginSteps dom
    else
      let f := faultOf dom D.owed
      ((s.bistFaults dom).quarantineDom dom (if f.2.1 = 4 then D.owed else f.2.1)).faultRec false f.1 f.2.1 f.2.2 0)

/-- R332, R333, R336, R461: the PCS of every enabled port on a quad has locked, a woven member's too; mode 12 runs none. -/
def State.quadLocked (s : State) (q : Nat) : Bool :=
  (List.range 4).all (fun i =>
    let l := 4 * q + i
    let used : Bool := s.portEn (s.portOfLane l) && decide (l < s.portOfLane l + modeWidth (s.portMode (s.portOfLane l)))
    !used || s.portMode (s.portOfLane l) == 12 || (s.lane l).locked)

/-- R461: the steps of the domain's kind are done. -/
def State.stepsDone (s : State) (d : Nat) : Bool :=
  match domKind d with
  | .cluster c => !(s.clu c).returning || ((s.clu c).cardDone && (s.clu c).scratchDone)
  | .pair p =>
    let ok (e : Nat) : Bool := (s.engine e).st == .fresh || (s.engine e).st == .quarantined
    ok (2 * p) && ok (2 * p + 1) && !((s.engine (2 * p)).st == .quarantined && (s.engine (2 * p + 1)).st == .quarantined)
  | .quad q => s.quadLocked q
  | .weft n => !(s.reg .wftPortCfg n).getLsbD 0 || (s.wport n).st == .up
  | _ => true

/-- R120, R461: a cluster whose steps are done serves its card, HELD when HOLD was 1 as its load ended; one without a card,
or with another than GEN names by now, loads the card that GEN names. -/
def State.cluFresh (s : State) (c : Nat) : State :=
  let old := s.clu c
  let k := { old with returning := false, cardDone := false, scratchDone := false, heldBack := false }
  if k.card.any (fun x => x.gen == k.ctlGen) then s.setClu c { k with st := if old.heldBack then .held else .fresh }
  else if k.ctlGen = 0 then s.setClu c { k with st := .none }
  else s.setClu c { k with st := .loading, loadGen := k.ctlGen, retried := false }

/-- R320: a failed stack whose four channels are FRESH again: rebuilt from the surviving copy in mirror mode, otherwise in
service at once. -/
def State.stackBack (s : State) (st : Nat) : State :=
  let m := s.msc
  if tget .ok m.stks st ≠ .failed ∨ (List.range 4).any (fun c => (s.dom (64 + 4 * st + c)).ready != .fresh) = true then s
  else if m.mirror ≠ 0 then
    let s := { s with msc := { m with stks := tset .ok m.stks st .rebuilding } }
    { s with msc := { s.msc with mirror := s.mirrorNow } }
  else
    let s := { s with msc := { m with stks := tset .ok m.stks st .ok, chFailed := tset 0 m.chFailed st 0 } }
    s.faultRec true .msc 4 st 0

/-- R461, R463: DOMAIN_FRESH: the domain runs; after a PMC_RETURN event DOMAIN_RETURNED, and the RECOVERY record that is
due. -/
def execDomainFresh (dom : Nat) (s : State) : Host.Outcome State Fault Refusal :=
  .next (
    let D := s.dom dom
    if D.st ≠ .waking ∨ D.up = false ∨ D.ready ≠ .stale ∨ s.stepsDone dom = false then s
    else
      let f := faultOf dom D.owed
      let s := s.setDom dom { D with st := .p0, ready := .fresh, idleSince := some s.tb.elapsed, bist := false, owed := 0 }
      let s := if D.owed = 0 then s else s.faultRec true f.1 f.2.1 f.2.2 0
      let s := match domKind dom with
        | .cluster c => s.cluFresh c
        | .dram ch => s.stackBack (ch / 4)
        | .quad q => (List.range 4).foldl (fun s i => s.updateLink (s.portOfLane (4 * q + i))) s
        | _ => s
      if D.bist then s.event 0 .pmc 3 dom else s)

/-! ### PMC_RETURN (R463, R523) -/

/-- R463, R469, R523: a write of PMC_RETURN. -/
def State.returnWrite (s : State) (v : Word) : State :=
  let d := fld v 0 7
  if !v.getLsbD 31 then s
  else if !s.variant.domain d then s.pmcReject
  else if (s.dom d).ready = .quarantined then
    if (s.dom d).bist then s else (s.setDom d { s.dom d with bist := true }).askWake d .back
  else if 24 ≤ d ∧ d < 48 ∧ s.halfRetired (d - 24) = true then
    (s.setPair (d - 24) { s.pair (d - 24) with leaving := true }).leavePair (d - 24)
  else s.pmcReject

/-! ### Scratch images (R462) -/

/-- R462: cluster c is STALE and powered, and its scratch has not been reloaded in the return that runs. -/
def State.staleScratch (s : State) (c : Nat) : Bool :=
  let k := s.clu c
  ((k.returning && !k.scratchDone && (s.dom c).st == .waking) || (!k.returning && k.st == .stale && (s.dom c).st.awake))
    && !k.copying

/-- R462, R469: a write of PMC_SCR_RELOAD: a STALE cluster's copy begins at once, and a sleeping one is armed. -/
def State.scrReload (s : State) (v : Word) : State :=
  let s := s.setReg .pmcScrReload 0 0 (v &&& 0xFF_FFFF)
  (List.range s.variant.clusters).foldl (fun s c =>
    let k := s.clu c
    if v.getLsbD c && s.staleScratch c then
      s.setClu c { k with copying := true, copyOnce := true }
    else s) s

/-- R462: SCRATCH_COPY_DONE: the image is in the cluster's scratch; the bit of a copy made for a STALE cluster clears. -/
def execScratchCopyDone (c : Nat) (s : State) : Host.Outcome State Fault Refusal :=
  .next (
    let k := s.clu c
    if k.copying = false then s
    else
      let s := s.clearScratch c
      let img := s.shu.images.filter (fun e => e.1 / 16384 == c)
      let mem : Memory := img.foldl (fun (m : Memory) (e : Host.Cell) => Memory.write m e.1 e.2) s.shu.scratch
      let s := { s with shu := { s.shu with scratch := mem } }
      let s := s.setClu c { k with copying := false, scratchDone := true, copyOnce := false }
      if k.copyOnce then s.setReg .pmcScrReload 0 0 (s.reg .pmcScrReload &&& ~~~(put 1 c)) else s)

/-! ### Clock failures (R27, R175) -/

/-- R27, R175: CLOCK_FAILURE: the domain that holds the island is quarantined and its work moved; a pair loses both
engines, which counts as one retirement for R176; a DRAM channel fails its stack (R320); a slice's ports go to another slice
(`State.sliceOf`). R460: it ends a return that waits or runs. -/
def execClockFailure (dom : Nat) (s : State) : Host.Outcome State Fault Refusal :=
  .next (
    if !s.variant.domain dom
        || ((s.dom dom).ready == .quarantined && (s.dom dom).wake.isNone && (s.dom dom).st != .waking) then s
    else
      let s := s.faultRec false .pmc 3 dom 0
      match domKind dom with
      | .cluster c => s.cluGone c 3
      | .pair p =>
        let gone (s : State) (e : Nat) : State :=
          if (s.engine e).st = .quarantined then s
          else ((s.stopEngine e 3).occur .engineRetired e).event 0 .cie 1 e 3
        if (s.engine (2 * p)).st = .quarantined ∧ (s.engine (2 * p + 1)).st = .quarantined then s.pairGone p 3
        else (((gone (gone s (2 * p)) (2 * p + 1)).burst).pairGone p 3).nextStandby
      | .dram ch =>
        let t := if s.stackOk (ch / 4) then s.failStack (ch / 4) (ch % 4) else s
        t.quarantineDom dom 3
      | .weft n => ((if (s.wport n).st = .none then s else s.weftReset n)).quarantineDom dom 3
      | _ => (s.quarantineDom dom 3).unpowered dom)

end Sys2Proof.Machine
end

