-- ==== Sys2Proof/Machine/Tamper.lean ====
section
/-! DEFINITION. The tamper monitor (R419 to R440): samples, decisions and responses, the erase (R18, R407), the battery
domain and its latch file, fuses and mesh measurements. -/

namespace Sys2Proof.Machine

/-! ### Sources and samples (R419 to R421) -/

/-- R419: sources that have detectors of their own. -/
def sampled (src : Nat) : Bool := decide (1 ≤ src ∧ src ≤ 10) || src == 14 || src == 15

/-- R419: sources watched on the backup cell, and whether detector B is among them. -/
def onBattery (src : Nat) : Option Bool :=
  if 1 ≤ src ∧ src ≤ 3 then some true else if 4 ≤ src ∧ src ≤ 7 then some false else none

/-- R427: RESP of a source in force. -/
def State.resp (s : State) (src : Nat) : BitVec 3 := BitVec.ofNat 3 (s.field .tmuSrcCfg src 0 3)

/-- R420: one detector's sample: runs of samples in alarm and clear, and whether it is active. -/
def debounce (n : Nat) (alarm : Bool) (run clr : Nat) (active : Bool) : Nat × Nat × Bool :=
  if alarm then (satTo 15 (run + 1), 0, active || decide (n ≤ run + 1))
  else (0, satTo 15 (clr + 1), active && !decide (n ≤ clr + 1))

/-- R420, R421: a source after a sample of both detectors; `both` is VOTE. -/
def TSrc.sample (t : TSrc) (n : Nat) (both a b : Bool) : TSrc :=
  let x := debounce n a t.runA t.clrA t.actA
  let y := debounce n b t.runB t.clrB t.actB
  { t with
    runA := x.1, clrA := x.2.1, actA := x.2.2, runB := y.1, clrB := y.2.1, actB := y.2.2
    alarm := if both then x.2.2 && y.2.2 else x.2.2 || y.2.2
    disagree := if a = b then t.disagree else satTo 65535 (t.disagree + 1) }

/-- R420: the time between two samples of a source's detectors in ns, 0 where they are watched continuously. -/
def samplePeriod (src : Nat) : Nat :=
  if src ≤ 3 then 100000 else if src = 4 then 10000 else if src ≤ 7 then 1000000 else if src ≤ 13 then 0 else 1000

/-- R420: a sample of a source is due. -/
def State.sampleDue (s : State) (src : Nat) : Bool :=
  match (s.tsrc src).at_ with
  | none => true
  | some t => decide (t + samplePeriod src ≤ s.tb.elapsed)

/-- R419, R438, R439: a detector's reading is in alarm: the resistance of a mesh loop (detector A of 1 and 2, in Ω) outside its
window, light in threshold steps, junction temperature in 1/8 °C and VBAT in mV beyond their limits; any other detector
reads 0 when it finds nothing (the edge latches of TAP_LOCKED hold no edge). TEMP_LOW compares with TMU_ENV_CFG, whose reset
value is −45 °C (R439), and not with the −40 °C of R512 (DEDUCED, log entry 136). -/
def State.inAlarm (s : State) (src : Nat) (a : Bool) (v : Int) : Bool :=
  let env (i n : Nat) : Nat := s.field .tmuEnvCfg 0 i n
  let deg (i : Nat) : Int := 8 * (BitVec.ofNat 8 (env i 8)).toInt
  if (src = 1 ∨ src = 2) ∧ a = true then
    decide (v < s.field .tmuMeshCfg (src - 1) 0 16) || decide ((s.field .tmuMeshCfg (src - 1) 16 16 : Int) < v)
  else if src = 4 then decide ((env 24 8 : Int) < v)
  else if src = 5 then decide (v < deg 0)
  else if src = 6 then decide (deg 8 < v)
  else if src = 7 then decide (v < 20 * env 16 8) || decide (3800 < v)
  else v != 0

/-- R420: a level through the 1 µs filter: what comes out, and since when the input differs from it. -/
def filterLevel (now : Nat) (f : Bool × Option Nat) (level : Bool) : Bool × Option Nat :=
  if level = f.1 then (level, none)
  else match f.2 with
    | none => (f.1, some now)
    | some t => if t + 1000 ≤ now then (level, none) else (f.1, some t)

/-- R420, R421: a source after a sample of both detectors now: their levels, EXT_ZEROIZE through its filter, debounced and
voted. -/
def State.sensed (s : State) (src : Nat) (a b : Int) : TSrc :=
  let t := s.tsrc src
  let x := s.inAlarm src true a
  let y := s.inAlarm src false b
  let n := s.field .tmuSrcCfg src 4 4
  let both := (s.reg .tmuSrcCfg src).getLsbD 3
  if src = 8 then
    let fx := filterLevel s.tb.elapsed t.filtA x
    let fy := filterLevel s.tb.elapsed t.filtB y
    { t.sample n both fx.1 fy.1 with at_ := some s.tb.elapsed, filtA := fx, filtB := fy }
  else { t.sample n both x y with at_ := some s.tb.elapsed }

/-- R439: what detector A of the temperature sources and the VBAT converter measured. -/
def State.envReading (s : State) (src : Nat) (a b : Int) : State :=
  if src = 5 ∨ src = 6 then { s with tmu := { s.tmu with temp := a } }
  else if src = 7 then { s with tmu := { s.tmu with vbat := satTo 65535 b.toNat } }
  else s

/-- R421: a source's sample on main power; it fires on its entry into alarm. -/
def State.sampleSource (s : State) (src : Nat) (a b : Int) : State :=
  let u := s.sensed src a b
  let t := (s.setTsrc src u).envReading src a b
  if u.alarm && !(s.tsrc src).alarm then t.fire src else t

/-- R420 to R422, R509: TAMPER_SAMPLE with both detectors' readings, no oftener than the source's rate; in TEST the access
port is open, and a sample of TAP_LOCKED is clear. -/
def execTamperSample (src : Nat) (a b : Int) (s : State) : Host.Outcome State Fault Refusal :=
  .next (
    if s.tmu.sampling = false ∨ sampled src = false ∨ s.tmu.fuses.getLsbD src = true
        ∨ s.sampleDue src = false then s
    else if src = 14 ∧ s.kcu.test = true then s.sampleSource src 0 0
    else s.sampleSource src a b)

/-! ### ERASE (R18, R407) -/

/-- R167: a pick's cipher operation has not finished. -/
def Pick.jobOpen (k : Pick) : Bool := k.cipher.any (fun c => c.phase != .done)

/-- R18, R167: a pick has been handed to a MAC: its transmission has started, and no job of it is left to cancel. -/
def State.handedToMac (s : State) (p : Nat) (k : Pick) : Bool :=
  s.sch.ports.any (fun e => match e.2.tx with
    | some t => t.pick == some p && (!t.cut || (k.cutStarted && !k.jobOpen))
    | none => false)

/-- R15, R18, R167: a port whose cut-through frame is erased: one that has started goes on and ends with a poisoned FCS, since
its verdict will not come. -/
def State.stopErased (s : State) (gone : List Nat) (P : Port) : Port :=
  match P.tx with
  | some t =>
    if t.cut && t.pick.any (fun p => gone.contains p) then
      if t.pick.any (fun p => (s.pick p).any (fun k => k.cutStarted)) then
        { P with tx := some { t with cut := false, poison := true, pick := none } }
      else { P with tx := none }
    else P
  | none => P

/-- R18: an item of a queue that is no pick any more is dropped with reason ERASED. -/
def State.eraseItem (s : State) (i : QItem) : State :=
  match i with
  | .pick _ => s
  | .held f => s.occurFrame f .dropReason 5
  | .spilled f _ _ _ => s.occurFrame f .dropReason 5

/-- R18, R106, R124: the records and copies that wait for a slot of a PUNT ring: those of a pick that was punted or dropped are
discarded, the pick dropped with reason ERASED, as are those of a pick that is dropped now; the copies of a frame already sent
stay. -/
def State.eraseRecords (s : State) (gone : List Nat) : State :=
  let ended (k : Pick) : Bool := k.disp == 2 || k.disp == 3
  let born := gone.filterMap (fun p => (s.pick p).map Pick.born)
  let t := { s with beam := { s.beam with
    puntWait := s.beam.puntWait.filter (fun x => !ended x.k && !born.contains x.k.born) } }
  (s.waitingPicks.filter ended).foldl (fun s k => s.occurPick k .dropReason 5) t

/-- R18, R167: every frame not yet handed to a MAC is dropped with reason ERASED, as is every pick whose job is cancelled. -/
def State.dropErased (s : State) : State :=
  let gone := (s.beam.picks.filter (fun e => !s.handedToMac e.1 e.2)).map (fun e => e.1)
  let items := s.sch.queues.flatMap (fun e => e.2.fifo)
    ++ s.wov.groups.flatMap (fun e => e.2.ready.toList)
  let s := { s with
    sch := { s.sch with
      queues := s.sch.queues.map (fun e => (e.1, { e.2 with fifo := [], inTurn := false, deficit := 0 }))
      ports := s.sch.ports.map (fun e => (e.1, { s.stopErased gone e.2 with rings := [] })) }
    wov := { s.wov with groups := s.wov.groups.map (fun e => (e.1, { e.2 with ready := none })) } }
  let s := (items.foldl State.eraseItem s).eraseRecords gone
  gone.foldl (fun s p => s.dropByT32 p 5) s

/-- R407: cloth keys of every group destroyed. -/
def State.eraseCloth (s : State) : State :=
  { s with wov := { s.wov with groups := s.wov.groups.map (fun e =>
      (e.1, { e.2 with cks := [], sealing := none, rxSlot := none, rxNext := none, ckDone := true, announced := 0 })) } }

/-- R407, R354: weft link keys destroyed: links leave UP and KEY; picks that wait to be sent are dropped with reason
ERASED. -/
def State.eraseWeft (s : State) : State :=
  (List.range s.variant.weftPorts).foldl (fun s n =>
    let w := s.wport n
    let mine := w.wait.filter (fun f => f.via.isNone)
    let s := s.setWport n { w with wait := w.wait.filter (fun f => f.via.isSome) }
    let s := mine.foldl (fun s f => s.occurWeft f .dropReason 5) s
    if w.st = .up ∨ w.st = .key then s.weftReset n else s) s

/-- R407: lookaside jobs lose their keys and complete STATE. -/
def State.eraseLookaside (s : State) : State :=
  let js := s.cie.jobs.filter (fun j => j.pick.isNone)
  let s := { s with cie := { s.cie with jobs := s.cie.jobs.filter (fun j => j.pick.isSome), lks := [] } }
  js.foldl (fun s j => s.lookasideDone { j with iv := none } .state []) s

/-- R18, R308, R404, R407: everything that ERASE destroys; in PUF_FAIL the key store is not erased. -/
def State.destroyKeys (s : State) : State :=
  let s := (((s.dropErased).eraseCloth).eraseWeft).eraseLookaside
  let s := (List.range 8).foldl (fun s g => s.loseDeskew g (fun _ => true)) s
  { s with
    hif := { s.hif with pages := [] }
    cie := { s.cie with pairs := s.cie.pairs.map (fun e => (e.1, { e.2 with ctx := [] })) }
    msc := { s.msc with tableKey := none, mkis := [] }
    kcu := { s.kcu with root := false, st := 4, drbg := 0, bks := if s.kcu.st = 3 then s.kcu.bks else [] } }

/-! ### Responses (R424 to R426, R428) -/

/-- R388, R424: the QUIESCE part of a response: traffic stopped, ALARM_N low, RECOVERY with CAUSE QUIESCE. -/
def State.quiesce (s : State) : State :=
  let s := { s with tmu := { s.tmu with quiesced := true, alarmN := true } }
  if s.hif.mode = 1 then { s with hif := { s.hif with mode := 2, cause := 1 } } else s

/-- R407, R424, R441: the ERASE part: the erase begins and its record is requested; a Shuavo unlock ends, and the test access
port closes until power-on reset. -/
def State.beginErase (s : State) (cause : Nat) (lock : Bool) : State :=
  let s := s.record { type := 7, unit := EvUnit.kcu.code, p0 := BitVec.ofNat 64 (cause + if lock then 256 else 0) }
  let s := s.destroyKeys
  { s with
    tmu := { s.tmu with erasing := some lock, tapClosed := s.tmu.tapClosed || s.kcu.test }
    kcu := { s.kcu with test := false, scope := 0 } }

/-- R441: a LOCK record requested. -/
def State.requestLock (s : State) (src : Nat) : State :=
  s.record { type := 3, unit := EvUnit.kcu.code, p0 := BitVec.ofNat 64 src }

/-- R425, R435: the level of a response that runs; NONE lies below every response. -/
def respLevel (r : BitVec 3) : Nat := if r = 7 then 0 else r.toNat + 1

/-- R424, R425: a response carried out over the running one: the actions they share are not repeated. -/
def State.carryOut (s : State) (resp : BitVec 3) (cause : Nat) (lockSrc : Nat) : State :=
  let was := s.tmu.running
  let higher (r : BitVec 3) : Bool := decide (r ≤ resp) && decide (respLevel was < respLevel r)
  let s := if higher 2 then s.quiesce else s
  let s := if higher 3 then s.beginErase cause (resp == 4) else s
  let s := if resp = 4 ∧ was ≠ 4 then
      let t := if s.bbx.ready || cause == 31 then s.requestLock lockSrc else s
      { t with tmu := { t.tmu with erasing := some true } }
    else s
  { s with tmu := { s.tmu with
    running := if 2 ≤ resp then resp else s.tmu.running
    quiesceRuns := s.tmu.quiesceRuns || resp == 2
    last := if respLevel s.tmu.last < respLevel resp then resp else s.tmu.last } }

/-- R443: the payload of a TAMPER record. -/
def tamperP0 (src : Nat) (a b : Bool) (resp done : BitVec 3) : Nat :=
  src + (if a then 32 else 0) + (if b then 64 else 0) + resp.toNat * 256 + done.toNat * 4096

/-- R432: a record latched, or counted beyond 16. -/
def State.latchRecord (s : State) (r : LatchRec) : State :=
  if s.tmu.latch.length < 16 then { s with tmu := { s.tmu with latch := s.tmu.latch ++ [r] } }
  else { s with tmu := { s.tmu with ovf := satTo 255 (s.tmu.ovf + 1) } }

/-- R425: the record of a source that fired: to the black box, or to the latch file before it is ready. -/
def State.tamperRecord (s : State) (src : Nat) (resp done : BitVec 3) : State :=
  let t := s.tsrc src
  if s.bbx.ready then
    s.record { type := 1, unit := EvUnit.tmu.code, p0 := BitVec.ofNat 64 (tamperP0 src t.actA t.actB resp done) }
  else s.latchRecord { src := src, a := t.actA, b := t.actB, resp := resp, done := done, ticks := 0, battery := false }

/-- R424: event TAMPER_ALARM. -/
def State.tamperEvent (s : State) (src : Nat) (done : BitVec 3) : State :=
  s.event 0 .tmu 1 (src + done.toNat * 256)

/-- R423: the response that the policy gives for the sources that fired. -/
def State.wanted (s : State) : BitVec 3 :=
  s.tmu.fired.foldl (fun m src => if m < s.resp src then s.resp src else m) 0

/-- R423: of two responses the higher. -/
def higherResp (x y : BitVec 3) : BitVec 3 := if x < y then y else x

/-- R423 to R425: the decision over the sources that fired: records for each, the event, and the response. -/
def State.decideTamper (s : State) (a b : RespCode) : State :=
  let s := if a = b then s else s.fire 11
  let resp : BitVec 3 := if a = b then a else higherResp (higherResp a b) 3
  let fired := s.tmu.fired
  let absorbed : Bool := decide (respLevel resp ≤ respLevel s.tmu.running)
  let done : BitVec 3 := if absorbed then 0 else resp
  let cause := (fired.find? (fun src => 3 ≤ s.resp src)).getD 11
  let lockSrc := (fired.find? (fun src => s.resp src == 4)).getD cause
  let notify : Bool := !absorbed && decide (1 ≤ resp) && decide (respLevel s.tmu.running < respLevel 1)
  let s := if absorbed then s else s.carryOut resp cause lockSrc
  let s := fired.foldl (fun s src => s.tamperRecord src resp done) s
  let s := if notify then fired.foldl (fun s src => s.tamperEvent src done) s else s
  { s with tmu := { s.tmu with fired := [], decidedAt := some s.tb.elapsed } }

/-- R423: the microsecond of the last decision has passed. -/
def State.decisionDue (s : State) : Bool :=
  match s.tmu.decidedAt with
  | none => true
  | some t => decide (t + 1000 ≤ s.tb.elapsed)

/-- R423: TAMPER_DECISION with both engines' results, at the end of a microsecond in which a source fired; two engines that
agree give what the policy says. -/
def execTamperDecision (a b : RespCode) (s : State) : Host.Outcome State Fault Refusal :=
  .next (
    if s.tmu.fired = [] ∨ s.pins.inReset = true ∨ 4 < a ∨ 4 < b ∨ (a = b ∧ a ≠ s.wanted) ∨ s.decisionDue = false then s
    else s.decideTamper a b)

/-- R425: RUNNING once an ERASE has ended. -/
def Tmu.afterErase (t : Tmu) : BitVec 3 :=
  if 3 ≤ t.running then (if t.quiesceRuns then 2 else 7) else t.running

/-- R407, R425: ERASE_READBACK_DONE: everything reads back as zero and the response ends, and a QUIESCE that ran before it
goes on; otherwise it is erased and checked again. -/
def execEraseReadbackDone (zeros : Bool) (s : State) : Host.Outcome State Fault Refusal :=
  .next (
    if s.tmu.erasing.isNone ∨ zeros = false then s
    else { s with tmu := { s.tmu with erasing := none, running := s.tmu.afterErase } })

/-- R428, R429: no source whose RESP is QUIESCE or higher is in alarm. -/
def State.alarmQuiet (s : State) : Bool := (List.range 16).all (fun src => !(s.tsrc src).alarm || decide (s.resp src < 2))

/-- R428, R435: a write of TMU_STAT with ALARM_CLR. -/
def State.alarmClr (s : State) (v : Word) : State :=
  if v.getLsbD 8 && s.alarmQuiet then { s with tmu := { s.tmu with alarmN := false } } else s

/-! ### The backup cell (R430 to R432, R505) -/

/-- R430: main power is off. -/
def State.onCell (s : State) : Bool := !s.pins.pwrgood && s.pins.inReset

/-- R430: the battery domain's copy of RESP. -/
def State.battResp (s : State) (src : Nat) : BitVec 3 := (tfind s.tmu.resp src).getD (respDefault src)

/-- R431, R505: VBAT is at least 2.8 V: as the VBAT source's own sample finds it in mV, otherwise the environment's, so free. -/
def State.holdsAlarm (s : State) (src : Nat) (v : Int) : Bool × State :=
  if src = 7 then (decide (2800 ≤ v), s)
  else
    let r := s.freeBits
    (r.1.getLsbD 0, r.2)

/-- R431: a source fires on the backup cell: BKS erased, the record latched, ALARM_N held low while VBAT is 2.8 V or more;
`v` is detector A's reading. -/
def State.battFire (s : State) (src : Nat) (a b : Bool) (v : Int) : State :=
  let resp := s.battResp src
  let s := if 3 ≤ resp then { s with kcu := { s.kcu with bks := [] } } else s
  let s := s.latchRecord
    { src := src, a := a, b := b, resp := resp, done := resp, ticks := s.tmu.ticks, battery := true }
  if resp < 2 then s
  else
    let r := s.holdsAlarm src v
    { r.2 with tmu := { r.2.tmu with battAlarm := r.2.tmu.battAlarm || r.1 } }

/-- R430: the battery domain's 8 Hz sample of a source is due. -/
def State.batteryDue (s : State) (src : Nat) : Bool :=
  match (tget {} s.tmu.batt src).at_ with
  | none => true
  | some t => decide (t + 125000000 ≤ s.tb.elapsed)

/-- R430, R431: a source after a sample on the backup cell: DEBOUNCE 2, either detector of those that are watched. -/
def State.sensedOnCell (s : State) (src : Nat) (useB : Bool) (a b : Int) : TSrc :=
  { (tget {} s.tmu.batt src).sample 2 false (s.inAlarm src true a) (useB && s.inAlarm src false b) with
    at_ := some s.tb.elapsed }

/-- R430, R431: BATTERY_SAMPLE, at 8 Hz. -/
def execBatterySample (src : Nat) (a b : Int) (s : State) : Host.Outcome State Fault Refusal :=
  .next (match onBattery src with
    | none => s
    | some useB =>
      if s.onCell = false ∨ s.tmu.fuses.getLsbD src = true ∨ s.batteryDue src = false then s
      else
        let t := tget {} s.tmu.batt src
        let u := s.sensedOnCell src useB a b
        let s := { s with tmu := { s.tmu with
          batt := tset {} s.tmu.batt src u, ticks := s.tb.elapsed / 125000000 } }
        if u.alarm && !t.alarm then s.battFire src u.actA u.actB a else s)

/-- R430, R505: VBAT_RETENTION_LOST: with main power off, the key store and the copy of RESP are lost. -/
def execVbatRetentionLost (s : State) : Host.Outcome State Fault Refusal :=
  .next (
    if s.onCell = false then s
    else { s with
      kcu := { s.kcu with bks := [], bksGone := true }
      tmu := { s.tmu with resp := [] } })

/-! ### Policy, fuses and measurements (R422, R427, R433, R438 to R440) -/

/-- R435: a TMU write rejected. -/
def State.tmuReject (s : State) : State := s.setRegBit .tmuStat 7

/-- R434: the policy is sealed. -/
def State.policySealed (s : State) : Bool := (s.reg .tmuPolicySeal).getLsbD 0

/-- R420, R421, R424, R427, R436: a policy word is refused for a source. -/
def State.srcCfgBad (s : State) (src : Nat) (v : Word) : Bool :=
  let old := s.reg .tmuSrcCfg src
  let resp := fld v 0 3
  decide (4 < resp) || decide (resp < (respMin src).toNat)
    || (v.getLsbD 3 && !decide (1 ≤ src ∧ src ≤ 7))
    || fld v 4 4 == 0 || (debounceFixed src && fld v 4 4 != 1)
    || (s.policySealed && (decide (resp < fld old 0 3) || fld v 3 5 != fld old 3 5))

/-- R427, R430: a write of TMU_SRC_CFG; the battery domain's copy of RESP follows an accepted one. -/
def State.srcCfgWrite (s : State) (src : Nat) (v : Word) : State :=
  if src = 0 ∨ 16 ≤ src ∨ s.srcCfgBad src v = true then s.tmuReject
  else
    let s := s.setReg .tmuSrcCfg src 0 (v &&& 0xFF)
    if (onBattery src).isSome then { s with tmu := { s.tmu with resp := tput s.tmu.resp src (BitVec.ofNat 3 (fld v 0 3)) } }
    else s

/-- R434, R438: a write of TMU_MESH_CFG. -/
def State.meshCfgWrite (s : State) (m : Nat) (v : Word) : State :=
  if s.policySealed = true ∨ fld v 16 16 ≤ fld v 0 16 then s.tmuReject else s.setReg .tmuMeshCfg m 0 v

/-- R434, R439: a write of TMU_ENV_CFG. -/
def State.envCfgWrite (s : State) (v : Word) : State :=
  let lo := (v.extractLsb' 0 8).toInt
  let hi := (v.extractLsb' 8 8).toInt
  let vbat := fld v 16 8
  if s.policySealed = true ∨ hi ≤ lo ∨ vbat < 110 ∨ 150 < vbat ∨ fld v 24 8 = 0 then s.tmuReject
  else s.setReg .tmuEnvCfg 0 0 v

/-- R422: a source that has a fuse. -/
def fusable (src : Nat) : Bool := decide (1 ≤ src ∧ src ≤ 7) || src == 14

/-- R422, R440: a write of TMU_FUSE: in RAW or PROVISIONED a source that may be fused is fused off and recorded; the bit is
programmed within 12 µs. -/
def State.fuseWrite (s : State) (v : Word) : State :=
  let src := fld v 0 5
  if !v.getLsbD 31 then s
  else if fld v 8 8 ≠ 0xA5 ∨ fusable src = false ∨ ¬ (s.kcu.lc = 1 ∨ s.kcu.lc = 2) then s.tmuReject
  else
    let s := { s with tmu := { s.tmu with
      bank := s.tmu.bank ||| put 1 src
      burning := if s.tmu.bank.getLsbD src then s.tmu.burning else (src, s.tb.elapsed) :: s.tmu.burning
      fuses := s.tmu.fuses ||| put 1 src
      srcs := tset {} s.tmu.srcs src { latched := (s.tsrc src).latched, disagree := (s.tsrc src).disagree }
      batt := tset {} s.tmu.batt src {} } }
    s.record { type := 15, unit := EvUnit.tmu.code, p0 := BitVec.ofNat 64 src }

/-- R433: a resistance in the outer 10 % of a mesh's window. -/
def State.driftBand (s : State) (m ohms : Nat) : Bool :=
  let lo := s.field .tmuMeshCfg m 0 16
  let hi := s.field .tmuMeshCfg m 16 16
  decide (lo ≤ ohms ∧ ohms ≤ hi) && (decide (10 * (ohms - lo) ≤ hi - lo) || decide (10 * (hi - ohms) ≤ hi - lo))

/-- R433: a second has passed since the mesh was measured. -/
def State.measureDue (s : State) (m : Nat) : Bool :=
  let t := tget 0 s.tmu.measured m
  t == 0 || decide (t + 1000000000 ≤ s.tb.elapsed + 1)

/-- R433, R438: MESH_MEASURE, once a second: the measurement, and MESH_DRIFT on each entry into the band. -/
def execMeshMeasure (m ohms : Nat) (s : State) : Host.Outcome State Fault Refusal :=
  .next (
    if s.tmu.sampling = false ∨ 1 < m ∨ s.tmu.fuses.getLsbD (m + 1) = true ∨ s.measureDue m = false then s
    else
      let o := satTo 65535 ohms
      let t := s.tmu
      let inBand := s.driftBand m o
      let s := { s with tmu := { t with
        measured := tset 0 t.measured m (s.tb.elapsed + 1)
        ohms := tset 0 t.ohms m o
        drifting := if inBand then (if t.drifting.contains m then t.drifting else m :: t.drifting) else t.drifting.erase m } }
      if inBand && !t.drifting.contains m then
        let s := { s with tmu := { s.tmu with drift := if t.drift.contains m then t.drift else m :: t.drift } }
        s.event 0 .tmu 2 m o
      else s)

end Sys2Proof.Machine
end

