-- ==== Sys2Proof/Machine/Keys.lean ====
section
/-! DEFINITION. Keys as the host gives them to the block: cloth keys (R147 to R149), lookaside keys and jobs (R179 to R182,
R387), the key store (R404 to R406), zeroization (R407), identity, cascade certificate and seals (R397, R398, R416, R447),
key pages (R400 to R403). -/

namespace Sys2Proof.Machine

/-! ### Cloth keys (R147 to R149, R239) -/

/-- R140, R148, R379, R401: CLOTH_KEY_LOAD: 20 group, 21 direction, 22 slot, 23 key number, 24 to 27 salt; BUSY for a draining slot,
and STATE for another VALID one (DESIGN CHOICE, log entry 136: the spec gives that no status). -/
def execClothKeyLoad (f : Nat) (s : State) : Host.Outcome State Fault Refusal :=
  .next (if s.pageBusy f then s else s.command f 0 (fun e => e.isOp 0x0301) (fun c =>
    let g := c.arg 20
    let n := 2 * c.arg 21 + c.arg 22
    let G := s.group g
    if 8 ≤ g ∨ 2 ≤ c.arg 21 ∨ 2 ≤ c.arg 22 ∨ 4 ≤ c.arg 23 then s.answer f 0 (.error .range)
    else if (G.ck n).valid then s.answer f 0 (.error (if (G.ck n).drain then .busy else .state))
    else match s.takeKey f 32 with
      | .error st => s.answer f 0 (.error st)
      | .ok key =>
        let k : CkSlot := { valid := true, kn := BitVec.ofNat 2 (c.arg 23), salt := slice c.desc 24 4, key := key }
        s.answer f 0 (.ok ((s.setGroup g { G with cks := tset {} G.cks n k }).emptyPage f))))

/-- R149: a cloth key slot that may not be retired. -/
def State.ckHeld (s : State) (g dir slot : Nat) : Bool :=
  let G := s.group g
  let k := G.ck (2 * dir + slot)
  !k.valid || k.drain
    || (dir == 0 && (!G.ckDone || G.ckSlot == (slot == 1)))
    || (dir == 1 && s.grpOn g && k.kn == G.rxKn)

/-- R149, R140: CLOTH_KEY_RETIRE: the slot drains. -/
def execClothKeyRetire (f : Nat) (s : State) : Host.Outcome State Fault Refusal :=
  .next (s.command f 0 (fun e => e.isOp 0x0302) (fun c =>
    let g := c.arg 20
    let G := s.group g
    let n := 2 * c.arg 21 + c.arg 22
    if 8 ≤ g ∨ 2 ≤ c.arg 21 ∨ 2 ≤ c.arg 22 then s.answer f 0 (.error .range)
    else if s.ckHeld g (c.arg 21) (c.arg 22) then s.answer f 0 (.error .state)
    else
      let k := { G.ck n with drain := true, drainAt := s.tb.elapsed + 1000 * s.field .atDrain 0 0 16 + 1 }
      s.answer f 0 (.ok (s.setGroup g { G with cks := tset {} G.cks n k }))))

/-! ### Lookaside key slots (R179) -/

/-- Lookaside key slot n. -/
def State.lks (s : State) (n : Nat) : LksKey := tget {} s.cie.lks n

/-- Lookaside key slot n set. -/
def State.setLks (s : State) (n : Nat) (k : LksKey) : State :=
  { s with cie := { s.cie with lks := tset {} s.cie.lks n k } }

/-- R167: every key context of a lookaside slot invalidated. -/
def State.dropLksCtx (s : State) (n : Nat) : State :=
  let keep (k : CtxKey) : Bool := match k with
    | .lks m _ => m != n
    | .assoc .. => true
  { s with cie := { s.cie with pairs := s.cie.pairs.filterMap (fun e =>
      let p : Pair := { e.2 with ctx := e.2.ctx.filter keep }
      if p = {} then none else some (e.1, p)) } }

/-- R179: a queued, running or suspended job names a lookaside slot. -/
def State.lksNamed (s : State) (n : Nat) : Bool :=
  s.cie.jobs.any (fun j => match j.ctx with
    | .lks m _ => m == n
    | .assoc .. => false)

/-- R179, R401: LKS_KEY_LOAD into an empty slot. -/
def execLksKeyLoad (f : Nat) (s : State) : Host.Outcome State Fault Refusal :=
  .next (if s.pageBusy f then s else s.command f 0 (fun e => e.isOp 0x0501) (fun c =>
    let n := c.arg 20
    let k := s.lks n
    if k.key ≠ [] then s.answer f 0 (.error (if k.owner = f then .state else .denied))
    else match s.takeKey f 64 with
      | .error st => s.answer f 0 (.error st)
      | .ok key =>
        s.answer f 0 (.ok (((s.setLks n { key := key, owner := f, loads := k.loads + 1 }).dropLksCtx n).emptyPage f))))

/-- R179: LKS_KEY_DESTROY. -/
def execLksKeyDestroy (f : Nat) (s : State) : Host.Outcome State Fault Refusal :=
  .next (s.command f 0 (fun e => e.isOp 0x0502) (fun c =>
    let n := c.arg 20
    let k := s.lks n
    if k.key = [] then s.answer f 0 (.error .state)
    else if k.owner ≠ f then s.answer f 0 (.error .denied)
    else if s.lksNamed n then s.answer f 0 (.error .busy)
    else s.answer f 0 (.ok ((s.setLks n { loads := k.loads }).dropLksCtx n))))

/-! ### Lookaside jobs (R180, R181, R387) -/

/-- R373: the next slot of a LOOKASIDE ring that its unit has not taken yet; none while the ring is stopped, or while the
slot has FENCE and an earlier one has not completed. -/
def State.nextLookaside (s : State) (f : Nat) : Option Fetched :=
  let g := s.ring f 5
  if !s.fnExists f || g.stopped then none
  else match g.fetched.find? (fun e => !e.withdrawn && !e.posted) with
    | none => none
    | some e => if (e.desc.getD 2 0).getLsbD 1 && g.front != some e then none else some e

/-- R387: a slot of a LOOKASIDE ring changed. -/
def State.setSlot (s : State) (f : Nat) (e : Fetched) : State :=
  let g := s.ring f 5
  s.setRing f 5 { g with fetched := g.fetched.map (fun (x : Fetched) => if x.idx = e.idx ∧ x.old = e.old then e else x) }

/-- R373: a slot that ends without a job; it completes when the earlier ones have. -/
def State.refuseSlot (s : State) (f : Nat) (e : Fetched) (st : HStat) : State :=
  (s.setSlot f { e with posted := true, result := some (st.code, []) }).flushLookaside f ((s.ring f 5).fetched.length + 1)

/-- R179, R407: what holds for every lookaside job: the device has its keys, and the slot named is the function's. -/
def State.lksCheck (s : State) (f n : Nat) : Option HStat :=
  if s.kcu.st = 4 ∨ (s.lks n).key = [] then some .state
  else if (s.lks n).owner ≠ f then some .denied
  else none

/-- R179 to R181, R387: a lookaside job submitted at level LOW. -/
def State.submitLookaside (s : State) (f : Nat) (e : Fetched) (kind : JobKind) : State :=
  let n := e.arg 28
  let j : Job := { id := s.cie.next, kind := kind, level := 0, ord := s.cie.next, ctx := .lks n (s.lks n).loads
                   fn := f, desc := e.desc, src := e.buf }
  let s := s.setSlot f { e with posted := true, job := some j.id }
  { s with cie := { s.cie with jobs := s.cie.jobs ++ [j], next := s.cie.next + 1 } }

/-- R373, R376, R387: a lookaside command of an operation: refused, or submitted once its ranges hold. -/
def State.lookaside (s : State) (f op : Nat) (kind : JobKind) (rangeOk : Fetched → Bool) : State :=
  match s.nextLookaside f with
  | none => s
  | some e =>
    if !e.isOp op then s
    else match s.gate f op with
      | some st => s.refuseSlot f e st
      | none =>
        match s.lksCheck f (e.arg 28) with
        | some st => s.refuseSlot f e st
        | none => if rangeOk e then s.submitLookaside f e kind else s.refuseSlot f e .range

/-- R180: the ranges of an XTS job: its data unit size, the two halves of its key, its last data unit number. -/
def State.xtsOk (s : State) (e : Fetched) : Bool :=
  let unit := leAt e.desc 29 3
  let k := (s.lks (e.arg 28)).key
  decide (16 ≤ unit ∧ unit ≤ 1048576) && k.take 32 != k.drop 32
    && decide (leAt e.desc 32 16 + e.buf.length / unit ≤ 2 ^ 128)

/-- R180: XTS_ENCRYPT. -/
def execXtsEncrypt (f : Nat) (s : State) : Host.Outcome State Fault Refusal :=
  .next (s.lookaside f 0x0601 .xts s.xtsOk)

/-- R180: XTS_DECRYPT. -/
def execXtsDecrypt (f : Nat) (s : State) : Host.Outcome State Fault Refusal :=
  .next (s.lookaside f 0x0602 .xts s.xtsOk)

/-- R181, R387: the text and authenticated lengths of a GCM job: none negative, not both 0, the text below 2^24. -/
def gcmOk (tag : Nat) (e : Fetched) : Bool :=
  let a := leAt e.desc 30 2
  decide (a + tag ≤ e.buf.length) && decide (tag + 1 ≤ e.buf.length) && decide (e.buf.length - a - tag < 2 ^ 24)

/-- R181: GCM_ENCRYPT. -/
def execGcmEncrypt (f : Nat) (s : State) : Host.Outcome State Fault Refusal :=
  .next (s.lookaside f 0x0603 .gcm (gcmOk 0))

/-- R181: GCM_DECRYPT; DEVICE_IV has no meaning there. -/
def execGcmDecrypt (f : Nat) (s : State) : Host.Outcome State Fault Refusal :=
  .next (s.lookaside f 0x0604 .gcm (fun e => gcmOk 16 e && e.arg 29 == 0))

/-! ### The key store (R404 to R406) -/

/-- R406: the attributes of BKS_STORE are in range. -/
def bksArgsOk (c : Fetched) : Bool :=
  decide (c.arg 20 < 64) && (c.arg 21 == 1 || c.arg 21 == 2) && decide (c.arg 22 < 64)
    && !(c.arg 23 % 2 == 1 && leAt c.desc 24 3 == 0) && !(c.arg 23 / 2 % 2 == 1 && c.arg 27 == 0)

/-- R404, R406: BKS_STORE. -/
def execBksStore (f : Nat) (s : State) : Host.Outcome State Fault Refusal :=
  .next (if s.pageBusy f then s else s.command f 0 (fun e => e.isOp 0x0801) (fun c =>
    let k := c.arg 20
    if s.kcu.st ≠ 2 then s.answer f 0 (.error .state)
    else if !bksArgsOk c then s.answer f 0 (.error .range)
    else if f ≠ 0 ∧ c.arg 22 ≠ f then s.answer f 0 (.error .denied)
    else if (s.bks k).purpose ≠ 0 then s.answer f 0 (.error .state)
    else match s.takeKey f 32 with
      | .error st => s.answer f 0 (.error st)
      | .ok key =>
        let b : Bks :=
          { purpose := c.arg 21, owner := c.arg 22, uses := if c.arg 23 % 2 = 1 then some (leAt c.desc 24 3) else none
            starts := if c.arg 23 / 2 % 2 = 1 then some (c.arg 27) else none, key := key }
        s.answer f 0 (.ok ((s.setBks k (sealBks k b)).emptyPage f))))

/-- R406: a running command holds a key store slot: a WRAPPED commit that is unwrapping. -/
def State.bksBusy (s : State) (k : Nat) : Bool := s.hif.pages.any (fun e => e.2.unwrap.any (fun u => u.2 == k))

/-- R406: BKS_DESTROY; a slot that is already EMPTY stays so. -/
def execBksDestroy (f : Nat) (s : State) : Host.Outcome State Fault Refusal :=
  .next (s.command f 0 (fun e => e.isOp 0x0802) (fun c =>
    let k := c.arg 20
    if s.kcu.st ≠ 2 then s.answer f 0 (.error .state)
    else if 64 ≤ k then s.answer f 0 (.error .range)
    else if f ≠ 0 ∧ (s.bks k).purpose ≠ 0 ∧ (s.bks k).owner ≠ f then s.answer f 0 (.error .denied)
    else if s.bksBusy k then s.answer f 0 (.error .busy)
    else s.answer f 0 (.ok (s.setBks k {}))))

/-- R406, R416: BKS_STATUS: 64 records of 16 bytes. -/
def State.bksStatus (s : State) : Bytes :=
  (List.range 64).flatMap (fun k =>
    let b := s.bks k
    leBytes (Config.bksRecord k b.purpose b.owner b.uses b.starts).toNat 16)

/-- R406: BKS_STATUS. -/
def execBksStatus (f : Nat) (s : State) : Host.Outcome State Fault Refusal :=
  .next (s.command f 0 (fun e => e.isOp 0x0803) (fun _ =>
    if s.kcu.st ≠ 2 then s.complete f 0 .state else s.completeOut f 0 s.bksStatus true))

/-! ### Zeroization (R407) -/

/-- R407, R424, R425: a response carried out with cause HOST, unless one at least as high already runs; as every response
above NOTIFY it raises TAMPER_ALARM, whose source is the cause (log entry 78). -/
def State.zeroize (s : State) (resp : BitVec 3) : State :=
  if respLevel resp ≤ respLevel s.tmu.running then s
  else
    let t := s.carryOut resp 31 0
    if respLevel s.tmu.running < respLevel 1 then t.tamperEvent 31 resp else t

/-- R407: ZEROIZE with ERASE; an argument that is neither ERASE nor ERASE_LOCK completes RANGE. -/
def execZeroizeErase (f : Nat) (s : State) : Host.Outcome State Fault Refusal :=
  .next (s.command f 0 (fun e => e.isOp 0x0804 && e.arg 20 != 2) (fun c =>
    if c.arg 20 ≠ 1 then s.answer f 0 (.error .range) else s.answer f 0 (.ok (s.zeroize 3))))

/-- R407: ZEROIZE with ERASE_LOCK. -/
def execZeroizeEraseLock (f : Nat) (s : State) : Host.Outcome State Fault Refusal :=
  .next (s.command f 0 (fun e => e.isOp 0x0804 && e.arg 20 == 2) (fun _ => s.answer f 0 (.ok (s.zeroize 4))))

/-! ### Identity (R396 to R398, R416, R447) -/

/-- R396, R407, R408, R416, R447: what holds for every command of the identity: STATE in PUF_FAIL and ERASED, DENIED in a
lifecycle state without the identity service, STATE before READY. -/
def State.identityBad (s : State) : Option HStat :=
  if s.kcu.st = 3 ∨ s.kcu.st = 4 then some .state
  else if s.kcu.lc = 1 then some .denied
  else if s.kcu.st ≠ 2 then some .state
  else none

/-- R397: ID_CERT_READ: the identity certificate, zeros while its item is blank or DAMAGED. -/
def execIdCertRead (f : Nat) (s : State) : Host.Outcome State Fault Refusal :=
  .next (s.command f 0 (fun e => e.isOp 0x0805) (fun _ =>
    match s.identityBad with
    | some st => s.complete f 0 st
    | none => s.completeOut f 0 (slice ((s.otpItem 4).getD []) 0 2048) true))

/-- R398: the certificate is refused: another key, another device ID, or a signature that fails. -/
def State.cascadeBad (s : State) (cert : Bytes) : Bool :=
  slice cert 8 97 != identityPub || beNat (slice cert 6 2) != s.devId || !s.certOk cert

/-- R343, R398: CASCADE_CERT_LOAD; once a certificate is accepted, links that wait in KEY begin their agreement. -/
def execCascadeCertLoad (f : Nat) (s : State) : Host.Outcome State Fault Refusal :=
  .next (s.command f 0 (fun e => e.isOp 0x0806) (fun c =>
    match s.identityBad with
    | some st => s.complete f 0 st
    | none =>
      if s.cascadeBad c.buf then s.complete f 0 .range
      else
        let s := { s with kcu := { s.kcu with cascade := some c.buf } }
        let s := (List.range s.variant.weftPorts).foldl (fun s n =>
          let w := s.wport n
          if w.st = .key ∧ w.helloTx = [] ∧ w.keyed = false ∧ w.refusedAt = none then s.sendHello n else s) s
        s.complete f 0 .ok))

/-- R376, R416: a result written back over a parameter block of 160 bytes. -/
def State.writeBack (s : State) (f : Nat) (out : Bytes) : State :=
  match (s.ring f 0).front with
  | none => s
  | some e => (s.emit (.dma (BitVec.ofNat 64 (leAt e.desc 8 8)) out)).complete f 0 .ok

/-- R416: ATTEST: the identity key signs nonce, SERIAL and state code; bytes 48 to 63 are not stated, so free. -/
def execAttest (f : Nat) (s : State) : Host.Outcome State Fault Refusal :=
  .next (s.command f 0 (fun e => e.isOp 0x0807) (fun c =>
    match s.identityBad with
    | some st => s.complete f 0 st
    | none =>
      let nonce := slice c.buf 0 48
      let r := s.sign identityKey (nonce ++ s.serial ++ [s.kcu.lc.setWidth 8])
      let v := r.2.freeBits
      let w := v.2.freeBits
      w.2.writeBack f (nonce ++ leBytes v.1.toNat 8 ++ leBytes w.1.toNat 8 ++ slice r.1 0 96)))

/-- R447: BBX_SEAL. -/
def execBbxSeal (f : Nat) (s : State) : Host.Outcome State Fault Refusal :=
  .next (s.command f 0 (fun e => e.isOp 0x0808) (fun c =>
    match s.identityBad with
    | some st => s.complete f 0 st
    | none =>
      let nonce := slice c.buf 0 32
      let seq := leBytes ((s.bbx.seq + 2 ^ 32 - 1) % 2 ^ 32) 4
      let r := s.sign identityKey (nonce ++ s.serial ++ seq ++ s.chainNow)
      let d := sha384 nonce
      let t := r.2.record
        { type := 14, unit := EvUnit.kcu.code, p0 := BitVec.ofNat 64 (leAt d 0 8), p1 := BitVec.ofNat 64 (leAt d 8 8)
          p2 := BitVec.ofNat 64 (leAt d 16 8) }
      t.writeBack f (nonce ++ seq ++ s.chainNow ++ List.replicate 12 0 ++ slice r.1 0 96)))

/-! ### Key pages (R400 to R403) -/

/-- R400, R403: FORM and LEN of a commit are allowed. -/
def commitOk (form len : Nat) : Bool :=
  (form == 1 && (len == 16 || len == 32 || len == 64)) || (form == 2 && (len == 44 || len == 60 || len == 92))

/-- R405: the turn of the last WRAPPED commit that waits. -/
def State.lastTurn (s : State) : Nat := s.hif.pages.foldl (fun n e => max n e.2.turn) 0

/-- R405: another page's WRAPPED commit reached the key store before function f's. -/
def State.earlierUse (s : State) (f : Nat) : Bool :=
  s.hif.pages.any (fun e => e.2.unwrap.isSome && decide (e.2.turn < (s.page f).turn))

/-- R400, R401: a commit: refused in RMA or while the page is not EMPTY, rejected for its form; a PLAIN key is taken, a
WRAPPED one begins to unwrap. -/
def State.kpCommit (s : State) (f off : Nat) (v : Word) : State :=
  let p := s.page f
  let len := fld v 0 7
  let form := fld v 8 2
  if s.kcu.lc = 4 then s.accessErr f true off 3
  else if p.st ≠ 0 ∨ p.unwrap.isSome = true then s.accessErr f true off 4
  else if !commitOk form len then s.accessErr f true off 2
  else
    let bytes := Memory.readBytes p.data 0 len
    if form = 1 then s.setPage f { st := 1, len := len, key := bytes }
    else s.setPage f { p with unwrap := some (bytes, fld v 10 6), turn := s.lastTurn + 1 }

/-- R403: a write of KP_CTL: CLEAR wins over COMMIT. -/
def State.kpCtlWrite (s : State) (f off : Nat) (v : Word) : State :=
  if v.getLsbD 17 then s.emptyPage f
  else if v.getLsbD 16 then s.kpCommit f off v
  else s

/-- R400, R405: the key that a WRAPPED commit of function f yields, none when its tag fails or its slot is unusable. -/
def State.unwrapKey (s : State) (f : Nat) (bytes : Bytes) (k : Nat) : Option Bytes :=
  let b := s.bks k
  let n := bytes.length - 28
  let r := gcmOpen b.key (bytes.take 12) [BitVec.ofNat 8 f, BitVec.ofNat 8 n] (slice bytes 12 n) (bytes.drop (12 + n))
  if s.kcu.st = 2 ∧ b.purpose = 2 ∧ (b.owner = f ∨ b.owner = 0 ∨ f = 0) ∧ r.2 = true then some r.1 else none

/-- R400, R405: a WRAPPED commit finishes once the commits before it have: the page is FULL with the unwrapped key, or in ERROR
with its data cleared; the attempt counts as a use of the slot. -/
def execKpUnwrapDone (f : Nat) (s : State) : Host.Outcome State Fault Refusal :=
  .next (match (s.page f).unwrap with
    | none => s
    | some (bytes, k) =>
      if s.earlierUse f then s else
      let page : KeyPage := match s.unwrapKey f bytes k with
        | some key => { st := 1, len := key.length, key := key }
        | none => { st := 2 }
      let s := s.setPage f page
      if s.kcu.st = 2 ∧ (s.bks k).purpose ≠ 0 then s.useBks k else s)

end Sys2Proof.Machine
end

