-- ==== Sys2Proof/Machine/Lifecycle.lean ====
section
/-! DEFINITION. The lifecycle (R408 to R416): stage words and their decode, OTP items, transition tickets, the Shuavo
exchange, and the key custodian's part of a start (R396, R399, R404, R405). -/

namespace Sys2Proof.Machine

/-! ### Stage words (R410) -/

/-- R410: the pattern of a stage word. -/
def stagePattern (n : Nat) : Word := [0x5A5AA5A5, 0x3C3CC3C3, 0x69699696, 0x0FF0F00F].getD n 0

/-- Stage word n. -/
def State.stage (s : State) (n : Nat) : Word := tget 0 s.kcu.stage n

/-- R410: words that are COMPLETE from word 0 on. -/
def State.stagePrefix (s : State) : Nat :=
  ((List.range 4).takeWhile (fun n => s.stage n == stagePattern n)).length

/-- R410: a word is PARTIAL with no bit outside its pattern. -/
def State.resumable (s : State) (n : Nat) : Bool :=
  s.stage n != 0 && s.stage n != stagePattern n && s.stage n &&& stagePattern n == s.stage n

/-- R410: the lifecycle state the words decode to, INTERRUPTED, TARGET and DAMAGED. -/
def State.stageDecode (s : State) : BitVec 3 × Bool × BitVec 3 × Bool :=
  let k := s.stagePrefix
  let clean (n : Nat) : Bool := s.stage n == 0 || s.stage n == stagePattern n
  if (List.range 4).all (fun n => decide (n < k) || s.stage n == 0) then (BitVec.ofNat 3 (k + 1), false, 0, false)
  else if s.resumable k && (List.range 4).all (fun n => n == k || clean n) then (0, true, BitVec.ofNat 3 (k + 2), false)
  else (0, false, 0, true)

/-- R411: the two decodes: INVALID and FAULT_MISMATCH when they differ. -/
def State.decodeLc (s : State) (agree : Bool) : State :=
  let d := s.stageDecode
  if agree then
    { s with kcu := { s.kcu with lc := d.1, interrupted := d.2.1, target := d.2.2.1, lcDamaged := d.2.2.2 } }
  else
    ({ s with kcu := { s.kcu with lc := 0, interrupted := false, target := 0, lcDamaged := false } }).fire 11

/-! ### OTP items (R409) -/

/-- R409: an item that exists. -/
def otpCode (code : Nat) : Bool := decide (1 ≤ code ∧ code ≤ 13)

/-- R409, R484: an OTP item programmed, followed by its CRC-32 (check-value profile 0). -/
def State.setOtp (s : State) (code : Nat) (b : Bytes) : State :=
  { s with kcu := { s.kcu with otp := tput s.kcu.otp code (b ++ fcs b) } }

/-- R409: the stored bytes of an item agree with the CRC-32 after them. -/
def otpSound (code : Nat) (b : Bytes) : Bool := b == b.take (otpSize code) ++ fcs (b.take (otpSize code))

/-- R409: a start reads every item: what its cells now hold, and DAMAGED where the CRC fails. -/
def State.readOtp (s : State) (reads : List (Nat × Bytes)) : State :=
  let otp := reads.foldl (fun t e => tput t e.1 e.2) s.kcu.otp
  { s with kcu := { s.kcu with
      otp := otp, damaged := (otp.filter (fun e => !otpSound e.1 e.2)).map (fun e => e.1) } }

/-- R408, R409: an item that LC_OTP_WRITE may write in the present state. -/
def State.otpWritable (s : State) (code : Nat) : Bool :=
  if s.kcu.lc = 1 then code == 1 || code == 2 || code == 4
  else if s.kcu.lc = 2 then decide (5 ≤ code ∧ code ≤ 12)
  else if s.kcu.lc = 3 then code == 11
  else false

/-- R409: the contents an item takes: the reserved bits of POLICY are 0, and CARD_REVOKE only gains bits. -/
def State.otpValueOk (s : State) (code : Nat) (b : Bytes) : Bool :=
  if code = 12 then decide (leNat b < 4)
  else if code = 11 then
    let old := ((s.otpItem 11).getD []).getD 0 0
    old &&& b.getD 0 0 == old
  else true

/-- R409: LC_OTP_WRITE. -/
def execLcOtpWrite (f : Nat) (s : State) : Host.Outcome State Fault Refusal :=
  .next (s.command f 0 (fun e => e.isOp 0x0904) (fun c =>
    let code := c.arg 20
    if !otpCode code then s.answer f 0 (.error .range)
    else if !s.otpWritable code then s.answer f 0 (.error .denied)
    else if c.buf.length ≠ otpSize code ∨ s.otpValueOk code c.buf = false then s.answer f 0 (.error .range)
    else if s.kcu.damaged.contains code ∨ (code ≠ 11 ∧ (tfind s.kcu.otp code).isSome = true) then
      s.answer f 0 (.error .state)
    else s.answer f 0 (.ok (s.setOtp code c.buf))))

/-- R409, R416: LC_OTP_READ: a blank item reads zeros. -/
def execLcOtpRead (f : Nat) (s : State) : Host.Outcome State Fault Refusal :=
  .next (s.command f 0 (fun e => e.isOp 0x0905) (fun c =>
    let code := c.arg 20
    if !otpCode code then s.complete f 0 .range
    else if code = 3 then s.complete f 0 .denied
    else
      let len := leAt c.desc 16 3
      let item := slice ((tfind s.kcu.otp code).getD []) 0 (otpSize code)
      let data := item.take len
      (s.emit (.dma (BitVec.ofNat 64 (leAt c.desc 8 8)) data)).complete f 0 .ok data.length
        (if s.kcu.damaged.contains code then 1 else 0) 0 (decide (len < item.length))))

/-! ### The key custodian's steps of a start (R396, R399, R404, R405, R412) -/

/-- R404: slot k as a start finds it fails its seal: its cells have changed, or do not open under K_bks with its number. -/
def sealBroken (fails : List Nat) (k : Nat) (b : Bks) : Bool :=
  fails.contains k || b.cells.2.isEmpty || !bksOpens k b

/-- R404, R432: the key store as a start finds it: slots whose seal fails are EMPTY; when every one fails, and no latched
record shows an erase, the store is lost. -/
def State.unsealBks (s : State) (fails : List Nat) : State :=
  let none64 : Bool := s.kcu.bksGone || (List.range 64).all (fun k => fails.contains k)
  let lost : Bool := none64 && !s.tmu.battErase
  let s := { s with kcu := { s.kcu with
    bks := s.kcu.bks.filter (fun e => !sealBroken fails e.1 e.2), bksLost := lost, bksGone := false } }
  if lost then (s.event 0 .kcu 2).record { type := 12, unit := EvUnit.kcu.code, p0 := 2 } else s

/-- R405: STARTS_LEFT of every slot with START_LIMIT decremented; a slot that reaches 0 is destroyed. -/
def State.decrementStarts (s : State) : State :=
  { s with kcu := { s.kcu with bks := s.kcu.bks.filterMap (fun (e : Nat × Bks) =>
      match e.2.starts with
      | none => some e
      | some n => if n ≤ 1 then none else some (e.1, sealBks e.1 { e.2 with starts := some (n - 1) })) } }

/-- R396: an array's read corrects against its helper data: no 127-bit block has more than 18 wrong bits. -/
def bchCorrects (wrong : List Nat) : Bool := wrong.all (fun n => decide (n ≤ 18))

/-- R396, R409: the root secret can be regenerated: HELPER is neither blank nor DAMAGED, and one array corrects. -/
def State.pufCorrects (s : State) (o : StartObs) : Bool :=
  (s.otpItem 3).isSome && (bchCorrects o.pufA || bchCorrects o.pufB)

/-- R396, R404, R405: the root secret is regenerated, or both arrays fail. -/
def State.regenerate (s : State) (o : StartObs) : State :=
  if s.pufCorrects o then
    (({ s with kcu := { s.kcu with root := true, st := 2 } }).unsealBks o.sealFails).decrementStarts
  else
    (({ s with kcu := { s.kcu with root := false, st := 3 } }).event 0 .kcu 1).record
      { type := 12, unit := EvUnit.kcu.code, p0 := 1 }

/-- R412: in SCRAP both HELPER blocks are all ones. -/
def State.closeScrap (s : State) : State :=
  if s.kcu.lc = 5 then s.setOtp 3 (List.replicate 4096 0xFF) else s

/-- R399, R491: after the decode: nothing more in INVALID and SCRAP, otherwise the DRBG's start-up test begins and the root
secret is regenerated. -/
def State.startKcu (s : State) (o : StartObs) : State :=
  let s := s.closeScrap
  if s.kcu.lc = 0 ∨ s.kcu.lc = 5 then { s with kcu := { s.kcu with st := 5 } }
  else ({ s with kcu := { s.kcu with drbg := 1, testedAt := 0, requests := 0 } }).regenerate o

/-! ### Messages and authorities (R413, R414) -/

/-- R413: the OTP item of an authority. -/
def authorityItem (a : Nat) : Nat := if a = 1 then 2 else 5

/-- R413: an authority that exists. -/
def authorityOk (a : Nat) : Bool := a == 1 || a == 2

/-- R413: the signature of a message verifies under its authority's key. -/
def State.signed (s : State) (a : Nat) (b : Bytes) : Bool :=
  match s.otpItem (authorityItem a) with
  | none => false
  | some key => ecdsaVerify (key.drop 1) (sha384 (slice b 0 64)) (slice b 64 96)

/-- R413: MAGIC, VERSION and SERIAL of a message. -/
def State.headOk (s : State) (magic : Nat) (b : Bytes) : Bool :=
  beNat (slice b 0 4) == magic && b.getD 4 0 == 1 && slice b 8 8 == s.serial

/-- R414: the authorities that a transition takes. -/
def transitionOk (src dst a : Nat) : Bool :=
  match src, dst with
  | 1, 2 => a == 1
  | 2, 3 => a == 2
  | 2, 4 => a == 2
  | 3, 4 => a == 2
  | 2, 5 => a == 2
  | 3, 5 => a == 2
  | 4, 5 => authorityOk a
  | 1, 5 => a == 1
  | _, _ => false

/-- R410, R414: the state a transition would start from: the present one, or the source of an interrupted transition. -/
def State.lcSource (s : State) : Nat :=
  if s.kcu.lc ≠ 0 then s.kcu.lc.toNat else if s.kcu.interrupted then s.kcu.target.toNat - 1 else 0

/-- R414: a ticket is accepted. -/
def State.ticketOk (s : State) (b : Bytes) : Bool :=
  let src := (b.getD 5 0).toNat
  let dst := (b.getD 6 0).toNat
  let a := (b.getD 7 0).toNat
  s.headOk 0x53485654 b && transitionOk src dst a && decide (src ≤ s.lcSource ∧ s.lcSource < dst) && s.signed a b

/-- R412: the preparatory step of a transition. -/
def State.prepareLc (s : State) (dst : Nat) : State :=
  if dst = 2 then (if (tfind s.kcu.otp 3).isSome then s else s.setOtp 3 ((List.range (2 * 2048)).map Config.helperByte))
  else if dst = 4 ∨ dst = 5 then
    let s := s.zeroize 3
    { s with kcu := { s.kcu with test := false, scope := 0 } }
  else s

/-- R412: the bits a transition programs, word by word and in ascending order. -/
def State.stageBits (s : State) (dst : Nat) : List (Nat × Nat) :=
  (List.range (dst - 1)).flatMap (fun n =>
    ((List.range 32).filter (fun i => (stagePattern n &&& ~~~s.stage n).getLsbD i)).map (fun i => (n, i)))

/-- R412: bits of the stage words programmed one after another. -/
def State.programBits (s : State) (bits : List (Nat × Nat)) : State :=
  { s with kcu := { s.kcu with
      stage := bits.foldl (fun t b => tset 0 t b.1 (tget 0 t b.1 ||| put 1 b.2)) s.kcu.stage } }

/-- R412: the stage words up to a state's programmed. -/
def State.programStages (s : State) (dst : Nat) : State := s.programBits (s.stageBits dst)

/-- R412, R443: the record of a transition. -/
def lcRecord (src dst a : Nat) (resumed : Bool) : BbxReq :=
  { type := 5, unit := EvUnit.lc.code
    p0 := BitVec.ofNat 64 (src + dst * 16 + a * 256 + if resumed then 4096 else 0) }

/-- R411, R412: the steps of an accepted transition; one issued from INVALID continues the start. -/
def State.transition (s : State) (dst a : Nat) (o : StartObs) : State :=
  let src := s.lcSource
  let invalid : Bool := s.kcu.lc == 0
  let s := ((s.prepareLc dst).programStages dst).decodeLc o.decodesAgree
  let s := s.record (lcRecord src dst a invalid)
  if invalid then s.startKcu o
  else if s.kcu.lc = 0 ∨ s.kcu.lc = 5 then
    let t := s.closeScrap
    { t with kcu := { t.kcu with st := 5 } }
  else s

/-! ### The Shuavo exchange (R413, R415) -/

/-- R409, R415: the test-state token word. -/
def State.tokens (s : State) : Word :=
  match tfind s.kcu.otp 13 with
  | some b => BitVec.ofNat 32 (leNat (slice b 0 4))
  | none => 0

/-- R415, R418: tokens left; none while the item is DAMAGED. -/
def State.tokensLeft (s : State) : Nat :=
  if s.kcu.damaged.contains 13 then 0 else (List.range 32).countP (fun i => !s.tokens.getLsbD i)

/-- R415: the lowest 0 bit of TOKENS programmed. -/
def State.spendToken (s : State) : State :=
  match (List.range 32).find? (fun i => !s.tokens.getLsbD i) with
  | none => s
  | some i => s.setOtp 13 (leBytes (s.tokens ||| put 1 i).toNat 4)

/-- R413: the challenge as the host reads it. -/
def State.challengeBytes (s : State) (scope : Nat) (nonce : Bytes) : Bytes :=
  [0x53, 0x48, 0x56, 0x43, 1, s.kcu.lc.setWidth 8, BitVec.ofNat 8 scope, BitVec.ofNat 8 s.tokensLeft]
    ++ s.serial ++ nonce ++ List.replicate 16 0

/-- R413, R415: SHUAVO_CHALLENGE. -/
def execShuavoChallenge (f : Nat) (s : State) : Host.Outcome State Fault Refusal :=
  .next (s.command f 0 (fun e => e.isOp 0x0902) (fun c =>
    let scope := c.arg 20
    if 3 ≤ s.kcu.fails then s.complete f 0 .denied
    else if scope = 0 ∨ 4 ≤ scope then s.complete f 0 .range
    else if s.kcu.drbg ≠ 2 then s.complete f 0 .state
    else
      let r := s.draw
      let nonce := bytes256 r.1
      let ch : Challenge := { scope := scope, nonce := nonce, tokens := s.tokensLeft, at_ := s.tb.elapsed }
      let t := { r.2 with kcu := { r.2.kcu with challenge := some ch } }
      t.completeOut f 0 (s.challengeBytes scope nonce) false))

/-- R415: a challenge lives 60 s. -/
def challengeLife : Nat := 60000000000

/-- R415: SHUAVO_CHALLENGE_EXPIRY. -/
def execShuavoChallengeExpiry (s : State) : Host.Outcome State Fault Refusal :=
  .next (match s.kcu.challenge with
    | none => s
    | some ch =>
      if s.tb.elapsed < ch.at_ + challengeLife then s else { s with kcu := { s.kcu with challenge := none } })

/-- R408, R415: the present state allows a scope to an authority. -/
def State.scopeOk (s : State) (scope a : Nat) : Bool :=
  if scope = 3 then a == 2 || (a == 1 && (s.kcu.lc == 1 || s.kcu.lc == 2))
  else (scope == 1 || scope == 2) && (s.kcu.lc == 1 || s.kcu.lc == 2 || (s.kcu.lc == 3 && s.policyBit 1) || s.kcu.lc == 4)

/-- R415: the response answers the outstanding challenge. -/
def State.responseOk (s : State) (b : Bytes) : Bool :=
  let scope := (b.getD 5 0).toNat
  let a := (b.getD 6 0).toNat
  match s.kcu.challenge with
  | none => false
  | some ch =>
    decide (s.tb.elapsed < ch.at_ + challengeLife) && s.headOk 0x53485652 b && authorityOk a
      && (b.getD 7 0).toNat == s.tokensLeft && slice b 16 32 == ch.nonce && s.scopeOk scope a && s.signed a b

/-- R443: the record of a response. -/
def shuavoRecord (scope a left : Nat) (accepted : Bool) : BbxReq :=
  { type := 6, unit := EvUnit.lc.code, p0 := BitVec.ofNat 64 (scope + a % 4 * 256 + if accepted then 4096 else 0)
    p1 := BitVec.ofNat 64 left }

/-- R9, R415, R424: a DEBUG scope unlocked: the token, ERASE, and only then TEST; a test access port that an ERASE in TEST has
closed stays closed (log entry 119). -/
def State.unlockDebug (s : State) (scope : Nat) : State :=
  let s := if s.kcu.lc = 1 then s else s.spendToken
  let s := if s.kcu.lc = 2 ∨ s.kcu.lc = 3 then s.zeroize 3 else s
  { s with
    hif := { s.hif with mode := 3 }
    kcu := { s.kcu with test := true, scope := if s.tmu.tapClosed then 0 else BitVec.ofNat 2 scope } }

/-- R415: an accepted response. -/
def State.unlock (s : State) (scope a : Nat) : State :=
  let s := { s with kcu := { s.kcu with challenge := none } }
  let s := if scope = 3 then s.record { type := 4, unit := EvUnit.lc.code, p0 := BitVec.ofNat 64 a } else s.unlockDebug scope
  s.record (shuavoRecord scope a s.tokensLeft true)

/-- R415: a failed response counted. -/
def State.failedResponse (s : State) : State := { s with kcu := { s.kcu with fails := satTo 3 (s.kcu.fails + 1) } }

/-- R380, R413, R415: SHUAVO_RESPONSE. -/
def execShuavoResponse (f : Nat) (s : State) : Host.Outcome State Fault Refusal :=
  .next (s.command f 0 (fun e => e.isOp 0x0903) (fun c =>
    let b := slice c.buf 0 160
    let scope := (b.getD 5 0).toNat
    let a := (b.getD 6 0).toNat
    if !zeros b 48 16 then s.complete f 0 .range
    else if authorityOk a ∧ s.otpItem (authorityItem a) = none then s.complete f 0 .state
    else if !s.responseOk b then
      ((s.record (shuavoRecord scope a s.tokensLeft false)).failedResponse).complete f 0 .denied
    else if scope ≠ 3 ∧ s.kcu.lc ≠ 1 ∧ s.tokensLeft = 0 then s.complete f 0 .exhausted
    else
      let t := s.unlock scope a
      t.complete f 0 .ok t.tokensLeft))

end Sys2Proof.Machine
end

