-- ==== Sys2Proof/Machine/Reset.lean ====
section
/-! DEFINITION. Resets and starts (R488 to R493), the Function Level Reset (R369), supplies and pins (R496, R497, R504, R508,
R513) and the time of day (R521). -/

namespace Sys2Proof.Machine

/-! ### What a reset stops (R490) -/

/-- R10, R177: a port's frame has begun to be sent. -/
def State.sending (s : State) (t : Tx) : Bool :=
  !t.cut || t.pick.any (fun p => (s.pick p).any (fun k => k.cutStarted))

/-- R490: the bytes of a port's frame that have been sent when it stops now. -/
def State.sentBytes (s : State) (port : Nat) (t : Tx) : Bytes :=
  let left := (t.fcsAt - s.tb.elapsed) * modeRate (s.portMode port) / 8
  t.bytes.take (t.bytes.length - left)

/-- R15, R490: the frames in progress on clear and tag-mode ports, ended with a poisoned FCS. -/
def State.cutFrames (s : State) : List Out :=
  s.sch.ports.filterMap (fun e => match e.2.tx with
    | some t =>
      if s.sending t then
        let bs := s.sentBytes e.1 t
        some (.frame e.1 bs (poisonedFcs bs))
      else none
    | none => none)

/-! ### What a reset keeps (R489) -/

/-- R427, R489: the bits of a register that a SOFT reset keeps: SEAL fields, seal bits and STK fields, and the words that
TMU_POLICY_SEAL fixes once it is set. -/
def State.keptBits (s : State) (r : RegRow) : Word :=
  match r.id with
  | .tmuSrcCfg | .tmuMeshCfg | .tmuEnvCfg => if s.policySealed then r.kept else 0
  | _ => r.kept

/-- R489: the registers of BAR0 after a SOFT reset. -/
def State.keptRegs (s : State) : Tbl Word :=
  s.regs.foldr (fun (e : Nat × Word) (t : Tbl Word) =>
    match locate e.1 with
    | none => t
    | some (r, i, j) =>
      let d := r.id.reset s.variant i j
      tset d t e.1 ((e.2 &&& s.keptBits r) ||| (d &&& ~~~s.keptBits r))) []

/-- R4, R489: the latched words of registers that a SOFT reset does not clear: the event counters and the black box. -/
def State.keptLatch (s : State) : Tbl Word :=
  s.hif.latch.filter (fun (e : Nat × Word) =>
    decide (0x70_0000 ≤ e.1 ∧ e.1 < 0x71_0000) || decide (0x60_0000 ≤ e.1 ∧ e.1 < 0x70_0000) || decide (0x200_0000 ≤ e.1 ∧ 0x2000 ≤ e.1 % 0x4000))

/-- R189, R489: an engine after a SOFT reset. -/
def Engine.kept (e : Engine) : Engine := { fault := e.fault, retires := e.retires }

/-- R237, R489: a woven group after a SOFT reset. -/
def Group.kept (g : Group) : Group := { sealerFail := g.sealerFail }

/-- A table of which only the entries that are not the default are listed, mapped. -/
def tmap {α : Type} [DecidableEq α] (d : α) (f : α → α) (t : Tbl α) : Tbl α :=
  t.foldr (fun (e : Nat × α) (u : Tbl α) => tset d u e.1 (f e.2)) []

/-- R404, R415, R489: the key custodian after a reset, before its decode. -/
def Kcu.afterReset (k : Kcu) (soft : Bool) : Kcu :=
  { draws := k.draws, bksGone := k.bksGone, bks := k.bks, otp := k.otp, damaged := k.damaged, stage := k.stage
    lc := k.lc, interrupted := k.interrupted, target := k.target, lcDamaged := k.lcDamaged
    test := soft && k.test, scope := if soft then k.scope else 0, fails := if soft then k.fails else 0 }

/-- R422, R424, R430, R432, R489: the tamper monitor after a reset. -/
def Tmu.afterReset (t : Tmu) (soft : Bool) : Tmu :=
  { bank := t.bank, fuses := t.bank, latch := t.latch, ovf := t.ovf, resp := t.resp, last := if soft then t.last else 7
    battErase := soft && t.battErase, tapClosed := soft && t.tapClosed }

/-- R422: each fuse whose programming a power failure cuts short, within 12 µs of its begin, is left either set or clear. -/
def State.settleFuse (s : State) : State :=
  s.tmu.burning.foldl (fun s e =>
    if e.2 + 12000 ≤ s.tb.elapsed then s
    else
      let r := s.freeBits
      { r.2 with tmu := { r.2.tmu with
        bank := if r.1.getLsbD 0 then r.2.tmu.bank else r.2.tmu.bank &&& ~~~(put 1 e.1) } }) s

/-- R441, R444, R489: the black box after a reset; requests that wait are lost with the supplies. -/
def Bbx.afterReset (b : Bbx) (off : Bool) : Bbx :=
  { b with
    ready := false, queue := if off then [] else b.queue.map (fun q => { q with cycle := none })
    lost := 0, ovfDue := false, starts := b.starts + 1, tampers := 0 }

/-- R468, R489, R497: the power controller after a reset, the wake bucket full at the BURST that holds then. -/
def Pmc.afterReset (p : Pmc) (soft : Bool) (burst : Nat) : Pmc :=
  { State.reset.pmc with level := 256 * burst, pfw := p.pfw, pfwCount := if soft then p.pfwCount else 0 }

/-- R489, R490: the device in reset: what a reset keeps, everything else at its reset value. -/
def State.cleared (s : State) (soft off : Bool) : State :=
  { pending := s.pending
    variant := s.variant
    stepping := s.stepping
    regs := if soft then s.keptRegs else []
    cie := if soft then { engines := tmap {} Engine.kept s.cie.engines } else {}
    wov := if soft then { groups := tmap {} Group.kept s.wov.groups } else {}
    hif := if soft then { latch := s.keptLatch } else {}
    kcu := s.kcu.afterReset soft
    tmu := s.tmu.afterReset soft
    bbx := s.bbx.afterReset off
    pmc := s.pmc.afterReset soft (if soft then s.field .pmcWake 0 0 8 else 8)
    evc := if soft then { s.evc with ovf := [] } else {}
    pins := s.pins
    out := s.out ++ s.cutFrames
    free := s.free }

/-- R423, R504: sources that have fired are decided before a reset. -/
def State.settleAlarms (s : State) : State :=
  if s.tmu.fired.isEmpty || s.pins.inReset then s else s.decideTamper s.wanted s.wanted

/-- R444: the requests that wait, and the count of lost ones, written. -/
def State.drainBox (s : State) : State :=
  if !s.bbx.ready then s else (List.range (s.bbx.queue.length + 1)).foldl (fun t _ => t.writeNext) s

/-! ### A start (R488, R491) -/

/-- R422: the fuses that exist among the bits of a reading. -/
def fuseBits (v : Word) : Word := v &&& 0x40FE

/-- R411, R422: the fuse bank decoded twice: this start uses the union, and FAULT_MISMATCH fires when the readings differ. -/
def State.readFuses (s : State) (second : Word) : State :=
  let t := { s with tmu := { s.tmu with fuses := s.tmu.bank ||| fuseBits second } }
  if fuseBits second = s.tmu.bank then t else t.fire 11

/-- R443: the START record. -/
def startRecord (kind : Nat) (lc : BitVec 3) (agree : Bool) : BbxReq :=
  { type := 13, unit := EvUnit.lc.code, p0 := BitVec.ofNat 64 (kind + lc.toNat * 16 + if agree then 0 else 256) }

/-- R417, R491: a start begins: the key custodian is STARTING, and waits for the latch file's commit. -/
def State.start (s : State) (kind : Nat) (o : StartObs) : State :=
  let s := { s with
    pins := { s.pins with pwrgood := true, inReset := false, resetKind := kind }
    kcu := { s.kcu with st := 1, starting := some (kind, o) } }
  if s.wakeSealed then s.firstWakes else s

/-- R409, R411, R446, R491: the hardware steps of a start after the commit of the latch file: OTP read, the two decodes, the
START record, the key custodian. -/
def State.startDecode (s : State) (kind : Nat) (o : StartObs) : State :=
  let s := { s with kcu := { s.kcu with starting := none } }
  let s := ((s.readOtp o.otpReads).decodeLc o.decodesAgree).readFuses o.fuseSecond
  let s := s.record (startRecord kind s.kcu.lc o.decodesAgree)
  s.startKcu o

/-- R432: the record that a latched one is committed as. -/
def LatchRec.request (r : LatchRec) : BbxReq :=
  { type := 1, unit := EvUnit.tmu.code, battery := true, ticks := r.ticks
    p0 := BitVec.ofNat 64 (tamperP0 r.src r.a r.b r.resp r.done) }

/-- R432, R441: what the commit of the latch file writes: its records, its overflow count, the LOCK record of a latched
ERASE_LOCK. -/
def Tmu.latched (t : Tmu) : List BbxReq :=
  let lostRec : List BbxReq :=
    if t.ovf = 0 then []
    else [{ type := 2, unit := EvUnit.tmu.code, battery := true, p0 := BitVec.ofNat 64 t.ovf }]
  let locks : List BbxReq := match t.latch.find? (fun r => r.resp == 4) with
    | some r => [{ type := 3, unit := EvUnit.kcu.code, early := true, p0 := BitVec.ofNat 64 r.src }]
    | none => []
  t.latch.map LatchRec.request ++ lostRec ++ locks

/-- R432, R446: the black box is ready and writes the latch file before anything else; main-power sampling begins. -/
def State.commitLatch (s : State) : State :=
  let t := s.tmu
  t.latched.foldl State.writeRecord { s with
    bbx := { s.bbx with ready := true }
    tmu := { t with
      latch := [], ovf := 0, latchOvf := t.ovf, sampling := true
      battErase := t.battErase || t.latch.any (fun r => r.battery && decide (3 ≤ r.resp)) } }

/-- R432, R441: the power fails during the commit, after n of its records have been written: a latched record is cleared only
once the black box has confirmed it, which that of the last one may not yet be (`late`); an ERASE_LOCK waits for its LOCK
record too. -/
def State.cutCommit (s : State) (n : Nat) (late : Bool) : State :=
  let t := s.tmu
  let all := t.latched
  let n := min n all.length
  let done := if late then n - 1 else n
  let lockAt := t.latch.findIdx (fun r => r.resp == 4)
  let keep := (t.latch.zipIdx).filter (fun e => decide (done ≤ e.2) || (e.2 == lockAt && decide (done < all.length)))
  (all.take n).foldl State.writeRecord { s with
    tmu := { t with
      latch := keep.map (fun e => e.1)
      ovf := if t.latch.length < done then 0 else t.ovf } }

/-- R432, R444: what a power failure cuts short: the commit of the latch file at a point that is not stated, or the record that
the black box writes. -/
def State.cutBox (s : State) : State :=
  if s.bbx.ready then s.tearRecord
  else
    let r := s.freeBits
    r.2.cutCommit (r.1.toNat / 2) (r.1.getLsbD 0)

/-- R411, R432, R446, R491: LATCH_COMMIT: the latch file goes to the black box, and the start goes on to its decode. -/
def execLatchCommit (s : State) : Host.Outcome State Fault Refusal :=
  .next (
    if s.bbx.ready = true ∨ s.pins.inReset = true then s
    else match s.kcu.starting with
      | none => s.commitLatch
      | some (kind, o) => s.commitLatch.startDecode kind o)

/-- R506: the SMBus address pins are sampled once at power-good. -/
def State.samplePins (s : State) (o : StartObs) : State := { s with pins := { s.pins with smbAddr := o.smbAddr } }

/-- R488, R504: POWER_ON_RESET: PWRGOOD rises; ignored while a rail is outside its range. -/
def execPowerOnReset (o : StartObs) (s : State) : Host.Outcome State Fault Refusal :=
  .next (if o.railsGood then ((s.cleared false true).samplePins o).start 1 o else s)

/-- R488: PERST while the supplies stay up. -/
def execPerst (o : StartObs) (s : State) : Host.Outcome State Fault Refusal :=
  .next (if s.pins.inReset then s else (s.settleAlarms.cleared false false).start 2 o)

/-- R369, R488: SOFT_RESET: the Function Level Reset of function 0. -/
def execSoftReset (o : StartObs) (s : State) : Host.Outcome State Fault Refusal :=
  .next (if s.pins.inReset then s else (s.settleAlarms.cleared true false).start 3 o)

/-- R504: PWRGOOD falls: an alarm of the same instant is decided first, with its records; then the device enters reset and
the clock of the backup cell's ticks begins. -/
def State.powerOff (s : State) : State :=
  let s := if s.tmu.fired.isEmpty then s else s.settleAlarms.drainBox
  let t := s.cutBox.settleFuse.cleared false true
  { t with
    bbx := { t.bbx with starts := s.bbx.starts }
    pins := { t.pins with pwrgood := false, inReset := true } }

/-- R412: power fails after n bits of a transition's stage words have been programmed. -/
def State.cutTransition (s : State) (dst n : Nat) : State :=
  let s := s.prepareLc dst
  (s.programBits ((s.stageBits dst).take n)).powerOff

/-- R380, R412 to R414: LC_TRANSITION with a ticket: a nonzero reserved byte completes RANGE, an authority whose key is
blank STATE, any other ticket that is not accepted DENIED. -/
def execLcTransition (f : Nat) (o : LcObs) (s : State) : Host.Outcome State Fault Refusal :=
  .next (s.command f 0 (fun e => e.isOp 0x0901) (fun c =>
    let b := slice c.buf 0 160
    let a := (b.getD 7 0).toNat
    let dst := (b.getD 6 0).toNat
    if !zeros b 16 48 then s.complete f 0 .range
    else if authorityOk a ∧ s.otpItem (authorityItem a) = none then s.complete f 0 .state
    else if !s.ticketOk b then s.complete f 0 .denied
    else match o.powerFails with
      | some n => s.cutTransition dst n
      | none =>
        let t := s.transition dst a o.toStartObs
        t.complete f 0 .ok t.kcu.lc.toNat))

/-- R504: PWRGOOD_FALL. -/
def execPwrgoodFall (s : State) : Host.Outcome State Fault Refusal :=
  .next (if s.pins.inReset then s else s.powerOff)

/-- R502: rails by number in the order of its table: VDD_CORE 0 and VDD_SRAM 1 are watched by the VOLTAGE source. -/
def voltageRail (rail : Nat) : Bool := decide (rail < 2)

/-- R421, R504: RAIL_OUT_OF_RANGE while PWRGOOD is high: detector A of VOLTAGE finds VDD_CORE or VDD_SRAM outside its window;
another rail acts as PWRGOOD falling. -/
def execRailOutOfRange (rail : Nat) (s : State) : Host.Outcome State Fault Refusal :=
  .next (
    if 8 ≤ rail ∨ s.pins.inReset = true then s
    else if voltageRail rail then (if s.tmu.sampling then s.sampleSource 9 1 (if (s.tsrc 9).actB then 1 else 0) else s)
    else s.powerOff)

/-! ### Function Level Reset of a virtual function (R369) -/

/-- R169, R369: lookaside jobs of a function stopped; the mask randomness they have used is spent. -/
def State.stopLookaside (s : State) (f : Nat) : State :=
  let mine (j : Job) : Bool := j.pick.isNone && j.fn == f
  let gone := s.cie.jobs.filter mine
  let s := gone.foldl State.spendMask s
  let rest := s.cie.jobs.filter (fun j => !mine j)
  let eng (j : Job) : List Nat := match j.st with
    | .running e => [e]
    | .doomed e => [e]
    | _ => []
  { s with cie := { s.cie with jobs := (gone.flatMap eng).foldl (fun js e => resumeOn e js) rest } }

/-- R369, R373, R381: what is left of a COMMAND ring at a reset of its function: every command handed to its unit that has not
answered, withdrawn; one with FENCE, and those behind it, wait in the ring until it is at the front. -/
def Ring.withdrawn (g : Ring) : List Fetched :=
  let live := g.fetched.filter (fun e => !e.withdrawn)
  let handed := live.take 1 ++ (live.drop 1).takeWhile (fun e => !(e.desc.getD 2 0).getLsbD 1)
  g.fetched.filter (fun e => e.withdrawn) ++ handed.map (fun e => { e with withdrawn := true })

/-- The first key of function f's BAR2 in the tables that hold registers by address. -/
def bar2Base (f : Nat) : Nat := 0x200_0000 + 0x4000 * f

/-- A key lies in function f's BAR2, outside its window on the event counters (R478), or in BAR0's copy of its rings
(R368). -/
def inBar2 (f k : Nat) : Bool :=
  decide (bar2Base f ≤ k ∧ k < bar2Base f + 0x2000) || decide (0x11_0000 + 0x200 * f ≤ k ∧ k < 0x11_0000 + 0x200 * (f + 1))

/-- R369: FUNCTION_LEVEL_RESET of a virtual function; that of function 0 is SOFT_RESET. -/
def execFunctionLevelReset (f : Nat) (s : State) : Host.Outcome State Fault Refusal :=
  .next (
    if f = 0 ∨ s.fnExists f = false then s
    else
      let s := (s.stopLookaside f).emptyPage f
      let late := (s.ring f 0).withdrawn
      let t := { s with
        regs := s.regs.filter (fun (e : Nat × Word) => !inBar2 f e.1)
        hif := { s.hif with
          rings := tset {} (s.hif.rings.filter (fun (e : Nat × Ring) => e.1 / 8 != f)) (8 * f) { fetched := late }
          fnErr := tset 0 s.hif.fnErr f 0
          unmasked := s.hif.unmasked.filter (fun v => v / 32 != f)
          pending := s.hif.pending.filter (fun v => v / 32 != f)
          held := s.hif.held.filter (fun (e : Nat × Word) => !inBar2 f e.1)
          latch := s.hif.latch.filter (fun (e : Nat × Word) => !inBar2 f e.1) } }
      t.servePunt f)

/-! ### Power-fail warning (R496, R497) -/

/-- R465, R507: the nominal delay in ns of a filter setting. -/
def filterDelay (code : Nat) : Nat := if code = 1 then 50 else if code = 2 then 1000 else 0

/-- R465: a filter of `delay` ns sees a pulse of `len` ns: never a shorter one, always one of twice its delay, between them by
its phase against the sampling clock. -/
def pulseSeen (delay len : Nat) (phase : Bool) : Bool :=
  delay == 0 || decide (2 * delay ≤ len) || (decide (delay ≤ len) && phase)

/-- R465: a pulse on the pin whose filter setting is `code` is seen; how long it lasts and its phase are the board's, so free
(log entry 139). -/
def State.seesPulse (s : State) (code : Nat) : Bool × State :=
  let r := s.freeBits
  (pulseSeen (filterDelay code) (r.1.toNat / 2) (r.1.getLsbD 0), r.2)

/-- R465, R496, R497: PFW_ASSERT: PFW_N goes low, and is asserted once its filter has seen it. -/
def execPfwAssert (s : State) : Host.Outcome State Fault Refusal :=
  .next (if s.pmc.pfw then s
    else
      let r := s.seesPulse (s.field .pmcIoCfg 0 6 2)
      let s := r.2
      if r.1 then { s with pmc := { s.pmc with pfw := true, pfwSeen := true, pfwCount := satTo 255 (s.pmc.pfwCount + 1) } }
      else s)

/-- R465, R496: PFW_DEASSERT: PFW_N goes high, and is released once its filter has seen it. -/
def execPfwDeassert (s : State) : Host.Outcome State Fault Refusal :=
  .next (
    let r := s.seesPulse (s.field .pmcIoCfg 0 6 2)
    let s := r.2
    if r.1 then { s with pmc := { s.pmc with pfw := false } } else s)

/-! ### PPS and the time of day (R508, R521) -/

/-- R465, R508: PPS_IN_EDGE: once its filter has seen the pulse, the time is captured less the filter's delay; how far it moves
the time of day is not stated. -/
def execPpsInEdge (s : State) : Host.Outcome State Fault Refusal :=
  .next (
    if s.pins.inReset then s
    else
      let p := s.seesPulse (s.field .pmcIoCfg 0 8 2)
      let s := p.2
      if p.1 = false then s
      else
      let t : Int := (s.tb.tod : Int) - (filterDelay (s.field .pmcIoCfg 0 8 2) : Int)
      let r := s.freeNo
      let s := { r.2 with tb := { s.tb with
        ppsSeen := true, ppsAt := t, tod := ((s.tb.tod : Int) + Config.ppsStep r.1 t).toNat } }
      (List.range 64).foldl State.placeShed s)

/-- R508: PPS_OUT_PULSE at a time-base second that has not pulsed yet. -/
def execPpsOutPulse (s : State) : Host.Outcome State Fault Refusal :=
  .next (
    let sec := s.tb.tod / 1000000000
    if s.pins.inReset = true ∨ s.tb.ppsSec = sec + 1 then s
    else ({ s with tb := { s.tb with ppsSec := sec + 1, ppsOut := s.tb.elapsed + 100000 } }).emit .ppsOut)

/-- R508: PPS_OUT is high. -/
def State.ppsHigh (s : State) : Bool := decide (s.tb.elapsed < s.tb.ppsOut)

/-- R521: a TB write rejected. -/
def State.tbReject (s : State) : State := s.setRegBit .tbStat 1

/-- R276, R294, R521: TB_SET word 2 written: all three words are taken, and every port's shed position with them. -/
def State.setTime (s : State) (w0 w1 v : Word) : State :=
  if 999999999 < v.toNat then s.tbReject
  else
    let s := ((s.setReg .tbSet0 0 0 w0).setReg .tbSet1 0 0 w1).setReg .tbSet2 0 0 v
    let s := { s with tb := { s.tb with tod := (w0.toNat + 2 ^ 32 * w1.toNat) * 1000000000 + v.toNat } }
    (List.range 64).foldl State.placeShed s

/-- R26: a nanosecond with no command waiting (log entry 1). -/
def State.elapse (s : State) : State :=
  { s with tb := { s.tb with elapsed := s.tb.elapsed + 1, tod := s.tb.tod + 1 } }

/-! ### SMBus (R513) -/

/-- R407, R417: KCU_STAT.LOCKED. -/
def State.locked (s : State) : Bool := s.bbx.lock

/-- R513: the 7-bit address of the target. -/
def State.smbAddress (s : State) : Nat := 0x58 + s.pins.smbAddr.toNat

/-- R513: one bit of the packet error code of SMBus 3.0, x^8 + x^2 + x + 1, most significant first (log entry 139). -/
def pecStep (crc : Byte) : Byte := if crc.getLsbD 7 then (crc <<< 1) ^^^ 7 else crc <<< 1

/-- R513: the packet error code over the bytes of a transaction. -/
def pec (bs : Bytes) : Byte :=
  bs.foldl (fun c b => (List.range 8).foldl (fun c _ => pecStep c) (c ^^^ b)) 0

/-- R513: the answer to a command code: the bytes of its response, in a Block Read behind their count, and the packet error
code over the whole transaction, which the host takes or leaves. -/
def State.smbAnswer (s : State) (code : Byte) (block : Bool) (bytes : Bytes) : State :=
  let a := s.smbAddress
  let count : Bytes := if block then [BitVec.ofNat 8 bytes.length] else []
  s.emit (.smb a bytes (pec ([BitVec.ofNat 8 (2 * a), code, BitVec.ofNat 8 (2 * a + 1)] ++ count ++ bytes)))

/-- R1, R513: the variant's code. -/
def Variant.smbCode : Variant → Byte
  | .tv32f => 1
  | .tv32s => 2
  | .tv16e => 3

/-- R1, R513: SMB_IDENT. -/
def execSmbIdent (s : State) : Host.Outcome State Fault Refusal :=
  .next (s.smbAnswer 0 true ([s.variant.smbCode, s.stepping] ++ s.serial.take 6))

/-- R513: the STATUS word. -/
def State.smbStatus (s : State) : Word :=
  put s.hif.mode.toNat 0 ||| put s.kcu.lc.toNat 3 ||| put s.kcu.st.toNat 6 ||| put s.tmu.running.toNat 9
    ||| putB s.tmu.alarmN 12 ||| putB s.locked 13 ||| putB s.pins.inReset 14

/-- R513: SMB_STATUS. -/
def execSmbStatus (s : State) : Host.Outcome State Fault Refusal :=
  .next (s.smbAnswer 1 false (leBytes s.smbStatus.toNat 2))

/-- R513: SMB_TEMP, signed in 1/8 °C. -/
def execSmbTemp (s : State) : Host.Outcome State Fault Refusal :=
  .next (s.smbAnswer 2 false (leBytes (BitVec.ofInt 16 s.tmu.temp).toNat 2))

/-- R513: SMB_VBAT in mV. -/
def execSmbVbat (s : State) : Host.Outcome State Fault Refusal :=
  .next (s.smbAnswer 3 false (leBytes s.tmu.vbat 2))

/-- R513: the BBX block; zeros after byte 0 before the black box is ready. -/
def State.smbBbx (s : State) : Bytes :=
  let b := s.bbx
  let flags := (if b.ready then 1 else 0) + (if b.pinFull then 2 else 0) + (if b.lock then 4 else 0)
  let rest := leBytes b.seq 4 ++ leBytes b.pinned 2 ++ [BitVec.ofNat 8 b.newest.1, BitVec.ofNat 8 b.newest.2]
    ++ leBytes b.tampers 2 ++ [BitVec.ofNat 8 s.tmu.latchOvf]
  BitVec.ofNat 8 flags :: (if b.ready then rest else List.replicate 11 0)

/-- R513: SMB_BBX. -/
def execSmbBbx (s : State) : Host.Outcome State Fault Refusal :=
  .next (s.smbAnswer 4 true s.smbBbx)

/-- R513: the PFW word. -/
def State.smbPfw (s : State) : Bytes :=
  [BitVec.ofNat 8 ((if s.pmc.pfw then 1 else 0) + if s.pmc.pfwSeen then 2 else 0), BitVec.ofNat 8 s.pmc.pfwCount]

/-- R513: SMB_PFW. -/
def execSmbPfw (s : State) : Host.Outcome State Fault Refusal :=
  .next (s.smbAnswer 5 false s.smbPfw)

/-- R513: SMB_WRITE_REFUSED: a write, or a command code not in the table, is answered by a NACK. -/
def execSmbWriteRefused (code : Byte) (write : Bool) (s : State) : Host.Outcome State Fault Refusal :=
  .next (if write || decide (5 < code.toNat) then s.emit .smbNack else s)

/-- R513: SMB_ALERT_N is driven low: a power-fail warning, or a response of NOTIFY or higher running. -/
def State.smbAlert (s : State) : Bool := s.pmc.pfw || (s.tmu.running != 7 && s.tmu.running != 0)

/-- R513: the answer to an Alert Response Address read: the target's address while SMB_ALERT_N is low, which the read does not
release; the table has no row for that read. -/
def State.alertResponse (s : State) : Option Nat := if s.smbAlert then some s.smbAddress else none

end Sys2Proof.Machine
end

