-- ==== Sys2Proof/Machine/Reads.lean ====
section
/-! DEFINITION. What a host read of a register returns: the status words assembled from the state (R366 to R521), the
targets of an access (R2, R368, R514, R520) and the effects of a read: latches (R4, R451, R477, R521), fields that a read
clears (R7), and forbidden reads (R10, R478). -/

namespace Sys2Proof.Machine

/-! ### Status words -/

/-- Bits from a predicate, bit 0 first. -/
def bitsOf (p : Nat → Bool) : Word := BitVec.ofNat 32 (packBits ((List.range 32).map p))

/-- Word j of a number, 32 bits each, lowest first. -/
def wordOf (v j : Nat) : Word := BitVec.ofNat 32 (v / 2 ^ (32 * j))

/-- R516: VARIANT. -/
def Variant.code : Variant → Nat
  | .tv32f => 1
  | .tv32s => 2
  | .tv16e => 3

/-- R119: the code of a cluster card state. -/
def CluSt.code : CluSt → Nat
  | .none => 0 | .stale => 1 | .draining => 2 | .loading => 3 | .held => 4 | .fresh => 5 | .quarantined => 6

/-- R189: the code of an engine state. -/
def EngSt.code : EngSt → Nat
  | .stale => 1 | .testing => 2 | .fresh => 3 | .quarantined => 4

/-- R159: the code of a job kind. -/
def JobKind.code : JobKind → Nat
  | .seal => 1 | .opn => 2 | .xts => 3 | .gcm => 4

/-- R343: the code of a weft link state. -/
def WeftSt.code : WeftSt → Nat
  | .none => 0 | .down => 1 | .train => 2 | .lock => 3 | .key => 4 | .up => 5

/-- R243: the code of an alignment state. -/
def Align.code : Align → Nat
  | .none => 0 | .hunt => 1 | .candidate => 2 | .inFrame => 3

/-- R306: the code of a memory key index state. -/
def MkiSt.code : MkiSt → Nat
  | .unkeyed => 0 | .active => 1 | .retiring => 2

/-- R329: the code of a stack state. -/
def StackSt.code : StackSt → Nat
  | .ok => 1 | .failed => 2 | .rebuilding => 3

/-- R467: the code of a readiness. -/
def Ready.code : Ready → Nat
  | .stale => 1 | .fresh => 2 | .quarantined => 3

/-- R467: PMC_DOM_STAT. -/
def State.domStat (s : State) (d : Nat) : Word :=
  let D := s.dom d
  put D.st.code 0 ||| put D.ready.code 3 ||| putB D.wake.isSome 5 ||| put D.deepest.toNat 6

/-- R404, R417: KCU_STAT; SLOTS is 0 unless this start has read the key store and still holds it. -/
def State.kcuStat (s : State) : Word :=
  put s.kcu.st.toNat 0 ||| put s.kcu.drbg.toNat 3 ||| putB s.kcu.bksLost 5 ||| putB s.locked 6
    ||| put (if s.kcu.st = 2 then s.kcu.bks.countP (fun e => e.2.purpose != 0) else 0) 7

/-- R418: LC_STATE. -/
def State.lcState (s : State) : Word :=
  put s.kcu.lc.toNat 0 ||| putB s.kcu.interrupted 3 ||| put s.kcu.target.toNat 4 ||| putB s.kcu.lcDamaged 7
    ||| putB s.kcu.test 8 ||| put s.kcu.scope.toNat 9

/-- R435: TMU_STAT. -/
def State.tmuStat (s : State) : Word :=
  put s.tmu.running.toNat 0 ||| put s.tmu.last.toNat 3 ||| putB s.tmu.alarmN 6 ||| (s.reg .tmuStat &&& 0x80)
    ||| putB s.tmu.battErase 9 ||| put (satTo 255 s.tmu.latchOvf) 10

/-- R437: TMU_SRC_STAT; a reserved source reads 0. -/
def State.srcStat (s : State) (src : Nat) : Word :=
  let t := s.tsrc src
  if src = 0 ∨ 16 ≤ src then 0
  else putB t.actA 0 ||| putB t.actB 1 ||| putB t.alarm 2 ||| putB t.latched 3 ||| putB (s.tmu.fuses.getLsbD src) 4
    ||| put (respMin src).toNat 5 ||| put t.disagree 8

/-- R450: BBX_STAT. -/
def State.bbxStat (s : State) : Word :=
  putB s.bbx.ready 0 ||| putB s.bbx.pinFull 1 ||| put s.bbx.pinned 2 ||| putB s.bbx.lock 12

/-- R451: BBX_BASE, word j. -/
def State.bbxBase (s : State) (j : Nat) : Word :=
  let b := s.bbx.base.getD (0xFFFFFFFF, s.chainStart)
  if j = 0 then BitVec.ofNat 32 b.1 else BitVec.ofNat 32 (leAt b.2 (4 * (j - 1)) 4)

/-- R481: EVC_CFG, word j of a configuration. -/
def EvcCfg.word (c : EvcCfg) (j : Nat) : Word :=
  match j with
  | 0 => put c.lo 0
  | 1 => put c.hi 0
  | 2 => put c.cls.toNat 0
  | _ => put c.src 0 ||| putB c.chain 8 ||| putB c.sat 9 ||| putB c.irq 10 ||| put c.priv.toNat 11 ||| put c.dom 13
      ||| put c.master.toNat 19

/-- R521: TB_NOW, word j. -/
def State.tbNow (s : State) (j : Nat) : Word :=
  let sec := s.tb.tod / 1000000000
  if j = 0 then wordOf sec 0 else if j = 1 then wordOf sec 1 &&& 0xFFFF else put (s.tb.tod % 1000000000) 0

/-- R331, R357: LNE_PORT_STAT; the entry of a lane that a wider port covers reads 0. -/
def State.portStat (s : State) (p : Nat) : Word :=
  let P := s.port p
  let lanes := (s.portLanes p).map s.lane
  if s.covered p then 0
  else putB P.link 0 ||| putB (lanes.any (fun l => l.los)) 1 ||| putB (lanes.any (fun l => l.lol)) 2
    ||| putB (!lanes.isEmpty && lanes.all (fun l => l.block)) 3
    ||| putB (!lanes.isEmpty && lanes.all (fun l => l.locked) && s.runsFec p) 4
    ||| putB P.trainDone 5 ||| putB P.trainFail 6

/-- R359: LNE_LANE_STAT. -/
def State.laneStat (s : State) (l : Nat) : Word :=
  let L := s.lane l
  putB L.los 0 ||| putB L.lol 1 ||| putB L.prbsLock 2 ||| putB L.prbsLost 3

/-- R363: WFT_PORT_STAT. -/
def State.weftStat (s : State) (n : Nat) : Word :=
  let w := s.wport n
  put w.st.code 0 ||| putB w.keyed 3 ||| put w.peer.toNat 4

/-- R364: WFT_TAPS of data lane k. -/
def State.tapsWord (s : State) (n k : Nat) : Word :=
  let t := tget (4, 51, 8) (s.wport n).taps k
  put t.1 0 ||| put t.2.1 4 ||| put t.2.2 10

/-- R237: WOV_TX_STAT. -/
def State.txStat (s : State) (g : Nat) : Word :=
  let G := s.group g
  putB G.change.isSome 0 ||| putB (s.grpOn g && G.label == .uneq) 1 ||| putB (s.grpOn g && G.label == .pais) 2
    ||| putB G.seqStop 3 ||| putB G.sealerFail 4 ||| putB G.mfFar 5 ||| put G.mfnFar 6

/-- R239: WOV_CK_SLOT of slot k. -/
def State.ckSlotWord (s : State) (g k : Nat) : Word :=
  let c := (s.group g).ck k
  putB c.valid 0 ||| putB c.drain 1 ||| put c.kn.toNat 2

/-- R241: WOV_RX_STAT. -/
def State.rxStat (s : State) (g : Nat) : Word :=
  let G := s.group g
  putB G.sync 0 ||| putB G.noref 1 ||| putB G.keyMiss 2 ||| put G.rxKn.toNat 3

/-- R243: WOV_LANE_STAT; a lane that is in no group reads ALIGN 0. -/
def State.wovLaneStat (s : State) (l : Nat) : Word :=
  let L := s.lane (32 + l)
  (if (s.groupOf l).isSome then put L.align.code 0 else 0) ||| put L.member 3 ||| putB L.binder 8 ||| putB L.erasedNow 9
    ||| put (min 4 L.cands.length) 10 ||| put L.ssl.toNat 16

/-- R288: whole bytes of a credit kept in 1/125 byte, rounded toward minus infinity. -/
def creditWord (c : Int) : Word := BitVec.ofInt 32 (c.fdiv 125)

/-- R292: SCH_SHED_CTL. -/
def State.shedCtl (s : State) (p : Nat) : Word :=
  let P := s.port p
  (s.reg .schShedCtl p &&& 1) ||| putB P.bankB 1 ||| putB P.switchAt.isSome 2 ||| put (s.gates p) 3 ||| put P.entry 11

/-- R326: MSC_SUSPECT of entry i, word j. -/
def State.suspectWord (s : State) (i j : Nat) : Word :=
  match s.msc.suspects[i]? with
  | none => 0
  | some e => if j = 0 then put e.2.2 0 else putB e.1 0 ||| put e.2.1 1 ||| put 1 31

/-- R119: SHU_CARD_STAT. -/
def State.cardStat (s : State) (c : Nat) : Word :=
  let k := s.clu c
  put ((k.card.map (fun x => x.gen.toNat)).getD 0) 0 ||| put k.st.code 16 ||| putB k.reject 19 ||| put k.loadfail.toNat 20
    ||| put (s.busyBobs c) 24

/-- R116: SHU_STAGE_STAT. -/
def State.stageStat (s : State) : Word :=
  putB s.shu.cur.isSome 0 ||| putB s.shu.next.isSome 1 ||| putB s.shu.staging.isSome 2 ||| putB s.shu.refused 3
    ||| put s.shu.check.toNat 4

/-- R71: SHU_TRAP_LAST. -/
def State.trapWord (s : State) (c : Nat) : Word :=
  let t := (s.clu c).trapLast
  put t.1.toNat 0 ||| put t.2.1 4 ||| put t.2.2.1 18 ||| put t.2.2.2.1 22 ||| putB t.2.2.2.2 25

/-- R72, R462: the domain of a cluster is asleep. -/
def State.cluAsleep (s : State) (c : Nat) : Bool :=
  let D := s.dom c
  D.st.deep || (D.st == .waking && !D.up)

/-- R72, R462: a word of a cluster's scratch as the host reads it. -/
def State.scratchWord (s : State) (c j : Nat) : Word :=
  let m := if s.cluAsleep c then s.shu.images else s.shu.scratch
  BitVec.ofNat 32 (leNat (Memory.readBytes m (16384 * c + 4 * j) 4))

/-- R189: CIE_ENG_STAT. -/
def State.engStat (s : State) (e : Nat) : Word :=
  let E := s.engine e
  let j := s.cie.jobs.find? (fun j => j.onEngine e)
  let kind := match j with
    | some j => j.kind.code
    | none => if E.inTest then 5 else 0
  let bist := (s.dom (24 + e / 2)).ready == .quarantined && (s.dom (24 + e / 2)).st == .waking && (s.dom (24 + e / 2)).up
  put (if bist then EngSt.testing.code else E.st.code) 0 ||| putB ((j.map (fun x => x.constant)).getD (s.profileOf (e / 2))) 3 ||| put kind 4
    ||| put (s.cie.jobs.countP (fun j => j.st == .suspended e)) 7 ||| put E.fault.toNat 9 ||| put E.retires 12

/-- R153: MT_ENTRY, word j. -/
def MtEntry.word (e : MtEntry) (j : Nat) : Word :=
  if j < 4 then wordOf e.value.toNat j
  else if j < 8 then wordOf e.mask.toNat (j - 4)
  else if j = 8 then put e.part.toNat 0 ||| putB e.valid 31
  else e.result

/-! ### Function registers in BAR2 (R368, R389, R391 to R395, R403) -/

/-- R372, R394: HIF_RING_STAT; RUN of a disabled ring is 1 while slots handed to a unit complete. -/
def Ring.statWord (g : Ring) : Word :=
  putB (!g.stopped && (g.en || g.fetched.any (fun e => !e.withdrawn && !(e.posted && leAt e.desc 0 2 == 0x0702)))) 0 ||| putB g.stopped 1 ||| put g.err.toNat 2

/-- R392 to R395: the register of a ring at an offset of its block. -/
def Ring.word (g : Ring) (k : Nat) : Word :=
  match k with
  | 0 => wordOf g.base.toNat 0
  | 1 => wordOf g.base.toNat 1
  | 2 => put g.size 0 ||| putB g.en 5 ||| putB g.irqEn 6 ||| put g.vec 7
  | 3 => put g.maxlen 0
  | 4 => g.tail
  | 5 => g.head
  | 6 => g.statWord
  | 7 => put g.imodCount 0 ||| put g.imodTime 8
  | 8 => g.lost
  | _ => 0

/-- R391: HIF_FN_STAT of function f. -/
def State.fnStat (s : State) (f : Nat) : Word :=
  let c := s.reg .hifFnCfg f
  put s.hif.mode.toNat 0 ||| putB (c.getLsbD 0) 3 ||| putB (f == 0 || (s.hif.mode == 1 && c.getLsbD 1)) 4

/-- R403: KP_STAT of function f. -/
def State.kpStat (s : State) (f : Nat) : Word :=
  let p := s.page f
  put p.st.toNat 0 ||| putB p.unwrap.isSome 2 ||| put p.len 3

/-! ### BAR0 -/

/-- R4, R514: the value of word j of instance i of a register. -/
def State.readReg (s : State) (id : RegId) (i j : Nat) : Word :=
  match id with
  | .capId => put s.variant.code 0 ||| put s.stepping.toNat 8 ||| put 1 16
  | .capSerial => BitVec.ofNat 32 (leAt s.serial (4 * j) 4)
  | .capFeat => s.variant.feat
  | .capCounts => put s.variant.clusters 0 ||| put s.variant.engines 5 ||| put s.variant.stacks 11
      ||| put s.variant.weftPorts 14 ||| put 8 17
  | .capLanes => bitsOf (fun b => s.variant.lane (32 * j + b))
  | .capAtCap | .capFtCap => put s.capacity 0
  | .capPolicers => put s.variant.policers 0
  | .capDeskew => put s.variant.deskew 0
  | .capDram => put s.variant.dram 0
  | .capPdom => bitsOf (fun b => s.variant.domain (32 * j + b))
  | .hifMode => put s.hif.mode.toNat 0 ||| put s.hif.cause.toNat 4
  | .ringCopy => if s.fnExists i then (s.ring i (j / 16)).word (j % 16) else 0
  | .pmcDomStat => s.domStat i
  | .pmcWakeStat => put (s.refillBucket.pmc.level / 256) 0 ||| put s.pmc.wakes.length 8
  | .pmcPfw => putB s.pmc.pfw 0 ||| putB s.pmc.pfwSeen 1 ||| (s.reg .pmcPfw &&& 4) ||| put s.pmc.pfwCount 8
  | .kcuStat => s.kcuStat
  | .lcState => s.lcState
  | .lcPolicy => putB (s.policyBit 0) 0 ||| putB (s.policyBit 1) 1
  | .lcTokens => put s.tokensLeft 0
  | .lcStage => s.stage i
  | .tmuStat => s.tmuStat
  | .tmuSrcStat => s.srcStat i
  | .tmuMeshMeas => put (satTo 65535 (tget 0 s.tmu.ohms i)) 0 ||| putB (s.tmu.drift.contains i) 16
  | .tmuEnvMeas => put (s.tmu.vbat % 65536) 0 ||| ((BitVec.ofInt 32 (s.tmu.temp.fdiv 8) &&& 0xFF) <<< 16)
  | .tmuFuseStat => s.tmu.fuses
  | .bbxStat => s.bbxStat
  | .bbxSeq => BitVec.ofNat 32 s.bbx.seq
  | .bbxHead => put s.bbx.head 0
  | .bbxLost => put s.bbx.lost 0
  | .bbxBase => s.bbxBase j
  | .bbxWindow => BitVec.ofNat 32 (leAt ((tfind s.bbx.mram (i / 16)).getD []) (4 * (i % 16)) 4)
  | .evcCnt => wordOf (tget 0 s.evc.cnt i) j
  | .evcCfg0 => (s.evcCfg i).word 0
  | .evcCfg1 => (s.evcCfg i).word 1
  | .evcCfg2 => (s.evcCfg i).word 2
  | .evcCfg3 => (s.evcCfg i).word 3
  | .evcOvf => bitsOf (fun b => s.evc.ovf.contains (32 * i + b))
  | .tbNow => s.tbNow j
  | .tbStat => putB s.tb.ppsSeen 0 ||| (s.reg .tbStat &&& 2)
  | .lnePortCfg => if s.covered i then 0 else s.reg .lnePortCfg i
  | .lnePortStat => s.portStat i
  | .lneLaneStat => s.laneStat i
  | .lnePrbsErr => wordOf (s.lane i).prbsErr j
  | .wftPortStat => s.weftStat i
  | .wftLinkTime => put ((s.wport i).linkTime % 2 ^ 24) 0
  | .wftTaps => s.tapsWord i j
  | .wovTxMap => (s.group i).map
  | .wovTxStat => s.txStat i
  | .wovCkTx => putB (s.group i).ckSlot 0 ||| putB (s.group i).ckDone 1 ||| put (s.group i).txKn.toNat 2
  | .wovCkSlot => s.ckSlotWord i j
  | .wovRxStat => s.rxStat i
  | .wovRxSkew => put (satTo 0xFFFFFF (s.group i).skew) 0
  | .wovRxMap => (s.group i).rxMap
  | .wovLaneStat => s.wovLaneStat i
  | .lmtCtl => putB s.wov.lmt.busy 0
  | .lmtSnapSec => BitVec.ofNat 32 s.wov.lmt.snapSec
  | .lmtLaneDef => s.laneDef i
  | .lmtLaneHist => (s.reg .lmtLaneHist i &&& 0x1FF) ||| putB (s.monitored i) 9
  | .lmtGrpDef => s.grpDef i
  | .lmtGrpHist => (s.reg .lmtGrpHist i &&& 0x3F) ||| putB (s.grpOn i) 7
  | .lmtSec => put (tget 0 s.wov.lmt.snap (8 * i + j)) 0
  | .lmtPath => put (tget 0 s.wov.lmt.snap (8 * (32 + i) + j)) 0
  | .schAdmSpill => if s.variant = .tv16e then 0 else s.reg .schAdmSpill
  | .schPCredit => creditWord (s.port i).credit
  | .schShedCtl => s.shedCtl i
  | .schQDepth => BitVec.ofNat 32 (s.depth i)
  | .schQCredit => creditWord (s.queue i).credit
  | .schHistCtl => putB (s.hist i).busy 0
  | .schHistBin => put (tget 0 (s.hist i).snap j) 0
  | .mscMirror => (s.reg .mscMirror &&& 3) ||| put s.msc.mirror.toNat 2
  | .mscInit => putB s.msc.done 1 ||| putB s.msc.busy 2
  | .mscStat => (s.reg .mscStat &&& 0xB) ||| putB s.msc.tableKey.isSome 2
  | .mscReinit1 => (s.reg .mscReinit1 &&& 0x1F) ||| put s.msc.result.toNat 6
  | .mscSuspectCnt => put s.msc.suspects.length 0
  | .mscSuspect => s.suspectWord i j
  | .mscMkiStat => put (tget {} s.msc.mkis i).st.code 0 ||| put (s.mkiRefs i) 2
  | .mscMkiExt => put (s.mkiExtents i) 0
  | .mscStackStat => put (tget .ok s.msc.stks i).code 0 ||| put (tget 0 s.msc.chFailed i) 2
  | .shuCardCtl => put (s.clu i).ctlGen.toNat 0 ||| putB (s.clu i).hold 16
  | .shuCardStat => s.cardStat i
  | .shuStageStat => s.stageStat
  | .shuStageGen => put ((s.shu.cur.map (fun c => c.gen.toNat)).getD 0) 0
      ||| put ((s.shu.next.map (fun c => c.gen.toNat)).getD 0) 16
  | .shuTrapLast => s.trapWord i
  | .shuScratch => s.scratchWord i j
  | .cieStat => putB s.cieHold 0 ||| put ((List.range s.variant.engines).countP (fun e => (s.engine e).st == .fresh)) 1
  | .cieEngStat => s.engStat i
  | .mtEntry => (tget {} s.tab.mt i).word j
  | .pmcReturn | .tmuFuse | .shuStageCtl | .cieRetire | .mscMkiCtl => 0
  | .pmcDomGrp | .schShedBaseA | .schShedBaseB => s.reg id i j
  | .schShedEnt => s.reg id i j
  | _ => s.reg id i

/-! ### Targets of an access (R2, R368, R514, R520) -/

/-- What a word of BAR0 or BAR2 holds. -/
inductive Target where
  /-- an absent unit or instance (R2) -/
  | absent (id : Option RegId)
  /-- an offset that no chapter defines (R368, R514) -/
  | undefined
  /-- a register of BAR0 -/
  | reg (r : RegRow) (i j : Nat)
  /-- KP_DATA word i (R402) -/
  | kpData (i : Nat)
  /-- KP_CTL (R403) -/
  | kpCtl
  /-- KP_STAT (R403) -/
  | kpStat
  /-- word k of ring r (R392 to R395) -/
  | ring (r k : Nat)
  /-- HIF_FN_STAT (R391) -/
  | fnStat
  /-- HIF_FN_ERR (R389) -/
  | fnErr
  /-- word k of the MSI-X table entry of a vector (R368) -/
  | msix (vec k : Nat)
  /-- the MSI-X pending bits (R368) -/
  | msixPend
  /-- word j of slot i of the counter window (R478) -/
  | window (i j : Nat)

/-- R368, R515: what an offset of BAR2 holds. -/
def bar2Target (a : Nat) : Target :=
  if a < 0x80 then .kpData (a / 4)
  else if a = 0x100 then .kpCtl
  else if a = 0x104 then .kpStat
  else if 0x1000 ≤ a ∧ a < 0x1200 then (if a % 64 ≤ 0x20 then .ring ((a - 0x1000) / 64) (a % 64 / 4) else .undefined)
  else if a = 0x1200 then .fnStat
  else if a = 0x1204 then .fnErr
  else if 0x1800 ≤ a ∧ a < 0x1A00 then .msix ((a - 0x1800) / 16) (a % 16 / 4)
  else if a = 0x1A00 then .msixPend
  else if 0x2000 ≤ a then .window ((a - 0x2000) / 8) (a % 8 / 4)
  else .undefined

/-- R2, R514: what an offset of BAR0 holds. -/
def bar0Target (v : Variant) (a : Nat) : Target :=
  if blockAbsent v a then .absent none
  else match locate a with
    | none => .undefined
    | some (r, i, j) =>
      if r.id = .ftDomQuota ∧ i = 0 then .undefined
      else if r.id.present v i then .reg r i j
      else .absent (some r.id)

/-- What the word at an address holds. -/
def State.target (s : State) (bar2 : Bool) (a : Nat) : Target := if bar2 then bar2Target a else bar0Target s.variant a

/-- R367, R368: the access can reach the device: it is not in reset, the function exists, BAR0 is function 0's, and the
offset lies in the BAR. -/
def State.reaches (s : State) (f : Nat) (bar2 : Bool) (a : Nat) : Bool :=
  !s.pins.inReset && s.fnExists f && (if bar2 then decide (a < 0x4000) else f == 0 && decide (a < 0x200_0000))

/-- The name of a word in the tables of held and latched words. -/
def wordKey (f : Nat) (bar2 : Bool) (a : Nat) : Nat := if bar2 then bar2Base f + a else a

/-! ### Reads -/

/-- R4: the word a read returned. -/
def State.answerRead (s : State) (v : Word) : State := { s with hif := { s.hif with readData := v } }

/-- R4: a word latched. -/
def State.latchWord (s : State) (key : Nat) (v : Word) : State :=
  { s with hif := { s.hif with latch := tput s.hif.latch key v } }

/-- R4, R451, R521: words that the read of word 0 of a register latches; word j is one of the further words. -/
def RegId.latched : RegId → Nat
  | .capSerial | .capLanes | .pmcDomGrp | .lnePrbsErr | .mscSuspect => 2
  | .tbNow => 3
  | .bbxBase => 5
  | _ => 1

/-- R477: the value that a read of counter n sees: the latched value of a chained counter, or the count. -/
def State.cntSeen (s : State) (n : Nat) : Nat :=
  match s.evc.chainLatch.find? (fun e => e.1 == n) with
  | some e => e.2
  | none => tget 0 s.evc.cnt n

/-- R4, R477: the low word of counter n is read at a key: its high word is latched, and the whole of a counter chained to
it. -/
def State.readCntLow (s : State) (n key : Nat) : State :=
  let v := s.cntSeen n
  let s := (s.latchWord (key + 4) (wordOf v 1)).answerRead (wordOf v 0)
  if n + 1 < 4096 ∧ (s.evcCfg (n + 1)).chain = true then
    { s with evc := { s.evc with
      chainLatch := (n + 1, tget 0 s.evc.cnt (n + 1)) :: s.evc.chainLatch.filter (fun e => e.1 != n + 1) } }
  else s

/-- R4, R477: the high word of counter n is read at a key; a chained counter's latch ends. -/
def State.readCntHigh (s : State) (n key : Nat) : State :=
  match s.evc.chainLatch.find? (fun e => e.1 == n) with
  | some e =>
    ({ s with evc := { s.evc with chainLatch := s.evc.chainLatch.filter (fun e => e.1 != n) } }).answerRead (wordOf e.2 1)
  | none => s.answerRead ((tfind s.hif.latch key).getD (wordOf (tget 0 s.evc.cnt n) 1))

/-- R4, R7, R368: a register of BAR0 is read: word 0 of a register of several words (and of BASE in the copy of a ring's block)
latches the others, a further word returns its latch, and DISAGREE is cleared. -/
def State.readBar0 (s : State) (id : RegId) (i j a : Nat) : State :=
  match id with
  | .evcCnt => if j = 0 then s.readCntLow i a else s.readCntHigh i a
  | .mscReinit0 => (s.latchWord (a + 4) (s.readReg .mscReinit1 0 0)).answerRead (s.readReg .mscReinit0 0 0)
  | .mscReinit1 => s.answerRead ((tfind s.hif.latch a).getD (s.readReg .mscReinit1 0 0))
  | .tmuSrcStat => (s.answerRead (s.srcStat i)).setTsrc i { s.tsrc i with disagree := 0 }
  | .ringCopy =>
    if j % 16 = 0 then (s.latchWord (a + 4) (s.readReg .ringCopy i (j + 1))).answerRead (s.readReg .ringCopy i j)
    else if j % 16 = 1 then s.answerRead ((tfind s.hif.latch a).getD (s.readReg .ringCopy i j))
    else s.answerRead (s.readReg .ringCopy i j)
  | id =>
    if id.latched = 1 then s.answerRead (s.readReg id i j)
    else if j = 0 then
      ((List.range (id.latched - 1)).foldl (fun t k => t.latchWord (a + 4 * (k + 1)) (s.readReg id i (k + 1))) s).answerRead
        (s.readReg id i 0)
    else s.answerRead ((tfind s.hif.latch a).getD (s.readReg id i j))

/-- R10, R478: function f may read the counter of a slot of its window. -/
def State.mayRead (s : State) (f n : Nat) : Bool :=
  let c := s.evcCfg n
  f == 0 || (s.hif.mode == 1 && (s.reg .hifFnCfg f).getLsbD 1 && (c.priv == 3 || c.src == 255) && c.dom == f)

/-- R482: the counter that slot i of function f's window shows; none at or beyond COUNT. -/
def State.windowCnt (s : State) (f i : Nat) : Option Nat :=
  if i < s.field .evcWin f 12 11 then some (s.field .evcWin f 0 12 + i) else none

/-- R4, R368, R392 to R395, R402, R403, R478: a word of function f's BAR2 is read. -/
def State.readBar2 (s : State) (f a : Nat) : State :=
  match bar2Target a with
  | .kpStat => s.answerRead (s.kpStat f)
  | .ring r 0 => (s.latchWord (wordKey f true (a + 4)) ((s.ring f r).word 1)).answerRead ((s.ring f r).word 0)
  | .ring r 1 => s.answerRead ((tfind s.hif.latch (wordKey f true a)).getD ((s.ring f r).word 1))
  | .ring r 8 => (s.answerRead (s.ring f r).lost).setRing f r { s.ring f r with lost := 0 }
  | .ring r k => s.answerRead ((s.ring f r).word k)
  | .fnStat => s.answerRead (s.fnStat f)
  | .fnErr => s.answerRead (tget 0 s.hif.fnErr f)
  | .msix vec k =>
    if k = 3 then s.answerRead (putB (!s.hif.unmasked.contains (32 * f + vec)) 0)
    else s.answerRead (tget 0 s.regs (wordKey f true a))
  | .msixPend => s.answerRead (bitsOf (fun b => s.hif.pending.contains (32 * f + b)))
  | .window i j =>
    match s.windowCnt f i with
    | none => s.answerRead 0
    | some n =>
      if !s.mayRead f n then (s.accessErr f true a 3).answerRead 0
      else if j = 0 then s.readCntLow n (wordKey f true a)
      else s.readCntHigh n (wordKey f true a)
  | _ => s.answerRead 0

/-- R4: a host read of the word at an address. -/
def State.hostRead (s : State) (f : Nat) (bar2 : Bool) (addr : Nat) : State :=
  let a := addr / 4 * 4
  if !s.reaches f bar2 a then s
  else if bar2 then s.readBar2 f a
  else match bar0Target s.variant a with
    | .absent _ => (s.accessErr f false a 0).answerRead 0
    | .reg r i j => s.readBar0 r.id i j a
    | _ => s.answerRead 0

/-- R2, R10: a read of an absent unit or of a counter that the function may not see. -/
def State.forbidden (s : State) (f : Nat) (bar2 : Bool) (addr : Nat) : Bool :=
  match s.target bar2 (addr / 4 * 4) with
  | .absent _ => true
  | .window i _ => (match s.windowCnt f i with
    | some n => !s.mayRead f n
    | none => false)
  | _ => false

/-- R7: a read of a register that holds an RC field. -/
def State.clears (s : State) (bar2 : Bool) (addr : Nat) : Bool :=
  match s.target bar2 (addr / 4 * 4) with
  | .reg r _ _ => r.id == .tmuSrcStat
  | .ring _ 8 => true
  | _ => false

/-- R4: LOW_WORD_READ_LATCH: a read that neither is forbidden nor clears: the low word of a register latches its other
words, and these return what was latched. -/
def execLowWordReadLatch (f : Nat) (bar2 : Bool) (addr : Nat) (s : State) : Host.Outcome State Fault Refusal :=
  .next (if s.forbidden f bar2 addr || s.clears bar2 addr then s else s.hostRead f bar2 addr)

/-- R7: READ_CLEAR. -/
def execReadClear (f : Nat) (bar2 : Bool) (addr : Nat) (s : State) : Host.Outcome State Fault Refusal :=
  .next (if s.clears bar2 addr then s.hostRead f bar2 addr else s)

/-- R2, R10: FORBIDDEN_REGISTER_READ. -/
def execForbiddenRegisterRead (f : Nat) (bar2 : Bool) (addr : Nat) (s : State) : Host.Outcome State Fault Refusal :=
  .next (if s.forbidden f bar2 addr then s.hostRead f bar2 addr else s)

end Sys2Proof.Machine
end

