-- ==== Sys2Proof/Machine/HostRegs.lean ====
section
/-! DEFINITION. Host writes of registers (R4, R5, R7, R514, R520): reserved bits and encodings, absent instances, held words,
W1C and seal bits, the checks of each block, and the commands of the table that are register writes. -/

namespace Sys2Proof.Machine

/-! ### Rejections (R5, R520) -/

/-- R5: the block REJECT bit that a register's chapter names for rejected writes. -/
def State.blockReject (s : State) (id : RegId) (i : Nat) : State :=
  match id with
  | .pmcLtol | .pmcDomGrp | .pmcDomStat | .pmcWake | .pmcWakeStat | .pmcReturn | .pmcScrReload | .pmcLoad | .pmcSsc
  | .pmcIoCfg | .pmcStat | .pmcPfw => s.pmcReject
  | .tmuPolicySeal | .tmuStat | .tmuSrcCfg | .tmuSrcStat | .tmuMeshCfg | .tmuMeshMeas | .tmuEnvCfg | .tmuEnvMeas
  | .tmuFuse | .tmuFuseStat => s.tmuReject
  | .evcCnt | .evcCfg0 | .evcCfg1 | .evcCfg2 | .evcCfg3 | .evcOvf | .evcWin | .evcStat => s.setRegBit .evcStat 0
  | .tbNow | .tbSet0 | .tbSet1 | .tbSet2 | .tbStat => s.tbReject
  | .lneStat | .lnePortCfg | .lnePortStat | .lneLaneCfg | .lneLaneStat | .lnePrbsErr => s.lneReject
  | .wftDevId | .wftStat | .wftPortCfg | .wftPortTimers | .wftPortBudget | .wftPortStat | .wftLinkTime | .wftTaps
  | .wftRoute => s.wftReject
  | .wovGrpCfg | .wovGrpLanes | .wovTxMap | .wovTxStat | .wovCkTx | .wovCkSlot | .wovRxCfg | .wovRxStat | .wovRxSkew
  | .wovRxMap | .wovLaneStat | .wovLaneTx | .wovStat => s.wovReject
  | .tagPortCfg | .tagStat => s.setRegBit .tagStat 0
  | .schStat | .schAdmSlots | .schAdmCells | .schAdmSpill | .schPRate | .schPBurst | .schPCredit | .schShedCtl
  | .schShedCnt | .schShedBaseA | .schShedBaseB | .schQRate | .schQBurst | .schQQuantum | .schQMap | .schQDepth
  | .schQCredit | .schShedEnt | .schHistCfg | .schHistCtl | .schHistBin | .schPolCir | .schPolCbs | .schPolPir
  | .schPolPbs => s.setRegBit .schStat 0
  | .mscMirror | .mscInit | .mscStat | .mscTimeout | .mscPoisonCfg | .mscScrub | .mscReinit0 | .mscReinit1
  | .mscSuspectCnt | .mscSuspect | .mscMkiCtl | .mscMkiStat | .mscMkiExt | .mscStackStat => s.setRegBit .mscStat 0
  | .shuCardCtl => s.setClu i { s.clu i with reject := true }
  | .atDrain | .atStat | .atDomBase | .atDomCount | .atPnWarn | .mtEntry => s.setRegBit .atStat 0
  | _ => s

/-- R5: a write that sets a reserved bit or a reserved encoding. -/
def State.reservedWrite (s : State) (id : RegId) (i a : Nat) : State := (s.accessErr 0 false a 2).blockReject id i

/-- R520: a write whose field names an absent instance. -/
def State.absentWrite (s : State) (id : RegId) (i a : Nat) : State := (s.accessErr 0 false a 0).blockReject id i

/-- R5: a write writes a reserved encoding to a field. -/
def RegId.reservedCode (id : RegId) (v : Word) : Bool :=
  match id with
  | .hifMode => decide (4 ≤ fld v 0 3)
  | .lnePortCfg => decide (12 < fld v 1 4) || fld v 5 2 == 3
  | .lneLaneCfg => fld v 2 3 == 7 || decide (5 < fld v 7 3)
  | .wovLaneTx => fld v 0 2 == 3
  | .mscReinit1 => decide (9 ≤ fld v 1 4 ∧ fld v 1 4 ≤ 14)
  | .tmuSrcCfg => fld v 0 3 == 5 || fld v 0 3 == 6
  | .wftDevId => reservedId (fld v 0 16)
  | _ => false

/-- R520: a write names an absent instance in a field. -/
def State.namesAbsent (s : State) (id : RegId) (v : Word) : Bool :=
  match id with
  | .schQMap => !s.variant.lane (fld v 0 6) || (v.getLsbD 10 && s.variant == .tv16e)
  | .wovGrpLanes => (dataMembers v).any (fun m => !s.variant.lane (32 + m))
  | .wovTxMap => (dataMembers v).any (fun m => !s.variant.lane (32 + m))
  | .wovGrpCfg => !s.variant.lane (32 + fld v 2 5)
  | .wftRoute => (v.getLsbD 2 && decide (s.variant.weftPorts ≤ fld v 0 2))
      || (v.getLsbD 5 && decide (s.variant.weftPorts ≤ fld v 3 2))
  | .pmcReturn => v.getLsbD 31 && decide (fld v 0 7 < 96) && !s.variant.domain (fld v 0 7)
  | .pmcScrReload => decide (2 ^ s.variant.clusters ≤ fld v 0 24)
  | _ => false

/-! ### Held words (R4, R294, R481, R487, R521) -/

/-- R4: a word of a register held until its last word is written. -/
def State.hold (s : State) (key : Nat) (v : Word) : State :=
  { s with hif := { s.hif with held := tput s.hif.held key v } }

/-- R4: the held word at a key, or the value in force. -/
def State.heldOr (s : State) (key : Nat) (v : Word) : Word := (tfind s.hif.held key).getD v

/-- R4: held words taken or given up. -/
def State.unhold (s : State) (keys : List Nat) : State :=
  { s with hif := { s.hif with held := s.hif.held.filter (fun (e : Nat × Word) => !keys.contains e.1) } }

/-! ### Plain writes -/

/-- R7: a write of an RW register. -/
def State.setRw (s : State) (r : RegRow) (i j : Nat) (v : Word) : State := s.setReg r.id i j (v &&& r.rw)

/-- R7: W1C bits cleared in `State.regs`. -/
def State.clearBits (s : State) (id : RegId) (i : Nat) (v mask : Word) : State :=
  s.setReg id i 0 (s.reg id i &&& ~~~(v &&& mask))

/-- A write checked by its block: taken when `ok`, otherwise rejected. -/
def State.checked (s : State) (r : RegRow) (i j : Nat) (v : Word) (ok : Bool) : State :=
  if ok then s.setRw r i j v else s.blockReject r.id i

/-- A write that is rejected with `HIF_ERR.RSVD`: taken when `ok`. -/
def State.orRsvd (s : State) (r : RegRow) (i a : Nat) (v : Word) (ok : Bool) : State :=
  if ok then s.setRw r i 0 v else s.accessErr 0 false a 2

/-! ### The device mode (R388, R407, R429) -/

/-- R388, R407, R429, R492: a write of HIF_MODE: SERVICE is taken in START and RECOVERY, unless a lock or an alarm forbids
it. -/
def State.modeWrite (s : State) (a : Nat) (v : Word) : State :=
  if fld v 0 3 = 1 ∧ (s.hif.mode = 0 ∨ s.hif.mode = 2) ∧ s.bbx.lock = false ∧ s.alarmQuiet = true then
    { s with
      hif := { s.hif with mode := 1, cause := 0 }
      tmu := { s.tmu with quiesced := false, quiesceRuns := false, running := if s.tmu.running = 2 then 7 else s.tmu.running } }
  else s.accessErr 0 false a 4

/-! ### Event counters and check-value profiles (R475, R476, R481, R482, R487) -/

/-- R476: counter n written: both words take effect together. -/
def State.cntCommit (s : State) (n a : Nat) (v : Word) : State :=
  let low := s.heldOr (a - 4) (wordOf (tget 0 s.evc.cnt n) 0)
  let s := s.unhold [a - 4]
  { s with evc := { s.evc with cnt := tset 0 s.evc.cnt n (low.toNat + 2 ^ 32 * v.toNat) } }

/-- R472: a source code that a configuration may name. -/
def srcOk (c : Nat) : Bool := decide (c ≤ 56) || c == 255

/-- R475, R476, R481: word 3 of a counter's configuration written: all four words take effect together. -/
def State.cfgCommit (s : State) (n a : Nat) (v : Word) : State :=
  let old := s.evcCfg n
  let lo := fld (s.heldOr (a - 12) (old.word 0)) 0 24
  let hi := fld (s.heldOr (a - 8) (old.word 1)) 0 24
  let cls := s.heldOr (a - 4) (old.word 2)
  let s := s.unhold [a - 12, a - 8, a - 4]
  if !srcOk (fld v 0 8) then s.reservedWrite .evcCfg3 n a
  else if hi < lo ∨ (v.getLsbD 8 = true ∧ n = 0) then s.blockReject .evcCfg3 n
  else
    let c : EvcCfg := {
      lo := lo, hi := hi, cls := cls.setWidth 8, src := fld v 0 8, chain := v.getLsbD 8, sat := v.getLsbD 9
      irq := v.getLsbD 10, priv := v.extractLsb' 11 2, dom := fld v 13 6, master := v.extractLsb' 19 6 }
    { s with evc := { s.evc with cfg := tset (evcCfgReset n) s.evc.cfg n c } }

/-- R482: overflow flags cleared. -/
def State.ovfClear (s : State) (w : Nat) (v : Word) : State :=
  { s with evc := { s.evc with ovf := s.evc.ovf.filter (fun n => !(n / 32 == w && v.getLsbD (n % 32))) } }

/-- R487: the width in bits of a CVU_CTL.WIDTH code. -/
def cvuWidth (c : Nat) : Nat := [0, 8, 16, 32].getD c 0

/-- R487: CVU_CTL written: the profile changes whole, or the held set is rejected. -/
def State.cvuCommit (s : State) (p a : Nat) (v : Word) : State :=
  let poly := s.heldOr (a - 12) (s.reg .cvuPoly p)
  let init := s.heldOr (a - 8) (s.reg .cvuInit p)
  let xorout := s.heldOr (a - 4) (s.reg .cvuXor p)
  let w := cvuWidth (fld v 0 2)
  let s := s.unhold [a - 12, a - 8, a - 4]
  if p = 0 ∨ w = 0 ∨ 2 ^ w ≤ poly.toNat ∨ 2 ^ w ≤ init.toNat ∨ 2 ^ w ≤ xorout.toNat ∨ poly.getLsbD 0 = false then
    s.accessErr 0 false a 2
  else (((s.setReg .cvuPoly p 0 poly).setReg .cvuInit p 0 init).setReg .cvuXor p 0 xorout).setReg .cvuCtl p 0 v

/-! ### Power (R469, R470) -/

/-- R469: PMC_LOAD: minima of 1 to the present count, thresholds of 1 or more. -/
def State.loadOk (s : State) (v : Word) : Bool :=
  decide (1 ≤ fld v 0 5 ∧ fld v 0 5 ≤ s.variant.clusters ∧ 1 ≤ fld v 5 5 ∧ 2 * fld v 5 5 ≤ s.variant.engines
    ∧ 1 ≤ fld v 10 11 ∧ 1 ≤ fld v 21 8)

/-! ### Scheduler (R285 to R298) -/

/-- R279: a bank's entries, count and base may not be written: it is active, or a switch to it is pending. -/
def State.bankLocked (s : State) (p : Nat) (b : Bool) : Bool := (s.port p).bankB == b || (s.port p).switchAt.isSome

/-- R290, R307: a write of SCH_Q_MAP. -/
def State.qMapWrite (s : State) (q : Nat) (v : Word) : State :=
  let old := s.reg .schQMap q
  if s.mkiRetiring (fld v 11 8) then (s.blockReject .schQMap q).setRegBit .mscStat 0
  else if fld v 19 12 = 0 ∨ (fld v 0 9 ≠ fld old 0 9 ∧ s.depth q ≠ 0) then s.blockReject .schQMap q
  else s.setReg .schQMap q 0 v

/-- R293: a write of SCH_SHED_CNT. -/
def State.shedCntWrite (s : State) (p : Nat) (v : Word) : State :=
  let old := s.reg .schShedCnt p
  let bad (b : Bool) (lo : Nat) : Bool := decide (64 < fld v lo 7) || (s.bankLocked p b && fld v lo 7 != fld old lo 7)
  if bad false 0 || bad true 8 then s.blockReject .schShedCnt p else s.setReg .schShedCnt p 0 v

/-- R294: a word of a bank's base written: words 0 and 1 are held, word 2 takes all three. -/
def State.shedBaseWrite (s : State) (id : RegId) (b : Bool) (p j a : Nat) (v : Word) : State :=
  if s.bankLocked p b then (s.unhold (if j = 2 then [a - 8, a - 4] else [])).blockReject id p
  else if j < 2 then s.hold a v
  else
    let w0 := s.heldOr (a - 8) (s.reg id p 0)
    let w1 := s.heldOr (a - 4) (s.reg id p 1)
    let s := s.unhold [a - 8, a - 4]
    if 999999999 < v.toNat then s.blockReject id p
    else ((s.setReg id p 0 w0).setReg id p 1 w1).setReg id p 2 v

/-- R295: a word of a shed entry written. -/
def State.shedEntWrite (s : State) (p j : Nat) (v : Word) : State :=
  if s.bankLocked p (128 ≤ j) ∨ (j % 2 = 0 ∧ v.toNat < 64) then s.blockReject .schShedEnt p
  else s.setReg .schShedEnt p j v

/-- R296: a write of SCH_HIST_CFG. -/
def State.histCfgWrite (s : State) (h : Nat) (v : Word) : State :=
  let old := s.reg .schHistCfg h
  if 16 < fld v 16 5 ∨ (old.getLsbD 15 = true ∧ (old ^^^ v) &&& 0x1F_7FFF ≠ 0) then s.blockReject .schHistCfg h
  else s.setReg .schHistCfg h 0 v

/-! ### Tables (R135, R153, R201) -/

/-- R135: the range that domain d would own runs past the capacity or meets another domain's. -/
def State.rangeBad (s : State) (d base count : Nat) : Bool :=
  decide (s.capacity < base + count)
    || (count != 0 && (List.range 64).any (fun e =>
      let b := s.field .atDomBase e 0 24
      let n := s.field .atDomCount e 0 25
      e != d && e != 0 && n != 0 && decide (base < b + n ∧ b < base + count)))

/-- R153: a word of a mask-table entry written: while VALID only word 8. -/
def State.mtWrite (s : State) (i j : Nat) (v : Word) : State :=
  let e := tget {} s.tab.mt i
  let set (e : MtEntry) : State := { s with tab := { s.tab with mt := tset {} s.tab.mt i e } }
  let word (x : BitVec 128) (k : Nat) : BitVec 128 :=
    (x &&& ~~~(((0xFFFF_FFFF : BitVec 128) <<< (32 * k)))) ||| ((v.setWidth 128) <<< (32 * k))
  if j = 8 then set { e with part := v.setWidth 6, valid := v.getLsbD 31 }
  else if e.valid then s.blockReject .mtEntry i
  else if j < 4 then set { e with value := word e.value j }
  else if j < 8 then set { e with mask := word e.mask (j - 4) }
  else set { e with result := v }

/-- R201: a write of TAG_PORT_CFG; a port's own lane is its first (log entry 136). -/
def State.tagWrite (s : State) (i : Nat) (v : Word) : State :=
  if fld v 16 14 < 64 ∨ 16128 < fld v 16 14 ∨ (v.getLsbD 0 = true ∧ (s.groupOf i).isSome = true) then
    s.setRegBit .tagStat 0
  else s.setReg .tagPortCfg i 0 v

/-- R201, R235, R250: a write of WOV_GRP_LANES; naming a tag-enabled lane also sets TAG_STAT.REJECT. Of a wide
tag-mode port only the first lane counts (DESIGN CHOICE, log entry 136). A lane that leaves has no defect, and one that joins is
monitored from now on. -/
def State.lanesWrite (s : State) (g : Nat) (v : Word) : State :=
  let s := if (dataMembers v).any (fun m => (s.reg .tagPortCfg m).getLsbD 0) then s.setRegBit .tagStat 0 else s
  let t := s.grpLanesWrite g v
  (dataMembers (s.reg .wovGrpLanes g ^^^ t.reg .wovGrpLanes g)).foldl (fun s m => (s.setLaneDef m 0).evalLane m false none) t

/-- R234, R252, R253: a write of WOV_GRP_CFG; a group just enabled is in path signal fail or not, and one just disabled
has no defect. -/
def State.grpWrite (s : State) (g off : Nat) (v : Word) : State :=
  let t := s.grpCfgWrite g off v
  if t.grpOn g = s.grpOn g then t
  else if t.grpOn g then t.setGrpDef g (if t.pathFail g then 0x20 else 0)
  else (s.lanesOf g).foldl (fun s l => s.memberRecord g l) (t.setGrpDef g 0)

/-- R240, R307: a write of WOV_RX_CFG. -/
def State.rxWrite (s : State) (g : Nat) (v : Word) : State :=
  if s.mkiRetiring (fld v 16 8) then s.wovReject.setRegBit .mscStat 0 else s.rxCfgWrite g v

/-! ### Memory, clusters, engines, keys -/

/-- R318, R321: a write of MSC_MIRROR before its seal: only in START before GO. -/
def State.mirrorWrite (s : State) (v : Word) : State :=
  if (s.reg .mscMirror).getLsbD 1 then s
  else if s.hif.mode ≠ 0 ∨ s.msc.go = true then s.setRegBit .mscStat 0
  else s.setReg .mscMirror 0 0 (v &&& 3)

/-- R72, R462: a word of a cluster's scratch written by the host: always its image, and its scratch while it is awake. -/
def State.hostScratch (s : State) (c j : Nat) (v : Word) : State :=
  let bs := leBytes v.toNat 4
  let img := { s with shu := { s.shu with images := Memory.writeBytes s.shu.images (16384 * c + 4 * j) bs } }
  if s.cluAsleep c then img else img.scratchWrite c (4 * j) bs

/-- R172, R183: a write of CIE_POLICY before its seal. -/
def State.policyWrite (s : State) (v : Word) : State :=
  if (s.reg .ciePolicy).getLsbD 1 then s
  else
    let s := s.setReg .ciePolicy 0 0 (v &&& 3)
    if v.getLsbD 0 then s.maskOnly else s

/-- R185, R520: a write of CIE_RETIRE; an engine that the variant lacks is also ABSENT. -/
def State.cieRetireWrite (s : State) (a : Nat) (v : Word) : State :=
  let s := if v.getLsbD 31 && decide (s.variant.engines ≤ fld v 0 6 ∧ fld v 0 6 < 48) then s.accessErr 0 false a 0 else s
  s.retireWrite a v

/-- R360: a write of WFT_DEV_ID before its seal. -/
def State.devIdWrite (s : State) (v : Word) : State :=
  if (s.reg .wftDevId).getLsbD 16 then s else s.setReg .wftDevId 0 0 v

/-! ### A write of BAR0 -/

/-- R5, R7: the effect of a write of word j of instance i of a register, its reserved bits, encodings and absent instances
checked. -/
def State.applyWrite (s : State) (r : RegRow) (i j a : Nat) (v : Word) : State :=
  match r.id with
  | .hifMode => s.modeWrite a v
  | .hifErr => s.clearBits .hifErr 0 v 0x7F
  | .hifCmdWdog | .shuBudget | .cieKat | .cieBurst => s.orRsvd r 0 a v (v != 0)
  | .lksCap => s.orRsvd r 0 a v (decide (1 ≤ v.toNat ∧ v.toNat ≤ 48))
  | .hifFnCfg | .pmcLtol | .wovLaneTx | .lmtLaneEven | .lmtGrpEven | .mscScrub | .atPnWarn | .ftDomQuota =>
    s.setRw r i j v
  | .pmcDomGrp =>
    if j = 0 then s.hold a v
    else ((s.unhold [a - 4]).setReg .pmcDomGrp i 0 (s.heldOr (a - 4) (s.reg .pmcDomGrp i 0))).setReg .pmcDomGrp i 1 v
  | .pmcWake => if s.wakeSealed then s else s.wakeWrite v
  | .pmcReturn => s.returnWrite v
  | .pmcScrReload => s.scrReload v
  | .pmcLoad => s.checked r 0 0 v (s.loadOk v)
  | .pmcSsc => s.checked r 0 0 v (decide (fld v 0 4 ≤ 8) && fld v 4 2 != 3)
  | .pmcIoCfg => s.checked r 0 0 v ([0, 2, 4, 6, 8].all (fun k => fld v k 2 != 3))
  | .pmcStat | .evcStat | .lneStat | .wftStat | .wovStat | .tagStat | .schStat | .atStat =>
    s.clearBits r.id 0 v 1
  | .pmcPfw =>
    let s := s.setReg .pmcPfw 0 0 (v &&& 4)
    if v.getLsbD 1 then { s with pmc := { s.pmc with pfwSeen := false } } else s
  | .kcuStat => if v.getLsbD 5 then { s with kcu := { s.kcu with bksLost := false } } else s
  | .tmuPolicySeal => s.setReg .tmuPolicySeal 0 0 (s.reg .tmuPolicySeal ||| (v &&& 1))
  | .tmuStat => (s.clearBits .tmuStat 0 v 0x80).alarmClr v
  | .tmuSrcCfg => s.srcCfgWrite i v
  | .tmuSrcStat => if v.getLsbD 3 then s.setTsrc i { s.tsrc i with latched := false } else s
  | .tmuMeshCfg => s.meshCfgWrite i v
  | .tmuMeshMeas =>
    if v.getLsbD 16 then { s with tmu := { s.tmu with drift := s.tmu.drift.filter (· != i) } } else s
  | .tmuEnvCfg => s.envCfgWrite v
  | .tmuFuse => s.fuseWrite v
  | .evcCnt =>
    if j = 0 then s.hold a v else s.cntCommit i a v
  | .evcCfg0 | .evcCfg1 | .evcCfg2 => s.hold a v
  | .evcCfg3 => s.cfgCommit i a v
  | .evcOvf => s.ovfClear i v
  | .evcWin => s.checked r i 0 v (decide (fld v 12 11 ≤ 1024 ∧ fld v 0 12 + fld v 12 11 ≤ 4096))
  | .cvuPoly | .cvuInit | .cvuXor => if i = 0 then s else s.hold a v
  | .cvuCtl => s.cvuCommit i a v
  | .tbSet0 | .tbSet1 => s.hold a v
  | .tbSet2 => (s.unhold [a - 8, a - 4]).setTime (s.heldOr (a - 8) (s.reg .tbSet0)) (s.heldOr (a - 4) (s.reg .tbSet1)) v
  | .tbStat =>
    let s := s.clearBits .tbStat 0 v 2
    if v.getLsbD 0 then { s with tb := { s.tb with ppsSeen := false } } else s
  | .lnePortCfg => s.portCfgWrite i v
  | .lnePortStat => if v.getLsbD 6 then s.setPort i { s.port i with trainFail := false } else s
  | .lneLaneCfg => s.laneCfgWrite i v
  | .lneLaneStat => if v.getLsbD 3 then s.setLane i { s.lane i with prbsLost := false } else s
  | .wftDevId => s.devIdWrite v
  | .wftPortCfg => s.weftCfgWrite i v
  | .wftPortTimers => s.checked r i 0 v (decide (100 ≤ fld v 0 16) && fld v 16 4 != 0)
  | .wftPortBudget => s.checked r i 0 v (fld v 0 16 != 0 && fld v 16 16 != 0)
  | .wftRoute => s.routeWrite i v
  | .wovGrpCfg => s.grpWrite i a v
  | .wovGrpLanes => s.lanesWrite i v
  | .wovTxMap => s.txMapWrite i v
  | .wovCkTx => s.ckTxWrite i v
  | .wovRxCfg => s.rxWrite i v
  | .lmtCtl => s.lmtSnap v
  | .lmtLaneHist => s.clearBits .lmtLaneHist i v 0x1FF
  | .lmtGrpHist => s.clearBits .lmtGrpHist i v 0x3F
  | .tagPortCfg => s.tagWrite i v
  | .schAdmSlots => s.checked r 0 0 v (decide (v.toNat ≤ 65536))
  | .schAdmCells => s.checked r 0 0 v (decide (v.toNat ≤ 229376))
  | .schAdmSpill =>
    if s.variant = .tv16e then s else s.checked r 0 0 v (decide (1 ≤ v.toNat ∧ v.toNat ≤ 458752))
  | .schPRate => s.checked r i 0 v (decide (fld v 0 22 ≤ 3200000))
  | .schQRate => (s.checked r i 0 v (decide (fld v 0 22 ≤ 3200000))).rejoin i
  | .schPBurst | .schQBurst | .schPolCbs | .schPolPbs => s.checked r i 0 v (decide (64 ≤ v.toNat))
  | .schQQuantum => s.checked r i 0 v (decide (64 ≤ v.toNat ∧ v.toNat ≤ 1000000))
  | .schPolCir | .schPolPir => s.checked r i 0 v (decide (v.toNat ≤ 3200000))
  | .schQMap => s.qMapWrite i v
  | .schShedCtl => s.shedSelect i (v.getLsbD 0)
  | .schShedCnt => s.shedCntWrite i v
  | .schShedBaseA => s.shedBaseWrite .schShedBaseA false i j a v
  | .schShedBaseB => s.shedBaseWrite .schShedBaseB true i j a v
  | .schShedEnt => s.shedEntWrite i j v
  | .schHistCfg => s.histCfgWrite i v
  | .schHistCtl => s.histSnap i v
  | .mscMirror => s.mirrorWrite v
  | .mscInit => s.mscInitWrite v
  | .mscStat => s.clearBits .mscStat 0 v 3
  | .mscTimeout => s.checked r 0 0 v (decide (100 ≤ v.toNat))
  | .mscPoisonCfg => s.checked r 0 0 v (decide (3 ≤ v.toNat ∧ v.toNat ≤ 29))
  | .mscReinit0 => s.hold a v
  | .mscReinit1 => ((s.unhold [a - 4]).setReg .mscReinit0 0 0 (s.heldOr (a - 4) (s.reg .mscReinit0))).reinitWrite v
  | .mscMkiCtl => s.mkiCtlWrite v
  | .shuCardCtl => s.cardCtlWrite i v
  | .shuCardStat => if v.getLsbD 19 then s.setClu i { s.clu i with reject := false } else s
  | .shuStageCtl => s.stageWrite v
  | .shuStageStat => if v.getLsbD 3 then { s with shu := { s.shu with refused := false } } else s
  | .shuScratch => s.hostScratch i j v
  | .ciePolicy => s.policyWrite v
  | .cieRetire => s.cieRetireWrite a v
  | .cieProfile => s.profileWrite i a v
  | .atDrain => s.checked r 0 0 v (v != 0)
  | .atDomBase =>
    if i = 0 then s else s.checked r i 0 v (!s.rangeBad i (fld v 0 24) (s.field .atDomCount i 0 25))
  | .atDomCount =>
    if i = 0 then s else s.checked r i 0 v (!s.rangeBad i (s.field .atDomBase i 0 24) (fld v 0 25))
  | .mtEntry => s.mtWrite i j v
  | _ => s

/-- R4, R5, R368, R449, R516, R520: a whole word written to a register of BAR0. -/
def State.writeReg (s : State) (r : RegRow) (i j a : Nat) (v : Word) : State :=
  if a < 0x10_0000 then s.accessErr 0 false a 2
  else if r.id = .ringCopy then s
  else if r.id = .bbxWindow then s.accessErr 0 false a 3
  else if v &&& ~~~r.definedAt j ≠ 0 ∨ r.id.reservedCode v = true then s.reservedWrite r.id i a
  else if s.namesAbsent r.id v then s.absentWrite r.id i a
  else s.applyWrite r i j a v

/-! ### A write of BAR2 -/

/-- R372, R393: a write of HIF_RING_CFG. -/
def State.ringCfgWrite (s : State) (f r a : Nat) (v : Word) : State :=
  let g := s.ring f r
  let size := fld v 0 5
  let vec := fld v 7 5
  if fld v 12 20 ≠ 0 ∨ size < 4 ∨ 16 < size ∨ (6 ≤ r ∧ v.getLsbD 5 = true) then s.accessErr f true a 2
  else if g.en = true ∧ (size ≠ g.size ∨ vec ≠ g.vec) then s.accessErr f true a 4
  else (s.setRing f r { g with size := size, vec := vec, irqEn := v.getLsbD 6 }).ringEnable f r (v.getLsbD 5)

/-- R371, R372, R392 to R395: a write of word k of a ring's registers. -/
def State.ringWrite (s : State) (f r k a : Nat) (v : Word) : State :=
  let g := s.ring f r
  match k with
  | 0 =>
    if fld v 0 12 ≠ 0 then s.accessErr f true a 2
    else if g.en then s.accessErr f true a 4
    else s.hold (wordKey f true a) v
  | 1 =>
    if g.en then s.accessErr f true a 4
    else
      let low := s.heldOr (wordKey f true (a - 4)) (wordOf g.base.toNat 0)
      (s.unhold [wordKey f true (a - 4)]).setRing f r { g with base := v ++ low }
  | 2 => s.ringCfgWrite f r a v
  | 3 =>
    if fld v 24 8 ≠ 0 ∨ v = 0 then s.accessErr f true a 2
    else if g.en then s.accessErr f true a 4
    else s.setRing f r { g with maxlen := v.toNat }
  | 4 => s.tailWrite f r v
  | 6 => if fld v 6 26 ≠ 0 then s.accessErr f true a 2 else if v.getLsbD 5 then s.ringResume f r else s
  | 7 =>
    if fld v 24 8 ≠ 0 ∨ fld v 0 8 = 0 then s.accessErr f true a 2
    else s.setRing f r { g with imodCount := fld v 0 8, imodTime := fld v 8 16 }
  | _ => s

/-- R374: a vector of the MSI-X table masked or unmasked; a pending one is signalled when it is unmasked. -/
def State.maskWrite (s : State) (f vec : Nat) (masked : Bool) : State :=
  let n := 32 * f + vec
  let rest := s.hif.unmasked.filter (· != n)
  if masked then { s with hif := { s.hif with unmasked := rest } }
  else
    let t := { s with hif := { s.hif with unmasked := n :: rest, pending := s.hif.pending.filter (· != n) } }
    if s.hif.pending.contains n then t.emit (.irq f vec) else t

/-- R5, R368, R389, R391 to R395, R400 to R403, R478: a whole word written to function f's BAR2. -/
def State.writeBar2 (s : State) (f a : Nat) (v : Word) : State :=
  match bar2Target a with
  | .kpData i =>
    let p := s.page f
    if p.st ≠ 0 ∨ p.unwrap.isSome = true then s.accessErr f true a 4
    else s.setPage f { p with data := Memory.writeBytes p.data (4 * i) (leBytes v.toNat 4) }
  | .kpCtl =>
    if v &&& ~~~(0x3_FF7F : Word) ≠ 0 ∨ fld v 8 2 = 3 then s.accessErr f true a 2 else s.kpCtlWrite f a v
  | .kpStat => if fld v 10 22 ≠ 0 then s.accessErr f true a 2 else s
  | .ring r k => s.ringWrite f r k a v
  | .fnStat => if fld v 5 27 ≠ 0 then s.accessErr f true a 2 else s
  | .fnErr =>
    if fld v 7 25 ≠ 0 then s.accessErr f true a 2
    else { s with hif := { s.hif with fnErr := tset 0 s.hif.fnErr f (tget 0 s.hif.fnErr f &&& ~~~v) } }
  | .msix vec k =>
    if k = 3 then s.maskWrite f vec (v.getLsbD 0) else { s with regs := tset 0 s.regs (wordKey f true a) v }
  | .msixPend => s
  | .window _ _ => s.accessErr f true a 3
  | _ => s.accessErr f true a 2

/-! ### A host write -/

/-- R2, R331: a write to an absent unit or instance; LNE_PORT_CFG of an absent lane is also an LNE rejection. -/
def State.writeAbsent (s : State) (id : Option RegId) (a : Nat) : State :=
  let s := s.accessErr 0 false a 0
  if id = some .lnePortCfg then s.lneReject else s

/-- R408: in INVALID and SCRAP only status reads, black-box reads and LC_TRANSITION are taken. -/
def State.lcShut (s : State) : Bool := s.kcu.lc == 0 || s.kcu.lc == 5

/-- R408: a write that LC_TRANSITION needs: a ring, HIF_FN_ERR, the MSI-X table (log entry 29). -/
def lcOpen (bar2 : Bool) (a : Nat) : Bool := bar2 && decide (0x1000 ≤ a)

/-- R2, R4, R408: a host write of a whole word. In INVALID and SCRAP one to an absent unit stays ABSENT; one of TMU_FUSE
meets its own rejection (R422), and any other that R408 does not take is DENIED. -/
def State.hostWrite (s : State) (f : Nat) (bar2 : Bool) (a : Nat) (v : Word) : State :=
  if !s.reaches f bar2 a then s
  else match s.target bar2 a with
    | .absent id => s.writeAbsent id a
    | .reg r i j =>
      if s.lcShut && r.id != .tmuFuse then s.accessErr f bar2 a 3 else s.writeReg r i j a v
    | _ =>
      if s.lcShut && !lcOpen bar2 a then s.accessErr f bar2 a 3
      else if bar2 then s.writeBar2 f a v
      else s.accessErr 0 false a 2

/-- R4: the offset of the last word that byte enables select from an address. -/
def lastWord (addr : Nat) (be : BitVec 4) : Nat :=
  let top := if be.getLsbD 3 then 3 else if be.getLsbD 2 then 2 else if be.getLsbD 1 then 1 else 0
  (addr + top) / 4 * 4

/-- R2, R4: a write whose byte enables are not all set: discarded; one to an absent unit is ABSENT as well. -/
def State.partialWrite (s : State) (f : Nat) (bar2 : Bool) (a : Nat) : State :=
  if !s.reaches f bar2 a then s
  else
    let s := s.accessErr f bar2 a 1
    match s.target bar2 a with
    | .absent _ => s.accessErr f bar2 a 0
    | _ => s

/-- R4, R5: REG_WRITE. -/
def execRegWrite (f : Nat) (bar2 : Bool) (addr : Nat) (be : BitVec 4) (v : Word) (s : State) :
    Host.Outcome State Fault Refusal :=
  .next (
    if addr % 4 = 0 ∧ be = 15 then s.hostWrite f bar2 addr v
    else
      let a := addr / 4 * 4
      let b := lastWord addr be
      let s := s.partialWrite f bar2 a
      if a = b then s else s.partialWrite f bar2 b)

/-! ### Writes with a row of their own -/

/-- R279, R292: SCH_SHED_CTL. -/
def execSchShedCtlSel (port : Nat) (v : Word) (s : State) : Host.Outcome State Fault Refusal :=
  .next (if 64 ≤ port then s else s.hostWrite 0 false (0xE0_0800 + 32 * port) v)
/-- R297: SCH_HIST_CTL. -/
def execSchHistSnap (h : Nat) (v : Word) (s : State) : Host.Outcome State Fault Refusal :=
  .next (if 64 ≤ h then s else s.hostWrite 0 false (0xE7_8004 + 0x80 * h) v)
/-- R185: CIE_RETIRE. -/
def execCieRetire (v : Word) (s : State) : Host.Outcome State Fault Refusal := .next (s.hostWrite 0 false 0x180_0008 v)
/-- R171, R172, R188: CIE_PROFILE. -/
def execCieProfileWrite (pair : Nat) (v : Word) (s : State) : Host.Outcome State Fault Refusal :=
  .next (if 24 ≤ pair then s else s.hostWrite 0 false (0x180_0100 + 4 * pair) v)
/-- R182, R190: LKS_CAP. -/
def execLksCapWrite (v : Word) (s : State) : Host.Outcome State Fault Refusal := .next (s.hostWrite 0 false 0x188_0000 v)
/-- R400, R403: KP_CTL with COMMIT. -/
def execKpCommit (f : Nat) (v : Word) (s : State) : Host.Outcome State Fault Refusal :=
  .next (s.hostWrite f true 0x100 (v ||| 0x1_0000))
/-- R401, R403: KP_CTL with CLEAR. -/
def execKpClear (f : Nat) (v : Word) (s : State) : Host.Outcome State Fault Refusal :=
  .next (s.hostWrite f true 0x100 (v ||| 0x2_0000))
/-- R371, R392: HIF_RING_TAIL. -/
def execHifRingTailWrite (f r : Nat) (v : Word) (s : State) : Host.Outcome State Fault Refusal :=
  .next (if 8 ≤ r then s else s.hostWrite f true (0x1010 + 64 * r) v)
/-- R372, R393: HIF_RING_CFG. -/
def execHifRingEnable (f r : Nat) (v : Word) (s : State) : Host.Outcome State Fault Refusal :=
  .next (if 8 ≤ r then s else s.hostWrite f true (0x1008 + 64 * r) v)
/-- R378, R394: HIF_RING_STAT with RESUME. -/
def execHifRingResume (f r : Nat) (v : Word) (s : State) : Host.Outcome State Fault Refusal :=
  .next (if 8 ≤ r then s else s.hostWrite f true (0x1018 + 64 * r) (v ||| 0x20))
/-- R388, R407, R429: HIF_MODE. -/
def execHifModeWrite (v : Word) (s : State) : Host.Outcome State Fault Refusal := .next (s.hostWrite 0 false 0x10_0000 v)
/-- R118: SHU_CARD_CTL of cluster c. -/
def execShuCardCtlWrite (c : Nat) (v : Word) (s : State) : Host.Outcome State Fault Refusal :=
  .next (if 24 ≤ c then s else s.hostWrite 0 false (0x100_0000 + 0x4_0000 * c) v)
/-- R115: SHU_STAGE_CTL with PROMOTE. -/
def execShuStagePromote (v : Word) (s : State) : Host.Outcome State Fault Refusal :=
  .next (s.hostWrite 0 false 0x100_0010 (v ||| 1))
/-- R115: SHU_STAGE_CTL with DISCARD. -/
def execShuStageDiscard (v : Word) (s : State) : Host.Outcome State Fault Refusal :=
  .next (s.hostWrite 0 false 0x100_0010 (v ||| 2))
/-- R147, R148, R238: WOV_CK_TX. -/
def execWovCkTxSlotWrite (g : Nat) (v : Word) (s : State) : Host.Outcome State Fault Refusal :=
  .next (if 8 ≤ g then s else s.hostWrite 0 false (0xC0_0010 + 0x1000 * g) v)
/-- R232, R236: WOV_TX_MAP. -/
def execWovTxMapWrite (g : Nat) (v : Word) (s : State) : Host.Outcome State Fault Refusal :=
  .next (if 8 ≤ g then s else s.hostWrite 0 false (0xC0_0008 + 0x1000 * g) v)
/-- R234: WOV_GRP_CFG. -/
def execWovGrpCfgWrite (g : Nat) (v : Word) (s : State) : Host.Outcome State Fault Refusal :=
  .next (if 8 ≤ g then s else s.hostWrite 0 false (0xC0_0000 + 0x1000 * g) v)
/-- R259: LMT_CTL. -/
def execLmtSnapshot (v : Word) (s : State) : Host.Outcome State Fault Refusal := .next (s.hostWrite 0 false 0xC8_0000 v)
/-- R338, R358: LNE_LANE_CFG with PRBS_CLR. -/
def execPrbsClr (lane : Nat) (v : Word) (s : State) : Host.Outcome State Fault Refusal :=
  .next (if 64 ≤ lane then s else s.hostWrite 0 false (0xA0_1000 + 16 * lane) (v ||| 0x8000))
/-- R305, R322: MSC_INIT. -/
def execMscInitGo (v : Word) (s : State) : Host.Outcome State Fault Refusal := .next (s.hostWrite 0 false 0xF0_0004 v)
/-- R315, R325: MSC_LINE_REINIT word 1. -/
def execMscLineReinit (v : Word) (s : State) : Host.Outcome State Fault Refusal := .next (s.hostWrite 0 false 0xF0_0024 v)
/-- R307, R327: MSC_MKI_CTL. -/
def execMkiRetire (v : Word) (s : State) : Host.Outcome State Fault Refusal := .next (s.hostWrite 0 false 0xF0_0100 v)
/-- R463, R469, R523: PMC_RETURN. -/
def execPmcReturn (v : Word) (s : State) : Host.Outcome State Fault Refusal := .next (s.hostWrite 0 false 0x20_0608 v)
/-- R462, R469: PMC_SCR_RELOAD. -/
def execPmcScrReload (v : Word) (s : State) : Host.Outcome State Fault Refusal := .next (s.hostWrite 0 false 0x20_060C v)
/-- R458, R468: PMC_WAKE with its seal bit. -/
def execPmcWakeSeal (v : Word) (s : State) : Host.Outcome State Fault Refusal :=
  .next (s.hostWrite 0 false 0x20_0600 (v ||| 0x8000_0000))
/-- R428, R435: TMU_STAT with ALARM_CLR. -/
def execTmuAlarmClr (v : Word) (s : State) : Host.Outcome State Fault Refusal :=
  .next (s.hostWrite 0 false 0x50_0004 (v ||| 0x100))
/-- R422, R440: TMU_FUSE. -/
def execTmuFuseProgram (v : Word) (s : State) : Host.Outcome State Fault Refusal :=
  .next (s.hostWrite 0 false 0x50_0400 v)
/-- R521: TB_SET word 2, the nanoseconds. -/
def execTbSet (v : Word) (s : State) : Host.Outcome State Fault Refusal := .next (s.hostWrite 0 false 0x90_0018 v)
/-- R476, R481: a word of EVC_CNT. -/
def execEvcCntWrite (n : Nat) (high : Bool) (v : Word) (s : State) : Host.Outcome State Fault Refusal :=
  .next (if 4096 ≤ n then s else s.hostWrite 0 false (0x70_0000 + 8 * n + if high then 4 else 0) v)
/-- R475, R476, R481: EVC_CFG word 3. -/
def execEvcCfgCommit (n : Nat) (v : Word) (s : State) : Host.Outcome State Fault Refusal :=
  .next (if 4096 ≤ n then s else s.hostWrite 0 false (0x71_000C + 16 * n) v)
/-- R487: CVU_CTL. -/
def execCvuCtlCommit (p : Nat) (v : Word) (s : State) : Host.Outcome State Fault Refusal :=
  .next (if 16 ≤ p then s else s.hostWrite 0 false (0x80_000C + 16 * p) v)

end Sys2Proof.Machine
end

