-- ==== Sys2Proof/Machine/Dispatch.lean ====
section
/-! DEFINITION. The dispatch: one arm for each command of the table (R76 to R521), its effect on everything but the
queue of waiting commands. -/

namespace Sys2Proof.Machine

def exec (i : Instr) (s : State) : Host.Outcome State Fault Refusal :=
  match i with
  -- Ezgus register operations (R77, R78)
  | .add b d a c => Sys2Proof.Machine.execAdd b d a c s
  | .sub b d a c => Sys2Proof.Machine.execSub b d a c s
  | .bitAnd b d a c => Sys2Proof.Machine.execBitAnd b d a c s
  | .bitOr b d a c => Sys2Proof.Machine.execBitOr b d a c s
  | .bitXor b d a c => Sys2Proof.Machine.execBitXor b d a c s
  | .shl b d a c => Sys2Proof.Machine.execShl b d a c s
  | .shr b d a c => Sys2Proof.Machine.execShr b d a c s
  | .sar b d a c => Sys2Proof.Machine.execSar b d a c s
  | .mul b d a c => Sys2Proof.Machine.execMul b d a c s
  | .mulhu b d a c => Sys2Proof.Machine.execMulhu b d a c s
  | .minS b d a c => Sys2Proof.Machine.execMinS b d a c s
  | .maxS b d a c => Sys2Proof.Machine.execMaxS b d a c s
  | .minU b d a c => Sys2Proof.Machine.execMinU b d a c s
  | .maxU b d a c => Sys2Proof.Machine.execMaxU b d a c s
  | .popc b d a c => Sys2Proof.Machine.execPopc b d a c s
  | .clz b d a c => Sys2Proof.Machine.execClz b d a c s
  | .bswap16 b d a c => Sys2Proof.Machine.execBswap16 b d a c s
  | .bswap32 b d a c => Sys2Proof.Machine.execBswap32 b d a c s
  | .bswap64 b d a c => Sys2Proof.Machine.execBswap64 b d a c s
  | .addi b d a imm => Sys2Proof.Machine.execAddi b d a imm s
  | .andi b d a imm => Sys2Proof.Machine.execAndi b d a imm s
  | .ori b d a imm => Sys2Proof.Machine.execOri b d a imm s
  | .xori b d a imm => Sys2Proof.Machine.execXori b d a imm s
  | .li b d a imm => Sys2Proof.Machine.execLi b d a imm s
  | .lis b d a imm => Sys2Proof.Machine.execLis b d a imm s
  | .extF b d a imm => Sys2Proof.Machine.execExtF b d a imm s
  | .depF b d a imm => Sys2Proof.Machine.execDepF b d a imm s
  -- control transfer (R79, R80)
  | .beq b a c off => Sys2Proof.Machine.execBeq b a c off s
  | .bne b a c off => Sys2Proof.Machine.execBne b a c off s
  | .blt b a c off => Sys2Proof.Machine.execBlt b a c off s
  | .bge b a c off => Sys2Proof.Machine.execBge b a c off s
  | .bltu b a c off => Sys2Proof.Machine.execBltu b a c off s
  | .bgeu b a c off => Sys2Proof.Machine.execBgeu b a c off s
  | .jal b d off => Sys2Proof.Machine.execJal b d off s
  | .jr b d a c => Sys2Proof.Machine.execJr b d a c s
  -- frame window, pick record, scratch (R52, R81 to R85)
  | .ldw b d a size sub off => Sys2Proof.Machine.execLdw b d a size sub off s
  | .stw b d a size sub off => Sys2Proof.Machine.execStw b d a size sub off s
  | .wedit b d a size sub off => Sys2Proof.Machine.execWedit b d a size sub off s
  | .ldp b d a size sub off => Sys2Proof.Machine.execLdp b d a size sub off s
  | .stp b d a size sub off => Sys2Proof.Machine.execStp b d a size sub off s
  | .lds b d a size sub off => Sys2Proof.Machine.execLds b d a size sub off s
  | .sts b d a size sub off => Sys2Proof.Machine.execSts b d a size sub off s
  | .faddS b d a size sub off => Sys2Proof.Machine.execFaddS b d a size sub off s
  | .fence b d a c imm => Sys2Proof.Machine.execFence b d a c imm s
  -- lookups, packet numbers, ordering, ciphers, check values (R86 to R98)
  | .lookFt b d a c imm => Sys2Proof.Machine.execLookFt b d a c imm s
  | .lookMt b d a c imm => Sys2Proof.Machine.execLookMt b d a c imm s
  | .lookAt b d a c imm => Sys2Proof.Machine.execLookAt b d a c imm s
  | .pnNext b d a c imm => Sys2Proof.Machine.execPnNext b d a c imm s
  | .pnPeek b d a c imm => Sys2Proof.Machine.execPnPeek b d a c imm s
  | .ordDom b d a c imm => Sys2Proof.Machine.execOrdDom b d a c imm s
  | .ordRel b d a c imm => Sys2Proof.Machine.execOrdRel b d a c imm s
  | .sealFrame b d a c imm => Sys2Proof.Machine.execSealFrame b d a c imm s
  | .openFrame b d a c imm => Sys2Proof.Machine.execOpenFrame b d a c imm s
  | .crcRun b d a c imm => Sys2Proof.Machine.execCrcRun b d a c imm s
  | .crcChk b d a c imm => Sys2Proof.Machine.execCrcChk b d a c imm s
  | .crcGet b d a c imm => Sys2Proof.Machine.execCrcGet b d a c imm s
  | .crcSet b d a c imm => Sys2Proof.Machine.execCrcSet b d a c imm s
  -- time-aware instructions, dispositions, counting, waiting, ending (R99 to R110)
  | .pol b d a c imm => Sys2Proof.Machine.execPol b d a c imm s
  | .tb b d a c imm => Sys2Proof.Machine.execTb b d a c imm s
  | .enq b d a c imm => Sys2Proof.Machine.execEnq b d a c imm s
  | .dropPick b d a c imm => Sys2Proof.Machine.execDropPick b d a c imm s
  | .punt b d a c imm => Sys2Proof.Machine.execPunt b d a c imm s
  | .fwd b d a c imm => Sys2Proof.Machine.execFwd b d a c imm s
  | .mirror b d a c imm => Sys2Proof.Machine.execMirror b d a c imm s
  | .evcInc b d a c imm => Sys2Proof.Machine.execEvcInc b d a c imm s
  | .evcAdd b d a c imm => Sys2Proof.Machine.execEvcAdd b d a c imm s
  | .waitSb b d a c imm => Sys2Proof.Machine.execWaitSb b d a c imm s
  | .trapProg b d a c imm => Sys2Proof.Machine.execTrapProg b d a c imm s
  | .halt b d a c imm => Sys2Proof.Machine.execHalt b d a c imm s
  -- completions of asynchronous instructions (R86 to R98)
  | .lookFtDone b d => Sys2Proof.Machine.execLookFtDone b d s
  | .lookMtDone b d => Sys2Proof.Machine.execLookMtDone b d s
  | .lookAtDone b d => Sys2Proof.Machine.execLookAtDone b d s
  | .pnNextServe b d => Sys2Proof.Machine.execPnNextServe b d s
  | .pnPeekServe b d => Sys2Proof.Machine.execPnPeekServe b d s
  | .ordDomGrant b d => Sys2Proof.Machine.execOrdDomGrant b d s
  | .openServe p => Sys2Proof.Machine.execOpenServe p s
  | .openVerdictCommit p => Sys2Proof.Machine.execOpenVerdictCommit p s
  | .sealDone p => Sys2Proof.Machine.execSealDone p s
  | .crcGetDone b d => Sys2Proof.Machine.execCrcGetDone b d s
  | .ldsDone b d => Sys2Proof.Machine.execLdsDone b d s
  | .faddSDone b d => Sys2Proof.Machine.execFaddSDone b d s
  -- picks, scheduler (R11 to R31, R123 to R128, R265 to R298)
  | .frameReceive port frame => Sys2Proof.Machine.execFrameReceive port frame s
  | .pickDispatch b => Sys2Proof.Machine.execPickDispatch b s
  | .pickRelease p => Sys2Proof.Machine.execPickRelease p s
  | .puntMirrorRelease p => Sys2Proof.Machine.execPuntMirrorRelease p s
  | .spillReturn q intact => Sys2Proof.Machine.execSpillReturn q intact s
  | .schedSelect port => Sys2Proof.Machine.execSchedSelect port s
  | .cutThroughStart port p => Sys2Proof.Machine.execCutThroughStart port p s
  | .cutFcsReached port => Sys2Proof.Machine.execCutFcsReached port s
  | .frameTxEnd port => Sys2Proof.Machine.execFrameTxEnd port s
  | .cellWaitEnd p => Sys2Proof.Machine.execCellWaitEnd p s
  | .refillTick => Sys2Proof.Machine.execRefillTick s
  | .shedEntryAdvance port => Sys2Proof.Machine.execShedEntryAdvance port s
  | .shedBankSwitch port => Sys2Proof.Machine.execShedBankSwitch port s
  | .schShedCtlSel port v => Sys2Proof.Machine.execSchShedCtlSel port v s
  | .histDepthSample h => Sys2Proof.Machine.execHistDepthSample h s
  | .schHistSnap h v => Sys2Proof.Machine.execSchHistSnap h v s
  | .schHistSnapDone h => Sys2Proof.Machine.execSchHistSnapDone h s
  -- cipher engines and the DRBG (R159 to R190, R399)
  | .engineJobStart => Sys2Proof.Machine.execEngineJobStart s
  | .jobSuspend e => Sys2Proof.Machine.execJobSuspend e s
  | .engineJobComplete e => Sys2Proof.Machine.execEngineJobComplete e s
  | .maskStallEnd e => Sys2Proof.Machine.execMaskStallEnd e s
  | .maskExpanderReseed pair => Sys2Proof.Machine.execMaskExpanderReseed pair s
  | .engineSelfCheckFault e => Sys2Proof.Machine.execEngineSelfCheckFault e s
  | .katPeriodic e pass => Sys2Proof.Machine.execKatPeriodic e pass s
  | .cieRetire v => Sys2Proof.Machine.execCieRetire v s
  | .cieProfileWrite pair v => Sys2Proof.Machine.execCieProfileWrite pair v s
  | .lksCapWrite v => Sys2Proof.Machine.execLksCapWrite v s
  | .drbgStartupTest pass => Sys2Proof.Machine.execDrbgStartupTest pass s
  | .drbgReseed pass => Sys2Proof.Machine.execDrbgReseed pass s
  | .drbgHealthFail => Sys2Proof.Machine.execDrbgHealthFail s
  -- associations, flows, cloth keys, cards (R129 to R157, R111 to R122)
  | .drainTimerExpiry r => Sys2Proof.Machine.execDrainTimerExpiry r s
  | .atInstall f => Sys2Proof.Machine.execAtInstall f s
  | .atSlotLoad f => Sys2Proof.Machine.execAtSlotLoad f s
  | .atTxslot f => Sys2Proof.Machine.execAtTxslot f s
  | .atSlotRetire f => Sys2Proof.Machine.execAtSlotRetire f s
  | .atStateSuspend f => Sys2Proof.Machine.execAtStateSuspend f s
  | .atStateResume f => Sys2Proof.Machine.execAtStateResume f s
  | .atStateRemove f => Sys2Proof.Machine.execAtStateRemove f s
  | .atRxPn f => Sys2Proof.Machine.execAtRxPn f s
  | .atSetCut f => Sys2Proof.Machine.execAtSetCut f s
  | .atSetCutEvent f => Sys2Proof.Machine.execAtSetCutEvent f s
  | .atSetReplay f => Sys2Proof.Machine.execAtSetReplay f s
  | .atSetWindow f => Sys2Proof.Machine.execAtSetWindow f s
  | .atSetPolicer f => Sys2Proof.Machine.execAtSetPolicer f s
  | .atSetQbase f => Sys2Proof.Machine.execAtSetQbase f s
  | .atSetK f => Sys2Proof.Machine.execAtSetK f s
  | .atSetSuite f => Sys2Proof.Machine.execAtSetSuite f s
  | .atSetMode f => Sys2Proof.Machine.execAtSetMode f s
  | .atSetDomain f => Sys2Proof.Machine.execAtSetDomain f s
  | .atRead f => Sys2Proof.Machine.execAtRead f s
  | .atBulkLoad f => Sys2Proof.Machine.execAtBulkLoad f s
  | .atBulkLoadFlows f => Sys2Proof.Machine.execAtBulkLoadFlows f s
  | .ftInsert f => Sys2Proof.Machine.execFtInsert f s
  | .ftReplace f => Sys2Proof.Machine.execFtReplace f s
  | .ftDelete f => Sys2Proof.Machine.execFtDelete f s
  | .ftRead f => Sys2Proof.Machine.execFtRead f s
  | .clothKeyLoad f => Sys2Proof.Machine.execClothKeyLoad f s
  | .clothKeyRetire f => Sys2Proof.Machine.execClothKeyRetire f s
  | .cardStage f => Sys2Proof.Machine.execCardStage f s
  | .cardStageDone => Sys2Proof.Machine.execCardStageDone s
  | .lksKeyLoad f => Sys2Proof.Machine.execLksKeyLoad f s
  | .lksKeyDestroy f => Sys2Proof.Machine.execLksKeyDestroy f s
  | .xtsEncrypt f => Sys2Proof.Machine.execXtsEncrypt f s
  | .xtsDecrypt f => Sys2Proof.Machine.execXtsDecrypt f s
  | .gcmEncrypt f => Sys2Proof.Machine.execGcmEncrypt f s
  | .gcmDecrypt f => Sys2Proof.Machine.execGcmDecrypt f s
  | .inject f => Sys2Proof.Machine.execInject f s
  | .puntBuf f => Sys2Proof.Machine.execPuntBuf f s
  -- key custodian and lifecycle (R396 to R416, R447)
  | .bksStore f => Sys2Proof.Machine.execBksStore f s
  | .bksDestroy f => Sys2Proof.Machine.execBksDestroy f s
  | .bksStatus f => Sys2Proof.Machine.execBksStatus f s
  | .zeroizeErase f => Sys2Proof.Machine.execZeroizeErase f s
  | .zeroizeEraseLock f => Sys2Proof.Machine.execZeroizeEraseLock f s
  | .idCertRead f => Sys2Proof.Machine.execIdCertRead f s
  | .cascadeCertLoad f => Sys2Proof.Machine.execCascadeCertLoad f s
  | .attest f => Sys2Proof.Machine.execAttest f s
  | .lcTransition f o => Sys2Proof.Machine.execLcTransition f o s
  | .shuavoChallenge f => Sys2Proof.Machine.execShuavoChallenge f s
  | .shuavoResponse f => Sys2Proof.Machine.execShuavoResponse f s
  | .lcOtpWrite f => Sys2Proof.Machine.execLcOtpWrite f s
  | .lcOtpRead f => Sys2Proof.Machine.execLcOtpRead f s
  | .bbxSeal f => Sys2Proof.Machine.execBbxSeal f s
  | .kpCommit f v => Sys2Proof.Machine.execKpCommit f v s
  | .kpUnwrapDone f => Sys2Proof.Machine.execKpUnwrapDone f s
  | .kpClear f v => Sys2Proof.Machine.execKpClear f v s
  -- rings and the device mode (R369 to R395)
  | .hifRingTailWrite f r v => Sys2Proof.Machine.execHifRingTailWrite f r v s
  | .hifRingEnable f r v => Sys2Proof.Machine.execHifRingEnable f r v s
  | .hifRingResume f r v => Sys2Proof.Machine.execHifRingResume f r v s
  | .descriptorFetch f r desc buf => Sys2Proof.Machine.execDescriptorFetch f r desc buf s
  | .dmaFault f r k => Sys2Proof.Machine.execDmaFault f r k s
  | .hifCmdWatchdogExpiry f => Sys2Proof.Machine.execHifCmdWatchdogExpiry f s
  | .hifLateAnswer f => Sys2Proof.Machine.execHifLateAnswer f s
  | .imodTimerExpiry f r => Sys2Proof.Machine.execImodTimerExpiry f r s
  | .functionLevelReset f => Sys2Proof.Machine.execFunctionLevelReset f s
  | .hifModeWrite v => Sys2Proof.Machine.execHifModeWrite v s
  -- clusters and cards (R115 to R127)
  | .shuCardCtlWrite c v => Sys2Proof.Machine.execShuCardCtlWrite c v s
  | .clusterDrained c => Sys2Proof.Machine.execClusterDrained c s
  | .cardLoadDone c res => Sys2Proof.Machine.execCardLoadDone c res s
  | .shuStagePromote v => Sys2Proof.Machine.execShuStagePromote v s
  | .shuStageDiscard v => Sys2Proof.Machine.execShuStageDiscard v s
  | .clusterQuarantine c => Sys2Proof.Machine.execClusterQuarantine c s
  | .clockFailure dom => Sys2Proof.Machine.execClockFailure dom s
  -- woven groups and line maintenance (R206 to R264)
  | .laneFrameSend l => Sys2Proof.Machine.execLaneFrameSend l s
  | .clothItemSend g fill => Sys2Proof.Machine.execClothItemSend g fill s
  | .laneFrameReceive l ws => Sys2Proof.Machine.execLaneFrameReceive l ws s
  | .rowRelease g => Sys2Proof.Machine.execRowRelease g s
  | .rowWaitExpiry g m => Sys2Proof.Machine.execRowWaitExpiry g m s
  | .clothItemReceive g => Sys2Proof.Machine.execClothItemReceive g s
  | .resyncAtMarker g => Sys2Proof.Machine.execResyncAtMarker g s
  | .wovCkTxSlotWrite g v => Sys2Proof.Machine.execWovCkTxSlotWrite g v s
  | .keymarkSend g => Sys2Proof.Machine.execKeymarkSend g s
  | .wovTxMapWrite g v => Sys2Proof.Machine.execWovTxMapWrite g v s
  | .memberAnnounce g => Sys2Proof.Machine.execMemberAnnounce g s
  | .mapTakeEffect g => Sys2Proof.Machine.execMapTakeEffect g s
  | .wovGrpCfgWrite g v => Sys2Proof.Machine.execWovGrpCfgWrite g v s
  | .headerSealerKatFail g => Sys2Proof.Machine.execHeaderSealerKatFail g s
  | .pmSecondEnd => Sys2Proof.Machine.execPmSecondEnd s
  | .lmtSnapshot v => Sys2Proof.Machine.execLmtSnapshot v s
  | .lmtSnapshotDone => Sys2Proof.Machine.execLmtSnapshotDone s
  -- lanes and ports (R330 to R338)
  | .losDetectorChange lane los lol => Sys2Proof.Machine.execLosDetectorChange lane los lol s
  | .linkChange port up => Sys2Proof.Machine.execLinkChange port up s
  | .linkTrainingTimeout port => Sys2Proof.Machine.execLinkTrainingTimeout port s
  | .prbsClr lane v => Sys2Proof.Machine.execPrbsClr lane v s
  -- weft ports (R339 to R354)
  | .weftLinkStateChange n e => Sys2Proof.Machine.execWeftLinkStateChange n e s
  | .trainReq n payload => Sys2Proof.Machine.execTrainReq n payload s
  | .trainRsp n payload => Sys2Proof.Machine.execTrainRsp n payload s
  | .trainDone n => Sys2Proof.Machine.execTrainDone n s
  | .keyHello n payload => Sys2Proof.Machine.execKeyHello n payload s
  | .keyShare n payload => Sys2Proof.Machine.execKeyShare n payload s
  | .keyFinish n payload => Sys2Proof.Machine.execKeyFinish n payload s
  | .sidebandStatus n payload => Sys2Proof.Machine.execSidebandStatus n payload s
  | .sidebandRetry n => Sys2Proof.Machine.execSidebandRetry n s
  | .weftTrainTimeout n => Sys2Proof.Machine.execWeftTrainTimeout n s
  | .weftKeyRetry n => Sys2Proof.Machine.execWeftKeyRetry n s
  | .weftRekeyTimer n => Sys2Proof.Machine.execWeftRekeyTimer n s
  | .weftItemSend n => Sys2Proof.Machine.execWeftItemSend n s
  | .weftFrameReceive n item => Sys2Proof.Machine.execWeftFrameReceive n item s
  | .weftSkipReceive n item => Sys2Proof.Machine.execWeftSkipReceive n item s
  | .weftAckReceive n item => Sys2Proof.Machine.execWeftAckReceive n item s
  | .weftNakReceive n item => Sys2Proof.Machine.execWeftNakReceive n item s
  | .weftKeyswitchReceive n item => Sys2Proof.Machine.execWeftKeyswitchReceive n item s
  | .weftTimeReceive n item => Sys2Proof.Machine.execWeftTimeReceive n item s
  | .weftAckTimeout n => Sys2Proof.Machine.execWeftAckTimeout n s
  | .weftAckSend n => Sys2Proof.Machine.execWeftAckSend n s
  | .weftTimeSend n => Sys2Proof.Machine.execWeftTimeSend n s
  -- in-package memory (R299 to R329)
  | .dramRead buffer line path => Sys2Proof.Machine.execDramRead buffer line path s
  | .rerootDone buffer first count => Sys2Proof.Machine.execRerootDone buffer first count s
  | .dramLineWrite buffer mki line data path => Sys2Proof.Machine.execDramLineWrite buffer mki line data path s
  | .dramPartialWrite buffer mki line off data path => Sys2Proof.Machine.execDramPartialWrite buffer mki line off data path s
  | .cacheWriteback idx path => Sys2Proof.Machine.execCacheWriteback idx path s
  | .dramFetchTimeout ch line => Sys2Proof.Machine.execDramFetchTimeout ch line s
  | .dramLateArrival ch => Sys2Proof.Machine.execDramLateArrival ch s
  | .patrolScrubRead buffer line path => Sys2Proof.Machine.execPatrolScrubRead buffer line path s
  | .stackFail st ch => Sys2Proof.Machine.execStackFail st ch s
  | .mirrorRebuildDone st => Sys2Proof.Machine.execMirrorRebuildDone st s
  | .mscInitGo v => Sys2Proof.Machine.execMscInitGo v s
  | .mscInitStart => Sys2Proof.Machine.execMscInitStart s
  | .mscInitDone => Sys2Proof.Machine.execMscInitDone s
  | .mscLineReinit v => Sys2Proof.Machine.execMscLineReinit v s
  | .mkiRetire v => Sys2Proof.Machine.execMkiRetire v s
  | .mkiRetired k => Sys2Proof.Machine.execMkiRetired k s
  -- power (R452 to R470, R523)
  | .pmcDecision => Sys2Proof.Machine.execPmcDecision s
  | .wakeAdmit => Sys2Proof.Machine.execWakeAdmit s
  | .domainSleepEntered dom => Sys2Proof.Machine.execDomainSleepEntered dom s
  | .domainPoweredUp dom => Sys2Proof.Machine.execDomainPoweredUp dom s
  | .domainFresh dom => Sys2Proof.Machine.execDomainFresh dom s
  | .pmcReturn v => Sys2Proof.Machine.execPmcReturn v s
  | .bistDone dom pass => Sys2Proof.Machine.execBistDone dom pass s
  | .pmcScrReload v => Sys2Proof.Machine.execPmcScrReload v s
  | .scratchCopyDone c => Sys2Proof.Machine.execScratchCopyDone c s
  | .pmcWakeSeal v => Sys2Proof.Machine.execPmcWakeSeal v s
  -- tamper monitor and black box (R419 to R451)
  | .tamperSample src a b => Sys2Proof.Machine.execTamperSample src a b s
  | .tamperDecision a b => Sys2Proof.Machine.execTamperDecision a b s
  | .eraseReadbackDone zeros => Sys2Proof.Machine.execEraseReadbackDone zeros s
  | .batterySample src a b => Sys2Proof.Machine.execBatterySample src a b s
  | .latchCommit => Sys2Proof.Machine.execLatchCommit s
  | .tmuAlarmClr v => Sys2Proof.Machine.execTmuAlarmClr v s
  | .tmuFuseProgram v => Sys2Proof.Machine.execTmuFuseProgram v s
  | .meshMeasure m ohms => Sys2Proof.Machine.execMeshMeasure m ohms s
  | .bbxRecordWrite => Sys2Proof.Machine.execBbxRecordWrite s
  -- start, reset, pins, time base (R488 to R521)
  | .powerOnReset o => Sys2Proof.Machine.execPowerOnReset o s
  | .perst o => Sys2Proof.Machine.execPerst o s
  | .softReset o => Sys2Proof.Machine.execSoftReset o s
  | .pwrgoodFall => Sys2Proof.Machine.execPwrgoodFall s
  | .railOutOfRange rail => Sys2Proof.Machine.execRailOutOfRange rail s
  | .pfwAssert => Sys2Proof.Machine.execPfwAssert s
  | .pfwDeassert => Sys2Proof.Machine.execPfwDeassert s
  | .ppsInEdge => Sys2Proof.Machine.execPpsInEdge s
  | .ppsOutPulse => Sys2Proof.Machine.execPpsOutPulse s
  | .tbSet v => Sys2Proof.Machine.execTbSet v s
  -- registers (R4 to R10, R475 to R487, R513 to R521)
  | .evcCntWrite n high v => Sys2Proof.Machine.execEvcCntWrite n high v s
  | .evcCfgCommit n v => Sys2Proof.Machine.execEvcCfgCommit n v s
  | .cvuCtlCommit p v => Sys2Proof.Machine.execCvuCtlCommit p v s
  | .lowWordReadLatch f bar2 addr => Sys2Proof.Machine.execLowWordReadLatch f bar2 addr s
  | .readClear f bar2 addr => Sys2Proof.Machine.execReadClear f bar2 addr s
  | .regWrite f bar2 addr be v => Sys2Proof.Machine.execRegWrite f bar2 addr be v s
  | .smbIdent => Sys2Proof.Machine.execSmbIdent s
  | .smbStatus => Sys2Proof.Machine.execSmbStatus s
  | .smbTemp => Sys2Proof.Machine.execSmbTemp s
  | .smbVbat => Sys2Proof.Machine.execSmbVbat s
  | .smbBbx => Sys2Proof.Machine.execSmbBbx s
  | .smbPfw => Sys2Proof.Machine.execSmbPfw s
  | .smbWriteRefused code write => Sys2Proof.Machine.execSmbWriteRefused code write s
  | .forbiddenRegisterRead f bar2 addr => Sys2Proof.Machine.execForbiddenRegisterRead f bar2 addr s
  -- steps added at the end of the table
  | .illegalFetch b => Sys2Proof.Machine.execIllegalFetch b s
  | .blockLockChange lane locked => Sys2Proof.Machine.execBlockLockChange lane locked s
  | .prbsLockChange lane locked errors => Sys2Proof.Machine.execPrbsLockChange lane locked errors s
  | .sidebandMessageError n msg => Sys2Proof.Machine.execSidebandMessageError n msg s
  | .shuavoChallengeExpiry => Sys2Proof.Machine.execShuavoChallengeExpiry s
  | .vbatRetentionLost => Sys2Proof.Machine.execVbatRetentionLost s

end Sys2Proof.Machine
end

