-- ==== Sys2Proof/WellFormed.lean ====
section
/-! DEFINITION. Which commands are well formed: every unit, slot and offset a command names lies in the range the spec
numbers it by, for the largest variant. A unit the variant at hand lacks is no ill-formed command: the machine answers
for it as R2 and R520 say. -/

namespace Sys2Proof

/-- R43: bobbins, 24 clusters of 16 shuttles of 8. -/
abbrev bobbins : Nat := 3072
/-- R123: pick slots. -/
abbrev pickSlots : Nat := 131072
/-- R265: queues. -/
abbrev queues : Nat := 16384
/-- R159: cipher engines. -/
abbrev engines : Nat := 48
/-- R159: engine pairs. -/
abbrev enginePairs : Nat := 24
/-- R366: functions, one physical and up to 63 virtual. -/
abbrev functions : Nat := 64
/-- R43: shuttle clusters. -/
abbrev clusters : Nat := 24

/-- R366, R368, R514: an offset within the aperture. -/
def inBar (bar2 : Bool) (addr : Nat) : Bool := if bar2 then decide (addr < 16384) else decide (addr < 33554432)

/-- R140, R149: a drain timer that exists. -/
def DrainRef.wf : DrainRef → Bool
  | .assoc _ _ => true
  | .cloth group slot => decide (group < 8) && decide (slot < 4)

/-- R309: a level of the path of a read. -/
def PathObs.wf (o : PathObs) : Bool := decide (o.level ≤ 8) || o.level == 15

/-- R404, R409: the key store slots and OTP items that failed exist. -/
def StartObs.wf (o : StartObs) : Bool :=
  o.sealFails.all (fun k => decide (k < 64)) && o.otpReads.all (fun e => decide (1 ≤ e.1 ∧ e.1 ≤ 13))

/-- The ranges of a command's operands. -/
def Instr.wf : Instr → Bool
  -- Ezgus register operations (R77, R78)
  | .add b _ _ _ => decide (b < bobbins)
  | .sub b _ _ _ => decide (b < bobbins)
  | .bitAnd b _ _ _ => decide (b < bobbins)
  | .bitOr b _ _ _ => decide (b < bobbins)
  | .bitXor b _ _ _ => decide (b < bobbins)
  | .shl b _ _ _ => decide (b < bobbins)
  | .shr b _ _ _ => decide (b < bobbins)
  | .sar b _ _ _ => decide (b < bobbins)
  | .mul b _ _ _ => decide (b < bobbins)
  | .mulhu b _ _ _ => decide (b < bobbins)
  | .minS b _ _ _ => decide (b < bobbins)
  | .maxS b _ _ _ => decide (b < bobbins)
  | .minU b _ _ _ => decide (b < bobbins)
  | .maxU b _ _ _ => decide (b < bobbins)
  | .popc b _ _ _ => decide (b < bobbins)
  | .clz b _ _ _ => decide (b < bobbins)
  | .bswap16 b _ _ _ => decide (b < bobbins)
  | .bswap32 b _ _ _ => decide (b < bobbins)
  | .bswap64 b _ _ _ => decide (b < bobbins)
  | .addi b _ _ _ => decide (b < bobbins)
  | .andi b _ _ _ => decide (b < bobbins)
  | .ori b _ _ _ => decide (b < bobbins)
  | .xori b _ _ _ => decide (b < bobbins)
  | .li b _ _ _ => decide (b < bobbins)
  | .lis b _ _ _ => decide (b < bobbins)
  | .extF b _ _ _ => decide (b < bobbins)
  | .depF b _ _ _ => decide (b < bobbins)
  -- control transfer (R79, R80)
  | .beq b _ _ _ => decide (b < bobbins)
  | .bne b _ _ _ => decide (b < bobbins)
  | .blt b _ _ _ => decide (b < bobbins)
  | .bge b _ _ _ => decide (b < bobbins)
  | .bltu b _ _ _ => decide (b < bobbins)
  | .bgeu b _ _ _ => decide (b < bobbins)
  | .jal b _ _ => decide (b < bobbins)
  | .jr b _ _ _ => decide (b < bobbins)
  -- frame window, pick record, scratch (R52, R81 to R85)
  | .ldw b _ _ _ _ _ => decide (b < bobbins)
  | .stw b _ _ _ _ _ => decide (b < bobbins)
  | .wedit b _ _ _ _ _ => decide (b < bobbins)
  | .ldp b _ _ _ _ _ => decide (b < bobbins)
  | .stp b _ _ _ _ _ => decide (b < bobbins)
  | .lds b _ _ _ _ _ => decide (b < bobbins)
  | .sts b _ _ _ _ _ => decide (b < bobbins)
  | .faddS b _ _ _ _ _ => decide (b < bobbins)
  | .fence b _ _ _ _ => decide (b < bobbins)
  -- lookups, packet numbers, ordering, ciphers, check values (R86 to R98)
  | .lookFt b _ _ _ _ => decide (b < bobbins)
  | .lookMt b _ _ _ _ => decide (b < bobbins)
  | .lookAt b _ _ _ _ => decide (b < bobbins)
  | .pnNext b _ _ _ _ => decide (b < bobbins)
  | .pnPeek b _ _ _ _ => decide (b < bobbins)
  | .ordDom b _ _ _ _ => decide (b < bobbins)
  | .ordRel b _ _ _ _ => decide (b < bobbins)
  | .sealFrame b _ _ _ _ => decide (b < bobbins)
  | .openFrame b _ _ _ _ => decide (b < bobbins)
  | .crcRun b _ _ _ _ => decide (b < bobbins)
  | .crcChk b _ _ _ _ => decide (b < bobbins)
  | .crcGet b _ _ _ _ => decide (b < bobbins)
  | .crcSet b _ _ _ _ => decide (b < bobbins)
  -- time-aware instructions, dispositions, counting, waiting, ending (R99 to R110)
  | .pol b _ _ _ _ => decide (b < bobbins)
  | .tb b _ _ _ _ => decide (b < bobbins)
  | .enq b _ _ _ _ => decide (b < bobbins)
  | .dropPick b _ _ _ _ => decide (b < bobbins)
  | .punt b _ _ _ _ => decide (b < bobbins)
  | .fwd b _ _ _ _ => decide (b < bobbins)
  | .mirror b _ _ _ _ => decide (b < bobbins)
  | .evcInc b _ _ _ _ => decide (b < bobbins)
  | .evcAdd b _ _ _ _ => decide (b < bobbins)
  | .waitSb b _ _ _ _ => decide (b < bobbins)
  | .trapProg b _ _ _ _ => decide (b < bobbins)
  | .halt b _ _ _ _ => decide (b < bobbins)
  -- completions of asynchronous instructions (R86 to R98)
  | .lookFtDone b _ => decide (b < bobbins)
  | .lookMtDone b _ => decide (b < bobbins)
  | .lookAtDone b _ => decide (b < bobbins)
  | .pnNextServe b _ => decide (b < bobbins)
  | .pnPeekServe b _ => decide (b < bobbins)
  | .ordDomGrant b _ => decide (b < bobbins)
  | .openServe p => decide (p < pickSlots)
  | .openVerdictCommit p => decide (p < pickSlots)
  | .sealDone p => decide (p < pickSlots)
  | .crcGetDone b _ => decide (b < bobbins)
  | .ldsDone b _ => decide (b < bobbins)
  | .faddSDone b _ => decide (b < bobbins)
  -- picks, scheduler (R11 to R31, R123 to R128, R265 to R298)
  | .frameReceive port _ => decide (port < 64)
  | .pickDispatch b => decide (b < bobbins)
  | .pickRelease p => decide (p < pickSlots)
  | .puntMirrorRelease p => decide (p < pickSlots)
  | .spillReturn q _ => decide (q < queues)
  | .schedSelect port => decide (port < 64)
  | .cutThroughStart port p => decide (port < 64) && decide (p < pickSlots)
  | .cutFcsReached port => decide (port < 64)
  | .frameTxEnd port => decide (port < 64)
  | .cellWaitEnd p => decide (p < pickSlots)
  | .refillTick => true
  | .shedEntryAdvance port => decide (port < 64)
  | .shedBankSwitch port => decide (port < 64)
  | .schShedCtlSel port _ => decide (port < 64)
  | .histDepthSample h => decide (h < 64)
  | .schHistSnap h _ => decide (h < 64)
  | .schHistSnapDone h => decide (h < 64)
  -- cipher engines and the DRBG (R159 to R190, R399)
  | .engineJobStart => true
  | .jobSuspend e => decide (e < engines)
  | .engineJobComplete e => decide (e < engines)
  | .maskStallEnd e => decide (e < engines)
  | .maskExpanderReseed pair => decide (pair < enginePairs)
  | .engineSelfCheckFault e => decide (e < engines)
  | .katPeriodic e _ => decide (e < engines)
  | .cieRetire _ => true
  | .cieProfileWrite pair _ => decide (pair < enginePairs)
  | .lksCapWrite _ => true
  | .drbgStartupTest _ => true
  | .drbgReseed _ => true
  | .drbgHealthFail => true
  -- associations, flows, cloth keys, cards (R129 to R157, R111 to R122)
  | .drainTimerExpiry r => r.wf
  | .atInstall f => decide (f < functions)
  | .atSlotLoad f => decide (f < functions)
  | .atTxslot f => decide (f < functions)
  | .atSlotRetire f => decide (f < functions)
  | .atStateSuspend f => decide (f < functions)
  | .atStateResume f => decide (f < functions)
  | .atStateRemove f => decide (f < functions)
  | .atRxPn f => decide (f < functions)
  | .atSetCut f => decide (f < functions)
  | .atSetCutEvent f => decide (f < functions)
  | .atSetReplay f => decide (f < functions)
  | .atSetWindow f => decide (f < functions)
  | .atSetPolicer f => decide (f < functions)
  | .atSetQbase f => decide (f < functions)
  | .atSetK f => decide (f < functions)
  | .atSetSuite f => decide (f < functions)
  | .atSetMode f => decide (f < functions)
  | .atSetDomain f => decide (f < functions)
  | .atRead f => decide (f < functions)
  | .atBulkLoad f => decide (f < functions)
  | .atBulkLoadFlows f => decide (f < functions)
  | .ftInsert f => decide (f < functions)
  | .ftReplace f => decide (f < functions)
  | .ftDelete f => decide (f < functions)
  | .ftRead f => decide (f < functions)
  | .clothKeyLoad f => decide (f < functions)
  | .clothKeyRetire f => decide (f < functions)
  | .cardStage f => decide (f < functions)
  | .cardStageDone => true
  | .lksKeyLoad f => decide (f < functions)
  | .lksKeyDestroy f => decide (f < functions)
  | .xtsEncrypt f => decide (f < functions)
  | .xtsDecrypt f => decide (f < functions)
  | .gcmEncrypt f => decide (f < functions)
  | .gcmDecrypt f => decide (f < functions)
  | .inject f => decide (f < functions)
  | .puntBuf f => decide (f < functions)
  -- key custodian and lifecycle (R396 to R416, R447)
  | .bksStore f => decide (f < functions)
  | .bksDestroy f => decide (f < functions)
  | .bksStatus f => decide (f < functions)
  | .zeroizeErase f => decide (f < functions)
  | .zeroizeEraseLock f => decide (f < functions)
  | .idCertRead f => decide (f < functions)
  | .cascadeCertLoad f => decide (f < functions)
  | .attest f => decide (f < functions)
  | .lcTransition f o => decide (f < functions) && o.wf
  | .shuavoChallenge f => decide (f < functions)
  | .shuavoResponse f => decide (f < functions)
  | .lcOtpWrite f => decide (f < functions)
  | .lcOtpRead f => decide (f < functions)
  | .bbxSeal f => decide (f < functions)
  | .kpCommit f _ => decide (f < functions)
  | .kpUnwrapDone f => decide (f < functions)
  | .kpClear f _ => decide (f < functions)
  -- rings and the device mode (R369 to R395)
  | .hifRingTailWrite f r _ => decide (f < functions) && decide (r < 8)
  | .hifRingEnable f r _ => decide (f < functions) && decide (r < 8)
  | .hifRingResume f r _ => decide (f < functions) && decide (r < 8)
  | .descriptorFetch f r desc _ => decide (f < functions) && decide (r < 8) && decide (desc.length = 64)
  | .dmaFault f r _ => decide (f < functions) && decide (r < 8)
  | .hifCmdWatchdogExpiry f => decide (f < functions)
  | .hifLateAnswer f => decide (f < functions)
  | .imodTimerExpiry f r => decide (f < functions) && decide (r < 8)
  | .functionLevelReset f => decide (f < functions)
  | .hifModeWrite _ => true
  -- clusters and cards (R115 to R127)
  | .shuCardCtlWrite c _ => decide (c < clusters)
  | .clusterDrained c => decide (c < clusters)
  | .cardLoadDone c _ => decide (c < clusters)
  | .shuStagePromote _ => true
  | .shuStageDiscard _ => true
  | .clusterQuarantine c => decide (c < clusters)
  | .clockFailure dom => decide (dom < 96)
  -- woven groups and line maintenance (R206 to R264)
  | .laneFrameSend l => decide (l < 32)
  | .clothItemSend g _ => decide (g < 8)
  | .laneFrameReceive l _ => decide (l < 32)
  | .rowRelease g => decide (g < 8)
  | .rowWaitExpiry g m => decide (g < 8) && decide (m < 32)
  | .clothItemReceive g => decide (g < 8)
  | .resyncAtMarker g => decide (g < 8)
  | .wovCkTxSlotWrite g _ => decide (g < 8)
  | .keymarkSend g => decide (g < 8)
  | .wovTxMapWrite g _ => decide (g < 8)
  | .memberAnnounce g => decide (g < 8)
  | .mapTakeEffect g => decide (g < 8)
  | .wovGrpCfgWrite g _ => decide (g < 8)
  | .headerSealerKatFail g => decide (g < 8)
  | .pmSecondEnd => true
  | .lmtSnapshot _ => true
  | .lmtSnapshotDone => true
  -- lanes and ports (R330 to R338)
  | .losDetectorChange lane _ _ => decide (lane < 64)
  | .linkChange port _ => decide (port < 64)
  | .linkTrainingTimeout port => decide (port < 64)
  | .prbsClr lane _ => decide (lane < 64)
  -- weft ports (R339 to R354)
  | .weftLinkStateChange n _ => decide (n < 4)
  | .trainReq n _ => decide (n < 4)
  | .trainRsp n _ => decide (n < 4)
  | .trainDone n => decide (n < 4)
  | .keyHello n _ => decide (n < 4)
  | .keyShare n _ => decide (n < 4)
  | .keyFinish n _ => decide (n < 4)
  | .sidebandStatus n _ => decide (n < 4)
  | .sidebandRetry n => decide (n < 4)
  | .weftTrainTimeout n => decide (n < 4)
  | .weftKeyRetry n => decide (n < 4)
  | .weftRekeyTimer n => decide (n < 4)
  | .weftItemSend n => decide (n < 4)
  | .weftFrameReceive n _ => decide (n < 4)
  | .weftSkipReceive n _ => decide (n < 4)
  | .weftAckReceive n _ => decide (n < 4)
  | .weftNakReceive n _ => decide (n < 4)
  | .weftKeyswitchReceive n _ => decide (n < 4)
  | .weftTimeReceive n _ => decide (n < 4)
  | .weftAckTimeout n => decide (n < 4)
  | .weftAckSend n => decide (n < 4)
  | .weftTimeSend n => decide (n < 4)
  -- in-package memory (R299 to R329)
  | .dramRead _ _ path => path.all PathObs.wf
  | .rerootDone _ _ _ => true
  | .dramLineWrite _ mki _ data path => decide (mki < 256) && decide (data.length = 64) && path.all PathObs.wf
  | .dramPartialWrite _ mki _ off data path =>
    decide (mki < 256) && decide (off + data.length ≤ 64) && decide (0 < data.length ∧ data.length < 64) && path.all PathObs.wf
  | .cacheWriteback _ path => path.all PathObs.wf
  | .dramFetchTimeout ch _ => decide (ch < 16)
  | .dramLateArrival ch => decide (ch < 16)
  | .patrolScrubRead _ _ path => path.all PathObs.wf
  | .stackFail st ch => decide (st < 4) && decide (ch < 4)
  | .mirrorRebuildDone st => decide (st < 4)
  | .mscInitGo _ => true
  | .mscInitStart => true
  | .mscInitDone => true
  | .mscLineReinit _ => true
  | .mkiRetire _ => true
  | .mkiRetired k => decide (k < 256)
  -- power (R452 to R470, R523)
  | .pmcDecision => true
  | .wakeAdmit => true
  | .domainSleepEntered dom => decide (dom < 96)
  | .domainPoweredUp dom => decide (dom < 96)
  | .domainFresh dom => decide (dom < 96)
  | .pmcReturn _ => true
  | .bistDone dom _ => decide (dom < 96)
  | .pmcScrReload _ => true
  | .scratchCopyDone c => decide (c < clusters)
  | .pmcWakeSeal _ => true
  -- tamper monitor and black box (R419 to R451)
  | .tamperSample src _ _ => decide (src < 32)
  | .tamperDecision _ _ => true
  | .eraseReadbackDone _ => true
  | .batterySample src _ _ => decide (src < 32)
  | .latchCommit => true
  | .tmuAlarmClr _ => true
  | .tmuFuseProgram _ => true
  | .meshMeasure m _ => decide (m < 2)
  | .bbxRecordWrite => true
  -- start, reset, pins, time base (R488 to R521)
  | .powerOnReset o => o.wf
  | .perst o => o.wf
  | .softReset o => o.wf
  | .pwrgoodFall => true
  | .railOutOfRange rail => decide (rail < 8)
  | .pfwAssert => true
  | .pfwDeassert => true
  | .ppsInEdge => true
  | .ppsOutPulse => true
  | .tbSet _ => true
  -- registers (R4 to R10, R475 to R487, R513 to R521)
  | .evcCntWrite n _ _ => decide (n < 4096)
  | .evcCfgCommit n _ => decide (n < 4096)
  | .cvuCtlCommit p _ => decide (p < 16)
  | .lowWordReadLatch f bar2 addr => decide (f < functions) && inBar bar2 addr
  | .readClear f bar2 addr => decide (f < functions) && inBar bar2 addr
  | .regWrite f bar2 addr _ _ => decide (f < functions) && inBar bar2 addr
  | .smbIdent => true
  | .smbStatus => true
  | .smbTemp => true
  | .smbVbat => true
  | .smbBbx => true
  | .smbPfw => true
  | .smbWriteRefused _ _ => true
  | .forbiddenRegisterRead f bar2 addr => decide (f < functions) && inBar bar2 addr
  -- steps added at the end of the table
  | .illegalFetch b => decide (b < bobbins)
  | .blockLockChange lane _ => decide (lane < 64)
  | .prbsLockChange lane _ _ => decide (lane < 64)
  | .sidebandMessageError n _ => decide (n < 4)
  | .shuavoChallengeExpiry => true
  | .vbatRetentionLost => true

/-- A well-formed command. -/
abbrev Instr.WellFormed (i : Instr) : Prop := i.wf = true

end Sys2Proof
end

