-- ==== Sys2Proof/Safety.lean ====
section
/-! DEFINITION. What claims about the block are stated in: the invariants every step keeps, when a bobbin's slot issues
its instruction, when a ring's unit holds a command, and what a command leaves as it was. -/

namespace Sys2Proof.Machine

/-! ### Invariants -/

/-- Every byte memory of the block is in canonical form: the scratch, the scratch images, the data of the key pages. -/
def State.MemInv (s : State) : Prop :=
  Memory.wf s.shu.scratch = true ∧ Memory.wf s.shu.images = true ∧ ∀ f, Memory.wf (s.page f).data = true

/-! ### A bobbin's slot (R43 to R48, R63, R69) -/

/-- Bobbin b runs the pick record k, the word w stands at its pc, no register of `regs` is pending, its pick does not
wait for a cell, and its budget is not spent: the slot issues w. -/
def State.mayIssue (s : State) (b : Nat) (w : Word) (regs : List Reg) (k : Pick) : Bool :=
  decide (s.bobPick b = some k) && decide (s.fetchWord b = some w) && !(k.cellWait && (s.bob b).left.isNone)
    && !regs.any (s.bob b).busy && decide ((s.bob b).count < s.budget (s.bob b))

/-- As `mayIssue`, and the pick still runs: it has no disposition yet, its record stands in slot p. -/
def State.mayIssueRun (s : State) (b : Nat) (w : Word) (regs : List Reg) (p : Nat) (k : Pick) : Bool :=
  decide ((s.bob b).left = none ∧ (s.bob b).pick = some p ∧ s.pick p = some k ∧ k.disp = 0)
    && s.mayIssue b w regs k

/-- R69: the bobbin after an instruction that goes on at pc. -/
def Bobbin.goes (B : Bobbin) (pc : Nat) : Bobbin := { B with pc := pc, count := B.count + 1, tbNs := none }

/-- R47: the bobbin after an asynchronous instruction that goes on at the next word. -/
def Bobbin.goesAsync (B : Bobbin) (d : Reg) (op : AsyncOp) (now : Nat) : Bobbin := (B.pendOn d op now).goes (B.pc + 1)

/-! ### What is left as it was -/

/-- Two states agree on every part but the bobbins, scratch and clusters, the picks, and the parts a list of occurrences
reaches. -/
def sameHost (s t : State) : Prop :=
  t.pending = s.pending ∧ t.variant = s.variant ∧ t.stepping = s.stepping ∧ t.regs = s.regs ∧ t.wov = s.wov
    ∧ t.weft = s.weft ∧ t.msc = s.msc ∧ t.kcu = s.kcu ∧ t.tmu = s.tmu ∧ t.bbx = s.bbx ∧ t.pmc = s.pmc ∧ t.tb = s.tb
    ∧ t.pins = s.pins

end Sys2Proof.Machine
end

