-- ==== Sys2Proof/Certificates/Slice0/Obligations.lean ====
section
/-! DEFINITION. The statements for the provers. Each says, for every state and operands that meet its hypotheses, what a
command answers; a next state written out as an equation says also what the command leaves as it was. -/

open Sys2Proof Sys2Proof.Machine

/-! ### The block -/

/-- A step with command c in front of the queue is `exec c` on the state with the queue's rest; with nothing waiting the
block idles and its clock advances (the model's choice, log entry 1). -/
def Obligations.StepRunsFrontCommand : Prop :=
  (∀ (c : Instr) (rest : List Instr) (s : State), step { s with pending := c :: rest } = exec c { s with pending := rest })
  ∧ ∀ s : State, s.pending = [] → step s = .next { s with tb := { s.tb with elapsed := s.tb.elapsed + 1, tod := s.tb.tod + 1 } }

/-- Every command answers a next state, and none of them adds, removes or reorders the commands that wait: the
spec describes every error as a next state (R2, R67, R376); what a command does that cannot happen now, and that no command of the
block sends another, is the model's (log entries 1 and 7). -/
def Obligations.ExecKeepsQueue : Prop :=
  ∀ (c : Instr) (s : State), ∃ t, exec c s = .next t ∧ t.pending = s.pending

/-- The invariant of `StepKeepsMemoriesCanonical` holds at reset. -/
def Obligations.ResetMemoriesCanonical : Prop := State.reset.MemInv

/-- Whatever the front command is, a step keeps the canonical form of the byte memories. -/
def Obligations.StepKeepsMemoriesCanonical : Prop :=
  ∀ s t : State, s.MemInv → step s = .next t → t.MemInv

/-- R422: a fuse cell is set once: whatever command runs, resets and the loss of the backup cell among them, every cell that
is set stays set, unless its own programming of 12 µs is still running (a power failure then leaves it set or clear). -/
def Obligations.FusesNeverUnblown : Prop :=
  ∀ (s t : State) (i : Nat), step s = .next t → s.tmu.bank.getLsbD i = true →
    (∀ at_, (i, at_) ∈ s.tmu.burning → at_ + 12000 ≤ s.tb.elapsed) → t.tmu.bank.getLsbD i = true

/-! ### Ezgus: registers and control transfer -/

/-- R77: the two-operand functions by func code, each as its row of the table says. -/
def Claims.aluTwo : List (Nat × (Nat → Reg → Reg → Reg → Instr) × (DWord → DWord → DWord)) :=
  [(0x000, .add, fun x y => BitVec.ofNat 64 (x.toNat + y.toNat)),
   (0x001, .sub, fun x y => BitVec.ofInt 64 (x.toNat - y.toNat)),
   (0x002, .bitAnd, fun x y => x &&& y),
   (0x003, .bitOr, fun x y => x ||| y),
   (0x004, .bitXor, fun x y => x ^^^ y),
   (0x005, .shl, fun x y => BitVec.ofNat 64 (x.toNat * 2 ^ (y.toNat % 64))),
   (0x006, .shr, fun x y => BitVec.ofNat 64 (x.toNat / 2 ^ (y.toNat % 64))),
   (0x007, .sar, fun x y => BitVec.ofInt 64 (x.toInt / 2 ^ (y.toNat % 64))),
   (0x008, .mul, fun x y => BitVec.ofNat 64 (x.toNat * y.toNat)),
   (0x009, .mulhu, fun x y => BitVec.ofNat 64 (x.toNat * y.toNat / 2 ^ 64)),
   (0x00A, .minS, fun x y => if x.toInt ≤ y.toInt then x else y),
   (0x00B, .maxS, fun x y => if x.toInt ≤ y.toInt then y else x),
   (0x00C, .minU, fun x y => if x.toNat ≤ y.toNat then x else y),
   (0x00D, .maxU, fun x y => if x.toNat ≤ y.toNat then y else x)]

/-- R77: the single-operand functions by func code, each as its row of the table says. -/
def Claims.aluOne : List (Nat × (Nat → Reg → Reg → Reg → Instr) × (DWord → DWord)) :=
  [(0x00E, .popc, fun x => BitVec.ofNat 64 ((List.range 64).filter (fun i => x.toNat / 2 ^ i % 2 == 1)).length),
   (0x00F, .clz, fun x => if x = 0 then 64 else BitVec.ofNat 64 (63 - Nat.log2 x.toNat)),
   (0x010, .bswap16, fun x => BitVec.ofNat 64 (x.toNat % 256 * 256 + x.toNat / 256 % 256)),
   (0x011, .bswap32, fun x => BitVec.ofNat 64 (leNat (beBytes (x.toNat % 2 ^ 32) 4))),
   (0x012, .bswap64, fun x => BitVec.ofNat 64 (leNat (beBytes x.toNat 8)))]

/-- R77: ADD, SUB, AND, OR, XOR, SHL, SHR, SAR, MUL, MULHU, MIN, MAX, MINU, MAXU, and POPC, CLZ, BSWAP16, BSWAP32, BSWAP64,
which ignore b, so that its scoreboard bit does not count. The next state is written out whole: nothing but bobbin b
changes, and in it only d (nothing for g0), the pc, the count and the latch of `tb 0`. -/
def Obligations.AluResult : Prop :=
  (∀ e ∈ Claims.aluTwo, ∀ (s : State) (b : Nat) (d a c : Reg) (k : Pick),
    s.mayIssue b (encA 0 d a c e.1) [d, a, c] k = true →
    exec (e.2.1 b d a c) s =
      .next (s.setBob b (((s.bob b).wr d (e.2.2 ((s.bob b).rd a) ((s.bob b).rd c))).goes ((s.bob b).pc + 1))))
  ∧ ∀ e ∈ Claims.aluOne, ∀ (s : State) (b : Nat) (d a c : Reg) (k : Pick),
    s.mayIssue b (encA 0 d a c e.1) [d, a] k = true →
    exec (e.2.1 b d a c) s = .next (s.setBob b (((s.bob b).wr d (e.2.2 ((s.bob b).rd a))).goes ((s.bob b).pc + 1)))

/-- R78: the immediate instructions by opcode: which registers they use beside d, and d from the registers and the
immediate. -/
def Claims.immediates : List (Nat × (Nat → Reg → Reg → BitVec 16 → Instr) × Bool × (DWord → DWord → BitVec 16 → DWord)) :=
  [(0x01, .addi, true, fun _ x i => BitVec.ofInt 64 (x.toNat + i.toInt)),
   (0x02, .andi, true, fun _ x i => x &&& BitVec.ofNat 64 i.toNat),
   (0x03, .ori, true, fun _ x i => x ||| BitVec.ofNat 64 i.toNat),
   (0x04, .xori, true, fun _ x i => x ^^^ BitVec.ofNat 64 i.toNat),
   (0x05, .li, false, fun _ _ i => BitVec.ofInt 64 i.toInt),
   (0x06, .lis, false, fun old _ i => BitVec.ofNat 64 (old.toNat * 2 ^ 16 % 2 ^ 64 + i.toNat))]

/-- R78: ADDI, ANDI, ORI, XORI, LI, LIS. -/
def Obligations.ImmediateResult : Prop :=
  ∀ e ∈ Claims.immediates, ∀ (s : State) (b : Nat) (d a : Reg) (imm : BitVec 16) (k : Pick),
    s.mayIssue b (encI e.1 d a imm) (if e.2.2.1 then [d, a] else [d]) k = true →
    exec (e.2.1 b d a imm) s =
      .next (s.setBob b (((s.bob b).wr d (e.2.2.2 ((s.bob b).rd d) ((s.bob b).rd a) imm)).goes ((s.bob b).pc + 1)))

/-- R78, R61: EXT and DEP with imm[15:12] = 0, p = imm[5:0], l = imm[11:6] + 1; each bit of the result is stated. -/
def Obligations.BitFieldResult : Prop :=
  ∀ (s : State) (b : Nat) (d a : Reg) (imm : BitVec 16) (k : Pick), imm.toNat < 4096 →
    (s.mayIssue b (encI 0x07 d a imm) [d, a] k = true → ∃ v : DWord,
      exec (.extF b d a imm) s = .next (s.setBob b (((s.bob b).wr d v).goes ((s.bob b).pc + 1)))
      ∧ ∀ i, i < 64 → v.getLsbD i =
          (decide (i < imm.toNat / 64 + 1) && ((s.bob b).rd a).getLsbD (imm.toNat % 64 + i)))
    ∧ (s.mayIssue b (encI 0x08 d a imm) [d, a] k = true → ∃ v : DWord,
      exec (.depF b d a imm) s = .next (s.setBob b (((s.bob b).wr d v).goes ((s.bob b).pc + 1)))
      ∧ ∀ i, i < 64 → v.getLsbD i =
          if imm.toNat % 64 ≤ i ∧ i < imm.toNat % 64 + (imm.toNat / 64 + 1)
          then ((s.bob b).rd a).getLsbD (i - imm.toNat % 64) else ((s.bob b).rd d).getLsbD i)

/-- R79: the branches by opcode, with their comparisons. -/
def Claims.branches : List (Nat × (Nat → Reg → Reg → BitVec 16 → Instr) × (DWord → DWord → Bool)) :=
  [(0x10, .beq, fun x y => decide (x = y)), (0x11, .bne, fun x y => decide (x ≠ y)),
   (0x12, .blt, fun x y => decide (x.toInt < y.toInt)), (0x13, .bge, fun x y => decide (y.toInt ≤ x.toInt)),
   (0x14, .bltu, fun x y => decide (x.toNat < y.toNat)), (0x15, .bgeu, fun x y => decide (y.toNat ≤ x.toNat))]

/-- R79, R80: BEQ, BNE, BLT, BGE, BLTU, BGEU, JAL, JR. A target below 0 is the model's word index beyond every card
(`pcAdd`). -/
def Obligations.ControlTransferTarget : Prop :=
  (∀ e ∈ Claims.branches, ∀ (s : State) (b : Nat) (a c : Reg) (off : BitVec 16) (k : Pick),
    s.mayIssue b (encB e.1 a c off) [a, c] k = true →
    exec (e.2.1 b a c off) s = .next (s.setBob b ((s.bob b).goes
      (if e.2.2 ((s.bob b).rd a) ((s.bob b).rd c) then pcAdd (s.bob b).pc off.toInt else (s.bob b).pc + 1))))
  ∧ (∀ (s : State) (b : Nat) (d : Reg) (off : BitVec 21) (k : Pick), s.mayIssue b (encJ d off) [d] k = true →
    exec (.jal b d off) s = .next (s.setBob b
      (((s.bob b).wr d (BitVec.ofNat 64 ((s.bob b).pc + 1))).goes (pcAdd (s.bob b).pc off.toInt))))
  ∧ (∀ (s : State) (b : Nat) (d a c : Reg) (k : Pick), s.mayIssue b (encA 0x17 d a c 0) [a] k = true →
    ((s.bob b).rd a).toNat ≤ 16383 →
    exec (.jr b d a c) s = .next (s.setBob b ((s.bob b).goes ((s.bob b).rd a).toNat)))
  ∧ (∀ (s : State) (b : Nat) (d a c : Reg) (k : Pick), s.mayIssue b (encA 0x17 d a c 0) [a] k = true →
    16383 < ((s.bob b).rd a).toNat →
    exec (.jr b d a c) s = .next (s.trapAt b .illegal (s.bob b).pc (encA 0x17 d a c 0)))
  ∧ ∀ (pc : Nat) (off : Int), 0 ≤ (pc : Int) + off → (pcAdd pc off : Int) = pc + off

/-- R48: while a register that the instruction reads or writes is pending, the slot passes and nothing changes (the
two-operand and one-operand functions, the immediate instructions and the branches). -/
def Obligations.PendingRegisterStalls : Prop :=
  ∀ (s : State) (b : Nat) (d a c r : Reg) (imm : BitVec 16), (s.bob b).busy r = true →
    (∀ e ∈ Claims.aluTwo, r ∈ [d, a, c] → exec (e.2.1 b d a c) s = .next s)
    ∧ (∀ e ∈ Claims.aluOne, r ∈ [d, a] → exec (e.2.1 b d a c) s = .next s)
    ∧ (∀ e ∈ Claims.immediates, r ∈ (if e.2.2.1 then [d, a] else [d]) → exec (e.2.1 b d a imm) s = .next s)
    ∧ (∀ e ∈ Claims.branches, r ∈ [a, c] → exec (e.2.1 b a c imm) s = .next s)

/-! ### Ezgus: window, record, scratch -/

/-- R54, R61, R62: v is the n bytes `byte 0` to `byte (n − 1)` in network order, or little-endian for `le`, zero-extended
or sign-extended for `sext`. -/
def Claims.isValue (v : DWord) (n : Nat) (le sext : Bool) (byte : Nat → Byte) : Prop :=
  ∀ j, j < 64 → v.getLsbD j =
    if j < 8 * n then (byte (if le then j / 8 else n - 1 - j / 8)).getLsbD (j % 8)
    else (sext && (byte (if le then n - 1 else 0)).getLsbD 7)

/-- R81, R51: LDW within the window: d holds the value of the bytes at e, 0 where the frame has none; nothing else changes
(all of memory and every other register reads as before: the next state is written out). -/
def Obligations.WindowLoadValue : Prop :=
  ∀ (s : State) (b p : Nat) (d a : Reg) (size : BitVec 2) (sub : BitVec 4) (off : BitVec 10) (k : Pick),
    s.mayIssueRun b (encW 0x18 d a size sub off) [d, a] p k = true →
    sub.getLsbD 2 = false → sub.getLsbD 3 = false → k.cipherBusy = false →
    -64 ≤ effOffset (s.bob b) a off → effOffset (s.bob b) a off + (2 ^ size.toNat : Nat) - 1 ≤ 511 →
    ∃ v, exec (.ldw b d a size sub off) s = .next (s.setBob b (((s.bob b).wr d v).goes ((s.bob b).pc + 1)))
      ∧ Claims.isValue v (2 ^ size.toNat) (sub.getLsbD 1) (sub.getLsbD 0)
          (fun i => k.winByte (effOffset (s.bob b) a off + i))

/-- R81, R51, R123: STW inside the frame. The bytes of the frame outside e to e + n − 1 stay (`patch`), and beside the
pick only the bobbin's pc and count change. -/
def Obligations.WindowStoreWrites : Prop :=
  ∀ (s : State) (b p : Nat) (d a : Reg) (size : BitVec 2) (sub : BitVec 4) (off : BitVec 10) (k : Pick) (e : Int) (n : Nat),
    s.mayIssueRun b (encW 0x19 d a size sub off) [d, a] p k = true →
    sub.getLsbD 2 = false → sub.getLsbD 3 = false → k.cipher = none → k.opened = false →
    e = effOffset (s.bob b) a off → n = 2 ^ size.toNat →
    -64 ≤ e → e + n - 1 ≤ 511 → k.woff.toInt ≤ e → e + n ≤ k.woff.toInt + k.frame.length →
    (k.newCells e (e + n - 1)).length ≤ s.cellsFree →
    exec (.stw b d a size sub off) s = .next ((s.setPick p { k with
      frame := patch k.frame (e - k.woff.toInt).toNat
        (if sub.getLsbD 1 then leBytes ((s.bob b).rd d).toNat n else (leBytes ((s.bob b).rd d).toNat n).reverse)
      cells := k.cells + (k.newCells e (e + n - 1)).length
      copied := k.copied ++ k.newCells e (e + n - 1) }).setBob b ((s.bob b).goes ((s.bob b).pc + 1)))

/-- R52, R82: WEDIT of n = d bytes, 1 to 64, at window offset o inside the frame, in both directions (log entries 14 and 97). -/
def Obligations.WindowEditResizes : Prop :=
  ∀ (s : State) (b p : Nat) (d a : Reg) (sub : BitVec 4) (off : BitVec 10) (k : Pick) (o w : Int) (n len i : Nat),
    s.mayIssueRun b (encW 0x1A d a 0 sub off) [d, a] p k = true →
    sub.getLsbD 1 = false → sub.getLsbD 2 = false → sub.getLsbD 3 = false → k.cipher = none → k.opened = false →
    o = effOffset (s.bob b) a off → w = k.woff.toInt → n = ((s.bob b).rd d).toNat → len = k.frame.length →
    i = (o - w).toNat → 1 ≤ n → n ≤ 64 →
    (sub.getLsbD 0 = true → w ≤ o → o + n ≤ w + len → o + n - 1 ≤ 511 → w + n ≤ 511 → 14 + n ≤ len → len ≤ 16128 + n →
      (k.newCells (w + n) (o + n - 1)).length ≤ s.cellsFree →
      exec (.wedit b d a 0 sub off) s = .next ((s.setPick p { k with
        frame := k.frame.take i ++ k.frame.drop (i + n), woff := k.woff + BitVec.ofNat 16 n
        cells := k.cells + (k.newCells (w + n) (o + n - 1)).length
        copied := k.copied ++ k.newCells (w + n) (o + n - 1) }).setBob b ((s.bob b).goes ((s.bob b).pc + 1))))
    ∧ (sub.getLsbD 0 = false → w ≤ o → o ≤ w + len → (o ≤ 511 ∨ o = 512 ∧ w + len = 512) → -64 ≤ w - n →
      len + n ≤ 16128 → 14 ≤ len + n → (k.newCells (w - n) (o - 1)).length ≤ s.cellsFree →
      exec (.wedit b d a 0 sub off) s = .next ((s.setPick p { k with
        frame := k.frame.take i ++ List.replicate n 0 ++ k.frame.drop i, woff := k.woff - BitVec.ofNat 16 n
        cells := k.cells + (k.newCells (w - n) (o - 1)).length
        copied := k.copied ++ k.newCells (w - n) (o - 1) }).setBob b ((s.bob b).goes ((s.bob b).pc + 1))))

/-- R55: the RW bits of record byte i: class, queue, pn, u0 to u2. -/
def Claims.rwMask (i : Nat) : Byte :=
  if i = 7 then 0x07 else if i = 16 then 0xFF else if i = 17 then 0x3F
  else if 24 ≤ i ∧ i < 32 then 0xFF else if 40 ≤ i ∧ i < 64 then 0xFF else 0

/-- R56 whole, with R84's results: LDP and STP at offset e for sub[3:1] = 0. LDP of the arrival time (offsets 32 to 39) is
stated for a card with the time-aware flag (R74). -/
def Obligations.RecordAccess : Prop :=
  ∀ (s : State) (b p : Nat) (d a : Reg) (size : BitVec 2) (sub : BitVec 4) (off : BitVec 10) (k : Pick) (e : Int) (n : Nat),
    sub.getLsbD 1 = false → sub.getLsbD 2 = false → sub.getLsbD 3 = false →
    e = effOffset (s.bob b) a off → n = 2 ^ size.toNat →
    (s.mayIssueRun b (encW 0x1B d a size sub off) [d, a] p k = true →
      (0 ≤ e → e + n ≤ 64 → e % n = 0 → (s.timeAware b = true ∨ e + n ≤ 32 ∨ 40 ≤ e) →
        ∃ v, exec (.ldp b d a size sub off) s = .next (s.setBob b (((s.bob b).wr d v).goes ((s.bob b).pc + 1)))
          ∧ Claims.isValue v n true (sub.getLsbD 0) (fun i => k.record.getD (e.toNat + i) 0))
      ∧ (e < 0 ∨ 64 < e + n ∨ e % n ≠ 0 →
        exec (.ldp b d a size sub off) s =
          .next (s.trapAt b .illegal (s.bob b).pc (encW 0x1B d a size sub off))))
    ∧ (s.mayIssueRun b (encW 0x1C d a size sub off) [d, a] p k = true →
      (0 ≤ e → e + n ≤ 64 → e % n = 0 → (∃ i < n, Claims.rwMask (e.toNat + i) ≠ 0) →
        ∃ k', exec (.stp b d a size sub off) s =
            .next ((s.setPick p k').setBob b ((s.bob b).goes ((s.bob b).pc + 1)))
          ∧ k' = { k with cls := k'.cls, queue := k'.queue, pn := k'.pn, u0 := k'.u0, u1 := k'.u1, u2 := k'.u2 }
          ∧ ∀ i < 64, k'.record.getD i 0 =
              if e ≤ i ∧ i < e + n
              then (k.record.getD i 0 &&& ~~~Claims.rwMask i)
                ||| (BitVec.ofNat 8 (((s.bob b).rd d).toNat / 256 ^ (i - e.toNat)) &&& Claims.rwMask i)
              else k.record.getD i 0)
      ∧ (e < 0 ∨ 64 < e + n ∨ e % n ≠ 0 ∨ (∀ i < n, Claims.rwMask (e.toNat + i) = 0) →
        exec (.stp b d a size sub off) s =
          .next (s.trapAt b .illegal (s.bob b).pc (encW 0x1C d a size sub off))))

/-- R85, R58: LDS, STS, FADD_S (4 and 8 bytes) and FENCE issue. Of the scratch bytes STS changes those at 16,384 × cluster
+ e to + n − 1 alone. -/
def Obligations.ScratchIssue : Prop :=
  ∀ (s : State) (b p : Nat) (d a c : Reg) (size : BitVec 2) (sub : BitVec 4) (off : BitVec 10) (k : Pick) (e : Int) (n : Nat),
    sub.getLsbD 1 = false → sub.getLsbD 2 = false → sub.getLsbD 3 = false →
    e = effOffset (s.bob b) a off → n = 2 ^ size.toNat → 0 ≤ e → e + n ≤ 16384 → e % n = 0 →
    ((s.bob b).fenced = true → (s.bob b).pend.all (fun o => !o.op.isFadd) = true) →
    (s.mayIssueRun b (encW 0x1D d a size sub off) [d, a] p k = true →
      exec (.lds b d a size sub off) s =
        .next (s.setBob b ((s.bob b).goesAsync d (.lds e.toNat n (sub.getLsbD 0)) s.tb.elapsed)))
    ∧ (s.mayIssueRun b (encW 0x1E d a size sub off) [d, a] p k = true →
      ∃ m, exec (.sts b d a size sub off) s =
          .next ({ s with shu := { s.shu with scratch := m } }.setBob b ((s.bob b).goes ((s.bob b).pc + 1)))
        ∧ (∀ i < n, Memory.read m (16384 * (b / 128) + e.toNat + i) =
            BitVec.ofNat 8 (((s.bob b).rd d).toNat / 256 ^ i))
        ∧ ∀ x, (x < 16384 * (b / 128) + e.toNat ∨ 16384 * (b / 128) + e.toNat + n ≤ x) →
            Memory.read m x = Memory.read s.shu.scratch x)
    ∧ (4 ≤ n → s.mayIssueRun b (encW 0x1F d a size sub off) [d, a] p k = true →
      exec (.faddS b d a size sub off) s =
        .next (s.setBob b ((s.bob b).goesAsync d (.fadd e.toNat n (sub.getLsbD 0) ((s.bob b).rd d)) s.tb.elapsed)))
    ∧ (s.mayIssue b (encU 0x31 d a c 0 0) [] k = true →
      exec (.fence b d a c 0) s = .next (s.setBob b ({ s.bob b with fenced := (s.bob b).pend.any (fun o => o.op.isFadd) }.goes ((s.bob b).pc + 1))))

/-- R58, R85: LDS, STS, FADD_S with a bad offset trap SCRATCH, FADD_S below 4 bytes ILLEGAL whatever its offset. -/
def Obligations.ScratchAccessTraps : Prop :=
  ∀ (s : State) (b p : Nat) (d a : Reg) (size : BitVec 2) (sub : BitVec 4) (off : BitVec 10) (k : Pick) (e : Int) (n : Nat),
    sub.getLsbD 1 = false → sub.getLsbD 2 = false → sub.getLsbD 3 = false →
    e = effOffset (s.bob b) a off → n = 2 ^ size.toNat →
    (n < 4 → s.mayIssueRun b (encW 0x1F d a size sub off) [d, a] p k = true →
      exec (.faddS b d a size sub off) s = .next (s.trapAt b .illegal (s.bob b).pc (encW 0x1F d a size sub off)))
    ∧ ((e < 0 ∨ 16384 < e + n ∨ e % n ≠ 0) →
    (s.mayIssueRun b (encW 0x1D d a size sub off) [d, a] p k = true →
      exec (.lds b d a size sub off) s = .next (s.trapAt b .scratch (s.bob b).pc (encW 0x1D d a size sub off)))
    ∧ (s.mayIssueRun b (encW 0x1E d a size sub off) [d, a] p k = true →
      exec (.sts b d a size sub off) s = .next (s.trapAt b .scratch (s.bob b).pc (encW 0x1E d a size sub off)))
    ∧ (s.mayIssueRun b (encW 0x1F d a size sub off) [d, a] p k = true →
      exec (.faddS b d a size sub off) s =
        .next (s.trapAt b (if n < 4 then .illegal else .scratch) (s.bob b).pc (encW 0x1F d a size sub off))))

/-- R85, R47: LDS_DONE and FADD_S_DONE of the first operation pending in the bobbin. The bytes changed are those of the
fetch-and-add alone. -/
def Obligations.ScratchCompletes : Prop :=
  ∀ (s : State) (b : Nat) (d : Reg) (addr n pc at_ : Nat) (sx : Bool) (v : DWord) (rest : List PendOp) (base : Nat),
    base = 16384 * (b / 128) + addr → (n = 1 ∨ n = 2 ∨ n = 4 ∨ n = 8) →
    ((s.bob b).pend = ⟨d, .lds addr n sx, pc, at_⟩ :: rest →
      ∃ r, exec (.ldsDone b d) s = .next (s.setBob b ({ s.bob b with pend := rest }.finish d r))
        ∧ Claims.isValue r n true sx (fun i => Memory.read s.shu.scratch (base + i)))
    ∧ ((s.bob b).pend = ⟨d, .fadd addr n sx v, pc, at_⟩ :: rest →
      ∃ r m t, exec (.faddSDone b d) s = .next t
        ∧ t = { s with shu := { s.shu with scratch := m, bobs := t.shu.bobs } }
        ∧ (∀ b', b' ≠ b → t.bob b' = s.bob b')
        ∧ t.bob b = { { s.bob b with pend := rest }.finish d r with
            fenced := (s.bob b).fenced && rest.any (fun o => o.op.isFadd) }
        ∧ Claims.isValue r n true sx (fun i => Memory.read s.shu.scratch (base + i))
        ∧ (∀ i < n, Memory.read m (base + i) =
            BitVec.ofNat 8 ((leNat (Memory.readBytes s.shu.scratch base n) + v.toNat) / 256 ^ i))
        ∧ ∀ x, (x < base ∨ base + n ≤ x) → Memory.read m x = Memory.read s.shu.scratch x)

/-! ### Ezgus: lookups, packet numbers, ordering -/

/-- R133: the state code of an entry; EXHAUSTED (3) is an ACTIVE one whose TXSLOT slot has EXH. -/
def Claims.stateCode (e : AtEntry) : Nat :=
  match e.st with
  | .empty => 0
  | .active => if (e.slot e.txslot).exh then 3 else 1
  | .suspended => 2
  | .poisoned => 4

/-- R86 to R88, R47: the lookups issue. -/
def Obligations.LookupIssue : Prop :=
  ∀ (s : State) (b p : Nat) (d a c : Reg) (imm : BitVec 6) (k : Pick),
    (s.mayIssueRun b (encU 0x20 d a c 0 imm) [d, a, c] p k = true →
      exec (.lookFt b d a c imm) s =
        .next (s.setBob b ((s.bob b).goesAsync d (.lookFt imm ((s.bob b).rd a) ((s.bob b).rd c)) s.tb.elapsed)))
    ∧ (s.mayIssueRun b (encU 0x20 d a c 1 imm) [d, a, c] p k = true →
      exec (.lookMt b d a c imm) s =
        .next (s.setBob b ((s.bob b).goesAsync d (.lookMt imm ((s.bob b).rd a) ((s.bob b).rd c)) s.tb.elapsed)))
    ∧ (s.mayIssueRun b (encU 0x20 d a c 2 imm) [d, a] p k = true →
      (imm.toNat < 2 → exec (.lookAt b d a c imm) s = .next (s.setBob b ((s.bob b).goesAsync d
        (.lookAt (((s.bob b).rd a).extractLsb' 0 24) (((s.bob b).rd a).extractLsb' 24 2) (imm.getLsbD 0)) s.tb.elapsed)))
      ∧ (2 ≤ imm.toNat →
        exec (.lookAt b d a c imm) s = .next (s.trapAt b .illegal (s.bob b).pc (encU 0x20 d a c 2 imm))))

/-- R86, R150: LOOK_FT_DONE of the first operation pending. Beside the bobbin, HITS of that entry, the power state of
the cache banks and what the memory keeps of fetches that expired once nothing changes. -/
def Obligations.FlowLookupResult : Prop :=
  ∀ (s : State) (b : Nat) (d : Reg) (space : BitVec 6) (lo hi : DWord) (pc at_ : Nat) (rest : List PendOp),
    (s.bob b).pend = ⟨d, .lookFt space lo hi, pc, at_⟩ :: rest →
    s.tableWaits ((s.bucketsOf space lo hi).flatMap s.bucketLines) = false →
    s.tableBad ((s.bucketsOf space lo hi).flatMap s.bucketLines) = none →
    ∃ t, exec (.lookFtDone b d) s = .next t
      ∧ t = { s with shu := t.shu, tab := { s.tab with flows := t.tab.flows }, pmc := { s.pmc with doms := t.pmc.doms },
                     msc := { s.msc with retried := t.msc.retried, lastFail := t.msc.lastFail } }
      ∧ t.shu = { s.shu with bobs := t.shu.bobs } ∧ (∀ b', b' ≠ b → t.bob b' = s.bob b')
      ∧ (s.tab.flows.find? (fun f => f.hasKey space lo hi) = none →
          t.tab.flows = s.tab.flows ∧ t.bob b = { s.bob b with pend := rest }.finish d (BitVec.ofNat 64 (1 * 2 ^ 56)))
      ∧ ∀ f, s.tab.flows.find? (fun f => f.hasKey space lo hi) = some f →
          t.tab.flows = (if f.poisoned then s.tab.flows else s.tab.flows.map (fun g => if g.hasKey space lo hi
            then { g with hits := if g.hits = 0xFFFF_FFFF then g.hits else g.hits + 1 } else g))
          ∧ t.bob b = { s.bob b with pend := rest }.finish d
              (if f.poisoned then BitVec.ofNat 64 (5 * 2 ^ 56) else f.result.setWidth 64)

/-- R87: LOOK_MT_DONE of the first operation pending, over a mask table whose indices rise below 4,096. d[43:0] on MISS
is free (log entry 115). -/
def Obligations.MaskLookupResult : Prop :=
  ∀ (s : State) (b : Nat) (d : Reg) (part : BitVec 6) (lo hi : DWord) (pc at_ : Nat) (rest : List PendOp),
    (s.bob b).pend = ⟨d, .lookMt part lo hi, pc, at_⟩ :: rest → tsorted (fun i _ => decide (i < 4096)) s.tab.mt = true →
    (∀ (i : Nat) (e : MtEntry), (i, e) ∈ s.tab.mt → e.valid = true → e.part = part →
        (hi ++ lo) &&& e.mask = e.value →
        (∀ (j : Nat) (x : MtEntry), j < i → (j, x) ∈ s.tab.mt → x.valid = true → x.part = part →
          (hi ++ lo) &&& x.mask ≠ x.value) →
        exec (.lookMtDone b d) s = .next (s.setBob b ({ s.bob b with pend := rest }.finish d
          (BitVec.ofNat 64 (i + e.result.toNat * 2 ^ 12)))))
    ∧ ((∀ (j : Nat) (x : MtEntry), (j, x) ∈ s.tab.mt → x.valid = true → x.part = part →
          (hi ++ lo) &&& x.mask ≠ x.value) →
        ∃ w : DWord, w.extractLsb' 44 20 = BitVec.ofNat 20 (1 * 2 ^ 12) ∧
          exec (.lookMtDone b d) s = .next (s.setBob b ({ s.bob b with pend := rest }.finish d w)))

/-- R88, R36, R139, R199: LOOK_AT_DONE of the first operation pending, for a pick that runs and holds no slot reference yet; an XPN
association's OK on receive loads the pick's pn (R199). -/
def Obligations.AssociationLookupSnapshot : Prop :=
  ∀ (s : State) (b p : Nat) (d : Reg) (idx : BitVec 24) (kn : BitVec 2) (rx : Bool) (pc at_ : Nat) (rest : List PendOp)
    (k : Pick) (e : AtEntry),
    (s.bob b).pend = ⟨d, .lookAt idx kn rx, pc, at_⟩ :: rest → (s.bob b).pick = some p → s.pick p = some k →
    k.refHeld = none → e = (if idx.toNat < s.capacity then s.assoc idx.toNat else {}) →
    (idx.toNat < s.capacity → s.tableWaits (assocLines idx.toNat) = false ∧ s.tableBad (assocLines idx.toNat) = none) →
    ∃ (t : State) (sl : Option Bool) (st : Nat), exec (.lookAtDone b d) s = .next t
      ∧ (e.st = .empty → sl = none ∧ st = 1) ∧ (e.st = .poisoned → sl = none ∧ st = 5)
      ∧ (e.st = .suspended → sl = none ∧ st = 6)
      ∧ (e.st = .active → rx = false → sl = some e.txslot ∧ st = (if (e.slot e.txslot).exh then 2 else 0))
      ∧ (e.st = .active → rx = true →
          sl = (if e.a.valid ∧ e.a.kn = kn then some false else if e.b.valid ∧ e.b.kn = kn then some true else none)
          ∧ st = (if sl = none then 6 else 0))
      ∧ (e.st = .empty → ∃ w : DWord, t.bob b = { s.bob b with pend := rest }.finish d w
          ∧ w.extractLsb' 0 24 = idx ∧ w.extractLsb' 27 3 = 0 ∧ w.extractLsb' 56 8 = 1)
      ∧ (e.st ≠ .empty → ∃ x : Nat, x < 8 ∧ (∀ y, sl = some y → x = (if y then 1 else 0) + (e.slot y).kn.toNat * 2)
          ∧ t.bob b = { s.bob b with pend := rest }.finish d (BitVec.ofNat 64 (idx.toNat + x * 2 ^ 24
          + Claims.stateCode e * 2 ^ 27
          + (if e.cut then 2 ^ 30 else 0) + (if e.mode then 2 ^ 31 else 0) + e.suite.toNat * 2 ^ 32
          + e.policer.toNat * 2 ^ 36 + st * 2 ^ 56)))
      ∧ (∃ k', t.pick p = some k' ∧ k'.assoc = idx ∧ k'.refHeld = sl.map (fun x => (idx, x))
          ∧ k'.slot = sl.getD k.slot ∧ k'.kn = (sl.map (fun x => (e.slot x).kn)).getD k.kn
          ∧ (∃ sn, k'.snap = some sn ∧ sn.rx = rx ∧ sn.status.toNat = st ∧ sn.slot = sl
              ∧ (e.st ≠ .empty → sn.entry = e))
          ∧ k'.pn = (if rx ∧ st = 0 ∧ (e.suite = 3 ∨ e.suite = 4) then (e.slot (sl.getD false)).pn else k.pn)
          ∧ k'.frame = k.frame ∧ k'.seq = k.seq ∧ k'.disp = k.disp)
      ∧ (∀ x, sl = some x → tget 0 t.tab.refs (2 * idx.toNat + if x then 1 else 0)
          = tget 0 s.tab.refs (2 * idx.toNat + if x then 1 else 0) + 1)
      ∧ t = { s with shu := { s.shu with bobs := t.shu.bobs }, beam := { s.beam with picks := t.beam.picks },
                     tab := { s.tab with refs := t.tab.refs }, pmc := { s.pmc with doms := t.pmc.doms },
                     msc := { s.msc with retried := t.msc.retried, lastFail := t.msc.lastFail } }

/-- R89 to R92: the ordering and packet-number instructions issue. PN_NEXT and PN_PEEK wait while a `look.at` or `pn.next`
of the bobbin pends (the model's reading, log entry 21). -/
def Obligations.PacketNumberIssue : Prop :=
  ∀ (s : State) (b p : Nat) (d a c : Reg) (imm : BitVec 6) (k : Pick),
    (∀ e ∈ [((0 : Nat), Instr.pnNext, AsyncOp.pnNext), (1, Instr.pnPeek, AsyncOp.pnPeek)],
      s.mayIssueRun b (encU 0x21 d a c e.1 0) [d] p k = true →
      (s.bob b).pends AsyncOp.isLookAt = false → (s.bob b).pends AsyncOp.isPnNext = false → k.memTrap = false →
      (k.snapOk false = true → k.servedNow.contains k.assoc = false →
        exec (e.2.1 b d a c 0) s = .next ((s.setPick p k.issuesPn).setBob b ((s.bob b).goesAsync d e.2.2 s.tb.elapsed)))
      ∧ (k.snapOk false = false ∨ k.servedNow.contains k.assoc = true →
        exec (e.2.1 b d a c 0) s = .next (s.trapAt b .illegal (s.bob b).pc (encU 0x21 d a c e.1 0))))
    ∧ (s.mayIssueRun b (encU 0x22 d a c 0 imm) [d, a] p k = true →
      (k.ordUsed = false → k.pnIssued = false →
        exec (.ordDom b d a c imm) s = .next ((s.setPick p { k with ordUsed := true, ordWait := true }).setBob b
          ((s.bob b).goesAsync d (.ordDom (((s.bob b).rd a).extractLsb' 0 12)) s.tb.elapsed)))
      ∧ (k.ordUsed = true ∨ k.pnIssued = true →
        exec (.ordDom b d a c imm) s = .next (s.trapAt b .illegal (s.bob b).pc (encU 0x22 d a c 0 imm))))
    ∧ (s.mayIssueRun b (encU 0x22 d a c 1 imm) [] p k = true →
      (k.ordUsed = false → k.pnIssued = false →
        exec (.ordRel b d a c imm) s =
          .next ((s.setPick p { k with ordPassed := true }).setBob b ((s.bob b).goes ((s.bob b).pc + 1))))
      ∧ (k.ordUsed = true ∨ k.pnIssued = true →
        exec (.ordRel b d a c imm) s = .next (s.setBob b ((s.bob b).goes ((s.bob b).pc + 1)))))

/-- R30, R89, R90, R40, R142: the reed serves the first operation pending in the bobbin. What the served request may
record beside is an occurrence (event counters, and their records on the event rings). -/
def Obligations.PacketNumberServed : Prop :=
  ∀ (s : State) (b p : Nat) (d : Reg) (pc at_ : Nat) (rest : List PendOp) (k : Pick) (i : Nat) (sl : Slot),
    (s.bob b).pick = some p → s.pick p = some k → k.ordWait = false → k.memTrap = false → i = k.assoc.toNat →
    sl = (s.assoc i).slot k.slot →
    ((s.bob b).pend = ⟨d, .pnNext, pc, at_⟩ :: rest →
      (s.lowerHolds p k Pick.holdsPn = false → k.recorded = none → ∃ t k', exec (.pnNextServe b d) s = .next t
        ∧ t = { s with shu := { s.shu with bobs := t.shu.bobs }, beam := { s.beam with picks := t.beam.picks },
                       tab := { s.tab with assocs := t.tab.assocs, lastDom := t.tab.lastDom }, evc := t.evc,
                       hif := t.hif, out := t.out }
        ∧ (∀ j, j ≠ i → t.assoc j = s.assoc j) ∧ t.pick p = some k'
        ∧ (sl.pn.toNat < 2 ^ ((s.assoc i).k.toNat + 1) - 1 →
            t.assoc i = (s.assoc i).setSlot k.slot { sl with pn := sl.pn + 1 } ∧ k'.pn = sl.pn
            ∧ k'.pnPassed = true ∧ k'.servedNow = k.assoc :: k.servedNow ∧ k'.frame = k.frame
            ∧ t.bob b = { s.bob b with pend := rest }.finish d (sl.pn &&& 0x00FF_FFFF_FFFF_FFFF))
        ∧ (2 ^ ((s.assoc i).k.toNat + 1) - 1 ≤ sl.pn.toNat →
            t.assoc i = (s.assoc i).setSlot k.slot { sl with exh := true }
            ∧ k' = { k with pnPassed := true }
            ∧ ((t.bob b).rd d).toNat / 2 ^ 56 = (if d = 0 then 0 else 2)))
      ∧ ∀ pn, k.recorded = some pn → exec (.pnNextServe b d) s =
          .next ((s.setPick p { k with pn := pn, servedNow := k.assoc :: k.servedNow, pnPassed := true }).setBob b
            ({ s.bob b with pend := rest }.finish d (pn &&& 0x00FF_FFFF_FFFF_FFFF))))
    ∧ ((s.bob b).pend = ⟨d, .pnPeek, pc, at_⟩ :: rest → s.lowerHolds p k Pick.holdsPn = false →
      (∀ pn, k.recorded = some pn → exec (.pnPeekServe b d) s = .next ((s.setPick p { k with pnPassed := true }).setBob b
        ({ s.bob b with pend := rest }.finish d (pn &&& 0x00FF_FFFF_FFFF_FFFF))))
      ∧ (k.recorded = none → ∃ t, exec (.pnPeekServe b d) s = .next t ∧ t.tab = s.tab
        ∧ t.pick p = some { k with pnPassed := true }
        ∧ t = { s with shu := { s.shu with bobs := t.shu.bobs }, beam := { s.beam with picks := t.beam.picks } }
        ∧ (sl.pn.toNat < 2 ^ ((s.assoc i).k.toNat + 1) - 1 →
            t.bob b = { s.bob b with pend := rest }.finish d (sl.pn &&& 0x00FF_FFFF_FFFF_FFFF))
        ∧ (2 ^ ((s.assoc i).k.toNat + 1) - 1 ≤ sl.pn.toNat →
            ((t.bob b).rd d).toNat / 2 ^ 56 = (if d = 0 then 0 else 2))))
    ∧ ((s.bob b).pend = ⟨d, .pnNext, pc, at_⟩ :: rest ∨ (s.bob b).pend = ⟨d, .pnPeek, pc, at_⟩ :: rest →
      s.lowerHolds p k Pick.holdsPn = true → k.recorded = none →
      exec (.pnNextServe b d) s = .next s ∧ exec (.pnPeekServe b d) s = .next s)

/-- R33, R91, R28: ORD_DOM_GRANT of the first operation pending; bits 55:44 of d are free (log entry 82). -/
def Obligations.OrderingDomainGranted : Prop :=
  ∀ (s : State) (b p : Nat) (d : Reg) (dom : BitVec 12) (pc at_ : Nat) (rest : List PendOp) (k : Pick),
    (s.bob b).pend = ⟨d, .ordDom dom, pc, at_⟩ :: rest → (s.bob b).pick = some p → s.pick p = some k →
    k.ordMoved = false → s.lowerHolds p k Pick.holdsOrd = false →
    ∃ t seq, exec (.ordDomGrant b d) s = .next t
      ∧ seq = (if dom = k.odom then k.seq else tget 0 s.beam.seqs dom.toNat)
      ∧ t.pick p = some { k with seq := seq, odom := dom, ordMoved := true, ordWait := false, ordPassed := true }
      ∧ (∀ q, q ≠ p → t.pick q = s.pick q)
      ∧ (∀ x, tget 0 t.beam.seqs x =
          tget 0 s.beam.seqs x + (if x = dom.toNat ∧ dom ≠ k.odom then 1 else 0))
      ∧ (d ≠ 0 → ((t.bob b).rd d).toNat % 2 ^ 44 = seq.toNat + dom.toNat * 2 ^ 32
          ∧ ((t.bob b).rd d).toNat / 2 ^ 56 = 0 ∧ (t.bob b).busy d = false)
      ∧ t = { s with shu := { s.shu with bobs := t.shu.bobs }, beam := t.beam }
      ∧ (∀ b', b' ≠ b → t.bob b' = s.bob b')

/-! ### Ezgus: cipher operations, check values, colours, time -/

/-- R93 to R95: SEAL (imm 0) and OPEN issue for a pick with no cipher operation yet. That OPEN works under the record's packet
number as it stands when it issues is log entry 84, how many output cells SEAL waits for log entry 14. -/
def Obligations.CipherIssue : Prop :=
  ∀ (s : State) (b p : Nat) (d a c : Reg) (imm : BitVec 6) (k : Pick) (sn : Snap),
    k.cipher = none → k.opened = false → k.snap = some sn → (s.bob b).pends AsyncOp.isLookAt = false →
    (∀ pn, s.mayIssueRun b (encU 0x23 d a c 0 0) [d, a, c] p k = true →
      (s.bob b).pends AsyncOp.isPnNext = false → sn.rx = false → sn.status = 0 →
      k.servedNow.contains k.assoc = true → k.served.find? (fun e => e.1 == k.assoc) = some (k.assoc, pn) →
      ((s.bob b).rd a).toNat ≤ k.frame.length → k.frame.length + 16 ≤ 16128 →
      ∃ t k' x j, exec (.sealFrame b d a c 0) s = .next t
        ∧ t = { s with shu := { s.shu with bobs := t.shu.bobs }, beam := { s.beam with picks := t.beam.picks },
                       cie := { s.cie with jobs := s.cie.jobs ++ [j], next := s.cie.next + 1 } }
        ∧ t.pick p = some k' ∧ k' = { k with cipher := some x, cells := k'.cells }
        ∧ x.isOpen = false ∧ x.d = d ∧ x.bob = b ∧ x.aad = ((s.bob b).rd a).toNat ∧ x.sci = (s.bob b).rd c
        ∧ x.snap = sn ∧ x.assoc = k.assoc ∧ x.pn = pn
        ∧ x.phase = (if (k.frame.length + 16 + 127) / 128 ≤ s.cellsFree then .job else .cellWait)
        ∧ j.kind = .seal ∧ j.st = .queued ∧ j.pick = some p ∧ j.level = (if k.cls = 7 then 2 else 1)
        ∧ j.ord = s.cie.next
        ∧ (t.bob b).pc = (s.bob b).pc + 1 ∧ (t.bob b).busy d = (d != 0) ∧ (∀ r, (t.bob b).rd r = (s.bob b).rd r))
    ∧ (s.mayIssueRun b (encU 0x24 d a c 0 imm) [d, a, c] p k = true → imm.toNat < 2 → k.memTrap = false →
      sn.rx = true → sn.status = 0 → (imm = 1 → d = 0 ∧ sn.entry.cut = true) →
      ((s.bob b).rd a).toNat + 16 ≤ k.frame.length →
      ∃ t x, exec (.openFrame b d a c imm) s = .next t
        ∧ t = { s with shu := { s.shu with bobs := t.shu.bobs }, beam := { s.beam with picks := t.beam.picks } }
        ∧ t.pick p = some { k.issuesPn with cipher := some x }
        ∧ x.isOpen = true ∧ x.d = d ∧ x.bob = b ∧ x.aad = ((s.bob b).rd a).toNat ∧ x.sci = (s.bob b).rd c
        ∧ x.snap = sn ∧ x.assoc = k.assoc ∧ x.pn = k.pn ∧ x.phase = .requested ∧ x.cut = decide (imm = 1)
        ∧ x.level = (if k.cls = 7 ∨ imm = 1 then 2 else 1)
        ∧ (t.bob b).pc = (s.bob b).pc + 1 ∧ (t.bob b).busy d = (d != 0) ∧ (∀ r, (t.bob b).rd r = (s.bob b).rd r))

/-- R93, R94: OPEN_SERVE, OPEN_VERDICT_COMMIT and SEAL_DONE for a pick that its bobbin b still runs, without a
disposition. That REPLAY is decided on the number taken at issue and on the REPLAY and WINDOW of the snapshot is log entry 84;
that a number verified before a cluster fault is not checked again is log entry 102. -/
def Obligations.CipherCompletes : Prop :=
  ∀ (s : State) (p : Nat) (k : Pick) (c : Cipher) (live : Slot),
    s.pick p = some k → k.cipher = some c → k.disp = 0 → (s.bob c.bob).pick = some p → c.d ≠ 0 →
    live = (s.assoc c.assoc.toNat).slot (c.snap.slot.getD k.slot) →
    (c.isOpen = true → c.phase = .requested → k.ordWait = false → k.memTrap = false →
      s.lowerHolds p k Pick.holdsPn = false →
      ∃ t k', exec (.openServe p) s = .next t ∧ t.pick p = some k' ∧ k'.pnPassed = true ∧ k'.frame = k.frame
        ∧ t.tab.assocs = s.tab.assocs
        ∧ ((c.pn = 0 ∨ c.snap.entry.replay = true ∧ c.pn.toNat < live.pn.toNat) → k.verified ≠ some (c.assoc, c.pn) →
            ((t.bob c.bob).rd c.d).toNat / 2 ^ 56 = 4 ∧ (t.bob c.bob).busy c.d = false ∧ t.cie = s.cie)
        ∧ ((c.pn ≠ 0 ∧ (c.snap.entry.replay = false ∨ live.pn.toNat ≤ c.pn.toNat))
              ∨ k.verified = some (c.assoc, c.pn) →
            ∃ j, t.cie = { s.cie with jobs := s.cie.jobs ++ [j], next := s.cie.next + 1 } ∧ j.kind = .opn
              ∧ j.pick = some p ∧ j.st = .queued ∧ j.level = c.level))
    ∧ (∀ ok bytes, c.isOpen = true → c.phase = .engineDone → c.result = some (ok, bytes) → s.earlierOpen p c = false →
      (c.pn ≠ 0 ∧ (c.snap.entry.replay = true → live.pn.toNat ≤ c.pn.toNat)) ∨ k.verified = some (c.assoc, c.pn) →
      ∃ t k', exec (.openVerdictCommit p) s = .next t ∧ t.pick p = some k' ∧ (t.bob c.bob).busy c.d = false
        ∧ ((t.bob c.bob).rd c.d).toNat / 2 ^ 56 = (if ok then 0 else 3)
        ∧ ((t.bob c.bob).rd c.d).toNat % 2 ^ 16 = (if ok then bytes.length else k.frame.length) % 2 ^ 16
        ∧ k'.frame = (if ok then bytes else k.frame) ∧ k'.opened = (ok || k.opened)
        ∧ (∀ i, i ≠ c.assoc.toNat → t.assoc i = s.assoc i)
        ∧ (ok = false → t.tab.assocs = s.tab.assocs)
        ∧ (ok = true → live.loads = (c.snap.entry.slot (c.snap.slot.getD k.slot)).loads →
            live.pn.toNat ≤ ((t.assoc c.assoc.toNat).slot (c.snap.slot.getD k.slot)).pn.toNat
            ∧ (c.pn.toNat + 1 - c.snap.entry.window.toNat < 2 ^ 64 →
                ((t.assoc c.assoc.toNat).slot (c.snap.slot.getD k.slot)).pn.toNat
                  = max live.pn.toNat (c.pn.toNat + 1 - c.snap.entry.window.toNat))))
    ∧ (∀ ok bytes, c.isOpen = true → c.phase = .engineDone → c.result = some (ok, bytes) → s.earlierOpen p c = false →
      (c.pn = 0 ∨ c.snap.entry.replay = true ∧ c.pn.toNat < live.pn.toNat) → k.verified ≠ some (c.assoc, c.pn) →
      ∃ t k', exec (.openVerdictCommit p) s = .next t ∧ t.pick p = some k' ∧ k'.frame = k.frame ∧ k'.opened = k.opened
        ∧ ((t.bob c.bob).rd c.d).toNat / 2 ^ 56 = 4 ∧ (t.bob c.bob).busy c.d = false ∧ t.tab.assocs = s.tab.assocs)
    ∧ (∀ ok bytes, c.isOpen = false → c.phase = .engineDone → c.result = some (ok, bytes) →
      ∃ t k', exec (.sealDone p) s = .next t ∧ t.pick p = some k' ∧ k'.frame = bytes ∧ k'.seq = k.seq
        ∧ t.bob c.bob = (s.bob c.bob).finish c.d (BitVec.ofNat 64 (bytes.length % 2 ^ 16))
        ∧ t = { s with shu := { s.shu with bobs := t.shu.bobs }, beam := { s.beam with picks := t.beam.picks } })

/-- R163 to R170: the four moves of jobs (log entries 23 and 93). Job names are distinct in the states the block reaches, which the clauses ask
of the state at hand. -/
def Obligations.EngineJobs : Prop :=
  ∀ (s : State) (e : Nat) (j : Job),
    s.cie.jobs.Pairwise (fun x y => x.id ≠ y.id) →
    (s.kcu.drbg = 2 → s.nextJob = some j →
      (s.idleFor j = some e ∨ s.idleFor j = none ∧ s.victimFor j.level = some e) →
      ∃ t j', exec .engineJobStart s = .next t ∧ j' ∈ t.cie.jobs ∧ j'.id = j.id ∧ j'.st = .running e
        ∧ j'.startedAt = s.tb.elapsed ∧ j'.constant = s.profileOf (e / 2) ∧ j'.pick = j.pick
        ∧ (∀ v, s.idleFor j = none → s.jobOn e = some v → ∃ v' ∈ t.cie.jobs, v'.id = v.id ∧ v'.st = .doomed e)
        ∧ (t.pair (e / 2)).ctx.head? = some j.ctx ∧ t.beam = s.beam ∧ t.tab = s.tab ∧ t.sch = s.sch)
    ∧ (exec (.jobSuspend e) s = .next { s with cie := { s.cie with jobs := s.cie.jobs.map (fun x =>
        if x.st = .doomed e then { x with st := .suspended e, saved := Config.blocksUsed x.id s.tb.elapsed } else x) } })
    ∧ (∀ p k c, s.jobOn e = some j → j.stalled = false → s.cie.jobs.any (fun x => x.st == .doomed e) = false →
      (j.constant = true ∨ s.jobBlocks j - j.paid ≤ (s.pair (e / 2)).blocks) →
      j.pick = some p → s.pick p = some k → k.cipher = some c →
      ∃ t r, exec (.engineJobComplete e) s = .next t
        ∧ r = (if c.isOpen then c.opened k.frame else (true, c.sealed k.frame))
        ∧ t.pick p = some { k with cipher := some { c with phase := .engineDone, result := some r } }
        ∧ (∀ x ∈ t.cie.jobs, x.id ≠ j.id)
        ∧ t = { s with beam := { s.beam with picks := t.beam.picks },
                       cie := { s.cie with jobs := t.cie.jobs, pairs := t.cie.pairs } })
    ∧ (s.jobOn e = some j → j.stalled = true → s.kcu.drbg = 2 →
      ∃ t, exec (.maskStallEnd e) s = .next t
        ∧ t.cie.jobs = s.cie.jobs.map (fun x => if x.id = j.id then { j with stalled := false } else x)
        ∧ (t.pair (e / 2)).blocks = (s.pair (e / 2)).blocks + 65536
        ∧ (t.pair (e / 2)).seededAt = s.tb.elapsed ∧ t.kcu.draws = s.kcu.draws + 1
        ∧ t = { s with cie := { s.cie with jobs := t.cie.jobs, pairs := t.cie.pairs }, kcu := t.kcu })

/-- R96 to R98: the check-value instructions, before any cipher operation of the pick, and the completion of CRC_GET as
the first operation pending; bits 55:34 of its result are free. What CRC_GET leaves in the context is log entry 83, which of
two compares it reports log entry 103. -/
def Obligations.CheckValues : Prop :=
  ∀ (s : State) (b p : Nat) (d a c : Reg) (imm : BitVec 6) (k : Pick) (B : Bobbin) (x n : Nat) (ctx pr : CrcCtx),
    B = s.bob b → k.cipher = none → k.opened = false → x = (B.rd a).toNat → n = (B.rd c).toNat →
    (s.mayIssueRun b (encU 0x25 d a c 0 imm) [a, c] p k = true → n ≠ 0 → x + n ≤ k.frame.length →
      exec (.crcRun b d a c imm) s = .next (s.setBob b
        ({ B with crc := B.crc.feed ((k.frame.drop x).take n) }.goes (B.pc + 1))))
    ∧ (s.mayIssueRun b (encU 0x25 d a c 1 imm) [a] p k = true → B.crc.w + x ≤ k.frame.length →
      ctx = B.crc.feed ((k.frame.drop x).take (k.frame.length - B.crc.w - x)) →
      exec (.crcChk b d a c imm) s = .next (s.setBob b
        ({ B with crc := { ctx with chk := some (ctx.stored == k.frame.drop (k.frame.length - B.crc.w), B.crc.w) } }.goes
          (B.pc + 1))))
    ∧ (s.mayIssueRun b (encU 0x25 d a c 2 imm) [d] p k = true →
      exec (.crcGet b d a c imm) s = .next (s.setBob b
        ({ B with crc := { B.crc with chk := none } }.goesAsync d (.crcGet
          (BitVec.ofNat 64 ((if imm.getLsbD 0 then B.crc.reg.toNat else B.crc.value)
            + (if B.crc.chk.isSome then 2 ^ 32 else 0) + (if B.crc.matched then 2 ^ 33 else 0)))
          (match B.crc.chk with
            | some (true, w) => w
            | _ => 0)) s.tb.elapsed)))
    ∧ (s.mayIssueRun b (encU 0x25 d a c 3 imm) [a] p k = true →
      pr = s.profile (imm.toNat % 16) →
      exec (.crcSet b d a c imm) s = .next (s.setBob b
        ({ B with crc := { (if imm.getLsbD 4 then { pr with reg := BitVec.ofNat 32 (x % 2 ^ (8 * pr.w)) } else pr) with
          chk := B.crc.chk } }.goes (B.pc + 1))))
    ∧ (∀ v strip pc at_ rest, B.pick = some p → s.pick p = some k → B.pend = ⟨d, .crcGet v strip, pc, at_⟩ :: rest →
      ∃ t, exec (.crcGetDone b d) s = .next t
        ∧ t.pick p = some { k with frame := k.frame.take (k.frame.length - strip) }
        ∧ (d ≠ 0 → ((t.bob b).rd d).toNat % 2 ^ 34 = v.toNat % 2 ^ 34 ∧ ((t.bob b).rd d).toNat / 2 ^ 56 = 0)
        ∧ (∀ r, r ≠ d → (t.bob b).rd r = B.rd r) ∧ (t.bob b).busy d = false
        ∧ t = { s with shu := { s.shu with bobs := t.shu.bobs }, beam := { s.beam with picks := t.beam.picks } })

/-- R99, R274, R100: POL with an index the variant has, and TB. Bucket levels stand in units of 1/125 byte. That TB 2 reads the
time of day is log entry 11. -/
def Obligations.ColourAndTime : Prop :=
  ∀ (s : State) (b p : Nat) (d a c : Reg) (imm : BitVec 6) (k : Pick) (i u : Nat) (pl pl' : Policer),
    (s.mayIssueRun b (encU 0x26 d a c 0 imm) [d, a, c] p k = true → imm.toNat < 2 → s.tb.elapsed < s.sch.lastTick + 64 →
      i = ((s.bob b).rd a).toNat % 2 ^ 20 → i < s.variant.policers → pl = tget {} s.sch.pols i →
      u = 125 * (if c = 0 then k.frame.length else ((s.bob b).rd c).toNat) →
      ∀ col : BitVec 2, col = (if (imm = 1 ∧ k.color = 2) ∨ pl.tp < u then 2
                 else if (imm = 1 ∧ k.color = 1) ∨ pl.tc < u then 1 else 0) →
      pl' = { tc := if col = 0 then pl.tc - u else pl.tc, tp := if col = 2 then pl.tp else pl.tp - u } →
      exec (.pol b d a c imm) s = .next
        (({ s with sch := { s.sch with pols := tset {} s.sch.pols i pl' } }.setPick p { k with color := col }).setBob b
          (((s.bob b).wr d (col.setWidth 64)).goes ((s.bob b).pc + 1))))
    ∧ (s.mayIssueRun b (encU 0x27 d a c 0 imm) [d] p k = true → imm.toNat < 3 →
      exec (.tb b d a c imm) s = .next (s.setBob b
        { ((s.bob b).wr d (if imm = 0 then BitVec.ofNat 64 (s.tb.tod / 10 ^ 9 % 2 ^ 48)
            else if imm = 1 then BitVec.ofNat 64 ((s.bob b).tbNs.getD (s.tb.tod % 10 ^ 9))
            else BitVec.ofNat 64 s.tb.tod)).goes ((s.bob b).pc + 1) with
          tbNs := if imm = 0 then some (s.tb.tod % 10 ^ 9) else none }))

/-! ### Ezgus: dispositions, counting, waiting, ending, traps -/

/-- R101, R85: a bobbin whose pick has just taken its disposition: it keeps the record and its scratch operations (which
name g0 alone), and goes on to the next word. -/
def Claims.ended (B : Bobbin) (done : Pick) : Bobbin :=
  { B with pick := none, left := some done, pend := B.pend.filter (fun o => o.op.isScratch) }.goes (B.pc + 1)

/-- R101 to R106: ENQ, PUNT, FWD and MIRROR of a running pick. `done` is the record that the bobbin keeps; the slot
reference may be given back (R139). -/
def Obligations.DispositionEndsPick : Prop :=
  ∀ (s : State) (b p : Nat) (d a c : Reg) (imm : BitVec 6) (k : Pick) (x y : DWord),
    x = (s.bob b).rd a → y = (s.bob b).rd c →
    (s.mayIssueRun b (encU 0x28 d a c 0 imm) [] p k = true → (s.bob b).sb = 0 → imm.toNat < 4 →
      (imm.getLsbD 1 = true → (s.bob b).pends AsyncOp.isLookAt = false) →
      (imm.getLsbD 1 = true → k.lookedUp = true) → k.openFailed = false → k.frame.length ≤ 16128 →
      ∃ t done, exec (.enq b d a c imm) s = .next t
        ∧ done = { k with
            queue := (if imm.getLsbD 0 then x.extractLsb' 0 14 else k.queue)
              + (if imm.getLsbD 1 then (k.snap.map (fun sn => sn.entry.qbase)).getD 0 else 0),
            disp := 1, st := .ended, ordWait := false, endFrame := some k.frame, refHeld := done.refHeld }
        ∧ t.pick p = some done ∧ t.bob b = Claims.ended (s.bob b) done
        ∧ t = { s with shu := { s.shu with bobs := t.shu.bobs }, beam := { s.beam with picks := t.beam.picks },
                       tab := { s.tab with refs := t.tab.refs } })
    ∧ (s.mayIssueRun b (encU 0x2A d a c 0 imm) [a] p k = true → (s.bob b).sb = 0 →
      ∃ t done, exec (.punt b d a c imm) s = .next t
        ∧ done = { k with
            puntTo := some (x.extractLsb' 0 8, imm.toNat), disp := 3, left := true, st := .ended, ordWait := false,
            endFrame := some k.frame, refHeld := done.refHeld }
        ∧ t.pick p = some done ∧ t.bob b = Claims.ended (s.bob b) done
        ∧ t = { s with shu := { s.shu with bobs := t.shu.bobs }, beam := { s.beam with picks := t.beam.picks },
                       tab := { s.tab with refs := t.tab.refs } })
    ∧ (s.mayIssueRun b (encU 0x2B d a c 0 imm) [a, c] p k = true → (s.bob b).sb = 0 →
      (imm.toNat = 3 ∨ 6 ≤ imm.toNat ∧ imm.toNat < 16) → (c = 0 ∨ y.toNat % 2 ^ 16 ≠ 0) → k.openFailed = false →
      0 < s.variant.weftPorts → k.frame.length ≤ 16128 →
      ∃ t done, exec (.fwd b d a c imm) s = .next t
        ∧ done = { k with
            fwdTo := some (x.extractLsb' 0 16, imm.toNat, y.toNat % 2 ^ 16), disp := 4, st := .ended, ordWait := false,
            endFrame := some k.frame, refHeld := done.refHeld }
        ∧ t.pick p = some done ∧ t.bob b = Claims.ended (s.bob b) done
        ∧ t = { s with shu := { s.shu with bobs := t.shu.bobs }, beam := { s.beam with picks := t.beam.picks },
                       tab := { s.tab with refs := t.tab.refs } })
    ∧ (s.mayIssueRun b (encU 0x2C d a c 0 imm) [a] p k = true → imm.toNat < 4 → k.mirrorCount < 2 →
      exec (.mirror b d a c imm) s = .next ((s.setPick p { k with
          mirrors := k.mirrors ++ [{ toQueue := imm.getLsbD 0,
                                     target := x.toNat % (if imm.getLsbD 0 then 16384 else 64),
                                     original := imm.getLsbD 1 }],
          mirrorCount := k.mirrorCount + 1 }).setBob b ((s.bob b).goes ((s.bob b).pc + 1))))

/-- R103, R50: DROP of a running pick; a cancelled job has used mask randomness, which may draw a seed (R169); results
that pend are given up as log entry 19 says. -/
def Obligations.DropEndsPick : Prop :=
  ∀ (s : State) (b p : Nat) (d a c : Reg) (imm : BitVec 6) (k : Pick) (r : Nat),
    s.mayIssueRun b (encU 0x29 d a c 0 imm) [a] p k = true → r = ((s.bob b).rd a).toNat % 256 →
    ((r = 3 ∨ r = 7 ∨ r = 8 ∨ 64 ≤ r) →
      ∃ t, exec (.dropPick b d a c imm) s = .next t
        ∧ (k.mirrors = [] → t.pick p = none)
        ∧ (k.mirrors ≠ [] → ∃ k', t.pick p = some k' ∧ k'.disp = 2 ∧ k'.reason.toNat = r ∧ k'.left = true
            ∧ k'.st = .ended ∧ k'.mirrors = k.mirrors ∧ k'.cipher = none)
        ∧ (∀ q, q ≠ p → t.pick q = s.pick q) ∧ (∀ j ∈ t.cie.jobs, j.pick ≠ some p)
        ∧ t.bob b = { s.bob b with pick := none, left := some { k with disp := 2, reason := BitVec.ofNat 8 r },
                                   sb := 0, pend := [], fenced := false }.goes ((s.bob b).pc + 1)
        ∧ t = { s with shu := t.shu, beam := t.beam, cie := { s.cie with jobs := t.cie.jobs, pairs := t.cie.pairs },
                       kcu := { s.kcu with draws := t.kcu.draws, requests := t.kcu.requests },
                       tab := { s.tab with refs := t.tab.refs }, evc := t.evc, hif := t.hif, out := t.out })
    ∧ (¬ (r = 3 ∨ r = 7 ∨ r = 8 ∨ 64 ≤ r) →
      exec (.dropPick b d a c imm) s = .next (s.trapAt b .illegal (s.bob b).pc (encU 0x29 d a c 0 imm)))

/-- R108: WAIT with imm[0] = 0 (mask a[31:0]) and with imm[0] = 1 (the whole scoreboard, a ignored). That the slot of a WAIT which
does not issue ends the latch of a `tb 0` before it is the model's reading (log entry 100). -/
def Obligations.WaitOnScoreboard : Prop :=
  ∀ (s : State) (b : Nat) (d a c : Reg) (imm : BitVec 6) (k : Pick) (mask : Word),
    s.mayIssue b (encU 0x2E d a c 0 imm) (if imm.getLsbD 0 then [] else [a]) k = true →
    mask = (if imm.getLsbD 0 then 0xFFFF_FFFF else ((s.bob b).rd a).extractLsb' 0 32) →
    ((∀ n, n < 32 → mask.getLsbD n = true → (s.bob b).sb.getLsbD n = false) →
      exec (.waitSb b d a c imm) s = .next (s.setBob b ((s.bob b).goes ((s.bob b).pc + 1))))
    ∧ ((∃ n, n < 32 ∧ mask.getLsbD n = true ∧ (s.bob b).sb.getLsbD n = true) →
      ∃ t, exec (.waitSb b d a c imm) s = .next t ∧ (t.bob b).pc = (s.bob b).pc ∧ (t.bob b).count = (s.bob b).count
        ∧ t = s.setBob b { s.bob b with tbNs := none })

/-- R107, R474: EVC_INC and EVC_ADD (a sum below the counter's end), and R110: HALT. That the slot of a
HALT which waits ends the latch of a `tb 0` before it is the model's reading (log entry 100). -/
def Obligations.CountAndHalt : Prop :=
  ∀ (s : State) (b : Nat) (d a c : Reg) (imm : BitVec 6) (k : Pick) (n : Nat),
    n = ((s.bob b).rd a).toNat % 4096 →
    (∀ e ∈ [((0 : Nat), Instr.evcInc b d a c imm, [a], (1 : Nat)),
            (1, Instr.evcAdd b d a c imm, [a, c], ((s.bob b).rd c).toNat % 2 ^ 48)],
      s.mayIssue b (encU 0x2D d a c e.1 imm) e.2.2.1 k = true →
      ((s.evcCfg n).src = 255 → (s.evcCfg n).chain = false → tget 0 s.evc.cnt n + e.2.2.2 < 2 ^ 48 - 1 →
        exec e.2.1 s = .next
          ({ s with evc := { s.evc with cnt := tset 0 s.evc.cnt n (tget 0 s.evc.cnt n + e.2.2.2) } }.setBob b
            ((s.bob b).goes ((s.bob b).pc + 1))))
      ∧ ((s.evcCfg n).src ≠ 255 ∨ (s.evcCfg n).chain = true →
        ∃ t, exec e.2.1 s = .next t ∧ t.evc = (s.occurPick k .progDenied n).evc
          ∧ t.bob b = (s.bob b).goes ((s.bob b).pc + 1) ∧ (∀ b', b' ≠ b → t.bob b' = s.bob b')
          ∧ t = { s with shu := { s.shu with bobs := t.shu.bobs }, evc := t.evc, hif := t.hif, out := t.out }))
    ∧ (s.mayIssue b (encU 0x30 d a c 0 imm) [] k = true →
      ((s.bob b).sb = 0 → k.disp ≠ 0 → ∃ t, exec (.halt b d a c imm) s = .next t
        ∧ t.bob b = {} ∧ (∀ b', b' ≠ b → t.bob b' = s.bob b')
        ∧ t = { s with shu := { s.shu with bobs := t.shu.bobs, scratch := t.shu.scratch } }
        ∧ ((s.bob b).pend = [] → t.shu.scratch = s.shu.scratch))
      ∧ ((s.bob b).sb = 0 → k.disp = 0 →
        exec (.halt b d a c imm) s = .next (s.trapAt b .noend (s.bob b).pc (encU 0x30 d a c 0 imm)))
      ∧ ((s.bob b).sb ≠ 0 → exec (.halt b d a c imm) s = .next (s.setBob b { s.bob b with tbNs := none })))

/-- R67: the codes of the traps. -/
def Claims.trapCode : Trap → Nat
  | .illegal => 1
  | .absent => 2
  | .window => 3
  | .budget => 4
  | .noend => 5
  | .scratch => 6
  | .mem => 7
  | .program => 8

/-- R67 to R69, R71: where TRAP, ILLEGAL_FETCH, the budget and the window trap, and what taking a trap leaves, for a pick that
still runs. That g3 is 0 after a fetch beyond the card is log entry 10, the pc shown for a branch target outside every card log
entry 113, the trap of a `wedit` whose offset lies outside the working copy log entry 97. -/
def Obligations.TrapTaken : Prop :=
  (∀ (s : State) (b p : Nat) (d a c : Reg) (imm : BitVec 6) (k : Pick),
    s.mayIssueRun b (encU 0x2F d a c 0 imm) [] p k = true →
    ∃ t, exec (.trapProg b d a c imm) s = .next t ∧ t = s.trapAt b .program (s.bob b).pc (encU 0x2F d a c 0 imm)
      ∧ (t.clu (b / 128)).trapLast = (8, (s.bob b).pc % 16384, b / 8 % 16, b % 8, (s.bob b).inHandler)
      ∧ ∀ e, (s.bob b).inHandler = false → s.entry (b / 128) 5 = some e →
          t.pick p = some k ∧ (t.bob b).pc = e ∧ (t.bob b).inHandler = true ∧ (t.bob b).rd 1 = 8
          ∧ (t.bob b).rd 2 = BitVec.ofNat 64 (s.bob b).pc
          ∧ (t.bob b).rd 3 = (encU 0x2F d a c 0 imm).setWidth 64 ∧ (∀ b', b' ≠ b → t.bob b' = s.bob b'))
  ∧ (∀ (s : State) (b : Nat) (k : Pick), s.bobPick b = some k →
    (s.fetchWord b = none → exec (.illegalFetch b) s = .next (s.trapAt b .illegal (s.bob b).pc 0))
    ∧ ∀ w, s.fetchWord b = some w → reservedWord w = true →
        exec (.illegalFetch b) s = .next (s.trapAt b .illegal (s.bob b).pc w))
  ∧ (∀ e ∈ Claims.aluTwo, ∀ (s : State) (b : Nat) (d a c : Reg) (k : Pick),
    s.bobPick b = some k → k.cellWait = false → s.fetchWord b = some (encA 0 d a c e.1) →
    (s.bob b).busy d = false → (s.bob b).busy a = false → (s.bob b).busy c = false →
    s.budget (s.bob b) ≤ (s.bob b).count →
    exec (e.2.1 b d a c) s = .next (s.trapAt b .budget (s.bob b).pc (encA 0 d a c e.1)))
  ∧ (∀ (s : State) (b : Nat) (d a c : Reg) (imm : BitVec 16) (k : Pick),
    s.bobPick b = some k → k.cellWait = false → (∀ r ∈ [d, a, c], (s.bob b).busy r = false) →
    s.budget (s.bob b) ≤ (s.bob b).count →
    (∀ e ∈ Claims.aluOne, s.fetchWord b = some (encA 0 d a c e.1) →
      exec (e.2.1 b d a c) s = .next (s.trapAt b .budget (s.bob b).pc (encA 0 d a c e.1)))
    ∧ (∀ e ∈ Claims.immediates, s.fetchWord b = some (encI e.1 d a imm) →
      exec (e.2.1 b d a imm) s = .next (s.trapAt b .budget (s.bob b).pc (encI e.1 d a imm)))
    ∧ (∀ e ∈ Claims.branches, s.fetchWord b = some (encB e.1 a c imm) →
      exec (e.2.1 b a c imm) s = .next (s.trapAt b .budget (s.bob b).pc (encB e.1 a c imm))))
  ∧ (∀ (s : State) (b p : Nat) (d a : Reg) (size : BitVec 2) (sub : BitVec 4) (off : BitVec 10) (k : Pick) (e w : Int)
      (n len : Nat),
    sub.getLsbD 2 = false → sub.getLsbD 3 = false → e = effOffset (s.bob b) a off → w = k.woff.toInt → len = k.frame.length →
    (n = 2 ^ size.toNat →
      (s.mayIssueRun b (encW 0x18 d a size sub off) [d, a] p k = true → (e < -64 ∨ 511 < e + n - 1) →
        exec (.ldw b d a size sub off) s = .next (s.trapAt b .window (s.bob b).pc (encW 0x18 d a size sub off)))
      ∧ (s.mayIssueRun b (encW 0x19 d a size sub off) [d, a] p k = true → k.cipher = none → k.opened = false →
        (e < -64 ∨ 511 < e + n - 1 ∨ e < w ∨ w + len < e + n) →
        exec (.stw b d a size sub off) s = .next (s.trapAt b .window (s.bob b).pc (encW 0x19 d a size sub off))))
    ∧ (s.mayIssueRun b (encW 0x1A d a 0 sub off) [d, a] p k = true → sub.getLsbD 1 = false → k.cipher = none →
      k.opened = false → n = ((s.bob b).rd d).toNat → 1 ≤ n → n ≤ 64 →
      (sub.getLsbD 0 = true → (e < w ∨ w + len < e + n ∨ 511 < e + n - 1 ∨ 511 < w + n ∨ len < 14 + n ∨ 16128 + n < len) →
        exec (.wedit b d a 0 sub off) s = .next (s.trapAt b .window (s.bob b).pc (encW 0x1A d a 0 sub off)))
      ∧ (sub.getLsbD 0 = false → (e < w ∨ w + len < e ∨ 512 < e ∨ (511 < e ∧ e < w + len) ∨ w - n < -64
          ∨ 16128 < len + n ∨ len + n < 14) →
        exec (.wedit b d a 0 sub off) s = .next (s.trapAt b .window (s.bob b).pc (encW 0x1A d a 0 sub off)))))
  ∧ ∀ (s t : State) (b p pc : Nat) (tr : Trap) (w : Word) (k : Pick),
    (s.bob b).left = none → (s.bob b).pick = some p → s.pick p = some k → t = s.trapAt b tr pc w →
    (t.clu (b / 128)).trapLast =
        (BitVec.ofNat 4 (Claims.trapCode tr), pc % 16384, b / 8 % 16, b % 8, (s.bob b).inHandler)
    ∧ (∀ b', b' ≠ b → t.bob b' = s.bob b') ∧ (∀ q, q ≠ p → t.pick q = s.pick q)
    ∧ (∀ e, tr ≠ .mem → (s.bob b).inHandler = false → s.entry (b / 128) 5 = some e →
        t.pick p = some k ∧ (t.bob b).pc = e ∧ (t.bob b).inHandler = true
        ∧ (t.bob b).rd 1 = BitVec.ofNat 64 (Claims.trapCode tr) ∧ (t.bob b).rd 2 = BitVec.ofNat 64 pc
        ∧ (t.bob b).rd 3 = w.setWidth 64 ∧ (∀ r, 3 < r.toNat → (t.bob b).rd r = (s.bob b).rd r)
        ∧ (t.bob b).count = (s.bob b).count ∧ t.budget (t.bob b) = s.field .shuBudget 0 0 16 + 256
        ∧ (t.bob b).sb = (s.bob b).sb ∧ t.shu.scratch = s.shu.scratch)
    ∧ (tr = .mem ∨ (s.bob b).inHandler = true ∨ s.entry (b / 128) 5 = none →
        t.evc = ((s.occurPick k .trap (Claims.trapCode tr)).occurPick k .dropReason (if tr = .mem then 2 else 1)).evc
        ∧ t.bob b = {} ∧ (k.mirrors = [] → t.pick p = none)
        ∧ (k.mirrors ≠ [] → tr ≠ .mem → ∃ k', t.pick p = some k' ∧ k'.disp = 2 ∧ k'.reason = 1))

/-! ### Picks, queues and ports -/

/-- R11, R12, R335: FRAME_RECEIVE on a port that takes frames. That the pick takes the lowest free slot is log entry 15, the count
its arrival shows log entry 11. -/
def Obligations.FrameBecomesPick : Prop :=
  ∀ (s : State) (port : Nat) (frame body : Bytes) (p : Nat),
    s.portKind port = .eth → s.portEn port = true → (s.port port).link = true →
    body = frame.take (frame.length - 4) → p = firstFree s.beam.picks 0 →
    (4 ≤ frame.length → fcs body ≠ frame.drop (frame.length - 4) →
      exec (.frameReceive port frame) s = .next (s.occur .lneFcs port))
    ∧ (4 ≤ frame.length → fcs body = frame.drop (frame.length - 4) →
      (frame.length < 64 → exec (.frameReceive port frame) s = .next (s.occur .lneRunt port))
      ∧ (64 ≤ frame.length → s.field .lnePortCfg port 16 14 < frame.length - 4 →
        exec (.frameReceive port frame) s = .next (s.occur .lneGiant port))
      ∧ (64 ≤ frame.length → frame.length - 4 ≤ s.field .lnePortCfg port 16 14 →
        (slice body 12 2 = [0x88, 0x08] → exec (.frameReceive port frame) s = .next (s.occur .lneMacctl port))
        ∧ (slice body 12 2 ≠ [0x88, 0x08] → s.tagOff port = false → s.held = false → s.defClass port ≠ 7 →
          s.fits (cellsFor body.length) (s.field .schAdmSlots 0 0 17) (s.field .schAdmCells 0 0 19) = true →
          ∃ t k, exec (.frameReceive port frame) s = .next t ∧ t.pick p = some k
            ∧ k.st = .waiting ∧ k.frame = body ∧ k.orig = body ∧ k.seq = tget 0 s.beam.seqs (port % 4096)
            ∧ k.odom.toNat = port % 4096 ∧ k.port.toNat = port % 256 ∧ k.src = (if 32 ≤ port then 1 else 0)
            ∧ k.cls = s.defClass port ∧ k.disp = 0 ∧ k.astat = 7 ∧ k.vec = (if 32 ≤ port then 1 else 0)
            ∧ k.cells = (body.length + 64 + 127) / 128 ∧ k.arrival = s.now64
            ∧ (∀ x, tget 0 t.beam.seqs x = tget 0 s.beam.seqs x + (if x = port % 4096 then 1 else 0))
            ∧ (∀ q, q ≠ p → t.pick q = s.pick q) ∧ t = { s with beam := t.beam })))

/-- R125, R65, R66: PICK_DISPATCH to bobbin b of the cluster chosen; corners of dispatch rest on log entry 87. -/
def Obligations.PickDispatched : Prop :=
  ∀ (s : State) (b p : Nat) (k : Pick) (card : Card),
    s.held = false → s.firstWaiting s.generationGone = none →
    s.firstWaiting (fun x => (s.clusterFor x).isSome) = some (p, k) → s.clusterFor k = some (b / 128) →
    (s.bob b).pick = none → (s.bob b).left = none → (s.clu (b / 128)).card = some card →
    (∀ e, card.entry[k.vec]? = some e → e ≠ 0xFFFF →
      ∃ t, exec (.pickDispatch b) s = .next t
        ∧ t.bob b = { pick := some p, pc := e } ∧ (∀ r, (t.bob b).rd r = 0) ∧ (∀ r, (t.bob b).busy r = false)
        ∧ t.pick p = some { k with st := .running, gen := card.gen } ∧ (∀ q, q ≠ p → t.pick q = s.pick q)
        ∧ (∀ b', b' ≠ b → t.bob b' = s.bob b')
        ∧ t = { s with shu := { s.shu with bobs := t.shu.bobs }, beam := { s.beam with picks := t.beam.picks },
                       pmc := { s.pmc with doms := t.pmc.doms } })
    ∧ ((card.entry[k.vec]? = none ∨ card.entry[k.vec]? = some 0xFFFF) →
      exec (.pickDispatch b) s = .next (s.dropPick p 6))

/-- R30, R31, R106, R123, R281: what happens to a pick after its end, without mirror copies and with one. How many cells a waiting
cipher operation needs is log entry 14, that copies wait for lower picks' records log entry 104. -/
def Obligations.PickReleased : Prop :=
  (∀ (s : State) (p : Nat) (k k' : Pick), s.pick p = some k → k.mirrors = [] → k.st = .ended →
    k' = { k with left := true, st := .queued, queuedAt := s.tb.elapsed } →
    (∀ s' q, k.disp = 1 → s.held = false → s.mayRelease k = true → s.lowerHolds p k Pick.holdsRel = false →
      s' = s.setPick p k' → q = k.queue.toNat → s.portKind (s.qPort q) ≠ .none →
      (s.portKind (s.qPort q) = .eth → s.tagOff (s.qPort q) = false) → (s.reg .schQMap q).getLsbD 9 = true →
      s'.depth q + s'.shapedLen (s.qPort q) (.pick p) ≤ s.field .schQMap q 19 12 * 16384 → s.spills q = false →
      ∃ t, exec (.pickRelease p) s = .next t ∧ t.pick p = some k'
        ∧ (t.queue q).fifo = (s.queue q).fifo ++ [.pick p] ∧ (∀ x, x ≠ q → t.queue x = s.queue x)
        ∧ t = { s with beam := { s.beam with picks := t.beam.picks },
                       sch := { s.sch with queues := t.sch.queues, ports := t.sch.ports } })
    ∧ (∀ dest vec budget n, k.disp = 4 → s.held = false → s.mayRelease k = true →
      s.lowerHolds p k Pick.holdsRel = false → k.fwdTo = some (dest, vec, budget) → dest ≠ 0 → dest ≠ 0xFFFF →
      dest.toNat ≠ s.devId → s.routeTo dest.toNat = some n →
      ∃ t f, exec (.pickRelease p) s = .next t ∧ t.pick p = none
        ∧ (t.wport n).wait = (s.wport n).wait ++ [f] ∧ f.dest = dest ∧ f.src.toNat = s.devId ∧ f.vec = vec
        ∧ f.frame = k.frame ∧ f.budget = (if budget = 0 then s.field .wftPortBudget n 0 16 else budget)
        ∧ f.cls = k.cls ∧ f.u = (k.u0, k.u1, k.u2) ∧ f.pn = k.pn ∧ f.assoc = k.assoc
        ∧ t = { s with beam := { s.beam with picks := t.beam.picks }, weft := t.weft })
    ∧ ((k.disp = 2 ∨ k.disp = 3) → k.cipher = none → s.lowerHolds p k Pick.holdsRec = false →
      (k.puntTo = none → exec (.puntMirrorRelease p) s = .next (s.delPick p))
      ∧ ∀ code dom, k.puntTo = some (code, dom) → (s.ring dom 3).en = false →
        s.beam.puntWait.any (fun x => x.dom == dom) = false →
        ∃ t, exec (.puntMirrorRelease p) s = .next t ∧ t.pick p = none
          ∧ (t.ring dom 3).lost.toNat = min 0xFFFF_FFFF ((s.ring dom 3).lost.toNat + 1)
          ∧ t = { s with beam := { s.beam with picks := t.beam.picks }, hif := { s.hif with rings := t.hif.rings } }))
  ∧ (∀ (s : State) (p : Nat) (k k' : Pick) (m : Mirror) (f : Bytes) (x : QFrame),
    s.pick p = some k → k.mirrors = [m] → k.st = .ended → s.lowerHolds p k Pick.holdsRec = false →
    f = (if m.original then k.orig else k.endFrame.getD k.frame) → x = k.asFrame f true s.tb.elapsed →
    (k.disp = 2 → k.puntTo = none → k.cipher = none →
      (m.toQueue = true → s.portKind (s.qPort m.target) ≠ .none →
        (s.portKind (s.qPort m.target) = .eth → s.tagOff (s.qPort m.target) = false) →
        (s.reg .schQMap m.target).getLsbD 9 = true → s.spills m.target = false →
        s.depth m.target + s.shapedLen (s.qPort m.target) (.held x) ≤ s.field .schQMap m.target 19 12 * 16384 →
        ∃ t, exec (.puntMirrorRelease p) s = .next t ∧ t.pick p = none ∧ x.frame = f
          ∧ (t.queue m.target).fifo = (s.queue m.target).fifo ++ [.held x] ∧ (∀ y, y ≠ m.target → t.queue y = s.queue y)
          ∧ t = { s with beam := { s.beam with picks := t.beam.picks },
                         sch := { s.sch with queues := t.sch.queues, ports := t.sch.ports } })
      ∧ (m.toQueue = false → (s.ring m.target 3).en = false →
        s.beam.puntWait.any (fun y => y.dom == m.target) = false →
        ∃ t, exec (.puntMirrorRelease p) s = .next t ∧ t.pick p = none
          ∧ (t.ring m.target 3).lost.toNat = min 0xFFFF_FFFF ((s.ring m.target 3).lost.toNat + 1)
          ∧ t = { s with beam := { s.beam with picks := t.beam.picks }, hif := { s.hif with rings := t.hif.rings } }))
    ∧ (∀ s' q, k.disp = 1 → s.held = false → s.mayRelease k = true → s.lowerHolds p k Pick.holdsRel = false →
      m.toQueue = false → (s.ring m.target 3).en = false →
      s.beam.puntWait.any (fun y => y.dom == m.target) = false →
      k' = { k with left := true, mirrors := [], st := .queued, queuedAt := s.tb.elapsed } →
      s' = s.setPick p k' → q = k.queue.toNat → s.portKind (s.qPort q) ≠ .none →
      (s.portKind (s.qPort q) = .eth → s.tagOff (s.qPort q) = false) → (s.reg .schQMap q).getLsbD 9 = true →
      s'.depth q + s'.shapedLen (s.qPort q) (.pick p) ≤ s.field .schQMap q 19 12 * 16384 → s.spills q = false →
      ∃ t, exec (.pickRelease p) s = .next t ∧ t.pick p = some k' ∧ (t.queue q).fifo = (s.queue q).fifo ++ [.pick p]
        ∧ (t.ring m.target 3).lost.toNat = min 0xFFFF_FFFF ((s.ring m.target 3).lost.toNat + 1)
        ∧ t = { s with beam := { s.beam with picks := t.beam.picks }, hif := { s.hif with rings := t.hif.rings },
                       sch := { s.sch with queues := t.sch.queues, ports := t.sch.ports } }))
  ∧ (∀ (s : State) (p : Nat) (k : Pick), s.pick p = some k →
    (∀ c, k.cipher = some c → c.phase = .cellWait → (k.frame.length + 16 + 127) / 128 ≤ s.cellsFree →
      exec (.cellWaitEnd p) s = .next (s.setPick p { k with
        cipher := some { c with phase := .job }, cells := k.cells + (k.frame.length + 16 + 127) / 128 }))
    ∧ (k.cipher = none → k.cellWait = true → 0 < s.cellsFree →
      exec (.cellWaitEnd p) s = .next (s.setPick p { k with cellWait := false })))
  ∧ ∀ (s u : State) (q : Nat) (f : QFrame) (mki x o : Nat) (rest : List QItem),
    (s.queue q).fifo = .spilled f mki x o :: rest → u = s.useLines true (s.spillLines f x o) →
    u.linesOff true (s.spillLines f x o) = false →
    (s.spillLines f x o).any (fun l => s.rerooted true l) = false → (f.frame.length + 64 + 127) / 128 ≤ s.cellsFree →
    (∀ l ∈ s.spillLines f x o, s.suspect true l = false) →
    (∃ t, exec (.spillReturn q true) s = .next t ∧ t.queue q = { s.queue q with fifo := .held f :: rest }
      ∧ (∀ y, y ≠ q → t.queue y = s.queue y)
      ∧ t = { s with sch := { s.sch with queues := t.sch.queues }, pmc := u.pmc,
                     msc := { s.msc with retried := t.msc.retried, lastFail := t.msc.lastFail } })
    ∧ ∃ t, exec (.spillReturn q false) s = .next t ∧ (t.queue q).fifo = rest
        ∧ t = { s with sch := { s.sch with queues := t.sch.queues, ports := t.sch.ports }, evc := t.evc, hif := t.hif,
                       out := t.out, pmc := u.pmc,
                       msc := { s.msc with retried := t.msc.retried, lastFail := t.msc.lastFail } }

/-- R267, R268, R177, R178: the course of one frame. `r` is the state after the selection's turns; which frames may start at once
is what `macStarts` and `framerStarts` say (log entries 88 and 131), which queue the turns reach log entry 89. -/
def Obligations.PortSendsFrame : Prop :=
  ∀ (s : State) (port p : Nat),
    (∀ r q i rest, s.portKind port = .eth → s.portEn port = true → (s.port port).link = true →
      (s.port port).tx = none → s.held = false → s.sliceOn port = true → s.tagOff port = false →
      s.tb.elapsed < s.sch.lastTick + 64 →
      s.portHeld port = false →
      s.selectQueue port (fun s i => s.macStarts port i) [7, 6, 5, 4, 3, 2, 1, 0] = (some q, r) →
      (r.queue q).fifo = i :: rest → s.cutPending i = false → r.cutPending i = false → r.itemBytes port i ≠ [] →
      (32 ≤ port → (r.itemBytes port i).length ≤ s.field .tagPortCfg (port - 32) 16 14) → r.regs = s.regs →
      r.tb = s.tb → r.variant = s.variant →
      ∃ t x, exec (.schedSelect port) s = .next t ∧ (t.queue q).fifo = rest ∧ (t.port port).tx = some x
        ∧ x.bytes = r.itemBytes port i ∧ x.cut = false ∧ x.poison = false
        ∧ x.pick = (match i with | .pick n => some n | _ => none)
        ∧ (∀ y, y ≠ q → t.queue y = r.queue y) ∧ t.beam = r.beam ∧ t.out = r.out)
    ∧ (∀ r q i rest g G u, s.portKind port = .woven g → s.clothReady g = true → s.tb.elapsed < s.sch.lastTick + 64 →
      s.held = false → s.sliceOn port = true → s.portHeld port = false →
      s.selectQueue port (fun s i => s.framerStarts g i) [7, 6, 5, 4, 3, 2, 1, 0] = (some q, r) →
      (r.queue q).fifo = i :: rest → u = r.takeHead port q i rest → G = u.group g →
      ∃ t, exec (.schedSelect port) s = .next t ∧ (t.queue q).fifo = rest
        ∧ ∀ b assoc kn pn frame room, G.sealing = some b → u.held = false → 16384 < G.maskBlocks →
          u.tb.elapsed < G.maskAt + 100000 → u.wovenItem i = some (assoc, kn, pn, frame) →
          u.fitsWindow (u.groupPort g) (u.chargedLen (u.groupPort g) i) (u.openWindow (u.groupPort g) (u.qClass q)) = true →
          room = 16 * frameBytes (dataMembers G.mapInForce).length - G.placed →
          ¬ (24 + frame.length < room ∧ room < 48 + frame.length) →
          ¬ (G.ckDone = false ∧ G.announced = 8 ∧ room < 24 + frame.length) →
          t.group g = { G with ready := none, readyQ := q }.place
            (hdrContent 1 kn.toNat frame.length assoc.toNat pn.toNat) frame (G.ck (if b then 1 else 0)))
    ∧ (∀ r q rest k c, s.portKind port = .eth → s.portEn port = true → (s.port port).link = true →
      (s.port port).tx = none → s.held = false → s.sliceOn port = true → s.tagOff port = false →
      s.tb.elapsed < s.sch.lastTick + 64 → s.portHeld port = false →
      s.selectQueue port (fun s i => s.macStarts port i) [7, 6, 5, 4, 3, 2, 1, 0] = (some q, r) →
      (r.queue q).fifo = .pick p :: rest → r.pick p = some k → k.cipher = some c → c.isOpen = true → c.cut = true →
      c.phase ≠ .done → port < 32 →
      ∃ t y, exec (.cutThroughStart port p) s = .next t ∧ t.pick p = some { k with cutStarted := true }
        ∧ (t.port port).tx = some y ∧ y.pick = some p ∧ y.bytes = k.sent port ∧ y.cut = true ∧ y.poison = false
        ∧ (t.queue q).fifo = rest ∧ t.out = r.out)
    ∧ (∀ x k c, (s.port port).tx = some x → s.pick p = some k → k.cipher = some c → x.pick = some p → x.cut = true →
      k.cutStarted = true → x.fcsAt ≤ s.tb.elapsed →
      (c.phase = .done → k.cutFailed = false →
        exec (.cutFcsReached port) s = .next (s.setPort port { s.port port with tx := some { x with cut := false } }))
      ∧ (c.phase ≠ .done ∨ k.cutFailed = true → k.mirrors = [] → ∃ t, exec (.cutFcsReached port) s = .next t
          ∧ (t.port port).tx = some { x with cut := false, poison := true, pick := none } ∧ t.pick p = none))
    ∧ ∀ x, (s.port port).tx = some x → x.cut = false → x.ends ≤ s.tb.elapsed →
      ∃ t, exec (.frameTxEnd port) s = .next t ∧ (t.port port).tx = none
        ∧ t.out = s.out ++ [.frame port x.bytes
            (if x.poison then (fcs x.bytes).map (fun b => ~~~b) else fcs x.bytes)]
        ∧ (∀ n k, x.pick = some n → s.pick n = some k → k.mirrors = [] → t.pick n = none)
        ∧ (∀ n, x.pick ≠ some n → t.pick n = s.pick n)
        ∧ t = { s with sch := { s.sch with ports := t.sch.ports }, out := t.out, beam := t.beam, cie := t.cie,
                       kcu := { s.kcu with draws := t.kcu.draws, requests := t.kcu.requests }, tab := t.tab }

/-- R271 to R282: ticks, sheds and histograms. Credits stand in units of 1/125 byte (log entry 13); sheds rest on log entry 89. -/
def Obligations.SchedulerTicks : Prop :=
  (∀ s : State, s.sch.lastTick + 64 ≤ s.tb.elapsed → ∃ t, exec .refillTick s = .next t
    ∧ t.sch.lastTick = s.sch.lastTick + 64
    ∧ (∀ q, q < 16384 → (t.queue q).credit = if (s.reg .schQRate q).getLsbD 31
        then min ((s.queue q).credit + s.field .schQRate q 0 22) (125 * s.field .schQBurst q 0 24 : Nat)
        else (s.queue q).credit)
    ∧ (∀ q, (t.queue q).fifo = (s.queue q).fifo)
    ∧ (∀ p, p < 64 → (t.port p).credit = if (s.reg .schPRate p).getLsbD 31
        then min ((s.port p).credit + s.field .schPRate p 0 22) (125 * s.field .schPBurst p 0 24 : Nat)
        else (s.port p).credit)
    ∧ (∀ i, i < s.variant.policers →
        (tget {} t.sch.pols i).tc = min ((tget {} s.sch.pols i).tc + s.field .schPolCir i 0 22)
            (125 * s.field .schPolCbs i 0 24)
        ∧ (tget {} t.sch.pols i).tp = min ((tget {} s.sch.pols i).tp
            + max (s.field .schPolPir i 0 22) (s.field .schPolCir i 0 22)) (125 * s.field .schPolPbs i 0 24))
    ∧ t = { s with sch := t.sch })
  ∧ (∀ (s : State) (port : Nat) (P : Port) (bank : Bank), P = s.port port → bank = s.bank port P.bankB →
    bank.durs ≠ [] → P.entryEnd ≤ s.tb.tod → ∃ e, e = (P.entry + 1) % bank.durs.length
      ∧ exec (.shedEntryAdvance port) s = .next (s.setPort port
          { P with entry := e, entryEnd := P.entryEnd + (bank.durs.getD e (0, 0)).1 }))
  ∧ (∀ (s : State) (port : Nat) (at_ : Int), (s.port port).switchAt = some at_ → at_ ≤ s.tb.tod →
    ∃ t, exec (.shedBankSwitch port) s = .next t ∧ (t.port port).bankB = !(s.port port).bankB
      ∧ (t.port port).switchAt = none ∧ (t.port port).entry = 0
      ∧ (t.port port).entryEnd = (match (s.bank port (!(s.port port).bankB)).durs with
          | [] => 0
          | e :: _ => at_ + e.1))
  ∧ (∀ (s : State) (port : Nat) (v : Word), s.pins.inReset = false → s.lcShut = false → s.variant ≠ .tv16e → s.variant.lane port = true → port < 64 →
    v.toNat < 2 → v.getLsbD 0 = (s.port port).bankB →
    ∃ t, exec (.schShedCtlSel port v) s = .next t ∧ t.reg .schShedCtl port = v
      ∧ t.port port = { s.port port with switchAt := none } ∧ t = { s with regs := t.regs, sch := t.sch })
  ∧ (∀ (s : State) (h : Nat), h < 64 → (s.reg .schHistCfg h).getLsbD 15 = true →
    (s.reg .schHistCfg h).getLsbD 14 = true → (s.hist h).last + 1000 * 2 ^ s.field .schHistCfg h 16 5 ≤ s.tb.elapsed →
    ∃ t, exec (.histDepthSample h) s = .next t ∧ (t.hist h).last = s.tb.elapsed
      ∧ (∀ n, tget 0 (t.hist h).bins n = if n = histBin (s.depth (s.field .schHistCfg h 0 14))
          then min 0xFFFF_FFFF (tget 0 (s.hist h).bins n + 1) else tget 0 (s.hist h).bins n)
      ∧ (∀ x, x ≠ h → t.hist x = s.hist x) ∧ t = { s with sch := { s.sch with hists := t.sch.hists } })
  ∧ (∀ (s : State) (h : Nat) (v : Word), s.pins.inReset = false → s.lcShut = false → h < 64 → v.toNat < 4 → v.getLsbD 0 = true →
    (s.hist h).busy = false →
    exec (.schHistSnap h v) s = .next (s.setHist h { s.hist h with
      snap := (s.hist h).bins, busy := true, bins := if v.getLsbD 1 then [] else (s.hist h).bins }))
  ∧ ∀ (s : State) (h : Nat), exec (.schHistSnapDone h) s = .next (s.setHist h { s.hist h with busy := false })

/-! ### Engines and the DRBG -/

/-- R175: engine e is retired with a fault code: quarantined, its retirements counted, the jobs it ran or held suspended
queued again to restart from block 0 (but for those of frames that have started on a clear port), every other job as it
was, and the unit remembered until its recovery ends. -/
def Claims.Retired (s t : State) (e fault : Nat) : Prop :=
  (t.engine e).st = .quarantined ∧ (t.engine e).fault = BitVec.ofNat 3 fault
    ∧ (t.engine e).retires = min 255 ((s.engine e).retires + 1)
    ∧ t.cie.jobs = (s.cie.jobs.filter (fun j => !(j.holds e && s.cutUnderway j))).map (fun j =>
        if j.holds e then { j with st := .queued, stalled := false, paid := 0, late := true } else j)
    ∧ (e, fault) ∈ t.cie.recovering ∧ t.cie.lastRetire = some s.tb.elapsed ∧ t.beam = s.beam ∧ t.tab = s.tab

/-- R169 to R190, R399: the upkeep of the engines. When a job, a test and a context take mask randomness is log entry 93, the two
commands of a self-test log entry 105, the reseed after 2^20 requests log entry 107. -/
def Obligations.EngineUpkeep : Prop :=
  ∀ s : State,
    (∀ e, e < s.variant.engines → (s.engine e).st = .fresh ∨ (s.engine e).st = .testing →
      ∃ t, exec (.engineSelfCheckFault e) s = .next t ∧ Claims.Retired s t e 1)
    ∧ (∀ e pass, e < s.variant.engines → s.kcu.drbg = 2 → (s.engine e).st = .fresh → (s.engine (partner e)).inTest = false →
      s.cie.jobs.any (fun j => j.holds e) = false →
      (s.engine e).lastKat + 100000 * s.field .cieKat 0 0 16 ≤ s.tb.elapsed →
      ∃ t, exec (.katPeriodic e pass) s = .next t ∧ t.engine e = { s.engine e with st := .testing }
        ∧ (∀ x, x ≠ e → t.engine x = s.engine x)
        ∧ t = { s with cie := { s.cie with engines := t.cie.engines, pairs := t.cie.pairs }, kcu := t.kcu })
    ∧ (∀ e, e < s.variant.engines → (s.engine e).inTest = true →
      ((s.dom (24 + e / 2)).st ≠ .waking → exec (.katPeriodic e true) s =
        .next (s.setEngine e { s.engine e with st := .fresh, lastKat := s.tb.elapsed }))
      ∧ ∃ t, exec (.katPeriodic e false) s = .next t ∧ Claims.Retired s t e 2)
    ∧ (∀ v e, s.pins.inReset = false → s.lcShut = false → v &&& 0x7FFF_FFC0 = 0 → v.getLsbD 31 = true → e = v.toNat % 64 →
      e < s.variant.engines → (s.engine e).st ≠ .quarantined →
      ∃ t, exec (.cieRetire v) s = .next t ∧ Claims.Retired s t e 5 ∧ t.regs = s.regs)
    ∧ (∀ p v, s.pins.inReset = false → s.lcShut = false → 2 * p < s.variant.engines → v = 0 ∨ v = 1 →
      (v = 0 ∨ (s.reg .ciePolicy).getLsbD 0 = false →
        exec (.cieProfileWrite p v) s = .next (s.setReg .cieProfile p 0 v))
      ∧ (v = 1 → (s.reg .ciePolicy).getLsbD 0 = true →
        exec (.cieProfileWrite p v) s = .next (s.accessErr 0 false (0x180_0100 + 4 * p) 2)))
    ∧ (∀ v, s.pins.inReset = false → s.lcShut = false → s.variant = .tv32f → v.toNat < 64 →
      (1 ≤ v.toNat ∧ v.toNat ≤ 48 → exec (.lksCapWrite v) s = .next (s.setReg .lksCap 0 0 v))
      ∧ (v = 0 ∨ 48 < v.toNat → exec (.lksCapWrite v) s = .next (s.accessErr 0 false 0x188_0000 2)))
    ∧ (∀ p old, 2 * p < s.variant.engines → s.kcu.drbg = 2 → (s.dom (24 + p)).st.awake = true → s.profileOf p = false →
      old = decide ((s.pair p).seededAt + 100000 ≤ s.tb.elapsed) → (s.pair p).blocks ≤ 16384 ∨ old = true →
      exec (.maskExpanderReseed p) s = .next ({ s with
        kcu := { s.kcu with draws := s.kcu.draws + 1, requests := if s.kcu.requests < 1048576 then s.kcu.requests + 1 else 1 } }.setPair p { s.pair p with
          blocks := if old then 65536 else (s.pair p).blocks + 65536, seededAt := s.tb.elapsed }))
    ∧ (∀ pass, s.kcu.drbg = 1 → s.kcu.testedAt = 0 ∨ s.kcu.testedAt + 1000000 ≤ s.tb.elapsed + 1 →
      exec (.drbgStartupTest pass) s = .next (if pass then
          { s with kcu := { s.kcu with drbg := 2, testedAt := s.tb.elapsed + 1, requests := 1, draws := s.kcu.draws + 1 }
                   tab := { s.tab with secret := s.kcu.draws } }
        else { s with kcu := { s.kcu with drbg := 1, testedAt := s.tb.elapsed + 1, requests := 0 } }))
    ∧ (∀ pass, (s.kcu.drbg = 2 ∧ 2 ^ 20 ≤ s.kcu.requests) ∨ (s.kcu.drbg = 3 ∧ s.kcu.testedAt + 1000000 ≤ s.tb.elapsed + 1) →
      exec (.drbgReseed pass) s = .next { s with kcu := { s.kcu with
        drbg := if pass then 2 else 3, testedAt := s.tb.elapsed + 1
        requests := if pass then 0 else s.kcu.requests } })
    ∧ (s.kcu.drbg = 2 → exec .drbgHealthFail s = .next { s with kcu := { s.kcu with
        drbg := 3, testedAt := s.tb.elapsed + 1 } })

/-! ### Associations and flows -/

/-- R444: a black-box record of a type is requested: it joins the queue at its end, ahead only of requests of its own cycle whose
UNIT is higher. -/
def Claims.requested (s t : State) (type : Nat) (p : BbxReq → Prop) : Prop :=
  ∃ (q : BbxReq) (before after : List BbxReq), s.bbx.queue = before ++ after ∧ t.bbx.queue = before ++ q :: after
    ∧ (∀ x ∈ after, x.cycle = q.cycle ∧ q.unit < x.unit) ∧ q.type = type ∧ p q

/-- R371 to R376: the unit of ring r of function f holds the command e of operation op, which neither the lifecycle, the
domain nor the variant refuses. -/
def Claims.holds (s : State) (f r op : Nat) (e : Fetched) : Prop :=
  s.handed f r = some e ∧ descOp e.desc = op ∧ s.gate f op = none

/-- R134, R309, R522: function f may command the association of index i, and its lines are sound and not being re-rooted. -/
def Claims.reached (s : State) (f i : Nat) : Prop :=
  i < s.capacity ∧ s.mayCommand f i = true ∧ s.atWaits i = false ∧ s.tableBad (assocLines i) = none

/-- R401: the key page of function f holds a key of n bytes, and no commit is unwrapping. -/
def Claims.keyAt (s : State) (f n : Nat) : Prop :=
  (s.page f).unwrap = none ∧ s.kcu.st ≠ 4 ∧ (s.page f).st = 1 ∧ (s.page f).len = n

/-- R137, R133, R140: the commands that make, change and end associations. The order of the checks that are stated together, and
that AT_INSTALL stores KN_B whether or not it gives slot B, are log entry 95. -/
def Obligations.AssociationInstalled : Prop :=
  ∀ (s : State) (f i : Nat) (e : Fetched) (x : AtEntry), x = s.assoc i → Claims.reached s f i →
    (∀ n b, b = e.buf → Claims.holds s f 0 0x0101 e → s.tableRoom (assocLines i) = true → leAt b 0 3 = i → (x.st = .empty ∨ x.st = .poisoned) →
      x.a.drain = false → x.b.drain = false → zeros b 3 1 = true → zeros b 5 3 = true → zeros b 48 16 = true →
      b.getD 4 0 = 1 ∨ b.getD 4 0 = 2 → leAt b 8 4 % 16 = 0 → leAt b 8 4 / 2 ^ 28 % 4 = 0 →
      commonClear (slice b 8 16) = true →
      n = { AtEntry.ofCommon (slice b 8 16) with
        domain := if f = 0 then (AtEntry.ofCommon (slice b 8 16)).domain else BitVec.ofNat 6 f } →
      n.txslot = false → s.valuesOk n = true → n.pnOk (leAt b 40 8) = true → Claims.keyAt s f n.keyLen →
      ∃ t u : State, exec (.atInstall f) s = .next t ∧ t = (u.writeAssoc i).complete f 0 .ok ∧ u.page f = {}
        ∧ (u.assoc i).st = (if b.getD 4 0 = 1 then .active else .suspended)
        ∧ (u.assoc i).a.valid = true ∧ (u.assoc i).a.key = slice (s.page f).key 0 32
        ∧ (u.assoc i).a.salt = slice b 24 12 ∧ (u.assoc i).a.ssci = slice b 36 4
        ∧ (u.assoc i).a.pn = BitVec.ofNat 64 (leAt b 40 8) ∧ (u.assoc i).b.valid = false
        ∧ (u.assoc i).suite = n.suite ∧ (u.assoc i).mode = n.mode ∧ (u.assoc i).cut = n.cut
        ∧ (u.assoc i).replay = n.replay ∧ (u.assoc i).k = n.k ∧ (u.assoc i).domain = n.domain
        ∧ (u.assoc i).window = n.window ∧ (u.assoc i).policer = n.policer ∧ (u.assoc i).qbase = n.qbase
        ∧ (∀ j, j ≠ i → u.assoc j = s.assoc j) ∧ u.beam = s.beam ∧ u.cie.jobs = s.cie.jobs)
    ∧ (x.st = .active ∨ x.st = .suspended → s.tableRoom (assocLines i) = true →
      (∀ b B, b = e.buf → Claims.holds s f 0 0x0102 e → leAt b 0 3 = i → B = (b.getD 4 0 == 1) → (b.getD 4 0).toNat < 2 →
        (b.getD 5 0).toNat < 4 → zeros b 3 1 = true → zeros b 6 2 = true → (x.slot B).drain = false →
        (x.slot B).valid = false →
        ((x.slot (!B)).valid = false ∨ (x.slot (!B)).kn.toNat ≠ (b.getD 5 0).toNat) → x.pnOk (leAt b 24 8) = true →
        Claims.keyAt s f x.keyLen →
        ∃ t u : State, exec (.atSlotLoad f) s = .next t ∧ t = (u.writeAssoc i).complete f 0 .ok ∧ u.page f = {}
          ∧ ((u.assoc i).slot B).valid = true ∧ ((u.assoc i).slot B).key = slice (s.page f).key 0 32
          ∧ ((u.assoc i).slot B).pn = BitVec.ofNat 64 (leAt b 24 8)
          ∧ ((u.assoc i).slot B).kn.toNat = (b.getD 5 0).toNat ∧ (u.assoc i).slot (!B) = x.slot (!B)
          ∧ (u.assoc i).st = x.st ∧ (u.assoc i).txslot = x.txslot ∧ (∀ j, j ≠ i → u.assoc j = s.assoc j))
      ∧ (e.index = i →
        (∀ B, B = (e.arg 24 == 1) → e.arg 24 < 2 → (x.slot B).valid = true →
          (Claims.holds s f 0 0x0103 e → exec (.atTxslot f) s =
            .next (((s.setAssoc i { x with txslot := B }).writeAssoc i).complete f 0 .ok))
          ∧ (Claims.holds s f 0 0x0104 e → (x.slot B).drain = false → x.txslot ≠ B →
            ∃ t u : State, exec (.atSlotRetire f) s = .next t ∧ t = (u.writeAssoc i).complete f 0 .ok
              ∧ u.assoc i = x.setSlot B { x.slot B with drain := true }
              ∧ tget 0 u.tab.drains (slotNo i B) = s.tb.elapsed + 1000 * s.field .atDrain 0 0 16 + 1
              ∧ u = { s with tab := { s.tab with assocs := u.tab.assocs, drains := u.tab.drains } }))
        ∧ (Claims.holds s f 0 0x0105 e →
          (e.arg 24 = 1 → x.st = .active → exec (.atStateSuspend f) s =
            .next (((s.setAssoc i { x with st := .suspended }).writeAssoc i).complete f 0 .ok))
          ∧ (e.arg 24 = 2 → x.st = .suspended → exec (.atStateResume f) s =
            .next (((s.setAssoc i { x with st := .active }).writeAssoc i).complete f 0 .ok))
          ∧ (e.arg 24 = 3 → ∃ t u : State, exec (.atStateRemove f) s = .next t ∧ t = (u.writeAssoc i).complete f 0 .ok
            ∧ (u.assoc i).st = .empty
            ∧ (x.a.valid = true → (u.assoc i).a = { x.a with drain := true })
            ∧ (x.b.valid = true → (u.assoc i).b = { x.b with drain := true })
            ∧ (∀ j, j ≠ i → u.assoc j = s.assoc j)
            ∧ u = { s with tab := { s.tab with assocs := u.tab.assocs, drains := u.tab.drains } }))))
    ∧ (∀ (idx : BitVec 24) B t, idx.toNat = i → tget 0 s.tab.drains (slotNo i B) = t → 0 < t → t ≤ s.tb.elapsed + 1 →
      (tget 0 s.tab.refs (slotNo i B) = 0 →
        ∃ u, exec (.drainTimerExpiry (.assoc idx B)) s = .next u ∧ ((u.assoc i).slot B).valid = false
          ∧ ((u.assoc i).slot B).key = []
          ∧ ((x.slot (!B)).valid = true → (u.assoc i).slot (!B) = x.slot (!B)) ∧ tget 0 u.tab.drains (slotNo i B) = 0
          ∧ (∀ p l, CtxKey.assoc idx B l ∉ (u.pair p).ctx))
      ∧ (tget 0 s.tab.refs (slotNo i B) ≠ 0 →
        ∃ u, exec (.drainTimerExpiry (.assoc idx B)) s = .next u ∧ u.assoc i = x
          ∧ tget 0 u.tab.drains (slotNo i B) = s.tb.elapsed + 1000 * s.field .atDrain 0 0 16 + 1))
    ∧ ∀ g slot G c, G = s.group g → c = G.ck slot → c.drain = true → c.drainAt ≤ s.tb.elapsed + 1 →
      exec (.drainTimerExpiry (.cloth g slot)) s = .next (s.setGroup g { G with
        cks := tset {} G.cks slot (if G.ckInUse slot then
          { c with drainAt := s.tb.elapsed + 1000 * s.field .atDrain 0 0 16 + 1 } else {}) })

/-- R137: the commands on one entry's fields. That AT_RX_PN at the ceiling sets EXH is log entry 95; that AT_READ of a POISONED
entry shows that STATE is log entry 136. -/
def Obligations.AssociationFields : Prop :=
  ∀ (s : State) (f i : Nat) (e : Fetched) (x : AtEntry),
    (∀ v, x = s.assoc i → Claims.reached s f i → e.index = i → (x.st = .active ∨ x.st = .suspended) →
      s.tableRoom (assocLines i) = true → v = leAt e.desc 28 4 →
      (∀ B pn, Claims.holds s f 0 0x0106 e → B = (e.arg 24 == 1) → e.arg 24 < 2 → (x.slot B).valid = true →
        pn = leAt e.desc 28 8 → (x.slot B).pn.toNat ≤ pn → x.pnOk pn = true →
        exec (.atRxPn f) s = .next (((s.setAssoc i (x.setSlot B { x.slot B with
          pn := BitVec.ofNat 64 pn, exh := decide (x.ceiling ≤ pn) })).writeAssoc i).complete f 0 .ok))
      ∧ (Claims.holds s f 0 0x0107 e →
        (e.arg 24 = 1 → v < 2 →
          exec (.atSetCut f) s = .next (((s.setAssoc i { x with cut := v == 1 }).writeAssoc i).complete f 0 .ok))
        ∧ (e.arg 24 = 2 → v < 2 →
          exec (.atSetCutEvent f) s = .next (((s.setAssoc i { x with cutEvent := v == 1 }).writeAssoc i).complete f 0 .ok))
        ∧ (e.arg 24 = 3 → v < 2 →
          exec (.atSetReplay f) s = .next (((s.setAssoc i { x with replay := v == 1 }).writeAssoc i).complete f 0 .ok))
        ∧ (e.arg 24 = 4 → v ≤ 2 ^ 30 →
          exec (.atSetWindow f) s = .next (((s.setAssoc i { x with window := BitVec.ofNat 32 v }).writeAssoc i).complete f 0 .ok))
        ∧ (e.arg 24 = 5 → v < s.variant.policers →
          exec (.atSetPolicer f) s = .next (((s.setAssoc i { x with policer := BitVec.ofNat 20 v }).writeAssoc i).complete f 0 .ok))
        ∧ (e.arg 24 = 6 → v < 16384 →
          exec (.atSetQbase f) s = .next (((s.setAssoc i { x with qbase := BitVec.ofNat 14 v }).writeAssoc i).complete f 0 .ok))
        ∧ (∀ y, e.arg 24 = 7 → v < 64 → y = { x with k := BitVec.ofNat 6 v } → y.suiteOk = true →
          x.k.toNat ≤ v ∨ (x.st = .suspended ∧ x.a.pn.toNat < 2 ^ (v + 1) - 1 ∧ x.b.pn.toNat < 2 ^ (v + 1) - 1) →
          exec (.atSetK f) s = .next (((s.setAssoc i { y with a := y.exhaust x.a, b := y.exhaust x.b }).writeAssoc i).complete f 0 .ok))
        ∧ (∀ y, e.arg 24 = 8 → v < 16 → x.st = .suspended → y = { x with suite := BitVec.ofNat 4 v } → y.suiteOk = true →
          exec (.atSetSuite f) s = .next (((s.setAssoc i y).writeAssoc i).complete f 0 .ok))
        ∧ (e.arg 24 = 9 → v < 2 → x.st = .suspended →
          exec (.atSetMode f) s = .next (((s.setAssoc i { x with mode := v == 1 }).writeAssoc i).complete f 0 .ok))
        ∧ (e.arg 24 = 10 → v < 64 → f = 0 →
          exec (.atSetDomain f) s = .next (((s.setAssoc i { x with domain := BitVec.ofNat 6 v }).writeAssoc i).complete f 0 .ok))))
    ∧ (x = s.assoc i → Claims.reached s f i → e.index = i → Claims.holds s f 0 0x0108 e →
      exec (.atRead f) s = .next ((s.answered false (assocLines i)).completeOut f 0 x.bytes true)
      ∧ (x.st ≠ .poisoned → x.bytes.length = 128 ∧ slice x.bytes 16 32 = List.replicate 32 0
        ∧ slice x.bytes 72 32 = List.replicate 32 0))
    ∧ (∀ n, Claims.holds s f 1 0x0109 e → bundleOk e.buf = true → e.buf.length = bundleLen e.buf →
      s.bulkWaits = false → n = leAt e.buf 8 4 →
      (∀ k key a, leAt e.buf 6 2 = 1 → k = (e.buf.getD 12 0).toNat → s.storeFree = true → s.bundleKey f k = .ok key →
        a = bulkAssocs f key (e.buf.take 64) (e.buf.drop 64) n { s := s.useBks k } →
        exec (.atBulkLoad f) s = .next (a.s.complete f 1 (if a.broken then .integrity else if a.refused = 0 then .ok else .state)
          a.loaded a.refused a.first)
        ∧ (a.broken = false → a.loaded + a.refused = n))
      ∧ (∀ a, leAt e.buf 6 2 = 2 → a = bulkFlows f (e.buf.drop 64) n 0 { s := s } →
        exec (.atBulkLoadFlows f) s = .next (a.s.complete f 1 (if a.broken then .integrity else if a.refused = 0 then .ok else .state)
          a.loaded a.refused a.first)
        ∧ (a.broken = false → a.loaded + a.refused = n)))

/-- R114, R150 to R152, R382, R383, R387: commands on flows, cards, lookaside jobs, and frames from the host. The order of their
checks rests on log entry 39, flow places on 99, the commands of cards on 41, 116, 121 and 135, receive buffers on 40. -/
def Obligations.FlowAndCardCommands : Prop :=
  ∀ (s : State) (f : Nat) (e : Fetched),
    (∀ sp lo hi, s.writeWaits (s.flowLines sp lo hi) = false → s.tableBad (s.flowLines sp lo hi) = none →
      (e.blockKey = (sp, lo, hi) → flowClear e.buf = true →
        (∀ l u, Claims.holds s f 0 0x0201 e → s.tab.flows.find? (fun y => y.hasKey sp lo hi) = none →
          f = 0 ∨ s.flowCount f < s.field .ftDomQuota f 0 25 →
          ({ s with free := s.free + 1 }.placeFlow s.tab.flows (s.flowOf f e.buf) (17 * s.free) 17 = some l) →
          s.tableBad (s.flowChanges s.tab.flows l) = none → s.tableRoom (s.flowChanges s.tab.flows l) = true →
          u = { s with free := s.free + 1 }.setFlows l →
          exec (.ftInsert f) s = .next ((u.complete f 0 .ok).answered false (s.flowLines sp lo hi))
          ∧ ∃ y, l.find? (fun y => y.hasKey sp lo hi) = some y ∧ y.result = BitVec.ofNat 56 (leAt e.buf 20 7)
            ∧ y.hits = 0 ∧ y.poisoned = false ∧ y.domain = BitVec.ofNat 6 f)
        ∧ (∀ y l, Claims.holds s f 0 0x0202 e → s.tab.flows.find? (fun y => y.hasKey sp lo hi) = some y →
          y.poisoned = false → f = 0 ∨ y.domain.toNat = f →
          l = s.tab.flows.map (fun z => if z = y then { y with result := BitVec.ofNat 56 (leAt e.buf 20 7) } else z) →
          s.tableBad (s.flowChanges s.tab.flows l) = none → s.tableRoom (s.flowChanges s.tab.flows l) = true →
          exec (.ftReplace f) s = .next (((s.setFlows l).complete f 0 .ok).answered false (s.flowLines sp lo hi))))
      ∧ (∀ y l, e.flowKey = (sp, lo, hi) → e.arg 36 < 64 → s.tab.flows.find? (fun y => y.hasKey sp lo hi) = some y →
        y.poisoned = false → f = 0 ∨ y.domain.toNat = f → s.tableBad (s.flowChanges s.tab.flows l) = none →
        s.tableRoom (s.flowChanges s.tab.flows l) = true →
        (Claims.holds s f 0 0x0203 e → l = s.tab.flows.erase y →
          exec (.ftDelete f) s = .next (((s.setFlows l).complete f 0 .ok).answered false (s.flowLines sp lo hi)))
        ∧ (Claims.holds s f 0 0x0204 e → l = s.tab.flows.map (fun z => if z = y then { y with hits := 0 } else z) →
          exec (.ftRead f) s = .next (((s.setFlows l).completeOut f 0 y.bytes true).answered false (s.flowLines sp lo hi)))))
    ∧ (Claims.holds s f 1 0x0401 e → s.shu.staging = none → s.shu.next = none → 64 ≤ e.buf.length →
      e.buf.length ≤ 65696 →
      ∃ t, exec (.cardStage f) s = .next t ∧ t.shu = { s.shu with staging := some e.buf, stagingFn := f }
        ∧ t = { s with shu := t.shu, hif := { s.hif with rings := t.hif.rings } })
    ∧ (∀ img c u, s.shu.staging = some img → (s.ring s.shu.stagingFn 1).rewrite = none →
      s.writeWaits (s.stageLines true img.length) = false → s.tableRoom (s.stageLines true img.length) = true →
      c = s.stageCheck img →
      u = (if c = 1 then State.writeStage { s with shu := { s.shu with
              staging := none, check := 1, next := some (cardOf img), nextLost := false } } img
          else { s with shu := { s.shu with
              staging := none, check := BitVec.ofNat 4 c, next := none, nextLost := false } }) →
      (((s.ring s.shu.stagingFn 1).front.any (fun e => e.posted)) = true →
        exec .cardStageDone s = .next (u.complete s.shu.stagingFn 1 (checkStatus c) c))
      ∧ (((s.ring s.shu.stagingFn 1).front.any (fun e => e.posted)) = false → exec .cardStageDone s = .next u))
    ∧ (∀ op k, s.nextLookaside f = some e → descOp e.desc = op → s.gate f op = none → s.kcu.st ≠ 4 →
      (s.lks (e.arg 28)).key ≠ [] → (s.lks (e.arg 28)).owner = f →
      (k = .xts → 16 ≤ leAt e.desc 29 3 ∧ leAt e.desc 29 3 ≤ 1048576
        ∧ (s.lks (e.arg 28)).key.take 32 ≠ (s.lks (e.arg 28)).key.drop 32
        ∧ leAt e.desc 32 16 + e.buf.length / leAt e.desc 29 3 ≤ 2 ^ 128) →
      (k = .gcm → leAt e.desc 30 2 + (if op = 0x0604 then 16 else 0) ≤ e.buf.length
        ∧ (if op = 0x0604 then 16 else 0) < e.buf.length ∧ (op = 0x0604 → e.arg 29 = 0)
        ∧ e.buf.length - leAt e.desc 30 2 - (if op = 0x0604 then 16 else 0) < 2 ^ 24) →
      ∀ c, (op = 0x0601 ∧ k = .xts ∧ c = .xtsEncrypt f) ∨ (op = 0x0602 ∧ k = .xts ∧ c = .xtsDecrypt f)
          ∨ (op = 0x0603 ∧ k = .gcm ∧ c = .gcmEncrypt f) ∨ (op = 0x0604 ∧ k = .gcm ∧ c = .gcmDecrypt f) →
        ∃ (t : State) (j : Job), exec c s = .next t ∧ t.cie.jobs = s.cie.jobs ++ [j] ∧ j.kind = k ∧ j.level = 0 ∧ j.st = .queued
          ∧ j.ctx = .lks (e.arg 28) (s.lks (e.arg 28)).loads ∧ j.src = e.buf ∧ j.desc = e.desc
          ∧ j.fn = f ∧ t.cie.next = s.cie.next + 1
          ∧ t = { s with cie := { s.cie with jobs := t.cie.jobs, next := t.cie.next },
                         hif := { s.hif with rings := t.hif.rings } })
    ∧ (∀ cls p, Claims.holds s f 4 0x0701 e → (s.reg .hifFnCfg f).getLsbD 0 = true → 60 ≤ e.buf.length →
      e.buf.length ≤ 16128 → e.arg 20 = 4 ∨ (6 ≤ e.arg 20 ∧ e.arg 20 < 16) → s.held = false →
      cls = BitVec.ofNat 3 (e.arg 21) → cls ≠ 7 →
      s.fits (cellsFor e.buf.length) (s.field .schAdmSlots 0 0 17) (s.field .schAdmCells 0 0 19) = true →
      p = firstFree s.beam.picks 0 →
      ∃ (t u : State) (k : Pick), exec (.inject f) s = .next t ∧ t = u.complete f 4 .ok ∧ u = { s with beam := u.beam } ∧ u.pick p = some k
        ∧ k.st = .waiting ∧ k.src = 4 ∧ k.odom = 64 ∧ k.port = 64 ∧ k.cls = cls ∧ k.frame = e.buf ∧ k.orig = e.buf
        ∧ k.vec = e.arg 20 ∧ k.u0.toNat = leAt e.desc 24 8 ∧ k.u1.toNat = leAt e.desc 32 8
        ∧ k.seq = tget 0 s.beam.seqs 64 ∧ (∀ q, q ≠ p → u.pick q = s.pick q))
    ∧ (∀ g, g = s.ring f 3 → s.fnExists f = true → g.stopped = false → g.fetched.find? (fun x => !x.posted) = some e →
      s.gate f 0x0702 = none → s.beam.puntWait.any (fun x => x.dom == f) = false →
      exec (.puntBuf f) s = .next (s.setRing f 3 { g with fetched := g.fetched.map (fun x =>
        if x.idx = e.idx then { x with posted := true } else x) }))

/-- R147 to R149, R179, R400 to R407, R397, R398, R416: the commands on keys and the identity. That ZEROIZE too raises
TAMPER_ALARM is log entry 78, how a sealed slot stands log entries 45 and 126, the signatures and certificates log
entry 9; corners of the key page rest on log entry 44, of CLOTH_KEY_LOAD on 136, of ZEROIZE on 46. -/
def Obligations.KeyCommands : Prop :=
  ∀ (s : State) (f : Nat) (e : Fetched),
    (∀ g n G, g = e.arg 20 → n = 2 * e.arg 21 + e.arg 22 → G = s.group g → g < 8 → e.arg 21 < 2 → e.arg 22 < 2 →
      (Claims.holds s f 0 0x0301 e → e.arg 23 < 4 → (G.ck n).valid = false → Claims.keyAt s f 32 →
        ∀ x : CkSlot, x = { valid := true, kn := BitVec.ofNat 2 (e.arg 23), salt := slice e.desc 24 4,
                            key := (s.page f).key } →
          exec (.clothKeyLoad f) s =
            .next (((s.setGroup g { G with cks := tset {} G.cks n x }).setPage f {}).complete f 0 .ok))
      ∧ (Claims.holds s f 0 0x0302 e → s.ckHeld g (e.arg 21) (e.arg 22) = false →
        ∀ x : CkSlot, x = { G.ck n with drain := true, drainAt := s.tb.elapsed + 1000 * s.field .atDrain 0 0 16 + 1 } →
          exec (.clothKeyRetire f) s = .next ((s.setGroup g { G with cks := tset {} G.cks n x }).complete f 0 .ok)))
    ∧ (∀ n k, n = e.arg 20 → k = s.lks n →
      (Claims.holds s f 0 0x0501 e → k.key = [] → Claims.keyAt s f 64 →
        ∃ t u : State, exec (.lksKeyLoad f) s = .next t ∧ t = u.complete f 0 .ok ∧ u.page f = {}
          ∧ u.lks n = { key := (s.page f).key, owner := f, loads := k.loads + 1 }
          ∧ (∀ m, m ≠ n → u.lks m = s.lks m) ∧ (∀ p l, CtxKey.lks n l ∉ (u.pair p).ctx))
      ∧ (Claims.holds s f 0 0x0502 e → k.key ≠ [] → k.owner = f → s.lksNamed n = false →
        ∃ t u : State, exec (.lksKeyDestroy f) s = .next t ∧ t = u.complete f 0 .ok ∧ (u.lks n).key = []
          ∧ (∀ m, m ≠ n → u.lks m = s.lks m) ∧ (∀ p l, CtxKey.lks n l ∉ (u.pair p).ctx)))
    ∧ (∀ k, k = e.arg 20 → k < 64 → s.kcu.st = 2 →
      (Claims.holds s f 0 0x0801 e → e.arg 21 = 1 ∨ e.arg 21 = 2 → e.arg 22 < 64 →
        (e.arg 23 % 2 = 1 → leAt e.desc 24 3 ≠ 0) → (e.arg 23 / 2 % 2 = 1 → e.arg 27 ≠ 0) → f = 0 ∨ e.arg 22 = f →
        (s.bks k).purpose = 0 → Claims.keyAt s f 32 →
        ∀ x : Bks, x.purpose = e.arg 21 → x.owner = e.arg 22 →
          x.uses = (if e.arg 23 % 2 = 1 then some (leAt e.desc 24 3) else none) →
          x.starts = (if e.arg 23 / 2 % 2 = 1 then some (e.arg 27) else none) → x.key = (s.page f).key →
          exec (.bksStore f) s = .next (((s.setBks k (sealBks k x)).setPage f {}).complete f 0 .ok))
      ∧ (Claims.holds s f 0 0x0802 e → f = 0 ∨ (s.bks k).purpose = 0 ∨ (s.bks k).owner = f → s.bksBusy k = false →
        exec (.bksDestroy f) s = .next ((s.setBks k {}).complete f 0 .ok)))
    ∧ (Claims.holds s f 0 0x0803 e → s.kcu.st = 2 →
      exec (.bksStatus f) s = .next (s.completeOut f 0 s.bksStatus true) ∧ s.bksStatus.length = 1024)
    ∧ (Claims.holds s f 0 0x0804 e →
      (e.arg 20 = 1 → exec (.zeroizeErase f) s =
        .next ((if s.tmu.running = 3 ∨ s.tmu.running = 4 ∨ s.tmu.running = 5 ∨ s.tmu.running = 6 then s
          else if s.tmu.running = 7 ∨ s.tmu.running = 0 then (s.carryOut 3 31 0).tamperEvent 31 3
          else s.carryOut 3 31 0).complete f 0 .ok))
      ∧ (e.arg 20 = 2 → exec (.zeroizeEraseLock f) s =
        .next ((if s.tmu.running = 4 ∨ s.tmu.running = 5 ∨ s.tmu.running = 6 then s
          else if s.tmu.running = 7 ∨ s.tmu.running = 0 then (s.carryOut 4 31 0).tamperEvent 31 4
          else s.carryOut 4 31 0).complete f 0 .ok)))
    ∧ (∀ (v : Word), s.pins.inReset = false → s.lcShut = false → s.fnExists f = true → v.toNat < 2 ^ 18 → v.getLsbD 7 = false →
      v.toNat / 256 % 4 ≠ 3 →
      exec (.kpClear f v) s = .next (s.setPage f {})
      ∧ (∀ len form, len = v.toNat % 128 → form = v.toNat / 256 % 4 → v.getLsbD 17 = false → s.kcu.lc ≠ 4 → (s.page f).st = 0 → (s.page f).unwrap = none →
        (form = 1 → len = 16 ∨ len = 32 ∨ len = 64 → exec (.kpCommit f v) s =
          .next (s.setPage f { st := 1, len := len, key := Memory.readBytes (s.page f).data 0 len }))
        ∧ (form = 2 → len = 44 ∨ len = 60 ∨ len = 92 → exec (.kpCommit f v) s =
          .next (s.setPage f { s.page f with
            unwrap := some (Memory.readBytes (s.page f).data 0 len, v.toNat / 1024 % 64), turn := s.lastTurn + 1 }))))
    ∧ (∀ bytes k, (s.page f).unwrap = some (bytes, k) → s.earlierUse f = false →
      ∃ t, exec (.kpUnwrapDone f) s = .next t
        ∧ (∀ key, s.unwrapKey f bytes k = some key → t.page f = { st := 1, len := key.length, key := key })
        ∧ (s.unwrapKey f bytes k = none → t.page f = { st := 2 })
        ∧ (∀ n, s.kcu.st = 2 → (s.bks k).purpose ≠ 0 → (s.bks k).uses = some n →
          t.bks k = if n ≤ 1 then {} else sealBks k { s.bks k with uses := some (n - 1) })
        ∧ t = { s with hif := { s.hif with pages := t.hif.pages }, kcu := { s.kcu with bks := t.kcu.bks } })
    ∧ (s.kcu.lc ≠ 1 → s.kcu.st = 2 →
      (Claims.holds s f 0 0x0805 e →
        exec (.idCertRead f) s = .next (s.completeOut f 0 (slice ((s.otpItem 4).getD []) 0 2048) true))
      ∧ (Claims.holds s f 0 0x0806 e → ∃ t u : State, exec (.cascadeCertLoad f) s = .next t
        ∧ if slice e.buf 8 97 = identityPub ∧ beNat (slice e.buf 6 2) = s.devId ∧ s.certOk e.buf = true then
            t = u.complete f 0 .ok ∧ u.kcu.cascade = some e.buf
          else t = s.complete f 0 .range)
      ∧ (Claims.holds s f 0 0x0807 e → ∃ (t : State) (out sig : Bytes), exec (.attest f) s = .next t ∧ t.kcu = s.kcu
        ∧ sig = (s.sign identityKey (slice e.buf 0 48 ++ s.serial ++ [s.kcu.lc.setWidth 8])).1
        ∧ (slice out 0 48 = slice e.buf 0 48 ∧ slice out 64 96 = slice sig 0 96 ∧ out.length = 160)
        ∧ .dma (BitVec.ofNat 64 (leAt e.desc 8 8)) out ∈ t.out))

/-- R408 to R416, R447: the lifecycle. Signatures are checked by the standard the model presumes (log entry 9); transitions rest on
log entry 47, challenges and responses on 48, the values OTP items take on 49, where commands are refused on 29 and 42. -/
def Obligations.LifecycleCommands : Prop :=
  ∀ (s : State) (f : Nat) (e : Fetched) (b : Bytes), b = slice e.buf 0 160 →
    (∀ (o : LcObs) dst, o.powerFails = none → Claims.holds s f 0 0x0901 e → zeros b 16 48 = true → s.ticketOk b = true →
      dst = (b.getD 6 0).toNat →
      (∀ a, a = (b.getD 7 0).toNat → transitionOk (b.getD 5 0).toNat dst a = true ∧ (s.otpItem (authorityItem a)).isSome = true)
      ∧ ∃ t u : State, exec (.lcTransition f o) s = .next t ∧ t = u.complete f 0 .ok u.kcu.lc.toNat
        ∧ (∀ n, n < dst - 1 → n < 4 → u.stage n = s.stage n ||| stagePattern n)
        ∧ (∀ n, dst - 1 ≤ n → u.stage n = s.stage n)
        ∧ (o.decodesAgree = true → (∀ n, n < 4 → s.stage n &&& ~~~(stagePattern n) = 0) →
          (∀ n, dst - 1 ≤ n → n < 4 → s.stage n = 0) → u.kcu.lc.toNat = dst)
        ∧ (o.decodesAgree = false → u.kcu.lc = 0))
    ∧ (∀ scope, scope = e.arg 20 → Claims.holds s f 0 0x0902 e → s.kcu.fails < 3 → 1 ≤ scope → scope ≤ 3 → s.kcu.drbg = 2 →
      ∃ (t : State) (nonce : Bytes), exec (.shuavoChallenge f) s = .next t ∧ nonce = beBytes (Config.drbg s.kcu.draws).toNat 32
        ∧ t.kcu.challenge = some { scope := scope, nonce := nonce, tokens := s.tokensLeft, at_ := s.tb.elapsed }
        ∧ t.kcu.draws = s.kcu.draws + 1)
    ∧ (∀ ch, s.kcu.challenge = some ch → ch.at_ + 60000000000 ≤ s.tb.elapsed →
      exec .shuavoChallengeExpiry s = .next { s with kcu := { s.kcu with challenge := none } })
    ∧ (∀ scope a, scope = (b.getD 5 0).toNat → a = (b.getD 6 0).toNat → Claims.holds s f 0 0x0903 e →
      zeros b 48 16 = true →
      (s.responseOk b = true → scope = 1 ∨ scope = 2 → s.kcu.lc = 1 ∨ 1 ≤ s.tokensLeft →
        ∃ t u : State, exec (.shuavoResponse f) s = .next t ∧ t = u.complete f 0 .ok u.tokensLeft
          ∧ u.kcu.challenge = none ∧ u.hif.mode = 3 ∧ u.kcu.test = true
          ∧ (s.tmu.tapClosed = false → s.kcu.test = false → u.kcu.scope.toNat = scope)
          ∧ (s.tmu.tapClosed = true → u.kcu.scope = 0)
          ∧ (s.kcu.lc ≠ 1 → u.tokensLeft + 1 = s.tokensLeft) ∧ (s.kcu.lc = 1 → u.tokensLeft = s.tokensLeft)
          ∧ u.kcu.lc = s.kcu.lc)
      ∧ (s.responseOk b = true → scope = 3 →
        ∃ t u : State, exec (.shuavoResponse f) s = .next t ∧ t = u.complete f 0 .ok s.tokensLeft
          ∧ u.kcu = { s.kcu with challenge := none } ∧ u.hif.mode = s.hif.mode)
      ∧ (s.responseOk b = false → (authorityOk a = true → (s.otpItem (authorityItem a)).isSome = true) →
        ∃ t u : State, exec (.shuavoResponse f) s = .next t ∧ t = u.complete f 0 .denied
          ∧ u.kcu = { s.kcu with fails := min 3 (s.kcu.fails + 1) }))
    ∧ (∀ code, code = e.arg 20 → 1 ≤ code → code ≤ 13 →
      (Claims.holds s f 0 0x0904 e → s.otpWritable code = true → e.buf.length = otpSize code →
        s.otpValueOk code e.buf = true → code ∉ s.kcu.damaged → code = 11 ∨ tfind s.kcu.otp code = none →
        ∃ t u : State, exec (.lcOtpWrite f) s = .next t ∧ t = u.complete f 0 .ok
          ∧ (∀ c, tfind u.kcu.otp c = if c = code then some (e.buf ++ fcs e.buf) else tfind s.kcu.otp c)
          ∧ u = { s with kcu := { s.kcu with otp := u.kcu.otp } })
      ∧ (∀ item len, Claims.holds s f 0 0x0905 e → code ≠ 3 →
        item = slice ((tfind s.kcu.otp code).getD []) 0 (otpSize code) → len = leAt e.desc 16 3 →
        exec (.lcOtpRead f) s = .next ((s.emit (.dma (BitVec.ofNat 64 (leAt e.desc 8 8)) (item.take len))).complete f 0 .ok
          (min len (otpSize code)) (if s.kcu.damaged.contains code then 1 else 0) 0 (decide (len < otpSize code)))))
    ∧ (Claims.holds s f 0 0x0808 e → s.kcu.lc ≠ 1 → s.kcu.st = 2 → s.bbx.queue.length < 256 →
      s.chainNow.length = 16 →
      ∃ (t : State) (out : Bytes), exec (.bbxSeal f) s = .next t ∧ Claims.requested s t 14 (fun q => q.unit = 3)
        ∧ t.bbx = { s.bbx with queue := t.bbx.queue }
        ∧ .dma (BitVec.ofNat 64 (leAt e.desc 8 8)) out ∈ t.out ∧ slice out 0 32 = slice e.buf 0 32
        ∧ slice out 36 16 = s.chainNow ∧ out.length = 160)

/-! ### Rings, functions and clusters -/

/-- Everything but the rings and what leaves the device or signals through them is as it was. -/
def Claims.ringsOnly (s t : State) : Prop := t = { s with hif := t.hif, out := t.out, regs := t.regs }

/-- R369 to R378, R381, R388: the rings of function f. That what a DMA reads comes as an operand is log
entry 8, the order of errors and completions on a ring 38, what waits for a slot of a PUNT ring 40, a slot handed over before its
ring was enabled anew 130, what a function reset leaves 52. -/
def Obligations.RingCommands : Prop :=
  ∀ (s : State) (f r : Nat) (g : Ring), g = s.ring f r →
    (∀ e st r0 r1 r2 tr t, g.front = some e → t = s.complete f r st r0 r1 r2 tr →
      (t.ring f r).head = (if e.old then g.head else g.head + 1)
      ∧ (t.ring f r).fetched = (g.pop.begin s.tb.elapsed).fetched
      ∧ .hostSlot f r e.idx (slice e.desc 0 48 ++ completionBytes (phase e.idx g.size) tr st r0 r1 r2) ∈ t.out
      ∧ Claims.ringsOnly s t)
    ∧ (s.fnExists f = true → r < 8 → s.pins.inReset = false → ∀ v : Word,
      ((v - g.head).toNat ≤ 2 ^ g.size → exec (.hifRingTailWrite f r v) s = .next (s.setRing f r { g with tail := v }))
      ∧ (2 ^ g.size < (v - g.head).toNat → exec (.hifRingTailWrite f r v) s =
        .next (if g.en then (let t := s.ringStop f r 6; if r = 3 then t.servePunt f else t) else s))
      ∧ (v.toNat < 2 ^ 12 → 4 ≤ v.toNat % 32 → v.toNat % 32 ≤ 16 →
        (g.en = false → v.getLsbD 5 = true → r < 6 → ∃ t, exec (.hifRingEnable f r v) s = .next t
          ∧ t.ring f r = { g with
            size := v.toNat % 32, vec := v.toNat / 128, irqEn := v.getLsbD 6, en := true, head := 0, tail := 0, fetchIdx := 0
            fetched := if r = 3 then [] else g.fetched.map (fun e => { e with old := true })
            stopped := false, err := 0, rewrite := none, rewriteAt := none, unsignalled := 0 }
          ∧ t = { s with hif := { s.hif with rings := t.hif.rings } })
        ∧ (g.en = true ∨ g.stopped = true → v.getLsbD 5 = false → v.toNat % 32 = g.size → v.toNat / 128 = g.vec →
          ∃ t : State, exec (.hifRingEnable f r v) s = .next (if r = 3 then t.servePunt f else t.flushRing f r)
          ∧ t.ring f r = { g with
            irqEn := v.getLsbD 6, en := false, stopped := false, err := 0, rewrite := none, rewriteAt := none }
          ∧ t = { s with hif := { s.hif with rings := t.hif.rings } }))
      ∧ (v.toNat < 64 → g.stopped = true →
        (g.rewrite = none → exec (.hifRingResume f r v) s =
          .next ((s.setRing f r { g with stopped := false, err := 0, rewriteAt := none }).flushRing f r))
        ∧ (∀ b, g.rewrite = some b → g.rewriteAt = none → ∃ t : State, exec (.hifRingResume f r v) s = .next (t.flushRing f r)
          ∧ (t.ring f r).stopped = false ∧ (t.ring f r).rewrite = none ∧ (t.ring f r).head = g.head + 1
          ∧ .hostSlot f r g.head b ∈ t.out ∧ Claims.ringsOnly s t)
        ∧ (∀ b i, g.rewrite = some b → g.rewriteAt = some i → exec (.hifRingResume f r v) s = .next (((s.setRing f r
          { g with stopped := false, err := 0, rewrite := none, rewriteAt := none }).emit (.hostSlot f r i b)).flushRing f r))))
    ∧ (s.fnExists f = true → g.en = true → g.stopped = false →
      (∀ desc buf, r = 0 ∨ r = 1 ∨ r = 3 ∨ r = 4 ∨ r = 5 → g.rewrite = none → g.fetchIdx ≠ g.tail →
        (∀ b n, checkDesc g r (slice desc 0 64) buf = .ok (b, n) → n ≤ b.length →
          exec (.descriptorFetch f r desc buf) s = .next (s.setRing f r { g with
            fetched := g.fetched ++ [{ idx := g.fetchIdx, desc := slice desc 0 64, buf := b, at_ := s.tb.elapsed }]
            fetchIdx := g.fetchIdx + 1 }))
        ∧ (∀ code, checkDesc g r (slice desc 0 64) buf = .error code → g.front = none →
          (r = 3 → s.beam.puntWait.any (fun x => x.dom == f) = false) →
          ∃ t, exec (.descriptorFetch f r desc buf) s = .next t ∧ (t.ring f r).stopped = true ∧ (t.ring f r).err = code
            ∧ (t.ring f r).head = g.head + 1 ∧ (t.ring f r).fetchIdx = g.fetchIdx + 1 ∧ Claims.ringsOnly s t))
      ∧ (g.front = none → g.fetchIdx ≠ g.tail → r < 6 → r ≠ 2 →
        exec (.dmaFault f r .fetch) s = .next (let t := s.ringStop f r 5; if r = 3 then t.servePunt f else t))
      ∧ (∀ e info n, r < 6 → s.handed f r = some e → opInfo (descOp e.desc) = some info →
        info.buf = .data ∨ info.buf = .block n → descOp e.desc ≠ 0x0109 →
        exec (.dmaFault f r .read) s = .next (s.completeStop f r .descError 3))
      ∧ (∀ i b out, r < 6 → r ≠ 2 → r ≠ 3 → lastSlot f r s.out = some (i, b, out) →
        ∃ t, exec (.dmaFault f r .write) s = .next t ∧ (t.ring f r).stopped = true ∧ (t.ring f r).err = 4
          ∧ (t.ring f r).head = (if g.head = i + 1 then i else g.head) ∧ (t.ring f r).rewrite = some b
          ∧ (t.ring f r).rewriteAt = (if g.head = i + 1 then none else some i) ∧ (t.ring f r).fetched = g.fetched))
    ∧ (∀ e, r = 0 → s.handed f 0 = some e → descOp e.desc ≠ 0x0901 → descOp e.desc ≠ 0x0903 →
      e.at_ + 1000 * s.field .hifCmdWdog 0 0 16 < s.tb.elapsed →
      ∃ t, exec (.hifCmdWatchdogExpiry f) s = .next t
        ∧ (t.ring f 0).head = (if e.old then g.head else g.head + 1)
        ∧ (t.ring f 0).fetched = { e with withdrawn := true } :: (g.pop.begin s.tb.elapsed).fetched
        ∧ .hostSlot f 0 e.idx (slice e.desc 0 48 ++ completionBytes (phase e.idx g.size) false .busy 0 0 0) ∈ t.out
        ∧ Claims.ringsOnly s t)
    ∧ (r = 0 → g.fetched.any (fun x => x.withdrawn) = true → exec (.hifLateAnswer f) s =
      .next ((s.setRing f 0 { g with fetched := g.fetched.eraseP (fun x => x.withdrawn) }).occur .hifLate f))
    ∧ (g.unsignalled ≠ 0 → g.imodTime ≠ 0 → g.firstAt + 1000 * g.imodTime ≤ s.tb.elapsed → g.irqEn = true →
      exec (.imodTimerExpiry f r) s = .next ((s.setRing f r { g with unsignalled := 0 }).signal f g.vec))
    ∧ (f ≠ 0 → s.fnExists f = true → s.beam.puntWait.any (fun x => x.dom == f) = false →
      ∃ t, exec (.functionLevelReset f) s = .next t ∧ t.ring f 0 = { fetched := (s.ring f 0).withdrawn }
      ∧ (∀ x, 1 ≤ x → x < 8 → t.ring f x = {}) ∧ t.page f = {} ∧ tget 0 t.hif.fnErr f = 0
      ∧ (∀ f' x, f' ≠ f → x < 8 → t.ring f' x = s.ring f' x) ∧ (∀ f', f' ≠ f → t.page f' = s.page f')
      ∧ t.cie.lks = s.cie.lks ∧ t.tab = s.tab
      ∧ t.kcu = { s.kcu with draws := t.kcu.draws, requests := t.kcu.requests })
    ∧ ∀ v : Word, s.pins.inReset = false → s.lcShut = false → v.toNat = 1 → s.hif.mode = 0 ∨ s.hif.mode = 2 → s.bbx.lock = false →
      s.alarmQuiet = true →
      ∃ t, exec (.hifModeWrite v) s = .next t ∧ t.hif = { s.hif with mode := 1, cause := 0 }
        ∧ t.tmu.quiesced = false ∧ t = { s with hif := t.hif, tmu := t.tmu }

/-- R115 to R120, R126, R27: the cards of the clusters. Corners of the cards' commands rest on log entries 41, 120 and 121, the
restart of picks on 87 and 136, a clock failure of a pair on 94. -/
def Obligations.ClusterCards : Prop :=
  ∀ (s : State) (c : Nat) (k : Cluster), k = s.clu c →
    (∀ (v : Word) gen k', c < s.variant.clusters → s.pins.inReset = false → s.lcShut = false → v.toNat < 2 ^ 17 → gen = v.setWidth 16 →
      (s.staged gen = none → exec (.shuCardCtlWrite c v) s = .next (s.setClu c { k with reject := true }))
      ∧ (s.staged gen ≠ none → k' = { k with ctlGen := gen, hold := v.getLsbD 16, heldBack := k.heldBack && v.getLsbD 16 } →
        ((k.st = .fresh ∨ k.st = .held) → k.card.any (fun x => x.gen == gen) = false →
          exec (.shuCardCtlWrite c v) s = .next (s.setClu c { k' with st := .draining }))
        ∧ (k.st = .held → k.card.any (fun x => x.gen == gen) = true → v.getLsbD 16 = false →
          exec (.shuCardCtlWrite c v) s = .next (s.setClu c { k' with st := .fresh }))
        ∧ (k.st = .none → s.cluAwake c = true →
          exec (.shuCardCtlWrite c v) s = .next (s.setClu c { k' with st := .loading, loadGen := gen, retried := false }))
        ∧ (k.st = .fresh → k.card.any (fun x => x.gen == gen) = true →
          exec (.shuCardCtlWrite c v) s = .next (s.setClu c k'))))
    ∧ (k.st = .draining → s.busyBobs c = 0 → exec (.clusterDrained c) s =
      .next (s.setClu c { k with st := .loading, loadGen := k.ctlGen, retried := false }))
    ∧ (k.st = .loading → s.variant ≠ .tv16e → s.linesOff false (s.loadLines k.loadGen) = true →
      ∀ res, exec (.cardLoadDone c res) s = .next (s.useLines false (s.loadLines k.loadGen)))
    ∧ ∀ u : State, u = (if s.variant = .tv16e then s else s.loadRead k.loadGen) →
    (k.st = .loading → s.variant = .tv16e ∨ s.linesOff false (s.loadLines k.loadGen) = false →
      (∀ card, k.loadGen = k.ctlGen → s.staged k.loadGen = some card → k.returning = false →
        s.loadResult k.loadGen .good = .good → exec (.cardLoadDone c .good) s =
          .next (u.setClu c { k with card := some card, st := if k.hold then .held else .fresh }))
      ∧ (k.loadGen ≠ k.ctlGen → s.loadResult k.loadGen .good = .good →
        exec (.cardLoadDone c .good) s = .next (u.setClu c { k with loadGen := k.ctlGen }))
      ∧ (k.retried = false →
        (s.loadResult k.loadGen .crc = .crc → 
          exec (.cardLoadDone c .crc) s = .next (u.setClu c { k with loadfail := 1, retried := true }))
        ∧ exec (.cardLoadDone c .integrity) s = .next (u.setClu c { k with loadfail := 3, retried := true }))
      ∧ (k.retried = true → s.loadResult k.loadGen .crc = .crc → ∃ t, exec (.cardLoadDone c .crc) s = .next t
        ∧ t.clu c = { k with loadfail := 1, st := .stale, card := none } ∧ t.shu.bobs = s.shu.bobs))
    ∧ (∀ v : Word, s.pins.inReset = false → s.lcShut = false → v.toNat < 4 →
      (∀ n, v.getLsbD 1 = false → s.shu.next = some n →
        (s.allName n.gen = true → exec (.shuStagePromote v) s =
          .next { s with shu := { s.shu with
            cur := some n, next := none, curSecond := !s.shu.curSecond
            curLost := s.shu.nextLost, nextLost := false } })
        ∧ (s.allName n.gen = false → exec (.shuStagePromote v) s = .next { s with shu := { s.shu with refused := true } }))
      ∧ (∀ n, v.getLsbD 0 = false → s.shu.next = some n →
        (s.someName n.gen = false → exec (.shuStageDiscard v) s = .next { s with shu := { s.shu with next := none } })
        ∧ (s.someName n.gen = true → exec (.shuStageDiscard v) s =
          .next { s with shu := { s.shu with refused := true } })))
    ∧ (c < s.variant.clusters → k.st ≠ .quarantined → ∃ t, exec (.clusterQuarantine c) s = .next t
      ∧ (t.clu c).st = .quarantined ∧ (t.clu c).card = none ∧ (t.dom c).ready = .quarantined
      ∧ (∀ b, b / 128 = c → t.bob b = {}) ∧ (∀ b, b / 128 ≠ c → t.bob b = s.bob b)
      ∧ (∀ b B p x, s.shu.bobs.filter (fun e => e.1 / 128 == c) = [(b, B)] → B.pick = some p → s.pick p = some x →
        x.runs < 2 → t.pick p = some x.restart ∧ ∀ q, q ≠ p → t.pick q = s.pick q))
    ∧ (s.variant.domain c = true → (s.dom c).ready ≠ .quarantined → ∃ t, exec (.clockFailure c) s = .next t
      ∧ (t.dom c).ready = .quarantined ∧ (t.dom c).st = (domKind c).bottom ∧ (t.dom c).wake = none
      ∧ (c < 24 → (t.clu c).st = .quarantined)
      ∧ (24 ≤ c → c < 48 → (t.engine (2 * (c - 24))).st = .quarantined ∧ (t.engine (2 * (c - 24) + 1)).st = .quarantined))

/-! ### Woven groups and lanes -/

/-- R206 to R240: the sending side of group g. The lane-frame clock being the commands' is log entry 55, key changes 56, 57 and 122,
the sealer's masks 108, placing a frame at once 131. -/
def Obligations.WovenSend : Prop :=
  ∀ (s : State) (g : Nat) (G : Group), G = s.group g →
    (∀ b c r fill, s.clothOpen g = true → G.sealing = some b → 16384 < G.maskBlocks →
      s.tb.elapsed < G.maskAt + 100000 → c = G.ck (if b then 1 else 0) →
      r + G.placed = 16 * frameBytes (dataMembers G.mapInForce).length →
      (∀ n, s.held = true ∨ G.ready = none → n = fillLen r fill →
        exec (.clothItemSend g fill) s = .next (s.setGroup g (G.place (hdrContent 2 0 n 0 0) (c.fill G.txSeq n) c n)))
      ∧ (∀ i assoc kn pn (frame : Bytes), s.held = false → G.ready = some i →
        s.readyFits g i = true → s.wovenItem i = some (assoc, kn, pn, frame) →
        ¬ (24 + frame.length < r ∧ r < 48 + frame.length) → ¬ (G.ckDone = false ∧ G.announced = 8 ∧ r < 24 + frame.length) →
        ∃ t, exec (.clothItemSend g fill) s = .next t ∧ (t.group g).ready = none
          ∧ (t.group g).cloth = G.cloth ++ c.sealHdr G.txSeq (hdrContent 1 kn.toNat frame.length assoc.toNat pn.toNat) ++ frame
          ∧ (t.group g).txSeq = G.txSeq + 1 ∧ (t.group g).placed = G.placed + 24 + frame.length
          ∧ (∀ h, h ≠ g → t.group h = s.group h)))
    ∧ (∀ l u, l < 32 → s.groupOf l = some g → s.memberLive l = true → l ∉ G.sent → s.grpOn g = true → G.mapDue = false →
      G.keyDue = false → (if G.sent = [] then s.openFrame g else some s) = some u → s.field .wovLaneTx l 0 2 = 0 →
      ∃ t w0 w1 pay, exec (.laneFrameSend l) s = .next t ∧ t.out = s.out ++ [.laneFrame l 1 w0 w1 pay]
        ∧ w0.toNat / 2 ^ 32 = 0xA65BE11C ∧ w0.toNat / 2 ^ 16 % 2 ^ 16 = G.mfc % 2 ^ 16
        ∧ (∀ k, s.binder g ≠ some l → (dataMembers G.mapInForce)[k]? = some l → w0.toNat % 256 = 0x10
          ∧ pay = memberPayload (u.group g).rowBytes (dataMembers G.mapInForce).length k)
        ∧ (G.sent = [] → G.pais = false → G.seqStop = false → G.sealing ≠ none → (u.group g).rowBytes =
          G.cloth.take (frameBytes (dataMembers G.mapInForce).length)))
    ∧ (∀ (v : Word) b, g < 8 → s.pins.inReset = false → s.lcShut = false → v.toNat < 2 → b = v.getLsbD 0 →
      ((G.ck (if b then 1 else 0)).valid = true → G.ckDone = true →
        exec (.wovCkTxSlotWrite g v) s = .next (s.setGroup g (if G.sealing = some b then { G with ckSlot := b }
          else { G with ckSlot := b, ckDone := !s.grpOn g, announced := 0 })))
      ∧ ((G.ck (if b then 1 else 0)).valid = false ∨ G.ckDone = false →
        exec (.wovCkTxSlotWrite g v) s = .next (s.setRegBit .wovStat 0)))
    ∧ (∀ b n, G.sealing = some b → s.grpOn g = true → G.keyDue = true → G.mapDue = false → G.pais = false →
      G.seqStop = false → b ≠ G.ckSlot → 16384 < G.maskBlocks → s.tb.elapsed < G.maskAt + 100000 →
      n = G.ck (if G.ckSlot then 1 else 0) →
      ∃ t, exec (.keymarkSend g) s = .next t
        ∧ (t.group g).cloth = G.cloth ++ (G.ck (if b then 1 else 0)).sealHdr G.txSeq (hdrContent 3 n.kn.toNat 0 0 0)
        ∧ (t.group g).sealing = some G.ckSlot ∧ (t.group g).txSeq = n.next ∧ (t.group g).txKn = n.kn
        ∧ (t.group g).ckDone = true ∧ t = { s with wov := { s.wov with groups := t.wov.groups } })
    ∧ (∀ v : Word, g < 8 → s.pins.inReset = false → s.lcShut = false → s.variant ≠ .tv16e ∨ v.toNat < 2 ^ 16 →
      (s.grpOn g = false → exec (.wovTxMapWrite g v) s = .next (s.setGroup g { G with map := v }))
      ∧ (∀ m add, s.grpOn g = true → dataMembers (G.map ^^^ v) = [m] → add = v.getLsbD m → G.change = none →
        s.binder g ≠ some m → (s.reg .wovGrpLanes g).getLsbD m = true → v ≠ 0 →
        exec (.wovTxMapWrite g v) s = .next (s.setGroup g { G with
          map := v, change := some { add := add, member := m, armed := false, announced := false, auto := false } })))
    ∧ (∀ c, G.change = some c → s.grpOn g = true →
      (c.armed = true → c.announced = false → G.mfc % 16 = 8 → G.sent = [] → exec (.memberAnnounce g) s =
        .next (s.setGroup g { G with change := some { c with announced := true } }))
      ∧ (∀ now, c.announced = true → G.mfc % 16 = 0 → G.sent = [] →
        now = (if c.add then G.mapInForce ||| put 1 c.member else G.mapInForce &&& ~~~(put 1 c.member)) →
        ∃ t, exec (.mapTakeEffect g) s = .next t
          ∧ t.group g = { G with mapInForce := now, map := if c.auto then now else G.map, change := none }
          ∧ (∀ h, h ≠ g → t.group h = s.group h)))
    ∧ (∀ v old : Word, g < 8 → s.pins.inReset = false → s.lcShut = false → G.due = none → v.toNat < 2 ^ 24 → old = s.reg .wovGrpCfg g →
      s.variant ≠ .tv16e ∨ v.getLsbD 1 = false ∧ v.toNat / 4 % 32 < 16 →
      (old.getLsbD 0 = false → v.getLsbD 0 = true → s.enableBad g v = false →
        ∃ t d, exec (.wovGrpCfgWrite g v) s = .next t ∧ t.reg .wovGrpCfg g = v
          ∧ t.group g = { G.enable with dfc := d, rxNear := d != 0 } ∧ (d = 0 ∨ d = 0x20) ∧ (s.hasSource g = false → d = 0x20)
          ∧ (∀ h, h ≠ g → t.group h = s.group h))
      ∧ (old.getLsbD 0 = true → v = old &&& ~~~1 →
        ∃ t, exec (.wovGrpCfgWrite g v) s = .next t ∧ t.reg .wovGrpCfg g = v ∧ t.group g = { G.disable with dfc := 0 }
          ∧ (∀ h, h ≠ g → t.group h = s.group h)))
    ∧ (g < 8 → G.tested = false → exec (.headerSealerKatFail g) s = .next (s.setGroup g { G with pais := true, sealerFail := true }))

/-- R214 to R231: the receiving side of group g. Framing rests on log entry 58, rows and their waits on 59, deep deskew on 61,
resynchronisation on 62, the key change on 123. -/
def Obligations.WovenReceive : Prop :=
  ∀ (s : State) (g : Nat) (G : Group), G = s.group g →
    (∀ l ws hs L, l < 32 → s.groupOf l = some g → L = s.lane (32 + l) → L.locked = true → ws.length = 2048 →
      hs = ws.map heardWord →
      (∀ w0 rest, L.align = .inFrame → L.part = [] → hs = w0 :: rest → isFaw w0 = true → rxMfc w0 = L.mfc →
        L.dfc.getLsbD 4 = false →
        ∃ t, exec (.laneFrameReceive l ws) s = .next t ∧ (t.lane (32 + l)).align = .inFrame
          ∧ (t.lane (32 + l)).mfc = (L.mfc + 1) % 65536 ∧ (t.lane (32 + l)).fawMiss = 0
          ∧ (t.lane (32 + l)).member = (rxByte w0 6).toNat % 32 ∧ (t.lane (32 + l)).ssl = rxByte w0 7
          ∧ (t.lane (32 + l)).part = [] ∧ (t.lane (32 + l)).known = true
          ∧ (s.grpOn g = true → s.deepDeskew g = false ∨ s.deskewKept g = false → (t.lane (32 + l)).store = L.store ++ [(L.mfc,
            if (t.lane (32 + l)).dfc &&& 0xFF = 0 ∧ s.deskewKept g = true then hs
            else hs.take 2 ++ (hs.drop 2).map (fun w => { w with erased := true }))]))
      ∧ (∀ p w, L.align ≠ .inFrame → L.cands = [] → hs[p]? = some w → isFaw w = true →
        (∀ q x, q ≠ p → hs[q]? = some x → isFaw x = false) →
        ∃ t, exec (.laneFrameReceive l ws) s = .next t ∧ (t.lane (32 + l)).align = .candidate
          ∧ (t.lane (32 + l)).cands = [(p, (rxMfc w + 1) % 65536, 0)]))
    ∧ (∀ m w data bw r, s.grpOn g = true → G.row = some (m, w) → w ≠ 2 →
      (∀ n ∈ s.mapped g, (s.rowWord g n m w).isSome = true) → G.rxMap ≠ 0 → G.sync = true → G.dfc &&& 0x0E = 0 →
      data = (dataMembers G.rxMap).map (fun n => (s.rowWord g n m w).getD (0, true)) →
      bw = (s.binder g).map (fun n => (s.rowWord g n m w).getD (0, true)) → r = rowData data bw →
      (∃ t, exec (.rowRelease g) s = .next t
        ∧ (t.group g).rxCloth = G.rxCloth ++ r.1.flatMap (fun x => beBytes x.toNat 8)
        ∧ (t.group g).row = some (if w = 2047 then ((m + 1) % 65536, 2) else (m, w + 1))
        ∧ (t.group g).unrebuilt = (G.unrebuilt || r.2.2 != 0))
      ∧ (data.countP (fun x => x.2) = 0 → r.1 = data.map (fun x => x.1))
      ∧ (∀ i b, bw = some (b, false) → (data.map (fun x => x.2)) = (List.range data.length).map (fun j => j == i) →
        i < data.length → r.2 = (true, 0)
        ∧ r.1[i]? = some ((data.filter (fun x => !x.2)).foldl (fun a x => a ^^^ x.1) b)))
    ∧ (∀ m u, s.grpOn g = true → G.row = some (m, 2) → G.rxMap ≠ 0 → s.clothItem g = none →
      (∀ n ∈ s.mapped g, (s.rowWord g n m 2).isSome = true) → u = s.rowHead g m → (u.group g).rxMap ≠ 0 →
      exec (.rowRelease g) s = .next (u.releaseRow g m 2
        ((dataMembers (u.group g).rxMap).map (fun n => (u.rowWord g n m 2).getD (0, true)))
        ((u.binder g).map (fun n => (u.rowWord g n m 2).getD (0, true)))))
    ∧ (∀ m k w l L e late, s.grpOn g = true → G.row = some (k, w) → s.laneOfMember g m = some l → L = s.lane (32 + l) →
      s.earliest g k = some e → L.stored k = none → late = (100 * s.tb.elapsed + 262144 : Nat)
        - (e + (100 * L.delay : Nat) + (100000 * s.field .wovRxCfg g 12 4 : Nat)) → (64 * w : Nat) ≤ late →
      exec (.rowWaitExpiry g m) s = .next (s.setLane (32 + l) { L with waived := some (k, min 2047 (late / 64).toNat) }))
    ∧ (∀ b h, s.grpOn g = true → G.dfc &&& 0x0E = 0 → G.rxSkip = false → G.sync = true → G.rxSlot = some b →
      24 ≤ G.rxCloth.length → (G.rxCk b).openHdr G.rxSeq G.rxCloth = h →
      (∀ x n, h = some x → hdrValid x G.rxPos G.rxLen G.keyHere = some (2, n) → 24 + n ≤ G.rxCloth.length →
        exec (.clothItemReceive g) s = .next (s.setGroup g (G.past n)))
      ∧ (∀ x n p, h = some x → hdrValid x G.rxPos G.rxLen G.keyHere = some (1, n) → 24 + n ≤ G.rxCloth.length →
        s.held = false → s.defClass (s.groupPort g) ≠ 7 → p = firstFree s.beam.picks 0 →
        s.fits (cellsFor n) (s.field .schAdmSlots 0 0 17) (s.field .schAdmCells 0 0 19) = true →
        ∃ t k, exec (.clothItemReceive g) s = .next t ∧ t.group g = G.past n ∧ t.pick p = some k ∧ k.st = .waiting
          ∧ k.frame = slice G.rxCloth 24 n ∧ k.src = 2 ∧ k.vec = 2 ∧ k.assoc.toNat = beNat (slice x 3 3)
          ∧ k.pn.toNat = beNat (slice x 6 8) ∧ (∀ q, q ≠ p → t.pick q = s.pick q))
      ∧ (∀ x, h = some x → hdrValid x G.rxPos G.rxLen G.keyHere = some (3, 0) →
        exec (.clothItemReceive g) s = .next (s.setGroup g { G.past 0 with
          rxSlot := G.rxNext, rxNext := none, rxNka := 0, rxLost := 0, rxMark := false, rxSeq := 1, rxKn := G.keyHere.getD G.rxKn }))
      ∧ (h = none ∨ (∃ x, h = some x ∧ hdrValid x G.rxPos G.rxLen G.keyHere = none) →
        ∃ t, exec (.clothItemReceive g) s = .next t ∧ (t.group g).sync = false ∧ (t.group g).rxCloth = []
        ∧ (t.group g).rxPos = G.rxPos + G.rxCloth.length ∧ t.beam = s.beam))
    ∧ (∀ a b c d slot ptr n, tfind G.poh 9 = some a → tfind G.poh 10 = some b → tfind G.poh 11 = some c →
      tfind G.poh 12 = some d → G.rxSlot = some slot → s.grpOn g = true → G.sync = false → G.noref = false →
      G.rxHold = true → G.rxSkip = false → G.dfc &&& 0x0E = 0 → ptr = a.toNat * 256 + b.toNat → ptr ≠ 0xFFFF →
      ptr + 24 ≤ G.rxCloth.length →
      (candidates (G.rxSeq - 1) (G.rxSince + ptr) G.rxMean (c.toNat * 256 + d.toNat)).find? (fun x =>
        ((G.rxCk slot).openHdr x (slice G.rxCloth ptr 24)).isSome) = some n →
      ∃ t, exec (.resyncAtMarker g) s = .next t ∧ t.group g = { G with
          sync := true, rxHold := false, rxCloth := G.rxCloth.drop ptr, rxPos := ptr, rxSeq := n, rxSince := 0
          rxFirst := some (ptr, some n) }
        ∧ (∀ h, h ≠ g → t.group h = s.group h) ∧ t.beam = s.beam)

/-- R250, R255 to R263, R333 to R338: lanes, ports and their seconds. Reports without a change and LINK_CHANGE rest on log entry 63,
seconds and snapshots on 60, 62 and 136, the checker's operands on 124. -/
def Obligations.LinesAndSeconds : Prop :=
  ∀ s : State,
    (∀ lane los lol L, s.variant.lane lane = true → L = s.lane lane →
      ∃ t, exec (.losDetectorChange lane los lol) s = .next t ∧ (t.lane lane).los = los ∧ (t.lane lane).lol = lol
        ∧ (t.lane lane).losAt = (if los = L.los then L.losAt else s.tb.elapsed)
        ∧ (t.lane lane).lolAt = (if lol = L.lol ∧ ¬ (L.dfc.getLsbD 0 = true ∧ (t.lane lane).dfc.getLsbD 0 = false)
          then L.lolAt else s.tb.elapsed)
        ∧ (t.port (s.portOfLane lane)).link = t.linkNow (s.portOfLane lane)
        ∧ (∀ p, p ≠ s.portOfLane lane → t.port p = s.port p) ∧ (∀ l, l ≠ lane → (t.lane l).los = (s.lane l).los))
    ∧ (∀ lane locked, s.variant.lane lane = true →
      locked = false ∨ (s.dom (48 + lane / 4)).up = true ∧ s.pcsRuns (s.portOfLane lane) = true
        ∧ s.training (s.portOfLane lane) = false →
      ∃ t, exec (.blockLockChange lane locked) s = .next t ∧ (t.lane lane).block = locked ∧ (t.lane lane).fecLost = false
        ∧ (t.port (s.portOfLane lane)).link = t.linkNow (s.portOfLane lane)
        ∧ (∀ p, p ≠ s.portOfLane lane → t.port p = s.port p) ∧ (∀ l, l ≠ lane → (t.lane l).block = (s.lane l).block))
    ∧ (∀ p up, s.variant.lane p = true → s.pcsRuns p = true →
      up = false ∨ (∀ l ∈ s.portLanes p, (s.dom (48 + l / 4)).up = true) →
      ∃ t, exec (.linkChange p up) s = .next t ∧ (∀ l ∈ s.portLanes p,
          if up = false ∧ s.runsFec p = true then
            (t.lane l).block = (s.lane l).block ∧ (t.lane l).fecLost = (s.lane l).block
          else (t.lane l).block = up ∧ (t.lane l).fecLost = false)
        ∧ (t.port p).link = t.linkNow p ∧ (t.port p).trainDone = ((s.port p).trainDone || (up && s.trains p))
        ∧ (∀ q, q ≠ p → t.port q = s.port q))
    ∧ (∀ p, s.training p = true → (s.port p).trainAt + 500000000 ≤ s.tb.elapsed →
      exec (.linkTrainingTimeout p) s = .next ((s.setPort p { s.port p with
        trainFail := true, trainAt := s.tb.elapsed }).occur .lneTrainFail p))
    ∧ (∀ lane (v : Word) p, lane < 64 → s.variant.lane lane = true → s.pins.inReset = false → s.lcShut = false → v.toNat < 2 ^ 16 →
      p = s.portOfLane lane → v.toNat / 4 % 8 ≠ 7 → v.toNat / 128 % 8 ≤ 5 → v.toNat / 128 % 8 = 0 ∨ s.portMode p = 12 →
      (v.getLsbD 5 = false ∧ v.getLsbD 6 = false) ∨ s.portEn p = false ∨ s.portMode p = 12 →
      ∃ t, exec (.prbsClr lane v) s = .next t ∧ (t.lane lane).prbsErr = 0
        ∧ (t.lane lane).prbsLock = ((s.lane lane).prbsLock && v.getLsbD 6)
        ∧ t.reg .lneLaneCfg lane = v &&& 0x7FFF ∧ (∀ l, l ≠ lane → t.lane l = s.lane l))
    ∧ (∀ lane locked errors L, s.variant.lane lane = true → L = s.lane lane → s.checks lane = true →
      ¬ (L.prbsLock = true ∧ locked = false ∧ L.prbsRun + errors < 64) →
      exec (.prbsLockChange lane locked errors) s = .next (s.setLane lane { L with
        prbsLock := locked, prbsRun := if L.prbsLock && locked then L.prbsRun + errors else 0
        prbsLost := L.prbsLost || (L.prbsLock && !locked)
        prbsErr := if L.prbsLock then min (2 ^ 48 - 1) (L.prbsErr + errors) else L.prbsErr }))
    ∧ (s.tb.tod / 1000000000 ≠ s.wov.lmt.second → ∃ t, exec .pmSecondEnd s = .next t
      ∧ t.wov.lmt.second = s.tb.tod / 1000000000
      ∧ ∀ l e w, l < 32 → s.monitored l = true → e = s.ent (4 * l) →
        w = e.wait ++ [{ e.now with sec := s.wov.lmt.second, off := false }] →
        (w.length < 10 → (t.ent (4 * l)).wait = w ∧ (t.ent (4 * l)).es = e.es ∧ (t.ent (4 * l)).uas = e.uas)
        ∧ (∀ x rest, w = x :: rest → w.length = 10 → e.unavail = false →
          e.es ≤ 0xFFFFFFFF → (∃ y ∈ w, y.severe = false) → (t.ent (4 * l)).wait = rest ∧ (t.ent (4 * l)).unavail = false
          ∧ (t.ent (4 * l)).es = min 0xFFFFFFFF (e.es + if x.bad then 1 else 0))
        ∧ (w.length = 10 → e.unavail = false → (∀ y ∈ w, y.severe = true) → (t.ent (4 * l)).unavail = true
          ∧ (t.ent (4 * l)).es = e.es))
    ∧ (∀ v : Word, s.pins.inReset = false → s.lcShut = false → v.toNat < 4 → v.getLsbD 0 = true → s.wov.lmt.busy = false →
      ∃ t, exec (.lmtSnapshot v) s = .next t ∧ t.wov.lmt.busy = true ∧ t.wov.lmt.snapSec = s.wov.lmt.settled
        ∧ (∀ l k, l < 32 → k < 8 →
          tget 0 t.wov.lmt.snap (8 * l + k) = (entWords (s.ent (4 * l)) (s.ent (4 * l + 1))).getD k 0)
        ∧ (∀ g k, g < 8 → k < 8 →
          tget 0 t.wov.lmt.snap (8 * (32 + g) + k) = (entWords (s.ent (4 * g + 2)) (s.ent (4 * g + 3))).getD k 0)
        ∧ (∀ k, (t.ent k).es = if v.getLsbD 1 then 0 else (s.ent k).es))
    ∧ exec .lmtSnapshotDone s = .next { s with wov := { s.wov with lmt := { s.wov.lmt with busy := false } } }

/-! ### Weft ports -/

/-- R347, R348: an item of a TYPE that the UP link n accepts: under its receive key its tag verifies, its SEQ lies above the
last accepted one, and its body is b. -/
def Claims.weftItem (s : State) (n type : Nat) (item b : Bytes) : Prop :=
  (s.wport n).st = .up ∧ 36 ≤ item.length ∧ (item.getD 12 0).toNat = type ∧ (s.wport n).rxSeq < beNat (slice item 4 8)
    ∧ ∃ k, (s.wport n).rxKey = some k
      ∧ gcmOpen k.key (slice k.salt 0 4 ++ beBytes (beNat (slice item 4 8)) 8) (item.take 16) ((item.take (item.length - 16)).drop 16)
        (item.drop (item.length - 16)) = (b, true)

/-- R340 to R345: weft port n before it is UP, and its keys. Payload codings of the sideband rest on log entry 64, the transcript's
order and the free keys on 65, the lanes' headers and alignment blocks as operands on 125. -/
def Obligations.WeftBringUp : Prop :=
  ∀ (s : State) (n : Nat) (w : Weft), w = s.wport n →
    (n < s.variant.weftPorts → (s.dom (92 + n)).up = true →
      (w.st = .down → s.devId ≠ 0 → ∃ t, exec (.weftLinkStateChange n .present) s = .next t ∧ (t.wport n).st = .train
        ∧ (t.wport n).since = s.tb.elapsed ∧ .sideband n (sbMessage 0x20 [2]) ∈ t.out ∧ .weftPrbs n ∈ t.out)
      ∧ (w.st = .train → ∃ t, exec (.weftLinkStateChange n .trained) s = .next t ∧ (t.wport n).doneTx = true
        ∧ (t.wport n).st = (if w.doneRx then .lock else .train) ∧ .sideband n (sbMessage 0x03 []) ∈ t.out)
      ∧ (∀ lane l, lane < 16 → w.st = .lock ∨ w.st = .key ∨ w.st = .up →
        (∀ valid : List Bool, l = valid.foldl WeftLane.header (w.lane lane) →
          w.striped = false ∨ (l.locked = true ∧ l.aligned = true) →
          exec (.weftLinkStateChange n (.headers lane valid)) s =
            .next (s.setWport n { w with lanes := tset {} w.lanes lane l }))
        ∧ (∀ named skew, (w.lane lane).locked = true → l = { w.lane lane with aligned := named == lane && decide (skew ≤ 8) } →
          w.striped = false ∨ l.aligned = true →
          exec (.weftLinkStateChange n (.alignment lane named skew)) s =
            .next (s.setWport n { w with lanes := tset {} w.lanes lane l }))
        ∧ (∀ named skew, w.st = .up → w.striped = true → named ≠ lane ∨ 8 < skew →
          ∃ t, exec (.weftLinkStateChange n (.alignment lane named skew)) s = .next t ∧ (t.wport n).st = .down))
      ∧ (w.st = .lock → w.striped = true →
        ∃ t, exec (.weftLinkStateChange n .aligned) s = .next t ∧ (t.wport n).st = .key)
      ∧ (w.st = .key → w.keyed = true → ∃ t, exec (.weftLinkStateChange n .keysIn) s = .next t ∧ (t.wport n).st = .up
        ∧ (t.wport n).txKey = w.txKey ∧ (t.wport n).rxKey = w.rxKey)
      ∧ (w.st = .up → ∃ t, exec (.weftLinkStateChange n .lost) s = .next t ∧ (t.wport n).st = .down
        ∧ (t.wport n).txKey = none ∧ (t.wport n).rxKey = none ∧ (t.wport n).keyed = false))
    ∧ (w.st = .train →
      (∀ lane mode a b c u, lane.toNat < 16 → mode.toNat < 3 → a.toNat < 3 → b.toNat < 3 → c.toNat < 3 →
        u = tget (4, 51, 8) w.taps lane.toNat →
        ∀ r : (Nat × Nat × Nat) × Bytes, r = (if mode = 1 then ((0, 63, 0), [0, 0, 0])
          else if mode = 2 then ((4, 51, 8), [0, 0, 0])
          else ((tapStep (tapStep (tapStep u 0 a.toNat).1 1 b.toNat).1 2 c.toNat).1,
            [(tapStep u 0 a.toNat).2, (tapStep (tapStep u 0 a.toNat).1 1 b.toNat).2,
             (tapStep (tapStep (tapStep u 0 a.toNat).1 1 b.toNat).1 2 c.toNat).2])) →
        exec (.trainReq n [lane, mode, a, b, c]) s = .next ((s.setWport n { w with
          taps := tset (4, 51, 8) w.taps lane.toNat r.1 }).emit (.sideband n (sbMessage 0x02 (lane :: r.2))))
        ∧ (tapsOk u = true → tapsOk r.1 = true))
      ∧ (∀ lane x y z, lane.toNat < 16 → ∃ t, exec (.trainRsp n [lane, x, y, z]) s = .next t
        ∧ tfind (t.wport n).tapRsp lane.toNat = some [x, y, z] ∧ (t.wport n).st = .train
        ∧ (w.doneTx = false → ∃ q, (t.wport n).sbReq = some (0x01, q, s.tb.elapsed)))
      ∧ (∃ t, exec (.trainDone n) s = .next t ∧ (t.wport n).doneRx = true
        ∧ (t.wport n).st = (if w.doneTx then .lock else .train))
      ∧ (w.since + 100000000 ≤ s.tb.elapsed → ∃ t, exec (.weftTrainTimeout n) s = .next t ∧ (t.wport n).st = .down))
    ∧ (∀ q, q.length = 242 → w.st = .key ∨ w.st = .up → s.canAgree = true → w.refusedAt = none → w.helloRx ≠ q ∨ w.shareTx = [] →
      (s.peerBad n q = false → ∃ t sig, exec (.keyHello n q) s = .next t ∧ (t.wport n).helloRx = q
        ∧ (t.wport n).shareTx = 4 :: publicOf (Config.ephemeralKey (t.wport n).eph) ++ sig
        ∧ (t.wport n).sbReq = some (0x11, (t.wport n).shareTx, s.tb.elapsed) ∧ (t.wport n).helloTx ≠ [])
      ∧ (s.peerBad n q = true → w.st = .key → ∃ t, exec (.keyHello n q) s = .next t ∧ (t.wport n).refusedAt = some s.tb.elapsed
        ∧ (t.wport n).helloTx = [] ∧ (t.wport n).st = .key))
    ∧ (∀ q, q.length = 193 → w.st = .key ∨ w.st = .up → w.helloRx ≠ [] → w.shareTx ≠ [] → w.refusedAt = none →
      w.shareRx ≠ q → exec (.keyShare n q) s = .next (
        if q.getD 0 0 = 4 ∧
            ecdsaVerify ((slice w.helloRx 42 97).drop 1) (sha384 (w.hellos ++ slice q 0 97)) (slice q 97 96) = true then
          match w.derive (slice q 0 97) with
          | none => s.refuseAgreement n
          | some d => (s.setWport n { w.answered 0x11 with shareRx := q, derived := some d }).sbRequest n 0x12
              (({ w.answered 0x11 with shareRx := q, derived := some d } : Weft).finish d.2)
        else s.refuseAgreement n))
    ∧ (∀ d, w.derived = some d → w.st = .key ∨ w.st = .up →
      exec (.keyFinish n (w.finish d.2)) s = .next (s.setWport n (w.install d.1 s.tb.elapsed))
      ∧ ∀ q, q ≠ w.finish d.2 → w.st = .key → ∃ t, exec (.keyFinish n q) s = .next t
        ∧ (t.wport n).refusedAt = some s.tb.elapsed ∧ (t.wport n).derived = none ∧ (t.wport n).txKey = w.txKey)
    ∧ (∀ cert hello, s.canAgree = true → s.kcu.cascade = some cert →
      hello = beBytes s.devId 2 ++ beBytes (Config.drbg s.kcu.draws).toNat 32 ++ cert →
      (∀ r, w.st = .key → w.refusedAt = some r → r + 1000000000 ≤ s.tb.elapsed →
        ∃ t, exec (.weftKeyRetry n) s = .next t ∧ (t.wport n).helloTx = hello ∧ (t.wport n).refusedAt = none
          ∧ (t.wport n).sbReq = some (0x10, hello, s.tb.elapsed))
      ∧ (w.st = .up → w.rekeying = false → w.newTx = none →
        w.keyedAt + 60000000000 * s.field .wftPortBudget n 16 16 ≤ s.tb.elapsed ∨ 2 ^ 64 - 2 ^ 32 ≤ w.txSeq →
        ∃ t, exec (.weftRekeyTimer n) s = .next t ∧ (t.wport n).helloTx = hello ∧ (t.wport n).rekeying = true
          ∧ (t.wport n).st = .up ∧ (t.wport n).txKey = w.txKey))
    ∧ (∀ b : Byte, n < s.variant.weftPorts → b ≤ 5 →
      exec (.sidebandStatus n [b]) s = .next (s.setWport n { w with peerSt := b }))
    ∧ (∀ type q since, w.sbReq = some (type, q, since) → since + 20000 ≤ s.tb.elapsed →
      ∃ t, exec (.sidebandRetry n) s = .next t ∧ t.out = s.out ++ [.sideband n (sbMessage type q)]
        ∧ t.wport n = { w with sbReq := some (type, q, s.tb.elapsed) } ∧ t = { s with weft := t.weft, out := t.out })
    ∧ (∀ msg, n < s.variant.weftPorts → sbBad msg = true → exec (.sidebandMessageError n msg) s = .next (s.occur .wftSbErr n))

/-- R345 to R353: the items of the UP weft port n. The numbers and the free fields of control items rest on log entry 66, `fwd` on
91, expiries on 106, the blocks of an item on 137, items of a reserved TYPE on 138. -/
def Obligations.WeftData : Prop :=
  ∀ (s : State) (n : Nat) (w : Weft), w = s.wport n → w.st = .up →
    (∀ k, w.txKey = some k →
      (∀ fn rest, w.ctl = .ack fn :: rest → ∃ t dest budget item r, exec (.weftItemSend n) s = .next t
        ∧ item = k.seal dest budget w.txSeq 2 (beBytes fn.toNat 4)
        ∧ r = { w with ctl := rest, txSeq := w.txSeq + 1 }.sendItem n s.tb.elapsed item
        ∧ t.out = s.out ++ [.weft n item r.1] ∧ t.wport n = r.2)
      ∧ (∀ f rest b item, w.ctl = [] → s.held = false → w.resend = f :: rest → f.left s.tb.elapsed = some b →
        item = k.seal f.dest.toNat b w.txSeq 1 f.body →
        ∃ t, exec (.weftItemSend n) s = .next t ∧ .weft n item (w.sendItem n s.tb.elapsed item).1 ∈ t.out
          ∧ (t.wport n).resend = rest ∧ (t.wport n).unacked = w.unacked ++ [f] ∧ (t.wport n).txSeq = w.txSeq + 1)
      ∧ (∀ f b f' item, w.ctl = [] → s.held = false → w.resend = [] → nextFrame w.wait = some f →
        f.left s.tb.elapsed = some b → f' = { f with fn := w.txFn } → item = k.seal f.dest.toNat b w.txSeq 1 f'.body →
        ∃ t, exec (.weftItemSend n) s = .next t ∧ .weft n item (w.sendItem n s.tb.elapsed item).1 ∈ t.out
          ∧ (t.wport n).wait = w.wait.erase f ∧ (t.wport n).unacked = w.unacked ++ [f'] ∧ (t.wport n).txFn = w.txFn + 1
          ∧ (t.wport n).txSeq = w.txSeq + 1 ∧ (t.wport n).ackAt.isSome = true
          ∧ ∀ g ∈ w.wait, g.cls ≤ f.cls))
    ∧ (∀ k item seq type, w.rxKey = some k → seq = beNat (slice item 4 8) → w.rxSeq < seq → 32 ≤ item.length →
      type = (item.getD 12 0).toNat → type = 0 ∨ 6 < type →
      (gcmOpen k.key (slice k.salt 0 4 ++ beBytes seq 8) (item.take 16) ((item.take (item.length - 16)).drop 16)
        (item.drop (item.length - 16))).2 = true →
      exec (.weftFrameReceive n item) s = .next (s.setWport n { w with rxSeq := seq }))
    ∧ (∀ item b seq, seq = beNat (slice item 4 8) →
      (s.overdue n item = false → beNat (slice b 0 4) = w.rxFn.toNat → w.sinceAck ≠ 15 →
        (∀ dest budget left, Claims.weftItem s n 1 item b → dest = beNat (slice item 0 2) →
          budget = beNat (slice item 2 2) → budget = left + (w.linkTime + 15) / 16 → 0 < left → s.held = false →
          (∀ p, dest = s.devId → BitVec.ofNat 3 (s.field .wftPortCfg n 1 3) ≠ 7 → p = firstFree s.beam.picks 0 →
            s.fits (cellsFor (weftMeta b ++ b.drop 48).length) (s.field .schAdmSlots 0 0 17) (s.field .schAdmCells 0 0 19)
              = true →
            ∃ t k, exec (.weftFrameReceive n item) s = .next t
              ∧ t.wport n = { w with rxSeq := seq, rxFn := w.rxFn + 1, sinceAck := w.sinceAck + 1 }
              ∧ t.pick p = some k ∧ k.st = .waiting ∧ k.frame = weftMeta b ++ b.drop 48 ∧ k.src = 3
              ∧ k.vec = (b.getD 6 0).toNat % 16 ∧ (∀ q, q ≠ p → t.pick q = s.pick q))
          ∧ (∀ m cls, dest ≠ s.devId → reservedId dest = false → s.routeTo dest = some m → m ≠ n →
            cls = BitVec.ofNat 3 ((b.getD 6 0).toNat / 16) → cls ≠ 7 →
            s.fits (cellsFor (b.drop 48).length) (s.field .schAdmSlots 0 0 17) (s.field .schAdmCells 0 0 19) = true →
            ∃ t f, exec (.weftFrameReceive n item) s = .next t ∧ (t.wport m).wait = (s.wport m).wait ++ [f]
              ∧ f.dest.toNat = dest ∧ f.budget = left ∧ f.frame = b.drop 48 ∧ f.cls = cls ∧ f.via = some n
              ∧ t.wport n = { w with rxSeq := seq, rxFn := w.rxFn + 1, sinceAck := w.sinceAck + 1 } ∧ t.beam = s.beam))
        ∧ (Claims.weftItem s n 6 item b → ∃ t, exec (.weftSkipReceive n item) s = .next t
          ∧ t.wport n = { w with rxSeq := seq, rxFn := w.rxFn + 1, sinceAck := w.sinceAck + 1 }
          ∧ t = { s with weft := t.weft }))
      ∧ (s.overdue n item = true → ∀ u, u = (s.setWport n { w with rxSeq := seq }).occur .wftBudgetDrop n →
        (Claims.weftItem s n 2 item b → exec (.weftAckReceive n item) s = .next u)
        ∧ (Claims.weftItem s n 3 item b → exec (.weftNakReceive n item) s = .next u)
        ∧ (Claims.weftItem s n 4 item b → exec (.weftKeyswitchReceive n item) s = .next u)
        ∧ (Claims.weftItem s n 5 item b → exec (.weftTimeReceive n item) s = .next u))
      ∧ (∀ fn un re, s.overdue n item = false → Claims.weftItem s n 2 item b → fn = BitVec.ofNat 32 (beNat (slice b 0 4)) →
        un = w.unacked.filter (fun f => decide (0 < fnDiff f.fn fn)) →
        re = w.resend.filter (fun f => decide (0 < fnDiff f.fn fn)) → un ≠ w.unacked →
        ∃ t, exec (.weftAckReceive n item) s = .next t ∧ t.wport n = { w with
          rxSeq := seq, unacked := un, resend := re, expiries := 0
          ackAt := if un.isEmpty && re.isEmpty then none else some (s.tb.elapsed + s.ackNs n) })
      ∧ (s.overdue n item = false → Claims.weftItem s n 3 item b → ∃ t, exec (.weftNakReceive n item) s = .next t
        ∧ t.wport n = { w with rxSeq := seq, resend := w.unacked ++ w.resend, unacked := [] })
      ∧ (∀ k, s.overdue n item = false → Claims.weftItem s n 4 item b → w.newRx = some k → ∃ t, exec (.weftKeyswitchReceive n item) s = .next t
        ∧ t.wport n = { w with rxKey := some k, newRx := none, rxSeq := 0 })
      ∧ (∀ t1 t2 t3 : Nat, s.overdue n item = false → Claims.weftItem s n 5 item b → t1 = beNat (slice b 48 8) → t2 = beNat (slice b 56 8) →
        t3 = beNat (slice b 64 8) → ∃ t, exec (.weftTimeReceive n item) s = .next t
        ∧ t.wport n = { w with
          rxSeq := seq, stamps := (t3, s.tb.elapsed)
          linkTime := if t1 = 0 then w.linkTime
            else min 0xFFFFFF ((((s.tb.elapsed : Int) - t1) - ((t3 : Int) - t2)) / 2).toNat }))
    ∧ (∀ at_, w.ackAt = some at_ → at_ < s.tb.elapsed →
      (w.expiries + 1 < s.field .wftPortTimers n 16 4 → ∃ t, exec (.weftAckTimeout n) s = .next t
        ∧ t.wport n = { w with
          expiries := w.expiries + 1, ackAt := some (s.tb.elapsed + s.ackNs n), resend := w.unacked ++ w.resend
          unacked := [] })
      ∧ (s.field .wftPortTimers n 16 4 ≤ w.expiries + 1 → ∃ t, exec (.weftAckTimeout n) s = .next t
        ∧ (t.wport n).st = .down))
    ∧ (w.sinceAck ≠ 0 → w.lastAck + 1000 ≤ s.tb.elapsed → ∃ t, exec (.weftAckSend n) s = .next t
      ∧ t.wport n = { w with sinceAck := 0, lastAck := s.tb.elapsed, ctl := w.ctl ++ [.ack (w.rxFn - 1)] })
    ∧ (w.lastTime + 1000000 ≤ s.tb.elapsed → ∃ t, exec (.weftTimeSend n) s = .next t
      ∧ t.wport n = { w with lastTime := s.tb.elapsed, ctl := w.ctl ++ [.time] })

/-! ### In-package memory -/

/-- R305, R310, R311, R452: line `line` of a region can be served by its copies `cs` (R318): the memory is initialised, the
line exists, is not suspect and not being re-rooted, and its channels run; u is the state in which their idle time has begun
anew. -/
def Claims.memLine (s u : State) (buffer : Bool) (line : Nat) (cs : List Bool) : Prop :=
  s.msc.done = true ∧ line < s.lines buffer ∧ s.rerooted buffer line = false ∧ s.suspect buffer line = false
    ∧ (∀ b ∈ cs, (s.dom (64 + s.lineChannel buffer line b)).st = .p0 ∧ (s.dom (64 + s.lineChannel buffer line b)).up = true
      ∧ (s.dom (64 + s.lineChannel buffer line b)).ready = .fresh)
    ∧ u = ((cs.map (fun b => s.lineChannel buffer line b)).dedup.insertionSort (· ≤ ·)).foldl (fun t c => t.touchDom (64 + c)) s

/-- R302, R303, R313, R319: t holds every copy of the line written with `plain` under key draw d and the next counter c of
the copy's channel's write clock, and every other line as s holds it. -/
def Claims.stored (s t : State) (buffer : Bool) (mki d line : Nat) (plain : Bytes) : Prop :=
  (∀ b ∈ s.copies buffer, ∀ c data, c = tget 0 s.msc.clocks (s.lineChannel buffer line b) + 1 →
    data = xorBytes (slice plain 0 64) (lineStream (regionKeys d).1 buffer mki line (BitVec.ofNat 64 c)) →
    tget {} t.msc.lines (lineKey buffer line b) =
      { data := data, ctr := BitVec.ofNat 64 c, mki := mki
        mac := lineMac (regionKeys d) buffer mki line (BitVec.ofNat 64 c) data }
    ∧ c ≤ tget 0 t.msc.clocks (s.lineChannel buffer line b))
  ∧ (∀ k, (∀ b ∈ s.copies buffer, k ≠ lineKey buffer line b) → tget {} t.msc.lines k = tget {} s.msc.lines k)
  ∧ t.tab = s.tab ∧ t.shu = s.shu ∧ t.msc.suspects = s.msc.suspects

/-- R302, R309 to R317, R154: what a request of a line does. Where a line lies is log entry 20, what its path verified as, an operand,
log entries 8 and 68, MAC lines and nodes 132, the scrub's copy 118. -/
def Obligations.MemoryLines : Prop :=
  ∀ (s u : State) (buffer : Bool) (line : Nat) (cs : List Bool) (ch : Nat), Claims.memLine s u buffer line cs →
    ch = s.lineChannel buffer line (s.readCopy buffer) →
    (∀ path, cs = [s.readCopy buffer] → s.keyDraw buffer (s.lineMki buffer line) false ≠ none →
      ((∀ o ∈ path, o.sym = .clean ∧ o.pass = true) →
        exec (.dramRead buffer line path) s = .next (u.fetched ch buffer line))
      ∧ (∀ o : PathObs, path = [o] → o.sym = .corrected → o.pass = true →
        exec (.dramRead buffer line path) s = .next
          ((u.occur .mscCe (s.channelOf buffer (s.readCopy buffer) o.level o.index)).fetched ch buffer line))
      ∧ (∀ pre o post, path = pre ++ o :: post → (∀ x ∈ pre, x.sym = .clean ∧ x.pass = true) →
        (o.sym ≠ .uncorrectable → o.pass = false →
          ∃ t, exec (.dramRead buffer line path) s = .next t
            ∧ t = ((u.integrity buffer o.level o.index).faultRequests buffer line).fetched ch buffer line
            ∧ ((s.msc.suspects.length < 1024 ∨ (buffer, o.level, o.index) ∈ s.msc.suspects) →
              (buffer, o.level, o.index) ∈ t.msc.suspects)
            ∧ (s.tmu.fuses.getLsbD 12 = false → 12 ∈ t.tmu.fired) ∧ t.msc.lines = s.msc.lines)
        ∧ (o.sym = .uncorrectable → (buffer = true ∨ s.msc.mirror ≠ 1) → ∀ n,
          n = min (s.cover buffer o.level o.index).2 (s.lines buffer - (s.cover buffer o.level o.index).1) →
          ∃ t, exec (.dramRead buffer line path) s = .next t
            ∧ t = (u.poison buffer o.level o.index).fetched ch buffer line
            ∧ t.msc.rerooting = s.msc.rerooting ++ [(buffer, (s.cover buffer o.level o.index).1, n)]
            ∧ (2 ^ s.field .mscPoisonCfg 0 0 5 ≤ n → s.hif.mode = 1 → t.hif.mode = 2 ∧ t.hif.cause = 2)
            ∧ (n < 2 ^ s.field .mscPoisonCfg 0 0 5 → t.hif.mode = s.hif.mode))))
    ∧ (∀ path past v, cs = [false] → s.keyDraw buffer (s.lineMki buffer line) false ≠ none →
      s.field .mscScrub 0 0 16 ≠ 0 → s.shedding = false → past = (if s.msc.scrubEra = s.scrubNow then s.msc.scrubbed else []) →
      (false, buffer, line) ∉ past →
      v = { u with msc := { u.msc with scrubEra := s.scrubNow, scrubbed := (false, buffer, line) :: past } } →
      ((∀ o ∈ path, o.sym = .clean ∧ o.pass = true) → exec (.patrolScrubRead buffer line path) s = .next v)
      ∧ (∀ o : PathObs, path = [o] → o.sym = .corrected → o.pass = true →
        exec (.patrolScrubRead buffer line path) s = .next (v.occur .mscScrubCe (s.channelOf buffer false o.level o.index))))
    ∧ (∀ (mki d : Nat) (data : Bytes) (path : List PathObs), cs = s.copies buffer → (∀ o ∈ path, o.sym = .clean ∧ o.pass = true) →
      s.keyDraw buffer mki true = some d → (buffer = false → mki = 0) →
      s.clockRoom (s.writeChannels buffer line path) = true →
      (∃ t, exec (.dramLineWrite buffer mki line data path) s = .next t ∧ Claims.stored s t buffer mki d line data)
      ∧ (∀ off, data.length < 64 → off + data.length ≤ 64 →
        ∃ t, exec (.dramPartialWrite buffer mki line off data path) s = .next t
          ∧ Claims.stored s t buffer mki d line ((patch (s.plainLine buffer d line) off data).take 64))
      ∧ (∀ idx : BitVec 24, buffer = false → line = 2 * idx.toNat + 1 → idx.toNat < s.capacity →
        ∃ t, exec (.cacheWriteback idx path) s = .next t
          ∧ Claims.stored s t false 0 d line ((s.assoc idx.toNat).counters (s.plainLine false d line))))

/-- R305 to R307, R311, R315, R316, R320, R325: the upkeep of the memory. When a fetch began, and its line's number, rest on log entry
118, fetches and stacks on 68 and 106, initialisation on 69, what a fresh writing gives on 132, a second GO and RETIRE on 136. -/
def Obligations.MemoryKeeping : Prop :=
  ∀ s : State,
    (∀ ch line late, ch < s.channels → s.stackOk (ch / 4) = true → s.onChannel ch false line = true →
      late = tget 0 s.msc.expired ch → ∀ r : Retried → Bool,
      r = (fun (x : Retried) => x.ch == ch && x.buffer == false && x.line == line) →
      (s.msc.retried.find? r = none → s.fetchStart false line + s.field .mscTimeout 0 0 16 < s.tb.elapsed →
        exec (.dramFetchTimeout ch line) s = .next { s with msc := { s.msc with
          retried := { ch := ch, buffer := false, line := line, at_ := s.tb.elapsed } :: s.msc.retried
          expired := tset 0 s.msc.expired ch (late + 1) } })
      ∧ (∀ x, s.msc.retried.find? r = some x → x.at_ + s.field .mscTimeout 0 0 16 < s.tb.elapsed → ∀ u,
        u = ({ s with msc := { s.msc with
          retried := s.msc.retried.filter (fun y => !r y), expired := tset 0 s.msc.expired ch (late + 1)
          lastFail := tset none s.msc.lastFail ch (some (false, line)) } }.occur .mscTimeoutFail ch).faultRequests false line →
        (tget none s.msc.lastFail ch = none ∨ tget none s.msc.lastFail ch = some (false, line) →
          exec (.dramFetchTimeout ch line) s = .next u)
        ∧ (∀ y, tget none s.msc.lastFail ch = some y → y ≠ (false, line) →
          exec (.dramFetchTimeout ch line) s = .next (u.failStack (ch / 4) (ch % 4)))
        ∧ (∀ b d i kn rx pc a p k, tget none s.msc.lastFail ch = none → s.shu.bobs = [(b, s.bob b)] →
          (s.bob b).pend = [⟨d, .lookAt i kn rx, pc, a⟩] → i.toNat < s.capacity → line / 2 = i.toNat →
          (s.bob b).left = none → (s.bob b).pick = some p → s.pick p = some k →
          ∃ t, exec (.dramFetchTimeout ch line) s = .next t ∧ t.bob b = {} ∧ (k.mirrors = [] → t.pick p = none)
            ∧ (t.clu (b / 128)).trapLast = (7, pc % 16384, b / 8 % 16, b % 8, (s.bob b).inHandler)))
      ∧ (late ≠ 0 → exec (.dramLateArrival ch) s =
        .next ({ s with msc := { s.msc with expired := tset 0 s.msc.expired ch (late - 1) } }.occur .mscLate ch))
      ∧ (late = 0 → exec (.dramLateArrival ch) s = .next s))
    ∧ (∀ st ch, s.stackOk st = true → ch < 4 →
      ∃ t, exec (.stackFail st ch) s = .next t ∧ tget .ok t.msc.stks st = .failed
        ∧ (tget 0 t.msc.chFailed st).testBit ch = true
        ∧ (∀ c, c < 4 → (t.dom (64 + 4 * st + c)).ready = .quarantined ∧ (t.dom (64 + 4 * st + c)).up = false)
        ∧ (s.msc.mirror = 1 → (∀ i, tget .ok s.msc.stks i = .ok) → t.msc.mirror = 2 ∧ t.hif.mode = s.hif.mode
          ∧ t.msc.serveB = (if decide (s.variant.stacks / 2 ≤ st) = s.msc.serveB then !s.msc.serveB else s.msc.serveB))
        ∧ (s.msc.mirror = 0 → s.hif.mode = 1 → t.hif.mode = 2 ∧ t.hif.cause = 3))
    ∧ (∀ st, tget .ok s.msc.stks st = .rebuilding →
      ∃ t u : State, exec (.mirrorRebuildDone st) s = .next t ∧ t = (u.event 0 .msc 4 st).faultRec true .msc 4 st 0
        ∧ u.msc.stks = tset .ok s.msc.stks st .ok ∧ u.msc.chFailed = tset 0 s.msc.chFailed st 0
        ∧ (s.msc.mirror ≠ 0 → (∀ i, i ≠ st → tget .ok s.msc.stks i = .ok) → u.msc.mirror = 1)
        ∧ u.msc.serveB = s.msc.serveB ∧ u.tab = s.tab ∧ u.hif = s.hif)
    ∧ (∀ buffer first count, (buffer, first, count) ∈ s.msc.rerooting → s.msc.done = true →
      (∀ b ∈ s.copies buffer, ∀ ch, ch < s.channels →
        tget 0 s.msc.clocks ch + s.freshWrites buffer b first count ch < 2 ^ 64 - 1) →
      ∃ t, exec (.rerootDone buffer first count) s = .next t
        ∧ t.msc.rerooting = s.msc.rerooting.erase (buffer, first, count)
        ∧ (∀ l, ∀ b ∈ s.copies buffer, l < 2 ^ 40 → first ≤ l → l < first + count →
          tfind t.msc.lines (lineKey buffer l b) = none
          ∧ (s.lineChannel buffer l b < s.channels →
            tget 0 s.msc.clocks (s.lineChannel buffer l b) < t.counterOf buffer b 0 l))
        ∧ (∀ l b, l < 2 ^ 40 → l < first ∨ first + count ≤ l →
          tfind t.msc.lines (lineKey buffer l b) = tfind s.msc.lines (lineKey buffer l b))
        ∧ (∀ l b, tfind t.msc.lines (lineKey (!buffer) l b) = tfind s.msc.lines (lineKey (!buffer) l b))
        ∧ t.msc.result = (if s.msc.reinit = some (buffer, first, count) then 1 else s.msc.result)
        ∧ t = { s with msc := t.msc })
    ∧ (s.pins.inReset = false → s.lcShut = false → s.variant ≠ .tv16e →
      (s.msc.go = false →
        exec (.mscInitGo 1) s = .next { s with msc := { s.msc with go := true, busy := true } })
      ∧ (∀ (v : Word) k, k = v.toNat % 256 → v.toNat = k + 2 ^ 31 →
        ((tget {} s.msc.mkis k).st = .active → s.mkiRefs k = 0 →
          exec (.mkiRetire v) s = .next { s with msc := { s.msc with
            mkis := tset {} s.msc.mkis k { tget {} s.msc.mkis k with st := .retiring } } })
        ∧ ((tget {} s.msc.mkis k).st ≠ .active ∨ s.mkiRefs k ≠ 0 →
          exec (.mkiRetire v) s = .next (s.setRegBit .mscStat 0)))
      ∧ (∀ (v : Word) index buffer level, index = s.heldOr 0xF0_0020 (s.reg .mscReinit0) → v.toNat < 64 →
        v.getLsbD 5 = true → buffer = v.getLsbD 0 → level = v.toNat / 2 % 16 →
        (level ≤ 8 ∨ level = 15) →
        (s.lineAt buffer level index.toNat = true →
          ∃ t, exec (.mscLineReinit v) s = .next t ∧ t.msc.result = 3
            ∧ t.msc.suspects = s.msc.suspects.filter (fun e => !(s.coveredSuspects buffer level index.toNat).contains e)
            ∧ t.msc.rerooting = s.msc.rerooting ++ [(buffer, (s.cover buffer level index.toNat).1,
                min (s.cover buffer level index.toNat).2 (s.lines buffer - (s.cover buffer level index.toNat).1))])
        ∧ (s.lineAt buffer level index.toNat = false →
          ∃ t, exec (.mscLineReinit v) s = .next t ∧ t.msc = { s.msc with result := 2, reinit := none })))
    ∧ (s.msc.go = true → s.msc.started = false → s.kcu.drbg = 2 → s.dramFresh = true →
      ∃ t, exec .mscInitStart s = .next t ∧ t.msc.tableKey = some s.kcu.draws ∧ t.msc.started = true ∧ t.msc.busy = true
        ∧ (∀ k, k < 256 → tget {} t.msc.mkis k = { st := .active, draw := s.kcu.draws + 3 + 3 * k })
        ∧ t.kcu.draws = s.kcu.draws + 771)
    ∧ (s.msc.started = true → s.msc.done = false → s.msc.tableKey ≠ none →
      ∃ t, exec .mscInitDone s = .next t ∧ t.msc.done = true ∧ t.msc.busy = false ∧ (∀ i, t.assoc i = {})
        ∧ t.tab.flows = [] ∧ t.tab.mt = s.tab.mt ∧ t.msc.lines = [] ∧ t.msc.suspects = s.msc.suspects)
    ∧ (∀ k, (tget {} s.msc.mkis k).st = .retiring → s.mkiExtents k = 0 → s.kcu.drbg = 2 →
      ∃ t u : State, exec (.mkiRetired k) s = .next t ∧ t = u.event 0 .msc 3 k
        ∧ (∀ j, tget {} u.msc.mkis j = if j = k then { st := .active, draw := s.kcu.draws } else tget {} s.msc.mkis j)
        ∧ u.kcu.draws = s.kcu.draws + 3)

/-! ### Power management -/

/-- R452 to R460, R462, R468: decisions, the wake bucket and sleep entries. The load rule's corners rest on log entry 71, sleep
states on 72, the bucket and wakes asked for while a domain enters sleep on 75, a lane quad's training time on 2. -/
def Obligations.PowerDecisions : Prop :=
  ∀ s : State,
    (s.pins.inReset = false → s.pmc.decided + 1000 ≤ s.tb.elapsed →
      ∃ t, exec .pmcDecision s = .next t ∧ t.pmc.decided = s.tb.elapsed
        ∧ ∀ d, d < 96 → s.variant.domain d = true →
          (t.dom d).deepest.toNat = (s.deepestNow d).code
          ∧ (48 ≤ d → (s.dom d).st.awake = true → (s.dom d).ready = .fresh →
            ∀ x, x = s.capCache d (s.deepestNow d) →
            (s.idle d = false ∨ x = .p0 → (t.dom d).st = .p0)
            ∧ (s.idle d = true → x = .p1 → (t.dom d).st = .p1)
            ∧ (s.idle d = true → x = .p2 →
              (t.dom d).st = .entering false ∧ (t.dom d).ready = .stale)
            ∧ (s.idle d = true → x = .p3 →
              (t.dom d).st = .entering true ∧ (t.dom d).ready = .stale))
          ∧ ((s.dom d).st.deep = true → (s.dom d).upOnce = true → (s.dom d).ready ≠ .quarantined → (s.dom d).wake = none →
            s.tolFell d = true ∨ s.workWaits d = true →
            (t.dom d).wake = some (.sleep, s.tb.elapsed) ∧ d ∈ t.pmc.wakes))
    ∧ (∀ d ds u, s.pins.inReset = false → s.wakeSealed = true → s.pmc.wakes = d :: ds → d ∉ ds → (s.dom d).st.deep = true →
      u = s.refillBucket →
      (256 * (domKind d).weight ≤ u.pmc.level →
        ∃ t, exec .wakeAdmit s = .next t ∧ (t.dom d).st = .waking ∧ (t.dom d).wake = none ∧ (t.dom d).up = false
          ∧ d ∉ t.pmc.wakes ∧ t.pmc.level + 256 * (domKind d).weight ≤ u.pmc.level)
      ∧ (u.pmc.level < 256 * (domKind d).weight → exec .wakeAdmit s = .next u))
    ∧ (∀ v : Word, s.pins.inReset = false → s.lcShut = false → v.toNat < 2 ^ 24 →
      (s.wakeSealed = true → exec (.pmcWakeSeal v) s = .next s)
      ∧ (s.wakeSealed = false → 4 ≤ v.toNat % 256 → 256 ≤ v.toNat →
        ∃ t, exec (.pmcWakeSeal v) s = .next t ∧ t.wakeSealed = true ∧ t.reg .pmcWake = v ||| 0x8000_0000
          ∧ ∀ d, d < 96 → s.variant.domain d = true → (s.dom d).st.deep = true → (s.dom d).upOnce = false →
            (s.dom d).ready ≠ .quarantined → (s.dom d).wake = none →
            (t.dom d).wake = some (.first, s.tb.elapsed) ∧ d ∈ t.pmc.wakes)
      ∧ (s.wakeSealed = false → v.toNat % 256 < 4 ∨ v.toNat < 256 → exec (.pmcWakeSeal v) s = .next s.pmcReject))
    ∧ (∀ d deep, (s.dom d).st = .entering deep →
      ∃ t, exec (.domainSleepEntered d) s = .next t ∧ (t.dom d).st = (if deep then .p3 else .p2)
        ∧ (t.dom d).ready = .stale ∧ (t.dom d).up = false ∧ (t.dom d).wake = (s.dom d).wake ∧ s.pmc.wakes <+: t.pmc.wakes
        ∧ (domKind d ≠ .cache → t.pmc.wakes = s.pmc.wakes)
        ∧ (∀ c, domKind d = .cluster c → (t.clu c).card = none
          ∧ ∀ a, Memory.read t.shu.scratch a = if a / 16384 = c then 0 else Memory.read s.shu.scratch a)
        ∧ (∀ p, domKind d = .pair p → t.pair p = {}))

/-- R461 to R463, R469: power-up, the return of a quarantined domain, and scratch images. When a domain is FRESH rests on log entry
73, the records of a failed self-test on 74. -/
def Obligations.PowerReturns : Prop :=
  ∀ (s : State) (d : Nat) (D : Dom), D = s.dom d →
    (D.st = .waking → D.up = false →
      (D.ready = .quarantined → exec (.domainPoweredUp d) s = .next (s.setDom d { D with up := true }))
      ∧ (D.ready ≠ .quarantined → ∃ t, exec (.domainPoweredUp d) s = .next t ∧ (t.dom d).st = .waking ∧ (t.dom d).up = true
        ∧ (t.dom d).ready = .stale ∧ (t.dom d).upOnce = true
        ∧ (∀ c, domKind d = .cluster c → (t.clu c).card = none
          ∧ (D.upOnce = false → (t.clu c).st = .none)
          ∧ (D.upOnce = true → (t.clu c).st = (if (s.clu c).ctlGen = 0 then .stale else .loading)
            ∧ (t.clu c).loadGen = (s.clu c).ctlGen ∧ (t.clu c).copying = s.armed c)
          ∧ ∀ a, Memory.read t.shu.scratch a = if a / 16384 = c then 0 else Memory.read s.shu.scratch a)
        ∧ (∀ p e, domKind d = .pair p → e = 2 * p ∨ e = 2 * p + 1 → (s.engine e).st ≠ .quarantined →
          (t.engine e).st = .stale ∧ (t.engine e).passed = false)))
    ∧ (D.st = .waking → D.up = true → D.ready = .quarantined →
      (∃ t, exec (.bistDone d true) s = .next t ∧ (t.dom d).ready = .stale ∧ (t.dom d).up = true ∧ (t.dom d).bist = D.bist)
      ∧ (∃ t, exec (.bistDone d false) s = .next t ∧ (t.dom d).ready = .quarantined ∧ (t.dom d).up = false
        ∧ (t.dom d).st = (domKind d).bottom ∧ (t.dom d).wake = none ∧ d ∉ t.pmc.wakes
        ∧ (s.bbx.queue.length < 256 → Claims.requested s t 8 (fun _ => True))))
    ∧ (D.st = .waking → D.up = true → D.ready = .stale → s.stepsDone d = true →
      ∃ t, exec (.domainFresh d) s = .next t ∧ (t.dom d).st = .p0 ∧ (t.dom d).ready = .fresh
        ∧ (t.dom d).idleSince = some s.tb.elapsed ∧ (t.dom d).bist = false ∧ (t.dom d).owed = 0
        ∧ (∀ c, domKind d = .cluster c → (t.clu c).card = (s.clu c).card
          ∧ (t.clu c).st = (if (s.clu c).card.any (fun x => x.gen == (s.clu c).ctlGen) then
              (if (s.clu c).heldBack then .held else .fresh)
            else if (s.clu c).ctlGen = 0 then .none else .loading))
        ∧ (∀ k, domKind d = .slice k → D.bist = false → D.owed = 0 →
          t = s.setDom d { D with st := .p0, ready := .fresh, idleSince := some s.tb.elapsed, bist := false, owed := 0 }))
    ∧ (∀ v : Word, s.pins.inReset = false → s.lcShut = false → d < 96 → s.variant.domain d = true → v.toNat = 2 ^ 31 + d →
      (D.ready = .quarantined → D.bist = false → D.wake = none → D.st.deep = true →
        ∃ t, exec (.pmcReturn v) s = .next t ∧ (t.dom d).wake = some (.back, s.tb.elapsed) ∧ (t.dom d).bist = true
          ∧ t.pmc.wakes = s.pmc.wakes ++ [d])
      ∧ (D.ready ≠ .quarantined → d < 24 ∨ 48 ≤ d → exec (.pmcReturn v) s = .next s.pmcReject)
      ∧ (∀ p, d = 24 + p → p < 24 → D.ready = .fresh → (s.engine (2 * p)).st ≠ .quarantined →
        (s.engine (2 * p + 1)).st = .quarantined → s.idle d = false →
        exec (.pmcReturn v) s = .next (s.setPair p { s.pair p with leaving := true })))
    ∧ (∀ v : Word, s.pins.inReset = false → s.lcShut = false → v.toNat < 2 ^ s.variant.clusters →
      ∃ t, exec (.pmcScrReload v) s = .next t ∧ t.reg .pmcScrReload = v
        ∧ ∀ c, c < s.variant.clusters → v.getLsbD c = true → (s.clu c).returning = true → (s.clu c).scratchDone = false →
          (s.dom c).st = .waking → (t.clu c).copying = true)
    ∧ (∀ c, (s.clu c).copying = true → Memory.wf s.shu.images = true →
      ∃ t, exec (.scratchCopyDone c) s = .next t ∧ (t.clu c).copying = false ∧ (t.clu c).scratchDone = true
        ∧ (∀ a, Memory.read t.shu.scratch a =
          if a / 16384 = c then Memory.read s.shu.images a else Memory.read s.shu.scratch a)
        ∧ (c < 24 → (s.clu c).copyOnce = true → (t.reg .pmcScrReload).getLsbD c = false))

/-! ### Tamper monitor and black box -/

/-- R419 to R433, R407, R441 to R445: tamper commands and the black box. What the readings are rests on log entry 76, the battery
domain on 77, decisions and their records on 78, what ERASE reaches on 79, meshes on 80, the queue of requests on 81, the steps
of a start on 127, fuses on 128, the periods on 129. -/
def Obligations.TamperAndBlackBox : Prop :=
  ∀ s : State,
    (∀ (src : Nat) (a b : Int) t0 u x (open_ : Bool), s.tmu.sampling = true → sampled src = true →
      s.tmu.fuses.getLsbD src = false → open_ = (src == 14 && s.kcu.test) → s.sampleDue src = true → t0 = s.tsrc src →
      u = s.sensed src (if open_ then 0 else a) (if open_ then 0 else b) → x = s.inAlarm src true (if open_ then 0 else a) →
      (∃ t, exec (.tamperSample src a b) s = .next t ∧ (t.tsrc src).alarm = u.alarm ∧ u.at_ = some s.tb.elapsed
        ∧ (t.tsrc src).at_ = u.at_ ∧ (t.tsrc src).actA = u.actA
        ∧ (t.tsrc src).actB = u.actB ∧ (t.tsrc src).disagree = u.disagree
        ∧ (u.alarm = true → t0.alarm = false → src ∈ t.tmu.fired ∧ (t.tsrc src).latched = true)
        ∧ (u.alarm = false ∨ t0.alarm = true → t.tmu.fired = s.tmu.fired ∧ (t.tsrc src).latched = t0.latched)
        ∧ (∀ x, x ≠ src → t.tsrc x = s.tsrc x))
      ∧ (src ≠ 8 → (x = true → s.field .tmuSrcCfg src 4 4 ≤ t0.runA + 1 → u.actA = true)
        ∧ (x = true → t0.runA + 1 < s.field .tmuSrcCfg src 4 4 → u.actA = t0.actA)
        ∧ (x = false → s.field .tmuSrcCfg src 4 4 ≤ t0.clrA + 1 → u.actA = false))
      ∧ (src = 1 ∨ src = 2 → (x = true ↔ a < s.field .tmuMeshCfg (src - 1) 0 16 ∨ (s.field .tmuMeshCfg (src - 1) 16 16 : Int) < a))
      ∧ (src = 7 → (x = true ↔ a < 20 * s.field .tmuEnvCfg 0 16 8 ∨ 3800 < a)))
    ∧ (∀ a, a = s.wanted → s.tmu.fired ≠ [] → s.pins.inReset = false → a ≤ 4 → s.decisionDue = true →
      ∃ t, exec (.tamperDecision a a) s = .next t ∧ t.tmu.fired = []
        ∧ (respLevel s.tmu.running < respLevel a →
          (2 ≤ a → t.tmu.running = a)
          ∧ (2 ≤ a → respLevel s.tmu.running < 3 → t.tmu.alarmN = true ∧ t.tmu.quiesced = true
            ∧ (s.hif.mode = 1 → t.hif.mode = 2 ∧ t.hif.cause = 1))
          ∧ (3 ≤ a → respLevel s.tmu.running < 4 → t.kcu.root = false ∧ t.kcu.st = 4 ∧ t.kcu.drbg = 0
            ∧ (s.kcu.st ≠ 3 → t.kcu.bks = []) ∧ t.tmu.tapClosed = (s.tmu.tapClosed || s.kcu.test)
            ∧ t.hif.pages = [] ∧ t.cie.lks = [] ∧ t.msc.tableKey = none ∧ t.msc.mkis = []
            ∧ t.tmu.erasing = some (decide (a = 4)) ∧ t.kcu.test = false
            ∧ (∀ g n, ((t.group g).ck n).valid = false) ∧ (∀ p, (t.pair p).ctx = [])))
        ∧ (respLevel a ≤ respLevel s.tmu.running → t.tmu.running = s.tmu.running ∧ t.kcu = s.kcu ∧ t.hif.mode = s.hif.mode)
        ∧ (∀ src, s.tmu.fired = [src] → a < 2 → s.bbx.ready = true → s.bbx.queue.length < 256 →
          Claims.requested s t 1 (fun q => q.p0.toNat % 32 = src % 32)))
    ∧ (∀ a b : RespCode, s.tmu.fired ≠ [] → s.pins.inReset = false → a ≤ 4 → b ≤ 4 → a ≠ b → s.decisionDue = true →
      s.tmu.running = 7 → s.tmu.fuses.getLsbD 11 = false →
      ∃ t, exec (.tamperDecision a b) s = .next t ∧ 3 ≤ t.tmu.running ∧ a ≤ t.tmu.running ∧ b ≤ t.tmu.running
        ∧ t.tmu.running ≠ 7 ∧ (t.tsrc 11).latched = true ∧ t.kcu.root = false)
    ∧ (∀ l, s.tmu.erasing = some l → exec (.eraseReadbackDone true) s = .next { s with tmu := { s.tmu with
        erasing := none
        running := if 3 ≤ s.tmu.running then (if s.tmu.quiesceRuns then 2 else 7) else s.tmu.running } })
    ∧ (∀ (src : Nat) (a b : Int) useB t0 u, onBattery src = some useB → s.onCell = true → s.tmu.fuses.getLsbD src = false →
      s.batteryDue src = true → t0 = tget {} s.tmu.batt src → u = s.sensedOnCell src useB a b →
      ∃ t, exec (.batterySample src a b) s = .next t ∧ tget {} t.tmu.batt src = u
        ∧ (u.alarm = true → t0.alarm = false →
          (3 ≤ s.battResp src → t.kcu.bks = [])
          ∧ (s.tmu.latch.length < 16 → ∃ r, t.tmu.latch = s.tmu.latch ++ [r] ∧ r.src = src ∧ r.battery = true
            ∧ r.resp = s.battResp src ∧ r.ticks = s.tb.elapsed / 125000000)
          ∧ (16 ≤ s.tmu.latch.length → t.tmu.latch = s.tmu.latch ∧ t.tmu.ovf = min 255 (s.tmu.ovf + 1)))
        ∧ (u.alarm = false ∨ t0.alarm = true → t.kcu = s.kcu ∧ t.tmu.latch = s.tmu.latch))
    ∧ (s.onCell = true → exec .vbatRetentionLost s = .next { s with
        kcu := { s.kcu with bks := [], bksGone := true }, tmu := { s.tmu with resp := [] } })
    ∧ (s.bbx.ready = false → s.pins.inReset = false →
      ∃ t, exec .latchCommit s = .next t ∧ t.bbx.ready = true ∧ t.tmu.sampling = true ∧ t.tmu.latch = [] ∧ t.tmu.ovf = 0
        ∧ t.tmu.latchOvf = s.tmu.ovf ∧ (∀ q ∈ s.bbx.queue, q ∈ t.bbx.queue)
        ∧ (∀ r body, s.tmu.latch = [r] → r.resp ≠ 4 → s.tmu.ovf = 0 → body = s.recordBytes r.request →
          tfind t.bbx.mram (s.bbx.slotFor 1) = some (body ++ (sha384 (s.chainNow ++ body)).take 16)
          ∧ t.bbx.seq = (s.bbx.seq + 1) % 2 ^ 32)
        ∧ ((∃ r ∈ s.tmu.latch, r.resp = 4) → t.bbx.lock = true)
        ∧ (∀ kind o, s.kcu.starting = some (kind, o) → t.kcu.starting = none
          ∧ t.kcu.lc = (if o.decodesAgree then s.stageDecode.1 else 0)
          ∧ (o.decodesAgree = false → s.tmu.fuses.getLsbD 11 = false → 11 ∈ t.tmu.fired)
          ∧ t.tmu.fuses = s.tmu.bank ||| fuseBits o.fuseSecond
          ∧ (t.kcu.lc ≠ 0 → t.kcu.lc ≠ 5 → t.kcu.drbg = 1 ∧ t.kcu.root = (t.kcu.st == 2)))
        ∧ ((∃ r ∈ s.tmu.latch, r.battery = true ∧ 3 ≤ r.resp) → t.tmu.battErase = true))
    ∧ (s.pins.inReset = false → s.lcShut = false →
      ∃ t, exec (.tmuAlarmClr 0) s = .next t
        ∧ t.tmu = (if s.alarmQuiet then { s.tmu with alarmN := false } else s.tmu) ∧ t.hif = s.hif)
    ∧ (∀ (v : Word) src, s.pins.inReset = false → (1 ≤ src ∧ src ≤ 7) ∨ src = 14 → v.toNat = 2 ^ 31 + 0xA500 + src →
      (s.kcu.lc = 1 ∨ s.kcu.lc = 2 → ∃ t, exec (.tmuFuseProgram v) s = .next t ∧ t.tmu.fuses = s.tmu.fuses ||| put 1 src
        ∧ t.tmu.bank = s.tmu.bank ||| put 1 src ∧ (s.tmu.bank.getLsbD src = false → t.tmu.burning = (src, s.tb.elapsed) :: s.tmu.burning)
        ∧ (t.tsrc src).alarm = false ∧ (s.bbx.queue.length < 256 → Claims.requested s t 15 (fun _ => True)))
      ∧ (s.kcu.lc ≠ 1 → s.kcu.lc ≠ 2 → exec (.tmuFuseProgram v) s = .next s.tmuReject))
    ∧ (∀ m ohms, s.tmu.sampling = true → m < 2 → s.tmu.fuses.getLsbD (m + 1) = false → s.measureDue m = true → ohms < 65536 →
      ∃ t, exec (.meshMeasure m ohms) s = .next t ∧ tget 0 t.tmu.ohms m = ohms
        ∧ (s.driftBand m ohms = true → m ∉ s.tmu.drifting → m ∈ t.tmu.drift ∧ m ∈ t.tmu.drifting)
        ∧ (s.driftBand m ohms = false → t.tmu.drift = s.tmu.drift))
    ∧ (∀ q qs body chain, s.bbx.ready = true → s.pins.inReset = false → s.bbx.queue = q :: qs →
      s.bbx.lost = 0 → body = s.recordBytes q → chain = (sha384 (s.chainNow ++ body)).take 16 →
      ∃ t, exec .bbxRecordWrite s = .next t ∧ t.bbx.queue = qs
        ∧ (∀ n, tfind t.bbx.mram n = if n = s.bbx.slotFor q.type then some (body ++ chain) else tfind s.bbx.mram n)
        ∧ t.bbx.seq = (s.bbx.seq + 1) % 2 ^ 32 ∧ t.bbx.chain = some chain ∧ t.bbx.newest = (q.type, q.unit)
        ∧ (q.type = 3 → t.bbx.lock = true) ∧ (q.type = 4 → t.bbx.lock = false)
        ∧ (q.type ≠ 3 → q.type ≠ 4 → t.bbx.lock = s.bbx.lock)
        ∧ t.bbx.pinned = s.bbx.pinned + (if pinnedType q.type = true ∧ s.bbx.pinned < 1008 then 1 else 0)
        ∧ t = { s with bbx := t.bbx })
    ∧ (s.bbx.ready = true → s.pins.inReset = false → s.bbx.lost ≠ 0 → s.bbx.ovfDue = true ∨ s.bbx.queue.length < 256 →
      ∃ t, exec .bbxRecordWrite s = .next t ∧ t.bbx.lost = 0 ∧ t.bbx.queue = s.bbx.queue ∧ t.bbx.newest.1 = 2)

/-! ### Resets, supplies, time and SMBus -/

/-- R488 to R490: what every start leaves: START with no traffic state, supplies up, the black box not ready, the key
custodian STARTING until LATCH_COMMIT, and what no reset touches. -/
def Claims.started (s t : State) (kind : Nat) (o : StartObs) : Prop :=
  t.pins.inReset = false ∧ t.pins.pwrgood = true ∧ t.pins.resetKind = kind ∧ t.hif.mode = 0 ∧ t.beam.picks = [] ∧ t.shu = {}
    ∧ t.tab = {} ∧ t.sch = {} ∧ t.weft = [] ∧ t.msc = {} ∧ t.hif.pages = [] ∧ t.cie.jobs = [] ∧ t.cie.lks = []
    ∧ t.bbx.ready = false ∧ t.tmu.sampling = false ∧ t.tmu.running = 7 ∧ t.kcu.challenge = none
    ∧ t.bbx.starts = s.bbx.starts + 1
    ∧ t.kcu.st = 1 ∧ t.kcu.starting = some (kind, o) ∧ t.kcu.root = false ∧ t.kcu.drbg = 0 ∧ t.kcu.lc = s.kcu.lc
    ∧ t.kcu.otp = s.kcu.otp ∧ t.kcu.bks = s.kcu.bks ∧ t.tmu.bank = s.tmu.bank ∧ t.pending = s.pending ∧ t.kcu.stage = s.kcu.stage

/-- R513: an SMBus read answered with `bytes` from the target's address; c is the packet error code that follows them. -/
def Claims.smbReply (s : State) (r : Host.Outcome State Fault Refusal) (bytes : Bytes) : Prop :=
  ∃ c : Byte, r = .next (s.emit (.smb (0x58 + s.pins.smbAddr.toNat) bytes c))

/-- R488 to R497, R504, R508, R513, R521: starts, supplies, pins, the time of day and SMBus. What a reset keeps rests on log entries
52, 53 and 110, the pins on 54, pulses, the SMBus address and the PEC on 139, what a power failure cuts on 5 and 81. -/
def Obligations.ResetsAndPins : Prop :=
  ∀ s : State,
    (∀ o : StartObs, o.railsGood = true →
      ∃ t, exec (.powerOnReset o) s = .next t ∧ Claims.started s t 1 o ∧ (∀ id i j, t.reg id i j = id.reset s.variant i j)
        ∧ t.evc.cnt = [] ∧ t.kcu.test = false ∧ t.kcu.fails = 0 ∧ t.tmu.last = 7 ∧ t.pins.smbAddr = o.smbAddr)
    ∧ (∀ o : StartObs, o.railsGood = false → exec (.powerOnReset o) s = .next s)
    ∧ (∀ o, s.pins.inReset = false → s.tmu.fired = [] →
      (∃ t, exec (.perst o) s = .next t ∧ Claims.started s t 2 o ∧ (∀ id i j, t.reg id i j = id.reset s.variant i j)
        ∧ t.evc.cnt = [] ∧ t.kcu.test = false ∧ t.kcu.fails = 0 ∧ t.tmu.last = 7)
      ∧ (∃ t, exec (.softReset o) s = .next t ∧ Claims.started s t 3 o ∧ t.evc.cnt = s.evc.cnt ∧ t.evc.cfg = s.evc.cfg
        ∧ t.evc.ovf = [] ∧ t.kcu.test = s.kcu.test ∧ t.kcu.fails = s.kcu.fails ∧ t.tmu.last = s.tmu.last
        ∧ t.wakeSealed = s.wakeSealed ∧ t.policySealed = s.policySealed
        ∧ (t.reg .ciePolicy).getLsbD 0 = (s.reg .ciePolicy).getLsbD 0
        ∧ t.reg .lnePortCfg = RegId.reset s.variant .lnePortCfg 0 0
        ∧ t.reg .tagPortCfg = RegId.reset s.variant .tagPortCfg 0 0
        ∧ ∀ e, (t.engine e).retires = (s.engine e).retires ∧ (t.engine e).fault = (s.engine e).fault ∧ (t.engine e).st = .stale)
      ∧ (∃ t, exec .pwrgoodFall s = .next t ∧ t.pins.inReset = true ∧ t.pins.pwrgood = false ∧ t.kcu.bks = s.kcu.bks
        ∧ t.kcu.otp = s.kcu.otp ∧ t.tmu.fuses = t.tmu.bank ∧ (s.tmu.burning = [] → t.tmu.bank = s.tmu.bank)
        ∧ (s.bbx.ready = true → s.bbx.queue = [] → t.bbx.mram = s.bbx.mram)
        ∧ (s.bbx.ready = false → s.tmu.latched = [] → t.bbx.mram = s.bbx.mram)
        ∧ (∀ q qs, s.bbx.ready = true → s.bbx.queue = q :: qs → ∀ n, tfind t.bbx.mram n = tfind s.bbx.mram n
          ∨ n = s.bbx.slotFor q.type ∧ n ∈ t.bbx.torn)
        ∧ t.bbx.queue = [] ∧ t.regs = [] ∧ t.pins.smbAddr = s.pins.smbAddr
        ∧ t.beam.picks = [] ∧ t.msc = {} ∧ t.bbx.starts = s.bbx.starts)
      ∧ (∀ rail, 2 ≤ rail → rail < 8 → exec (.railOutOfRange rail) s = exec .pwrgoodFall s))
    ∧ (∀ rail, rail < 2 → s.pins.inReset = false → s.tmu.sampling = true →
      ∀ b : Int, b = (if (s.tsrc 9).actB then 1 else 0) →
      ∃ t, exec (.railOutOfRange rail) s = .next t ∧ (t.tsrc 9).alarm = (s.sensed 9 1 b).alarm
      ∧ ((s.sensed 9 1 b).alarm = true → (s.tsrc 9).alarm = false → s.tmu.fuses.getLsbD 9 = false → 9 ∈ t.tmu.fired)
      ∧ ((s.tsrc 9).alarm = true → t.tmu.fired = s.tmu.fired))
    ∧ (s.pmc.pfw = true → exec .pfwAssert s = .next s)
    ∧ (s.pmc.pfw = false → ∃ seen : Bool, (s.field .pmcIoCfg 0 6 2 = 0 → seen = true)
      ∧ exec .pfwAssert s = .next { s with
          free := s.free + 1
          pmc := if seen then { s.pmc with pfw := true, pfwSeen := true, pfwCount := min 255 (s.pmc.pfwCount + 1) } else s.pmc })
    ∧ (∃ seen : Bool, (s.field .pmcIoCfg 0 6 2 = 0 → seen = true)
      ∧ exec .pfwDeassert s = .next { s with
          free := s.free + 1, pmc := if seen then { s.pmc with pfw := false } else s.pmc })
    ∧ (∀ at_ : Int, s.pins.inReset = false →
      at_ = (s.tb.tod : Int) - (filterDelay (s.field .pmcIoCfg 0 8 2) : Int) →
      ∃ (t : State) (seen : Bool), exec .ppsInEdge s = .next t ∧ (s.field .pmcIoCfg 0 8 2 = 0 → seen = true)
        ∧ (seen = false → t = { s with free := s.free + 1 })
        ∧ (seen = true → t.tb.ppsSeen = true ∧ t.tb.ppsAt = at_ ∧ t.tb.elapsed = s.tb.elapsed
          ∧ t = { s with free := s.free + 2, tb := t.tb, sch := t.sch }))
    ∧ (s.pins.inReset = false → s.tb.ppsSec ≠ s.tb.tod / 1000000000 + 1 →
      ∃ t, exec .ppsOutPulse s = .next t ∧ t.out = s.out ++ [.ppsOut] ∧ t.ppsHigh = true
        ∧ exec .ppsOutPulse t = .next t)
    ∧ (∀ (v w0 w1 : Word), s.pins.inReset = false → s.lcShut = false → v.toNat < 2 ^ 30 → w0 = s.heldOr 0x90_0010 (s.reg .tbSet0) →
      w1 = s.heldOr 0x90_0014 (s.reg .tbSet1) →
      (v.toNat < 1000000000 → ∃ t, exec (.tbSet v) s = .next t
        ∧ t.tb.tod = (w0.toNat + 2 ^ 32 * w1.toNat) * 1000000000 + v.toNat ∧ t.tb.elapsed = s.tb.elapsed
        ∧ t.reg .tbSet0 = w0 ∧ t.reg .tbSet1 = w1 ∧ t.reg .tbSet2 = v)
      ∧ (1000000000 ≤ v.toNat → ∃ t, exec (.tbSet v) s = .next t ∧ t.tb = s.tb ∧ (t.reg .tbStat).getLsbD 1 = true))
    ∧ (∃ v : Byte, (s.variant = .tv32f → v = 1) ∧ (s.variant = .tv32s → v = 2) ∧ (s.variant = .tv16e → v = 3)
      ∧ Claims.smbReply s (exec .smbIdent s) ([v, s.stepping] ++ s.serial.take 6))
    ∧ (∃ w : Word, Claims.smbReply s (exec .smbStatus s) (leBytes w.toNat 2) ∧ w.toNat % 8 = s.hif.mode.toNat % 8
      ∧ w.toNat / 8 % 8 = s.kcu.lc.toNat ∧ w.toNat / 512 % 8 = s.tmu.running.toNat ∧ w.getLsbD 12 = s.tmu.alarmN
      ∧ w.getLsbD 13 = s.bbx.lock ∧ w.getLsbD 14 = s.pins.inReset)
    ∧ Claims.smbReply s (exec .smbTemp s) (leBytes (BitVec.ofInt 16 s.tmu.temp).toNat 2)
    ∧ Claims.smbReply s (exec .smbVbat s) (leBytes s.tmu.vbat 2)
    ∧ (∃ b : Bytes, Claims.smbReply s (exec .smbBbx s) b ∧ b.length = 12
      ∧ (s.bbx.ready = false → b.drop 1 = List.replicate 11 0) ∧ (s.bbx.ready = true → slice b 1 4 = leBytes s.bbx.seq 4))
    ∧ (∃ b : Byte, Claims.smbReply s (exec .smbPfw s) [b, BitVec.ofNat 8 s.pmc.pfwCount] ∧ b.getLsbD 0 = s.pmc.pfw
      ∧ b.getLsbD 1 = s.pmc.pfwSeen)
    ∧ (∀ code write, write = true ∨ 5 < code.toNat → exec (.smbWriteRefused code write) s = .next (s.emit .smbNack))

/-! ### Registers -/

/-- R2, R4, R7, R10, R478: host reads. Which reads latch rests on log entries 26 and 30, what absent and forbidden ones answer on 37. -/
def Obligations.RegisterReads : Prop :=
  ∀ s : State, s.pins.inReset = false →
    (∃ t, exec (.lowWordReadLatch 0 false 0x90_0000) s = .next t ∧ t.hif.readData = s.tbNow 0
      ∧ ∀ u : State, u.pins.inReset = false → u.hif.latch = t.hif.latch →
        (∃ x, exec (.lowWordReadLatch 0 false 0x90_0004) u = .next x ∧ x.hif.readData = s.tbNow 1)
        ∧ (∃ x, exec (.lowWordReadLatch 0 false 0x90_0008) u = .next x ∧ x.hif.readData = s.tbNow 2))
    ∧ (∀ n, n < 4096 → s.evc.chainLatch = [] →
      ∃ t, exec (.lowWordReadLatch 0 false (0x70_0000 + 8 * n)) s = .next t
        ∧ t.hif.readData = BitVec.ofNat 32 (tget 0 s.evc.cnt n)
        ∧ (n + 1 < 4096 → (s.evcCfg (n + 1)).chain = true → t.evc.chainLatch = [(n + 1, tget 0 s.evc.cnt (n + 1))])
        ∧ t.evc.cnt = s.evc.cnt
        ∧ ∀ u : State, u.pins.inReset = false → u.hif.latch = t.hif.latch → u.evc.chainLatch = [] →
          ∃ x, exec (.lowWordReadLatch 0 false (0x70_0004 + 8 * n)) u = .next x
            ∧ x.hif.readData = BitVec.ofNat 32 (tget 0 s.evc.cnt n / 2 ^ 32))
    ∧ (∀ a r i j, a % 4 = 0 → a < 0x200_0000 → bar0Target s.variant a = .reg r i j → r.id.latched = 1 → r.id ≠ .evcCnt → r.id ≠ .ringCopy →
      r.id ≠ .mscReinit0 → r.id ≠ .mscReinit1 → r.id ≠ .tmuSrcStat →
      exec (.lowWordReadLatch 0 false a) s = .next { s with hif := { s.hif with readData := s.readReg r.id i j } })
    ∧ (∀ src, src < 32 → ∃ t, exec (.readClear 0 false (0x50_0200 + 4 * src)) s = .next t
      ∧ t.hif.readData = s.srcStat src ∧ t.tsrc src = { s.tsrc src with disagree := 0 }
      ∧ (∀ x, x ≠ src → t.tsrc x = s.tsrc x) ∧ t.tmu.fired = s.tmu.fired)
    ∧ (∀ f r, r < 8 → s.fnExists f = true → ∃ t, exec (.readClear f true (0x1020 + 64 * r)) s = .next t
      ∧ t.hif.readData = (s.ring f r).lost ∧ t.ring f r = { s.ring f r with lost := 0 })
    ∧ (∀ a id, a % 4 = 0 → a < 0x200_0000 → bar0Target s.variant a = .absent id →
      exec (.forbiddenRegisterRead 0 false a) s =
        .next { s.accessErr 0 false a 0 with hif := { (s.accessErr 0 false a 0).hif with readData := 0 } }
      ∧ (s.accessErr 0 false a 0).field .hifErr 0 0 1 = 1 ∧ (s.accessErr 0 false a 0).field .hifErrAddr 0 0 25 = a)
    ∧ (∀ f i n, s.fnExists f = true → i < 1024 → s.windowCnt f i = some n → s.mayRead f n = false →
      ∃ t, exec (.forbiddenRegisterRead f true (0x2000 + 8 * i)) s = .next t ∧ t.hif.readData = 0
        ∧ (tget 0 t.hif.fnErr f).getLsbD 3 = true ∧ t.evc = s.evc)

/-- R4, R5, R7, R475, R481, R487: host writes. How a misaligned or partial write is cut into words rests on log entry 28, held words
that are refused on 33 and 110. -/
def Obligations.RegisterWrites : Prop :=
  ∀ (s : State) (v : Word), s.pins.inReset = false → s.lcShut = false →
    (∀ a r i j, a % 4 = 0 → 0x10_0000 ≤ a → a < 0x200_0000 → bar0Target s.variant a = .reg r i j →
      (v &&& ~~~r.definedAt j ≠ 0 → r.id ≠ .ringCopy → r.id ≠ .bbxWindow →
        exec (.regWrite 0 false a 15 v) s = .next ((s.accessErr 0 false a 2).blockReject r.id i))
      ∧ (v &&& ~~~r.definedAt j = 0 → r.id = .hifFnCfg ∨ r.id = .lmtLaneEven ∨ r.id = .lmtGrpEven ∨ r.id = .mscScrub ∨ r.id = .atPnWarn
          ∨ r.id = .ftDomQuota ∨ r.id = .pmcLtol →
        exec (.regWrite 0 false a 15 v) s = .next (s.setReg r.id i j v) ∧ (s.setReg r.id i j v).reg r.id i j = v)
      ∧ (v &&& ~~~r.definedAt j = 0 → i = 0 → j = 0 → ∀ ok : Bool,
        (r.id = .hifCmdWdog ∨ r.id = .shuBudget ∨ r.id = .cieKat ∨ r.id = .cieBurst) ∧ ok = (v != 0)
          ∨ r.id = .lksCap ∧ ok = decide (1 ≤ v.toNat ∧ v.toNat ≤ 48) →
        exec (.regWrite 0 false a 15 v) s =
          .next (if ok then s.setReg r.id 0 0 (v &&& r.rw) else s.accessErr 0 false a 2))
      ∧ (v &&& ~~~r.definedAt j = 0 → i = 0 → j = 0 → ∀ ok : Bool,
        r.id = .mscTimeout ∧ ok = decide (100 ≤ v.toNat)
          ∨ r.id = .mscPoisonCfg ∧ ok = decide (3 ≤ v.toNat ∧ v.toNat ≤ 29) ∨ r.id = .atDrain ∧ ok = (v != 0)
          ∨ r.id = .schAdmSlots ∧ ok = decide (v.toNat ≤ 65536) ∨ r.id = .schAdmCells ∧ ok = decide (v.toNat ≤ 229376) →
        exec (.regWrite 0 false a 15 v) s =
          .next (if ok then s.setReg r.id 0 0 (v &&& r.rw) else s.blockReject r.id 0))
      ∧ (v &&& ~~~r.definedAt j = 0 → j = 0 → ∀ ok : Bool,
        (r.id = .schPBurst ∨ r.id = .schQBurst ∨ r.id = .schPolCbs ∨ r.id = .schPolPbs) ∧ ok = decide (64 ≤ v.toNat)
          ∨ (r.id = .schPolCir ∨ r.id = .schPolPir) ∧ ok = decide (v.toNat ≤ 3200000)
          ∨ r.id = .schQQuantum ∧ ok = decide (64 ≤ v.toNat ∧ v.toNat ≤ 1000000)
          ∨ r.id = .schPRate ∧ ok = decide (v.toNat % 2 ^ 22 ≤ 3200000) →
        exec (.regWrite 0 false a 15 v) s =
          .next (if ok then s.setReg r.id i 0 (v &&& r.rw) else s.blockReject r.id i)))
    ∧ (∀ (addr : Nat) (be : BitVec 4) a b u, addr < 0x1FF_FFFC → addr % 4 ≠ 0 ∨ be ≠ 15 → a = addr / 4 * 4 → b = lastWord addr be →
      (∀ r i j r' i' j', bar0Target s.variant a = .reg r i j → bar0Target s.variant b = .reg r' i' j' →
        u = s.accessErr 0 false a 1 →
        exec (.regWrite 0 false addr be v) s = .next (if a = b then u else u.accessErr 0 false b 1))
      ∧ (∀ id, a = b → bar0Target s.variant a = .absent id → u = s.accessErr 0 false a 1 →
        exec (.regWrite 0 false addr be v) s = .next (u.accessErr 0 false a 0)))
    ∧ (∀ a, a % 4 = 0 → a < 0x10_0000 →
      exec (.regWrite 0 false a 15 v) s = .next (s.accessErr 0 false a 2))
    ∧ (∀ a, a % 4 = 0 → a < 0x200_0000 → bar0Target s.variant a = .absent none →
      exec (.regWrite 0 false a 15 v) s = .next (s.accessErr 0 false a 0))
    ∧ (∀ n, n < 4096 →
      exec (.evcCntWrite n false v) s = .next (s.hold (0x70_0000 + 8 * n) v)
      ∧ (v.toNat < 65536 → ∃ t, exec (.evcCntWrite n true v) s = .next t
        ∧ (∀ low, tfind s.hif.held (0x70_0000 + 8 * n) = some low → tget 0 t.evc.cnt n = low.toNat + 2 ^ 32 * v.toNat)
        ∧ (tfind s.hif.held (0x70_0000 + 8 * n) = none →
          tget 0 t.evc.cnt n = tget 0 s.evc.cnt n % 2 ^ 32 + 2 ^ 32 * v.toNat)
        ∧ (∀ m, m ≠ n → tget 0 t.evc.cnt m = tget 0 s.evc.cnt m) ∧ tfind t.hif.held (0x70_0000 + 8 * n) = none)
      ∧ (∀ lo hi cls : Word, tfind s.hif.held (0x71_0000 + 16 * n) = some lo → tfind s.hif.held (0x71_0004 + 16 * n) = some hi →
        tfind s.hif.held (0x71_0008 + 16 * n) = some cls → v.toNat < 2 ^ 25 →
        (srcOk (v.toNat % 256) = true → lo.toNat % 2 ^ 24 ≤ hi.toNat % 2 ^ 24 → (v.getLsbD 8 = false ∨ n ≠ 0) →
          ∃ t, exec (.evcCfgCommit n v) s = .next t ∧ (t.evcCfg n).src = v.toNat % 256
            ∧ (t.evcCfg n).lo = lo.toNat % 2 ^ 24 ∧ (t.evcCfg n).hi = hi.toNat % 2 ^ 24
            ∧ (t.evcCfg n).cls = cls.setWidth 8 ∧ (t.evcCfg n).chain = v.getLsbD 8 ∧ (t.evcCfg n).sat = v.getLsbD 9
            ∧ (t.evcCfg n).irq = v.getLsbD 10 ∧ (t.evcCfg n).priv = v.extractLsb' 11 2
            ∧ (t.evcCfg n).dom = v.toNat / 2 ^ 13 % 64 ∧ (t.evcCfg n).master = v.extractLsb' 19 6
            ∧ (∀ m, m ≠ n → t.evcCfg m = s.evcCfg m) ∧ t.evc.cnt = s.evc.cnt)
        ∧ (srcOk (v.toNat % 256) = false ∨ hi.toNat % 2 ^ 24 < lo.toNat % 2 ^ 24 ∨ (v.getLsbD 8 = true ∧ n = 0) →
          ∃ t, exec (.evcCfgCommit n v) s = .next t ∧ t.evc = s.evc ∧ (t.reg .evcStat).getLsbD 0 = true)))
    ∧ (∀ p w (poly init xor : Word), 1 ≤ p → p < 16 → tfind s.hif.held (0x80_0000 + 16 * p) = some poly →
      tfind s.hif.held (0x80_0004 + 16 * p) = some init → tfind s.hif.held (0x80_0008 + 16 * p) = some xor →
      v.toNat < 16 → w = 8 * [0, 1, 2, 4].getD (v.toNat % 4) 0 →
      (w ≠ 0 → poly.toNat < 2 ^ w → init.toNat < 2 ^ w → xor.toNat < 2 ^ w → poly.getLsbD 0 = true →
        ∃ t, exec (.cvuCtlCommit p v) s = .next t ∧ t.reg .cvuPoly p = poly ∧ t.reg .cvuInit p = init
          ∧ t.reg .cvuXor p = xor ∧ t.reg .cvuCtl p = v
          ∧ ∀ q, q ≠ p → t.reg .cvuPoly q = s.reg .cvuPoly q ∧ t.reg .cvuCtl q = s.reg .cvuCtl q)
      ∧ (w = 0 ∨ 2 ^ w ≤ poly.toNat ∨ 2 ^ w ≤ init.toNat ∨ 2 ^ w ≤ xor.toNat ∨ poly.getLsbD 0 = false →
        ∃ t, exec (.cvuCtlCommit p v) s = .next t ∧ t.reg .cvuPoly p = s.reg .cvuPoly p ∧ t.reg .cvuCtl p = s.reg .cvuCtl p
          ∧ (t.reg .hifErr).getLsbD 2 = true))
end

