-- ==== Sys2Proof/Laws/Table.lean ====
section
/-! SUPPORT. Laws of tables and memories: what a read after a write gives, and that every operation keeps the canonical
form. They hold for every list of pairs, sorted or not, but where the canonical form itself is the claim. -/

namespace Sys2Proof.Machine

variable {α : Type}

theorem tget_tput_same (d : α) (t : Tbl α) (k : Nat) (v : α) : tget d (tput t k v) k = v := by
  induction t with
  | nil => simp [tput, tget]
  | cons e t ih =>
    obtain ⟨k', v'⟩ := e
    simp only [tput]
    split
    · next h => simp [tget, Nat.ne_of_lt h, ih]
    · split <;> simp [tget]

theorem tget_tput_other (d : α) (t : Tbl α) {k j : Nat} (v : α) (h : j ≠ k) :
    tget d (tput t k v) j = tget d t j := by
  induction t with
  | nil => simp [tput, tget, h.symm]
  | cons e t ih =>
    obtain ⟨k', v'⟩ := e
    simp only [tput]
    split
    · simp [tget, ih]
    · split
      · next h' => subst h'; simp [tget, h.symm]
      · simp [tget, h.symm]

theorem tget_tdel_same (d : α) (t : Tbl α) (k : Nat) : tget d (tdel t k) k = d := by
  induction t with
  | nil => rfl
  | cons e t ih =>
    by_cases h : e.1 = k
    · simpa [tdel, h] using ih
    · simpa [tdel, h, tget] using ih

theorem tget_tdel_other (d : α) (t : Tbl α) {k j : Nat} (h : j ≠ k) : tget d (tdel t k) j = tget d t j := by
  induction t with
  | nil => rfl
  | cons e t ih =>
    by_cases h' : e.1 = k
    · have : ¬ e.1 = j := fun x => h (x.symm.trans h')
      simpa [tdel, h', tget, h.symm] using ih
    · simp only [tdel, List.filter_cons, bne_iff_ne, ne_eq, h', not_false_eq_true, if_true, tget] at ih ⊢
      rw [ih]

theorem tget_tset_same [DecidableEq α] (d : α) (t : Tbl α) (k : Nat) (v : α) : tget d (tset d t k v) k = v := by
  unfold tset
  split
  · next h => rw [tget_tdel_same, h]
  · exact tget_tput_same d t k v

theorem tget_tset_other [DecidableEq α] (d d' : α) (t : Tbl α) {k j : Nat} (v : α) (h : j ≠ k) :
    tget d' (tset d t k v) j = tget d' t j := by
  unfold tset
  split
  · exact tget_tdel_other d' t h
  · exact tget_tput_other d' t v h

theorem tfind_tput_same (t : Tbl α) (k : Nat) (v : α) : tfind (tput t k v) k = some v := by
  induction t with
  | nil => simp [tput, tfind]
  | cons e t ih =>
    obtain ⟨k', v'⟩ := e
    simp only [tput]
    split
    · next h => simp [tfind, Nat.ne_of_lt h, ih]
    · split <;> simp [tfind]

theorem tfind_tput_other (t : Tbl α) {k j : Nat} (v : α) (h : j ≠ k) : tfind (tput t k v) j = tfind t j := by
  induction t with
  | nil => simp [tput, tfind, h.symm]
  | cons e t ih =>
    obtain ⟨k', v'⟩ := e
    simp only [tput]
    split
    · simp [tfind, ih]
    · split
      · next h' => subst h'; simp [tfind, h.symm]
      · simp [tfind, h.symm]

theorem tfind_tdel_same (t : Tbl α) (k : Nat) : tfind (tdel t k) k = none := by
  induction t with
  | nil => rfl
  | cons e t ih =>
    by_cases h : e.1 = k
    · simpa [tdel, h] using ih
    · simpa [tdel, h, tfind] using ih

theorem tfind_tdel_other (t : Tbl α) {k j : Nat} (h : j ≠ k) : tfind (tdel t k) j = tfind t j := by
  induction t with
  | nil => rfl
  | cons e t ih =>
    by_cases h' : e.1 = k
    · have : ¬ e.1 = j := fun x => h (x.symm.trans h')
      simpa [tdel, h', tfind, h.symm] using ih
    · simp only [tdel, List.filter_cons, bne_iff_ne, ne_eq, h', not_false_eq_true, if_true, tfind] at ih ⊢
      rw [ih]

/-! ### The canonical form -/

/-- Every listed key lies above a bound. -/
def tabove (k : Nat) (t : Tbl α) : Prop := ∀ e ∈ t, k < e.1

/-- The canonical form of a longer table: its head is good, lies below the rest, and the rest is canonical. -/
theorem tsorted_cons (ok : Nat → α → Bool) (k : Nat) (v : α) (t : Tbl α) :
    tsorted ok ((k, v) :: t) = true ↔ ok k v = true ∧ tabove k t ∧ tsorted ok t = true := by
  induction t generalizing k v with
  | nil => simp [tsorted, tabove]
  | cons e t ih =>
    obtain ⟨k', v'⟩ := e
    simp only [tsorted, Bool.and_eq_true, decide_eq_true_eq]
    constructor
    · rintro ⟨⟨h1, h2⟩, h3⟩
      refine ⟨h2, ?_, h3⟩
      intro e he
      rcases List.mem_cons.1 he with rfl | he
      · exact h1
      · exact Nat.lt_trans h1 ((ih k' v').1 h3 |>.2.1 e he)
    · rintro ⟨h1, h2, h3⟩
      exact ⟨⟨h2 (k', v') (List.mem_cons_self ..), h1⟩, h3⟩

theorem tabove_tput {k j : Nat} {t : Tbl α} (v : α) (h : tabove k t) (hj : k < j) : tabove k (tput t j v) := by
  induction t with
  | nil => intro e he; simp [tput] at he; subst he; exact hj
  | cons e t ih =>
    obtain ⟨k', v'⟩ := e
    have hk : k < k' := h _ (List.mem_cons_self ..)
    have ht : tabove k t := fun x hx => h x (List.mem_cons_of_mem _ hx)
    intro x hx
    simp only [tput] at hx
    split at hx
    · rcases List.mem_cons.1 hx with rfl | hx
      · exact hk
      · exact ih ht x hx
    · split at hx
      · rcases List.mem_cons.1 hx with rfl | hx
        · exact hj
        · exact ht x hx
      · rcases List.mem_cons.1 hx with rfl | hx
        · exact hj
        · exact h x hx

/-- An entry put keeps the canonical form. -/
theorem tsorted_tput {ok : Nat → α → Bool} {t : Tbl α} {k : Nat} {v : α} (h : tsorted ok t = true)
    (hv : ok k v = true) : tsorted ok (tput t k v) = true := by
  induction t with
  | nil => simpa [tput, tsorted] using hv
  | cons e t ih =>
    obtain ⟨k', v'⟩ := e
    obtain ⟨h1, h2, h3⟩ := (tsorted_cons ok k' v' t).1 h
    simp only [tput]
    split
    · next hk => exact (tsorted_cons ..).2 ⟨h1, tabove_tput v h2 hk, ih h3⟩
    · split
      · next hk => subst hk; exact (tsorted_cons ..).2 ⟨hv, h2, h3⟩
      · next hk hk' =>
        refine (tsorted_cons ..).2 ⟨hv, ?_, h⟩
        intro x hx
        rcases List.mem_cons.1 hx with rfl | hx
        · omega
        · have := h2 x hx; omega

/-- A filtered table keeps the canonical form. -/
theorem tsorted_filter {ok : Nat → α → Bool} {t : Tbl α} (p : Nat × α → Bool) (h : tsorted ok t = true) :
    tsorted ok (t.filter p) = true := by
  induction t with
  | nil => rfl
  | cons e t ih =>
    obtain ⟨k', v'⟩ := e
    obtain ⟨h1, h2, h3⟩ := (tsorted_cons ok k' v' t).1 h
    simp only [List.filter_cons]
    split
    · exact (tsorted_cons ..).2 ⟨h1, fun x hx => h2 x (List.mem_of_mem_filter hx), ih h3⟩
    · exact ih h3

/-- An entry removed keeps the canonical form. -/
theorem tsorted_tdel {ok : Nat → α → Bool} {t : Tbl α} (k : Nat) (h : tsorted ok t = true) :
    tsorted ok (tdel t k) = true := tsorted_filter _ h

/-- A set key keeps the canonical form of a table that lists no default. -/
theorem tsorted_tset [DecidableEq α] {d : α} {t : Tbl α} (k : Nat) (v : α)
    (h : tsorted (fun _ x => x != d) t = true) : tsorted (fun _ x => x != d) (tset d t k v) = true := by
  unfold tset
  split
  · exact tsorted_tdel k h
  · next hv => exact tsorted_tput h (by simpa using hv)

/-! ### Memories -/

@[simp] theorem Memory.read_write_same (m : Memory) (a : Nat) (v : Byte) : (m.write a v).read a = v :=
  tget_tset_same 0 m a v

theorem Memory.read_write_other (m : Memory) {a a' : Nat} (v : Byte) (h : a' ≠ a) :
    (m.write a v).read a' = m.read a' := tget_tset_other 0 0 m v h

@[simp] theorem Memory.wf_nil : Memory.wf [] = true := rfl

theorem Memory.wf_write {m : Memory} (a : Nat) (v : Byte) (h : m.wf = true) : (m.write a v).wf = true :=
  tsorted_tset a v h

theorem Memory.wf_filter {m : Memory} (p : Nat × Byte → Bool) (h : m.wf = true) : Memory.wf (m.filter p) = true :=
  tsorted_filter p h

theorem Memory.wf_writeBytes {m : Memory} (a : Nat) (bs : Bytes) (h : m.wf = true) : (m.writeBytes a bs).wf = true := by
  induction bs generalizing m a with
  | nil => exact h
  | cons v vs ih => exact ih (a + 1) (Memory.wf_write a v h)

/-- A byte outside the bytes written reads as before. -/
theorem Memory.read_writeBytes_other (m : Memory) (a : Nat) (bs : Bytes) {x : Nat} (h : x < a ∨ a + bs.length ≤ x) :
    (m.writeBytes a bs).read x = m.read x := by
  induction bs generalizing m a with
  | nil => rfl
  | cons v vs ih =>
    simp only [List.length_cons] at h
    rw [Memory.writeBytes, ih _ _ (by omega), Memory.read_write_other _ _ (by omega)]

/-- A byte among the bytes written reads as written. -/
theorem Memory.read_writeBytes_at (m : Memory) (a : Nat) (bs : Bytes) (i : Nat) (h : i < bs.length) :
    (m.writeBytes a bs).read (a + i) = bs[i] := by
  induction bs generalizing m a i with
  | nil => simp at h
  | cons v vs ih =>
    rw [Memory.writeBytes]
    cases i with
    | zero => rw [Memory.read_writeBytes_other _ _ _ (Or.inl (by omega))]; simp
    | succ j =>
      have := ih (m.write a v) (a + 1) j (by simpa using h)
      rw [show a + 1 + j = a + (j + 1) by omega] at this
      simpa using this

/-- n bytes read where n bytes were written are those bytes. -/
theorem Memory.readBytes_writeBytes (m : Memory) (a : Nat) (bs : Bytes) :
    (m.writeBytes a bs).readBytes a bs.length = bs := by
  induction bs generalizing m a with
  | nil => rfl
  | cons v vs ih =>
    simp only [List.length_cons, Memory.readBytes, Memory.writeBytes]
    rw [ih, Memory.read_writeBytes_other _ _ _ (Or.inl (by omega)), Memory.read_write_same]

end Sys2Proof.Machine
end

