-- ==== Sys2Proof/Laws/State.lean ====
section
/-! SUPPORT. Laws of the state's accessors: for each named update, one lemma for each part of the state it leaves as it
was, and what its own accessor reads after it. -/

namespace Sys2Proof.Machine

variable (s : State)

/-! ### setBob -/

@[simp] theorem State.setBob_pending (b : Nat) (x : Bobbin) : (s.setBob b x).pending = s.pending := rfl
@[simp] theorem State.setBob_variant (b : Nat) (x : Bobbin) : (s.setBob b x).variant = s.variant := rfl
@[simp] theorem State.setBob_stepping (b : Nat) (x : Bobbin) : (s.setBob b x).stepping = s.stepping := rfl
@[simp] theorem State.setBob_regs (b : Nat) (x : Bobbin) : (s.setBob b x).regs = s.regs := rfl
@[simp] theorem State.setBob_beam (b : Nat) (x : Bobbin) : (s.setBob b x).beam = s.beam := rfl
@[simp] theorem State.setBob_tab (b : Nat) (x : Bobbin) : (s.setBob b x).tab = s.tab := rfl
@[simp] theorem State.setBob_cie (b : Nat) (x : Bobbin) : (s.setBob b x).cie = s.cie := rfl
@[simp] theorem State.setBob_sch (b : Nat) (x : Bobbin) : (s.setBob b x).sch = s.sch := rfl
@[simp] theorem State.setBob_wov (b : Nat) (x : Bobbin) : (s.setBob b x).wov = s.wov := rfl
@[simp] theorem State.setBob_weft (b : Nat) (x : Bobbin) : (s.setBob b x).weft = s.weft := rfl
@[simp] theorem State.setBob_msc (b : Nat) (x : Bobbin) : (s.setBob b x).msc = s.msc := rfl
@[simp] theorem State.setBob_hif (b : Nat) (x : Bobbin) : (s.setBob b x).hif = s.hif := rfl
@[simp] theorem State.setBob_kcu (b : Nat) (x : Bobbin) : (s.setBob b x).kcu = s.kcu := rfl
@[simp] theorem State.setBob_tmu (b : Nat) (x : Bobbin) : (s.setBob b x).tmu = s.tmu := rfl
@[simp] theorem State.setBob_bbx (b : Nat) (x : Bobbin) : (s.setBob b x).bbx = s.bbx := rfl
@[simp] theorem State.setBob_pmc (b : Nat) (x : Bobbin) : (s.setBob b x).pmc = s.pmc := rfl
@[simp] theorem State.setBob_evc (b : Nat) (x : Bobbin) : (s.setBob b x).evc = s.evc := rfl
@[simp] theorem State.setBob_tb (b : Nat) (x : Bobbin) : (s.setBob b x).tb = s.tb := rfl
@[simp] theorem State.setBob_pins (b : Nat) (x : Bobbin) : (s.setBob b x).pins = s.pins := rfl
@[simp] theorem State.setBob_out (b : Nat) (x : Bobbin) : (s.setBob b x).out = s.out := rfl
@[simp] theorem State.setBob_free (b : Nat) (x : Bobbin) : (s.setBob b x).free = s.free := rfl
@[simp] theorem State.setBob_shu_clusters (b : Nat) (x : Bobbin) : (s.setBob b x).shu.clusters = s.shu.clusters := rfl
@[simp] theorem State.setBob_shu_scratch (b : Nat) (x : Bobbin) : (s.setBob b x).shu.scratch = s.shu.scratch := rfl
@[simp] theorem State.setBob_shu_images (b : Nat) (x : Bobbin) : (s.setBob b x).shu.images = s.shu.images := rfl
@[simp] theorem State.setBob_shu_cur (b : Nat) (x : Bobbin) : (s.setBob b x).shu.cur = s.shu.cur := rfl
@[simp] theorem State.setBob_shu_next (b : Nat) (x : Bobbin) : (s.setBob b x).shu.next = s.shu.next := rfl
@[simp] theorem State.setBob_shu_curSecond (b : Nat) (x : Bobbin) : (s.setBob b x).shu.curSecond = s.shu.curSecond := rfl
@[simp] theorem State.setBob_shu_curLost (b : Nat) (x : Bobbin) : (s.setBob b x).shu.curLost = s.shu.curLost := rfl
@[simp] theorem State.setBob_shu_nextLost (b : Nat) (x : Bobbin) : (s.setBob b x).shu.nextLost = s.shu.nextLost := rfl
@[simp] theorem State.setBob_shu_staging (b : Nat) (x : Bobbin) : (s.setBob b x).shu.staging = s.shu.staging := rfl
@[simp] theorem State.setBob_shu_stagingFn (b : Nat) (x : Bobbin) : (s.setBob b x).shu.stagingFn = s.shu.stagingFn := rfl
@[simp] theorem State.setBob_shu_refused (b : Nat) (x : Bobbin) : (s.setBob b x).shu.refused = s.shu.refused := rfl
@[simp] theorem State.setBob_shu_check (b : Nat) (x : Bobbin) : (s.setBob b x).shu.check = s.shu.check := rfl

/-! ### setClu -/

@[simp] theorem State.setClu_pending (c : Nat) (x : Cluster) : (s.setClu c x).pending = s.pending := rfl
@[simp] theorem State.setClu_variant (c : Nat) (x : Cluster) : (s.setClu c x).variant = s.variant := rfl
@[simp] theorem State.setClu_stepping (c : Nat) (x : Cluster) : (s.setClu c x).stepping = s.stepping := rfl
@[simp] theorem State.setClu_regs (c : Nat) (x : Cluster) : (s.setClu c x).regs = s.regs := rfl
@[simp] theorem State.setClu_beam (c : Nat) (x : Cluster) : (s.setClu c x).beam = s.beam := rfl
@[simp] theorem State.setClu_tab (c : Nat) (x : Cluster) : (s.setClu c x).tab = s.tab := rfl
@[simp] theorem State.setClu_cie (c : Nat) (x : Cluster) : (s.setClu c x).cie = s.cie := rfl
@[simp] theorem State.setClu_sch (c : Nat) (x : Cluster) : (s.setClu c x).sch = s.sch := rfl
@[simp] theorem State.setClu_wov (c : Nat) (x : Cluster) : (s.setClu c x).wov = s.wov := rfl
@[simp] theorem State.setClu_weft (c : Nat) (x : Cluster) : (s.setClu c x).weft = s.weft := rfl
@[simp] theorem State.setClu_msc (c : Nat) (x : Cluster) : (s.setClu c x).msc = s.msc := rfl
@[simp] theorem State.setClu_hif (c : Nat) (x : Cluster) : (s.setClu c x).hif = s.hif := rfl
@[simp] theorem State.setClu_kcu (c : Nat) (x : Cluster) : (s.setClu c x).kcu = s.kcu := rfl
@[simp] theorem State.setClu_tmu (c : Nat) (x : Cluster) : (s.setClu c x).tmu = s.tmu := rfl
@[simp] theorem State.setClu_bbx (c : Nat) (x : Cluster) : (s.setClu c x).bbx = s.bbx := rfl
@[simp] theorem State.setClu_pmc (c : Nat) (x : Cluster) : (s.setClu c x).pmc = s.pmc := rfl
@[simp] theorem State.setClu_evc (c : Nat) (x : Cluster) : (s.setClu c x).evc = s.evc := rfl
@[simp] theorem State.setClu_tb (c : Nat) (x : Cluster) : (s.setClu c x).tb = s.tb := rfl
@[simp] theorem State.setClu_pins (c : Nat) (x : Cluster) : (s.setClu c x).pins = s.pins := rfl
@[simp] theorem State.setClu_out (c : Nat) (x : Cluster) : (s.setClu c x).out = s.out := rfl
@[simp] theorem State.setClu_free (c : Nat) (x : Cluster) : (s.setClu c x).free = s.free := rfl
@[simp] theorem State.setClu_shu_bobs (c : Nat) (x : Cluster) : (s.setClu c x).shu.bobs = s.shu.bobs := rfl
@[simp] theorem State.setClu_shu_scratch (c : Nat) (x : Cluster) : (s.setClu c x).shu.scratch = s.shu.scratch := rfl
@[simp] theorem State.setClu_shu_images (c : Nat) (x : Cluster) : (s.setClu c x).shu.images = s.shu.images := rfl
@[simp] theorem State.setClu_shu_cur (c : Nat) (x : Cluster) : (s.setClu c x).shu.cur = s.shu.cur := rfl
@[simp] theorem State.setClu_shu_next (c : Nat) (x : Cluster) : (s.setClu c x).shu.next = s.shu.next := rfl
@[simp] theorem State.setClu_shu_curSecond (c : Nat) (x : Cluster) : (s.setClu c x).shu.curSecond = s.shu.curSecond := rfl
@[simp] theorem State.setClu_shu_curLost (c : Nat) (x : Cluster) : (s.setClu c x).shu.curLost = s.shu.curLost := rfl
@[simp] theorem State.setClu_shu_nextLost (c : Nat) (x : Cluster) : (s.setClu c x).shu.nextLost = s.shu.nextLost := rfl
@[simp] theorem State.setClu_shu_staging (c : Nat) (x : Cluster) : (s.setClu c x).shu.staging = s.shu.staging := rfl
@[simp] theorem State.setClu_shu_stagingFn (c : Nat) (x : Cluster) : (s.setClu c x).shu.stagingFn = s.shu.stagingFn := rfl
@[simp] theorem State.setClu_shu_refused (c : Nat) (x : Cluster) : (s.setClu c x).shu.refused = s.shu.refused := rfl
@[simp] theorem State.setClu_shu_check (c : Nat) (x : Cluster) : (s.setClu c x).shu.check = s.shu.check := rfl

/-! ### setPick -/

@[simp] theorem State.setPick_pending (p : Nat) (x : Pick) : (s.setPick p x).pending = s.pending := rfl
@[simp] theorem State.setPick_variant (p : Nat) (x : Pick) : (s.setPick p x).variant = s.variant := rfl
@[simp] theorem State.setPick_stepping (p : Nat) (x : Pick) : (s.setPick p x).stepping = s.stepping := rfl
@[simp] theorem State.setPick_regs (p : Nat) (x : Pick) : (s.setPick p x).regs = s.regs := rfl
@[simp] theorem State.setPick_shu (p : Nat) (x : Pick) : (s.setPick p x).shu = s.shu := rfl
@[simp] theorem State.setPick_tab (p : Nat) (x : Pick) : (s.setPick p x).tab = s.tab := rfl
@[simp] theorem State.setPick_cie (p : Nat) (x : Pick) : (s.setPick p x).cie = s.cie := rfl
@[simp] theorem State.setPick_sch (p : Nat) (x : Pick) : (s.setPick p x).sch = s.sch := rfl
@[simp] theorem State.setPick_wov (p : Nat) (x : Pick) : (s.setPick p x).wov = s.wov := rfl
@[simp] theorem State.setPick_weft (p : Nat) (x : Pick) : (s.setPick p x).weft = s.weft := rfl
@[simp] theorem State.setPick_msc (p : Nat) (x : Pick) : (s.setPick p x).msc = s.msc := rfl
@[simp] theorem State.setPick_hif (p : Nat) (x : Pick) : (s.setPick p x).hif = s.hif := rfl
@[simp] theorem State.setPick_kcu (p : Nat) (x : Pick) : (s.setPick p x).kcu = s.kcu := rfl
@[simp] theorem State.setPick_tmu (p : Nat) (x : Pick) : (s.setPick p x).tmu = s.tmu := rfl
@[simp] theorem State.setPick_bbx (p : Nat) (x : Pick) : (s.setPick p x).bbx = s.bbx := rfl
@[simp] theorem State.setPick_pmc (p : Nat) (x : Pick) : (s.setPick p x).pmc = s.pmc := rfl
@[simp] theorem State.setPick_evc (p : Nat) (x : Pick) : (s.setPick p x).evc = s.evc := rfl
@[simp] theorem State.setPick_tb (p : Nat) (x : Pick) : (s.setPick p x).tb = s.tb := rfl
@[simp] theorem State.setPick_pins (p : Nat) (x : Pick) : (s.setPick p x).pins = s.pins := rfl
@[simp] theorem State.setPick_out (p : Nat) (x : Pick) : (s.setPick p x).out = s.out := rfl
@[simp] theorem State.setPick_free (p : Nat) (x : Pick) : (s.setPick p x).free = s.free := rfl
@[simp] theorem State.setPick_beam_born (p : Nat) (x : Pick) : (s.setPick p x).beam.born = s.beam.born := rfl
@[simp] theorem State.setPick_beam_seqs (p : Nat) (x : Pick) : (s.setPick p x).beam.seqs = s.beam.seqs := rfl
@[simp] theorem State.setPick_beam_puntWait (p : Nat) (x : Pick) : (s.setPick p x).beam.puntWait = s.beam.puntWait := rfl

/-! ### delPick -/

@[simp] theorem State.delPick_pending (p : Nat) : (s.delPick p).pending = s.pending := rfl
@[simp] theorem State.delPick_variant (p : Nat) : (s.delPick p).variant = s.variant := rfl
@[simp] theorem State.delPick_stepping (p : Nat) : (s.delPick p).stepping = s.stepping := rfl
@[simp] theorem State.delPick_regs (p : Nat) : (s.delPick p).regs = s.regs := rfl
@[simp] theorem State.delPick_shu (p : Nat) : (s.delPick p).shu = s.shu := rfl
@[simp] theorem State.delPick_tab (p : Nat) : (s.delPick p).tab = s.tab := rfl
@[simp] theorem State.delPick_cie (p : Nat) : (s.delPick p).cie = s.cie := rfl
@[simp] theorem State.delPick_sch (p : Nat) : (s.delPick p).sch = s.sch := rfl
@[simp] theorem State.delPick_wov (p : Nat) : (s.delPick p).wov = s.wov := rfl
@[simp] theorem State.delPick_weft (p : Nat) : (s.delPick p).weft = s.weft := rfl
@[simp] theorem State.delPick_msc (p : Nat) : (s.delPick p).msc = s.msc := rfl
@[simp] theorem State.delPick_hif (p : Nat) : (s.delPick p).hif = s.hif := rfl
@[simp] theorem State.delPick_kcu (p : Nat) : (s.delPick p).kcu = s.kcu := rfl
@[simp] theorem State.delPick_tmu (p : Nat) : (s.delPick p).tmu = s.tmu := rfl
@[simp] theorem State.delPick_bbx (p : Nat) : (s.delPick p).bbx = s.bbx := rfl
@[simp] theorem State.delPick_pmc (p : Nat) : (s.delPick p).pmc = s.pmc := rfl
@[simp] theorem State.delPick_evc (p : Nat) : (s.delPick p).evc = s.evc := rfl
@[simp] theorem State.delPick_tb (p : Nat) : (s.delPick p).tb = s.tb := rfl
@[simp] theorem State.delPick_pins (p : Nat) : (s.delPick p).pins = s.pins := rfl
@[simp] theorem State.delPick_out (p : Nat) : (s.delPick p).out = s.out := rfl
@[simp] theorem State.delPick_free (p : Nat) : (s.delPick p).free = s.free := rfl
@[simp] theorem State.delPick_beam_born (p : Nat) : (s.delPick p).beam.born = s.beam.born := rfl
@[simp] theorem State.delPick_beam_seqs (p : Nat) : (s.delPick p).beam.seqs = s.beam.seqs := rfl
@[simp] theorem State.delPick_beam_puntWait (p : Nat) : (s.delPick p).beam.puntWait = s.beam.puntWait := rfl

/-! ### setAssoc -/

@[simp] theorem State.setAssoc_pending (i : Nat) (x : AtEntry) : (s.setAssoc i x).pending = s.pending := rfl
@[simp] theorem State.setAssoc_variant (i : Nat) (x : AtEntry) : (s.setAssoc i x).variant = s.variant := rfl
@[simp] theorem State.setAssoc_stepping (i : Nat) (x : AtEntry) : (s.setAssoc i x).stepping = s.stepping := rfl
@[simp] theorem State.setAssoc_regs (i : Nat) (x : AtEntry) : (s.setAssoc i x).regs = s.regs := rfl
@[simp] theorem State.setAssoc_shu (i : Nat) (x : AtEntry) : (s.setAssoc i x).shu = s.shu := rfl
@[simp] theorem State.setAssoc_beam (i : Nat) (x : AtEntry) : (s.setAssoc i x).beam = s.beam := rfl
@[simp] theorem State.setAssoc_cie (i : Nat) (x : AtEntry) : (s.setAssoc i x).cie = s.cie := rfl
@[simp] theorem State.setAssoc_sch (i : Nat) (x : AtEntry) : (s.setAssoc i x).sch = s.sch := rfl
@[simp] theorem State.setAssoc_wov (i : Nat) (x : AtEntry) : (s.setAssoc i x).wov = s.wov := rfl
@[simp] theorem State.setAssoc_weft (i : Nat) (x : AtEntry) : (s.setAssoc i x).weft = s.weft := rfl
@[simp] theorem State.setAssoc_msc (i : Nat) (x : AtEntry) : (s.setAssoc i x).msc = s.msc := rfl
@[simp] theorem State.setAssoc_hif (i : Nat) (x : AtEntry) : (s.setAssoc i x).hif = s.hif := rfl
@[simp] theorem State.setAssoc_kcu (i : Nat) (x : AtEntry) : (s.setAssoc i x).kcu = s.kcu := rfl
@[simp] theorem State.setAssoc_tmu (i : Nat) (x : AtEntry) : (s.setAssoc i x).tmu = s.tmu := rfl
@[simp] theorem State.setAssoc_bbx (i : Nat) (x : AtEntry) : (s.setAssoc i x).bbx = s.bbx := rfl
@[simp] theorem State.setAssoc_pmc (i : Nat) (x : AtEntry) : (s.setAssoc i x).pmc = s.pmc := rfl
@[simp] theorem State.setAssoc_evc (i : Nat) (x : AtEntry) : (s.setAssoc i x).evc = s.evc := rfl
@[simp] theorem State.setAssoc_tb (i : Nat) (x : AtEntry) : (s.setAssoc i x).tb = s.tb := rfl
@[simp] theorem State.setAssoc_pins (i : Nat) (x : AtEntry) : (s.setAssoc i x).pins = s.pins := rfl
@[simp] theorem State.setAssoc_out (i : Nat) (x : AtEntry) : (s.setAssoc i x).out = s.out := rfl
@[simp] theorem State.setAssoc_free (i : Nat) (x : AtEntry) : (s.setAssoc i x).free = s.free := rfl
@[simp] theorem State.setAssoc_tab_refs (i : Nat) (x : AtEntry) : (s.setAssoc i x).tab.refs = s.tab.refs := rfl
@[simp] theorem State.setAssoc_tab_drains (i : Nat) (x : AtEntry) : (s.setAssoc i x).tab.drains = s.tab.drains := rfl
@[simp] theorem State.setAssoc_tab_lastDom (i : Nat) (x : AtEntry) : (s.setAssoc i x).tab.lastDom = s.tab.lastDom := rfl
@[simp] theorem State.setAssoc_tab_openOrd (i : Nat) (x : AtEntry) : (s.setAssoc i x).tab.openOrd = s.tab.openOrd := rfl
@[simp] theorem State.setAssoc_tab_flows (i : Nat) (x : AtEntry) : (s.setAssoc i x).tab.flows = s.tab.flows := rfl
@[simp] theorem State.setAssoc_tab_secret (i : Nat) (x : AtEntry) : (s.setAssoc i x).tab.secret = s.tab.secret := rfl
@[simp] theorem State.setAssoc_tab_mt (i : Nat) (x : AtEntry) : (s.setAssoc i x).tab.mt = s.tab.mt := rfl

/-! ### setEngine -/

@[simp] theorem State.setEngine_pending (e : Nat) (x : Engine) : (s.setEngine e x).pending = s.pending := rfl
@[simp] theorem State.setEngine_variant (e : Nat) (x : Engine) : (s.setEngine e x).variant = s.variant := rfl
@[simp] theorem State.setEngine_stepping (e : Nat) (x : Engine) : (s.setEngine e x).stepping = s.stepping := rfl
@[simp] theorem State.setEngine_regs (e : Nat) (x : Engine) : (s.setEngine e x).regs = s.regs := rfl
@[simp] theorem State.setEngine_shu (e : Nat) (x : Engine) : (s.setEngine e x).shu = s.shu := rfl
@[simp] theorem State.setEngine_beam (e : Nat) (x : Engine) : (s.setEngine e x).beam = s.beam := rfl
@[simp] theorem State.setEngine_tab (e : Nat) (x : Engine) : (s.setEngine e x).tab = s.tab := rfl
@[simp] theorem State.setEngine_sch (e : Nat) (x : Engine) : (s.setEngine e x).sch = s.sch := rfl
@[simp] theorem State.setEngine_wov (e : Nat) (x : Engine) : (s.setEngine e x).wov = s.wov := rfl
@[simp] theorem State.setEngine_weft (e : Nat) (x : Engine) : (s.setEngine e x).weft = s.weft := rfl
@[simp] theorem State.setEngine_msc (e : Nat) (x : Engine) : (s.setEngine e x).msc = s.msc := rfl
@[simp] theorem State.setEngine_hif (e : Nat) (x : Engine) : (s.setEngine e x).hif = s.hif := rfl
@[simp] theorem State.setEngine_kcu (e : Nat) (x : Engine) : (s.setEngine e x).kcu = s.kcu := rfl
@[simp] theorem State.setEngine_tmu (e : Nat) (x : Engine) : (s.setEngine e x).tmu = s.tmu := rfl
@[simp] theorem State.setEngine_bbx (e : Nat) (x : Engine) : (s.setEngine e x).bbx = s.bbx := rfl
@[simp] theorem State.setEngine_pmc (e : Nat) (x : Engine) : (s.setEngine e x).pmc = s.pmc := rfl
@[simp] theorem State.setEngine_evc (e : Nat) (x : Engine) : (s.setEngine e x).evc = s.evc := rfl
@[simp] theorem State.setEngine_tb (e : Nat) (x : Engine) : (s.setEngine e x).tb = s.tb := rfl
@[simp] theorem State.setEngine_pins (e : Nat) (x : Engine) : (s.setEngine e x).pins = s.pins := rfl
@[simp] theorem State.setEngine_out (e : Nat) (x : Engine) : (s.setEngine e x).out = s.out := rfl
@[simp] theorem State.setEngine_free (e : Nat) (x : Engine) : (s.setEngine e x).free = s.free := rfl
@[simp] theorem State.setEngine_cie_pairs (e : Nat) (x : Engine) : (s.setEngine e x).cie.pairs = s.cie.pairs := rfl
@[simp] theorem State.setEngine_cie_jobs (e : Nat) (x : Engine) : (s.setEngine e x).cie.jobs = s.cie.jobs := rfl
@[simp] theorem State.setEngine_cie_next (e : Nat) (x : Engine) : (s.setEngine e x).cie.next = s.cie.next := rfl
@[simp] theorem State.setEngine_cie_lastRetire (e : Nat) (x : Engine) : (s.setEngine e x).cie.lastRetire = s.cie.lastRetire := rfl
@[simp] theorem State.setEngine_cie_lks (e : Nat) (x : Engine) : (s.setEngine e x).cie.lks = s.cie.lks := rfl
@[simp] theorem State.setEngine_cie_recovering (e : Nat) (x : Engine) : (s.setEngine e x).cie.recovering = s.cie.recovering := rfl

/-! ### setPair -/

@[simp] theorem State.setPair_pending (p : Nat) (x : Pair) : (s.setPair p x).pending = s.pending := rfl
@[simp] theorem State.setPair_variant (p : Nat) (x : Pair) : (s.setPair p x).variant = s.variant := rfl
@[simp] theorem State.setPair_stepping (p : Nat) (x : Pair) : (s.setPair p x).stepping = s.stepping := rfl
@[simp] theorem State.setPair_regs (p : Nat) (x : Pair) : (s.setPair p x).regs = s.regs := rfl
@[simp] theorem State.setPair_shu (p : Nat) (x : Pair) : (s.setPair p x).shu = s.shu := rfl
@[simp] theorem State.setPair_beam (p : Nat) (x : Pair) : (s.setPair p x).beam = s.beam := rfl
@[simp] theorem State.setPair_tab (p : Nat) (x : Pair) : (s.setPair p x).tab = s.tab := rfl
@[simp] theorem State.setPair_sch (p : Nat) (x : Pair) : (s.setPair p x).sch = s.sch := rfl
@[simp] theorem State.setPair_wov (p : Nat) (x : Pair) : (s.setPair p x).wov = s.wov := rfl
@[simp] theorem State.setPair_weft (p : Nat) (x : Pair) : (s.setPair p x).weft = s.weft := rfl
@[simp] theorem State.setPair_msc (p : Nat) (x : Pair) : (s.setPair p x).msc = s.msc := rfl
@[simp] theorem State.setPair_hif (p : Nat) (x : Pair) : (s.setPair p x).hif = s.hif := rfl
@[simp] theorem State.setPair_kcu (p : Nat) (x : Pair) : (s.setPair p x).kcu = s.kcu := rfl
@[simp] theorem State.setPair_tmu (p : Nat) (x : Pair) : (s.setPair p x).tmu = s.tmu := rfl
@[simp] theorem State.setPair_bbx (p : Nat) (x : Pair) : (s.setPair p x).bbx = s.bbx := rfl
@[simp] theorem State.setPair_pmc (p : Nat) (x : Pair) : (s.setPair p x).pmc = s.pmc := rfl
@[simp] theorem State.setPair_evc (p : Nat) (x : Pair) : (s.setPair p x).evc = s.evc := rfl
@[simp] theorem State.setPair_tb (p : Nat) (x : Pair) : (s.setPair p x).tb = s.tb := rfl
@[simp] theorem State.setPair_pins (p : Nat) (x : Pair) : (s.setPair p x).pins = s.pins := rfl
@[simp] theorem State.setPair_out (p : Nat) (x : Pair) : (s.setPair p x).out = s.out := rfl
@[simp] theorem State.setPair_free (p : Nat) (x : Pair) : (s.setPair p x).free = s.free := rfl
@[simp] theorem State.setPair_cie_engines (p : Nat) (x : Pair) : (s.setPair p x).cie.engines = s.cie.engines := rfl
@[simp] theorem State.setPair_cie_jobs (p : Nat) (x : Pair) : (s.setPair p x).cie.jobs = s.cie.jobs := rfl
@[simp] theorem State.setPair_cie_next (p : Nat) (x : Pair) : (s.setPair p x).cie.next = s.cie.next := rfl
@[simp] theorem State.setPair_cie_lastRetire (p : Nat) (x : Pair) : (s.setPair p x).cie.lastRetire = s.cie.lastRetire := rfl
@[simp] theorem State.setPair_cie_lks (p : Nat) (x : Pair) : (s.setPair p x).cie.lks = s.cie.lks := rfl
@[simp] theorem State.setPair_cie_recovering (p : Nat) (x : Pair) : (s.setPair p x).cie.recovering = s.cie.recovering := rfl

/-! ### setQueue -/

@[simp] theorem State.setQueue_pending (q : Nat) (x : Queue) : (s.setQueue q x).pending = s.pending := rfl
@[simp] theorem State.setQueue_variant (q : Nat) (x : Queue) : (s.setQueue q x).variant = s.variant := rfl
@[simp] theorem State.setQueue_stepping (q : Nat) (x : Queue) : (s.setQueue q x).stepping = s.stepping := rfl
@[simp] theorem State.setQueue_regs (q : Nat) (x : Queue) : (s.setQueue q x).regs = s.regs := rfl
@[simp] theorem State.setQueue_shu (q : Nat) (x : Queue) : (s.setQueue q x).shu = s.shu := rfl
@[simp] theorem State.setQueue_beam (q : Nat) (x : Queue) : (s.setQueue q x).beam = s.beam := rfl
@[simp] theorem State.setQueue_tab (q : Nat) (x : Queue) : (s.setQueue q x).tab = s.tab := rfl
@[simp] theorem State.setQueue_cie (q : Nat) (x : Queue) : (s.setQueue q x).cie = s.cie := rfl
@[simp] theorem State.setQueue_wov (q : Nat) (x : Queue) : (s.setQueue q x).wov = s.wov := rfl
@[simp] theorem State.setQueue_weft (q : Nat) (x : Queue) : (s.setQueue q x).weft = s.weft := rfl
@[simp] theorem State.setQueue_msc (q : Nat) (x : Queue) : (s.setQueue q x).msc = s.msc := rfl
@[simp] theorem State.setQueue_hif (q : Nat) (x : Queue) : (s.setQueue q x).hif = s.hif := rfl
@[simp] theorem State.setQueue_kcu (q : Nat) (x : Queue) : (s.setQueue q x).kcu = s.kcu := rfl
@[simp] theorem State.setQueue_tmu (q : Nat) (x : Queue) : (s.setQueue q x).tmu = s.tmu := rfl
@[simp] theorem State.setQueue_bbx (q : Nat) (x : Queue) : (s.setQueue q x).bbx = s.bbx := rfl
@[simp] theorem State.setQueue_pmc (q : Nat) (x : Queue) : (s.setQueue q x).pmc = s.pmc := rfl
@[simp] theorem State.setQueue_evc (q : Nat) (x : Queue) : (s.setQueue q x).evc = s.evc := rfl
@[simp] theorem State.setQueue_tb (q : Nat) (x : Queue) : (s.setQueue q x).tb = s.tb := rfl
@[simp] theorem State.setQueue_pins (q : Nat) (x : Queue) : (s.setQueue q x).pins = s.pins := rfl
@[simp] theorem State.setQueue_out (q : Nat) (x : Queue) : (s.setQueue q x).out = s.out := rfl
@[simp] theorem State.setQueue_free (q : Nat) (x : Queue) : (s.setQueue q x).free = s.free := rfl
@[simp] theorem State.setQueue_sch_ports (q : Nat) (x : Queue) : (s.setQueue q x).sch.ports = s.sch.ports := rfl
@[simp] theorem State.setQueue_sch_pols (q : Nat) (x : Queue) : (s.setQueue q x).sch.pols = s.sch.pols := rfl
@[simp] theorem State.setQueue_sch_hists (q : Nat) (x : Queue) : (s.setQueue q x).sch.hists = s.sch.hists := rfl
@[simp] theorem State.setQueue_sch_lastTick (q : Nat) (x : Queue) : (s.setQueue q x).sch.lastTick = s.sch.lastTick := rfl

/-! ### setPort -/

@[simp] theorem State.setPort_pending (p : Nat) (x : Port) : (s.setPort p x).pending = s.pending := rfl
@[simp] theorem State.setPort_variant (p : Nat) (x : Port) : (s.setPort p x).variant = s.variant := rfl
@[simp] theorem State.setPort_stepping (p : Nat) (x : Port) : (s.setPort p x).stepping = s.stepping := rfl
@[simp] theorem State.setPort_regs (p : Nat) (x : Port) : (s.setPort p x).regs = s.regs := rfl
@[simp] theorem State.setPort_shu (p : Nat) (x : Port) : (s.setPort p x).shu = s.shu := rfl
@[simp] theorem State.setPort_beam (p : Nat) (x : Port) : (s.setPort p x).beam = s.beam := rfl
@[simp] theorem State.setPort_tab (p : Nat) (x : Port) : (s.setPort p x).tab = s.tab := rfl
@[simp] theorem State.setPort_cie (p : Nat) (x : Port) : (s.setPort p x).cie = s.cie := rfl
@[simp] theorem State.setPort_wov (p : Nat) (x : Port) : (s.setPort p x).wov = s.wov := rfl
@[simp] theorem State.setPort_weft (p : Nat) (x : Port) : (s.setPort p x).weft = s.weft := rfl
@[simp] theorem State.setPort_msc (p : Nat) (x : Port) : (s.setPort p x).msc = s.msc := rfl
@[simp] theorem State.setPort_hif (p : Nat) (x : Port) : (s.setPort p x).hif = s.hif := rfl
@[simp] theorem State.setPort_kcu (p : Nat) (x : Port) : (s.setPort p x).kcu = s.kcu := rfl
@[simp] theorem State.setPort_tmu (p : Nat) (x : Port) : (s.setPort p x).tmu = s.tmu := rfl
@[simp] theorem State.setPort_bbx (p : Nat) (x : Port) : (s.setPort p x).bbx = s.bbx := rfl
@[simp] theorem State.setPort_pmc (p : Nat) (x : Port) : (s.setPort p x).pmc = s.pmc := rfl
@[simp] theorem State.setPort_evc (p : Nat) (x : Port) : (s.setPort p x).evc = s.evc := rfl
@[simp] theorem State.setPort_tb (p : Nat) (x : Port) : (s.setPort p x).tb = s.tb := rfl
@[simp] theorem State.setPort_pins (p : Nat) (x : Port) : (s.setPort p x).pins = s.pins := rfl
@[simp] theorem State.setPort_out (p : Nat) (x : Port) : (s.setPort p x).out = s.out := rfl
@[simp] theorem State.setPort_free (p : Nat) (x : Port) : (s.setPort p x).free = s.free := rfl
@[simp] theorem State.setPort_sch_queues (p : Nat) (x : Port) : (s.setPort p x).sch.queues = s.sch.queues := rfl
@[simp] theorem State.setPort_sch_pols (p : Nat) (x : Port) : (s.setPort p x).sch.pols = s.sch.pols := rfl
@[simp] theorem State.setPort_sch_hists (p : Nat) (x : Port) : (s.setPort p x).sch.hists = s.sch.hists := rfl
@[simp] theorem State.setPort_sch_lastTick (p : Nat) (x : Port) : (s.setPort p x).sch.lastTick = s.sch.lastTick := rfl

/-! ### setGroup -/

@[simp] theorem State.setGroup_pending (g : Nat) (x : Group) : (s.setGroup g x).pending = s.pending := rfl
@[simp] theorem State.setGroup_variant (g : Nat) (x : Group) : (s.setGroup g x).variant = s.variant := rfl
@[simp] theorem State.setGroup_stepping (g : Nat) (x : Group) : (s.setGroup g x).stepping = s.stepping := rfl
@[simp] theorem State.setGroup_regs (g : Nat) (x : Group) : (s.setGroup g x).regs = s.regs := rfl
@[simp] theorem State.setGroup_shu (g : Nat) (x : Group) : (s.setGroup g x).shu = s.shu := rfl
@[simp] theorem State.setGroup_beam (g : Nat) (x : Group) : (s.setGroup g x).beam = s.beam := rfl
@[simp] theorem State.setGroup_tab (g : Nat) (x : Group) : (s.setGroup g x).tab = s.tab := rfl
@[simp] theorem State.setGroup_cie (g : Nat) (x : Group) : (s.setGroup g x).cie = s.cie := rfl
@[simp] theorem State.setGroup_sch (g : Nat) (x : Group) : (s.setGroup g x).sch = s.sch := rfl
@[simp] theorem State.setGroup_weft (g : Nat) (x : Group) : (s.setGroup g x).weft = s.weft := rfl
@[simp] theorem State.setGroup_msc (g : Nat) (x : Group) : (s.setGroup g x).msc = s.msc := rfl
@[simp] theorem State.setGroup_hif (g : Nat) (x : Group) : (s.setGroup g x).hif = s.hif := rfl
@[simp] theorem State.setGroup_kcu (g : Nat) (x : Group) : (s.setGroup g x).kcu = s.kcu := rfl
@[simp] theorem State.setGroup_tmu (g : Nat) (x : Group) : (s.setGroup g x).tmu = s.tmu := rfl
@[simp] theorem State.setGroup_bbx (g : Nat) (x : Group) : (s.setGroup g x).bbx = s.bbx := rfl
@[simp] theorem State.setGroup_pmc (g : Nat) (x : Group) : (s.setGroup g x).pmc = s.pmc := rfl
@[simp] theorem State.setGroup_evc (g : Nat) (x : Group) : (s.setGroup g x).evc = s.evc := rfl
@[simp] theorem State.setGroup_tb (g : Nat) (x : Group) : (s.setGroup g x).tb = s.tb := rfl
@[simp] theorem State.setGroup_pins (g : Nat) (x : Group) : (s.setGroup g x).pins = s.pins := rfl
@[simp] theorem State.setGroup_out (g : Nat) (x : Group) : (s.setGroup g x).out = s.out := rfl
@[simp] theorem State.setGroup_free (g : Nat) (x : Group) : (s.setGroup g x).free = s.free := rfl
@[simp] theorem State.setGroup_wov_lanes (g : Nat) (x : Group) : (s.setGroup g x).wov.lanes = s.wov.lanes := rfl
@[simp] theorem State.setGroup_wov_lmt (g : Nat) (x : Group) : (s.setGroup g x).wov.lmt = s.wov.lmt := rfl

/-! ### setLane -/

@[simp] theorem State.setLane_pending (l : Nat) (x : Lane) : (s.setLane l x).pending = s.pending := rfl
@[simp] theorem State.setLane_variant (l : Nat) (x : Lane) : (s.setLane l x).variant = s.variant := rfl
@[simp] theorem State.setLane_stepping (l : Nat) (x : Lane) : (s.setLane l x).stepping = s.stepping := rfl
@[simp] theorem State.setLane_regs (l : Nat) (x : Lane) : (s.setLane l x).regs = s.regs := rfl
@[simp] theorem State.setLane_shu (l : Nat) (x : Lane) : (s.setLane l x).shu = s.shu := rfl
@[simp] theorem State.setLane_beam (l : Nat) (x : Lane) : (s.setLane l x).beam = s.beam := rfl
@[simp] theorem State.setLane_tab (l : Nat) (x : Lane) : (s.setLane l x).tab = s.tab := rfl
@[simp] theorem State.setLane_cie (l : Nat) (x : Lane) : (s.setLane l x).cie = s.cie := rfl
@[simp] theorem State.setLane_sch (l : Nat) (x : Lane) : (s.setLane l x).sch = s.sch := rfl
@[simp] theorem State.setLane_weft (l : Nat) (x : Lane) : (s.setLane l x).weft = s.weft := rfl
@[simp] theorem State.setLane_msc (l : Nat) (x : Lane) : (s.setLane l x).msc = s.msc := rfl
@[simp] theorem State.setLane_hif (l : Nat) (x : Lane) : (s.setLane l x).hif = s.hif := rfl
@[simp] theorem State.setLane_kcu (l : Nat) (x : Lane) : (s.setLane l x).kcu = s.kcu := rfl
@[simp] theorem State.setLane_tmu (l : Nat) (x : Lane) : (s.setLane l x).tmu = s.tmu := rfl
@[simp] theorem State.setLane_bbx (l : Nat) (x : Lane) : (s.setLane l x).bbx = s.bbx := rfl
@[simp] theorem State.setLane_pmc (l : Nat) (x : Lane) : (s.setLane l x).pmc = s.pmc := rfl
@[simp] theorem State.setLane_evc (l : Nat) (x : Lane) : (s.setLane l x).evc = s.evc := rfl
@[simp] theorem State.setLane_tb (l : Nat) (x : Lane) : (s.setLane l x).tb = s.tb := rfl
@[simp] theorem State.setLane_pins (l : Nat) (x : Lane) : (s.setLane l x).pins = s.pins := rfl
@[simp] theorem State.setLane_out (l : Nat) (x : Lane) : (s.setLane l x).out = s.out := rfl
@[simp] theorem State.setLane_free (l : Nat) (x : Lane) : (s.setLane l x).free = s.free := rfl
@[simp] theorem State.setLane_wov_groups (l : Nat) (x : Lane) : (s.setLane l x).wov.groups = s.wov.groups := rfl
@[simp] theorem State.setLane_wov_lmt (l : Nat) (x : Lane) : (s.setLane l x).wov.lmt = s.wov.lmt := rfl

/-! ### setWport -/

@[simp] theorem State.setWport_pending (n : Nat) (x : Weft) : (s.setWport n x).pending = s.pending := rfl
@[simp] theorem State.setWport_variant (n : Nat) (x : Weft) : (s.setWport n x).variant = s.variant := rfl
@[simp] theorem State.setWport_stepping (n : Nat) (x : Weft) : (s.setWport n x).stepping = s.stepping := rfl
@[simp] theorem State.setWport_regs (n : Nat) (x : Weft) : (s.setWport n x).regs = s.regs := rfl
@[simp] theorem State.setWport_shu (n : Nat) (x : Weft) : (s.setWport n x).shu = s.shu := rfl
@[simp] theorem State.setWport_beam (n : Nat) (x : Weft) : (s.setWport n x).beam = s.beam := rfl
@[simp] theorem State.setWport_tab (n : Nat) (x : Weft) : (s.setWport n x).tab = s.tab := rfl
@[simp] theorem State.setWport_cie (n : Nat) (x : Weft) : (s.setWport n x).cie = s.cie := rfl
@[simp] theorem State.setWport_sch (n : Nat) (x : Weft) : (s.setWport n x).sch = s.sch := rfl
@[simp] theorem State.setWport_wov (n : Nat) (x : Weft) : (s.setWport n x).wov = s.wov := rfl
@[simp] theorem State.setWport_msc (n : Nat) (x : Weft) : (s.setWport n x).msc = s.msc := rfl
@[simp] theorem State.setWport_hif (n : Nat) (x : Weft) : (s.setWport n x).hif = s.hif := rfl
@[simp] theorem State.setWport_kcu (n : Nat) (x : Weft) : (s.setWport n x).kcu = s.kcu := rfl
@[simp] theorem State.setWport_tmu (n : Nat) (x : Weft) : (s.setWport n x).tmu = s.tmu := rfl
@[simp] theorem State.setWport_bbx (n : Nat) (x : Weft) : (s.setWport n x).bbx = s.bbx := rfl
@[simp] theorem State.setWport_pmc (n : Nat) (x : Weft) : (s.setWport n x).pmc = s.pmc := rfl
@[simp] theorem State.setWport_evc (n : Nat) (x : Weft) : (s.setWport n x).evc = s.evc := rfl
@[simp] theorem State.setWport_tb (n : Nat) (x : Weft) : (s.setWport n x).tb = s.tb := rfl
@[simp] theorem State.setWport_pins (n : Nat) (x : Weft) : (s.setWport n x).pins = s.pins := rfl
@[simp] theorem State.setWport_out (n : Nat) (x : Weft) : (s.setWport n x).out = s.out := rfl
@[simp] theorem State.setWport_free (n : Nat) (x : Weft) : (s.setWport n x).free = s.free := rfl

/-! ### setDom -/

@[simp] theorem State.setDom_pending (d : Nat) (x : Dom) : (s.setDom d x).pending = s.pending := rfl
@[simp] theorem State.setDom_variant (d : Nat) (x : Dom) : (s.setDom d x).variant = s.variant := rfl
@[simp] theorem State.setDom_stepping (d : Nat) (x : Dom) : (s.setDom d x).stepping = s.stepping := rfl
@[simp] theorem State.setDom_regs (d : Nat) (x : Dom) : (s.setDom d x).regs = s.regs := rfl
@[simp] theorem State.setDom_shu (d : Nat) (x : Dom) : (s.setDom d x).shu = s.shu := rfl
@[simp] theorem State.setDom_beam (d : Nat) (x : Dom) : (s.setDom d x).beam = s.beam := rfl
@[simp] theorem State.setDom_tab (d : Nat) (x : Dom) : (s.setDom d x).tab = s.tab := rfl
@[simp] theorem State.setDom_cie (d : Nat) (x : Dom) : (s.setDom d x).cie = s.cie := rfl
@[simp] theorem State.setDom_sch (d : Nat) (x : Dom) : (s.setDom d x).sch = s.sch := rfl
@[simp] theorem State.setDom_wov (d : Nat) (x : Dom) : (s.setDom d x).wov = s.wov := rfl
@[simp] theorem State.setDom_weft (d : Nat) (x : Dom) : (s.setDom d x).weft = s.weft := rfl
@[simp] theorem State.setDom_msc (d : Nat) (x : Dom) : (s.setDom d x).msc = s.msc := rfl
@[simp] theorem State.setDom_hif (d : Nat) (x : Dom) : (s.setDom d x).hif = s.hif := rfl
@[simp] theorem State.setDom_kcu (d : Nat) (x : Dom) : (s.setDom d x).kcu = s.kcu := rfl
@[simp] theorem State.setDom_tmu (d : Nat) (x : Dom) : (s.setDom d x).tmu = s.tmu := rfl
@[simp] theorem State.setDom_bbx (d : Nat) (x : Dom) : (s.setDom d x).bbx = s.bbx := rfl
@[simp] theorem State.setDom_evc (d : Nat) (x : Dom) : (s.setDom d x).evc = s.evc := rfl
@[simp] theorem State.setDom_tb (d : Nat) (x : Dom) : (s.setDom d x).tb = s.tb := rfl
@[simp] theorem State.setDom_pins (d : Nat) (x : Dom) : (s.setDom d x).pins = s.pins := rfl
@[simp] theorem State.setDom_out (d : Nat) (x : Dom) : (s.setDom d x).out = s.out := rfl
@[simp] theorem State.setDom_free (d : Nat) (x : Dom) : (s.setDom d x).free = s.free := rfl
@[simp] theorem State.setDom_pmc_tols (d : Nat) (x : Dom) : (s.setDom d x).pmc.tols = s.pmc.tols := rfl
@[simp] theorem State.setDom_pmc_level (d : Nat) (x : Dom) : (s.setDom d x).pmc.level = s.pmc.level := rfl
@[simp] theorem State.setDom_pmc_refilled (d : Nat) (x : Dom) : (s.setDom d x).pmc.refilled = s.pmc.refilled := rfl
@[simp] theorem State.setDom_pmc_wakes (d : Nat) (x : Dom) : (s.setDom d x).pmc.wakes = s.pmc.wakes := rfl
@[simp] theorem State.setDom_pmc_decided (d : Nat) (x : Dom) : (s.setDom d x).pmc.decided = s.pmc.decided := rfl
@[simp] theorem State.setDom_pmc_standby (d : Nat) (x : Dom) : (s.setDom d x).pmc.standby = s.pmc.standby := rfl
@[simp] theorem State.setDom_pmc_cluLow (d : Nat) (x : Dom) : (s.setDom d x).pmc.cluLow = s.pmc.cluLow := rfl
@[simp] theorem State.setDom_pmc_cieLow (d : Nat) (x : Dom) : (s.setDom d x).pmc.cieLow = s.pmc.cieLow := rfl
@[simp] theorem State.setDom_pmc_pfw (d : Nat) (x : Dom) : (s.setDom d x).pmc.pfw = s.pmc.pfw := rfl
@[simp] theorem State.setDom_pmc_pfwSeen (d : Nat) (x : Dom) : (s.setDom d x).pmc.pfwSeen = s.pmc.pfwSeen := rfl
@[simp] theorem State.setDom_pmc_pfwCount (d : Nat) (x : Dom) : (s.setDom d x).pmc.pfwCount = s.pmc.pfwCount := rfl

/-! ### setRing -/

@[simp] theorem State.setRing_pending (f r : Nat) (x : Ring) : (s.setRing f r x).pending = s.pending := rfl
@[simp] theorem State.setRing_variant (f r : Nat) (x : Ring) : (s.setRing f r x).variant = s.variant := rfl
@[simp] theorem State.setRing_stepping (f r : Nat) (x : Ring) : (s.setRing f r x).stepping = s.stepping := rfl
@[simp] theorem State.setRing_regs (f r : Nat) (x : Ring) : (s.setRing f r x).regs = s.regs := rfl
@[simp] theorem State.setRing_shu (f r : Nat) (x : Ring) : (s.setRing f r x).shu = s.shu := rfl
@[simp] theorem State.setRing_beam (f r : Nat) (x : Ring) : (s.setRing f r x).beam = s.beam := rfl
@[simp] theorem State.setRing_tab (f r : Nat) (x : Ring) : (s.setRing f r x).tab = s.tab := rfl
@[simp] theorem State.setRing_cie (f r : Nat) (x : Ring) : (s.setRing f r x).cie = s.cie := rfl
@[simp] theorem State.setRing_sch (f r : Nat) (x : Ring) : (s.setRing f r x).sch = s.sch := rfl
@[simp] theorem State.setRing_wov (f r : Nat) (x : Ring) : (s.setRing f r x).wov = s.wov := rfl
@[simp] theorem State.setRing_weft (f r : Nat) (x : Ring) : (s.setRing f r x).weft = s.weft := rfl
@[simp] theorem State.setRing_msc (f r : Nat) (x : Ring) : (s.setRing f r x).msc = s.msc := rfl
@[simp] theorem State.setRing_kcu (f r : Nat) (x : Ring) : (s.setRing f r x).kcu = s.kcu := rfl
@[simp] theorem State.setRing_tmu (f r : Nat) (x : Ring) : (s.setRing f r x).tmu = s.tmu := rfl
@[simp] theorem State.setRing_bbx (f r : Nat) (x : Ring) : (s.setRing f r x).bbx = s.bbx := rfl
@[simp] theorem State.setRing_pmc (f r : Nat) (x : Ring) : (s.setRing f r x).pmc = s.pmc := rfl
@[simp] theorem State.setRing_evc (f r : Nat) (x : Ring) : (s.setRing f r x).evc = s.evc := rfl
@[simp] theorem State.setRing_tb (f r : Nat) (x : Ring) : (s.setRing f r x).tb = s.tb := rfl
@[simp] theorem State.setRing_pins (f r : Nat) (x : Ring) : (s.setRing f r x).pins = s.pins := rfl
@[simp] theorem State.setRing_out (f r : Nat) (x : Ring) : (s.setRing f r x).out = s.out := rfl
@[simp] theorem State.setRing_free (f r : Nat) (x : Ring) : (s.setRing f r x).free = s.free := rfl
@[simp] theorem State.setRing_hif_mode (f r : Nat) (x : Ring) : (s.setRing f r x).hif.mode = s.hif.mode := rfl
@[simp] theorem State.setRing_hif_cause (f r : Nat) (x : Ring) : (s.setRing f r x).hif.cause = s.hif.cause := rfl
@[simp] theorem State.setRing_hif_fnErr (f r : Nat) (x : Ring) : (s.setRing f r x).hif.fnErr = s.hif.fnErr := rfl
@[simp] theorem State.setRing_hif_pages (f r : Nat) (x : Ring) : (s.setRing f r x).hif.pages = s.hif.pages := rfl
@[simp] theorem State.setRing_hif_numVfs (f r : Nat) (x : Ring) : (s.setRing f r x).hif.numVfs = s.hif.numVfs := rfl
@[simp] theorem State.setRing_hif_unmasked (f r : Nat) (x : Ring) : (s.setRing f r x).hif.unmasked = s.hif.unmasked := rfl
@[simp] theorem State.setRing_hif_pending (f r : Nat) (x : Ring) : (s.setRing f r x).hif.pending = s.hif.pending := rfl
@[simp] theorem State.setRing_hif_held (f r : Nat) (x : Ring) : (s.setRing f r x).hif.held = s.hif.held := rfl
@[simp] theorem State.setRing_hif_latch (f r : Nat) (x : Ring) : (s.setRing f r x).hif.latch = s.hif.latch := rfl
@[simp] theorem State.setRing_hif_readData (f r : Nat) (x : Ring) : (s.setRing f r x).hif.readData = s.hif.readData := rfl

/-! ### setPage -/

@[simp] theorem State.setPage_pending (f : Nat) (x : KeyPage) : (s.setPage f x).pending = s.pending := rfl
@[simp] theorem State.setPage_variant (f : Nat) (x : KeyPage) : (s.setPage f x).variant = s.variant := rfl
@[simp] theorem State.setPage_stepping (f : Nat) (x : KeyPage) : (s.setPage f x).stepping = s.stepping := rfl
@[simp] theorem State.setPage_regs (f : Nat) (x : KeyPage) : (s.setPage f x).regs = s.regs := rfl
@[simp] theorem State.setPage_shu (f : Nat) (x : KeyPage) : (s.setPage f x).shu = s.shu := rfl
@[simp] theorem State.setPage_beam (f : Nat) (x : KeyPage) : (s.setPage f x).beam = s.beam := rfl
@[simp] theorem State.setPage_tab (f : Nat) (x : KeyPage) : (s.setPage f x).tab = s.tab := rfl
@[simp] theorem State.setPage_cie (f : Nat) (x : KeyPage) : (s.setPage f x).cie = s.cie := rfl
@[simp] theorem State.setPage_sch (f : Nat) (x : KeyPage) : (s.setPage f x).sch = s.sch := rfl
@[simp] theorem State.setPage_wov (f : Nat) (x : KeyPage) : (s.setPage f x).wov = s.wov := rfl
@[simp] theorem State.setPage_weft (f : Nat) (x : KeyPage) : (s.setPage f x).weft = s.weft := rfl
@[simp] theorem State.setPage_msc (f : Nat) (x : KeyPage) : (s.setPage f x).msc = s.msc := rfl
@[simp] theorem State.setPage_kcu (f : Nat) (x : KeyPage) : (s.setPage f x).kcu = s.kcu := rfl
@[simp] theorem State.setPage_tmu (f : Nat) (x : KeyPage) : (s.setPage f x).tmu = s.tmu := rfl
@[simp] theorem State.setPage_bbx (f : Nat) (x : KeyPage) : (s.setPage f x).bbx = s.bbx := rfl
@[simp] theorem State.setPage_pmc (f : Nat) (x : KeyPage) : (s.setPage f x).pmc = s.pmc := rfl
@[simp] theorem State.setPage_evc (f : Nat) (x : KeyPage) : (s.setPage f x).evc = s.evc := rfl
@[simp] theorem State.setPage_tb (f : Nat) (x : KeyPage) : (s.setPage f x).tb = s.tb := rfl
@[simp] theorem State.setPage_pins (f : Nat) (x : KeyPage) : (s.setPage f x).pins = s.pins := rfl
@[simp] theorem State.setPage_out (f : Nat) (x : KeyPage) : (s.setPage f x).out = s.out := rfl
@[simp] theorem State.setPage_free (f : Nat) (x : KeyPage) : (s.setPage f x).free = s.free := rfl
@[simp] theorem State.setPage_hif_mode (f : Nat) (x : KeyPage) : (s.setPage f x).hif.mode = s.hif.mode := rfl
@[simp] theorem State.setPage_hif_cause (f : Nat) (x : KeyPage) : (s.setPage f x).hif.cause = s.hif.cause := rfl
@[simp] theorem State.setPage_hif_fnErr (f : Nat) (x : KeyPage) : (s.setPage f x).hif.fnErr = s.hif.fnErr := rfl
@[simp] theorem State.setPage_hif_rings (f : Nat) (x : KeyPage) : (s.setPage f x).hif.rings = s.hif.rings := rfl
@[simp] theorem State.setPage_hif_numVfs (f : Nat) (x : KeyPage) : (s.setPage f x).hif.numVfs = s.hif.numVfs := rfl
@[simp] theorem State.setPage_hif_unmasked (f : Nat) (x : KeyPage) : (s.setPage f x).hif.unmasked = s.hif.unmasked := rfl
@[simp] theorem State.setPage_hif_pending (f : Nat) (x : KeyPage) : (s.setPage f x).hif.pending = s.hif.pending := rfl
@[simp] theorem State.setPage_hif_held (f : Nat) (x : KeyPage) : (s.setPage f x).hif.held = s.hif.held := rfl
@[simp] theorem State.setPage_hif_latch (f : Nat) (x : KeyPage) : (s.setPage f x).hif.latch = s.hif.latch := rfl
@[simp] theorem State.setPage_hif_readData (f : Nat) (x : KeyPage) : (s.setPage f x).hif.readData = s.hif.readData := rfl

/-! ### setBks -/

@[simp] theorem State.setBks_pending (i : Nat) (x : Bks) : (s.setBks i x).pending = s.pending := rfl
@[simp] theorem State.setBks_variant (i : Nat) (x : Bks) : (s.setBks i x).variant = s.variant := rfl
@[simp] theorem State.setBks_stepping (i : Nat) (x : Bks) : (s.setBks i x).stepping = s.stepping := rfl
@[simp] theorem State.setBks_regs (i : Nat) (x : Bks) : (s.setBks i x).regs = s.regs := rfl
@[simp] theorem State.setBks_shu (i : Nat) (x : Bks) : (s.setBks i x).shu = s.shu := rfl
@[simp] theorem State.setBks_beam (i : Nat) (x : Bks) : (s.setBks i x).beam = s.beam := rfl
@[simp] theorem State.setBks_tab (i : Nat) (x : Bks) : (s.setBks i x).tab = s.tab := rfl
@[simp] theorem State.setBks_cie (i : Nat) (x : Bks) : (s.setBks i x).cie = s.cie := rfl
@[simp] theorem State.setBks_sch (i : Nat) (x : Bks) : (s.setBks i x).sch = s.sch := rfl
@[simp] theorem State.setBks_wov (i : Nat) (x : Bks) : (s.setBks i x).wov = s.wov := rfl
@[simp] theorem State.setBks_weft (i : Nat) (x : Bks) : (s.setBks i x).weft = s.weft := rfl
@[simp] theorem State.setBks_msc (i : Nat) (x : Bks) : (s.setBks i x).msc = s.msc := rfl
@[simp] theorem State.setBks_hif (i : Nat) (x : Bks) : (s.setBks i x).hif = s.hif := rfl
@[simp] theorem State.setBks_tmu (i : Nat) (x : Bks) : (s.setBks i x).tmu = s.tmu := rfl
@[simp] theorem State.setBks_bbx (i : Nat) (x : Bks) : (s.setBks i x).bbx = s.bbx := rfl
@[simp] theorem State.setBks_pmc (i : Nat) (x : Bks) : (s.setBks i x).pmc = s.pmc := rfl
@[simp] theorem State.setBks_evc (i : Nat) (x : Bks) : (s.setBks i x).evc = s.evc := rfl
@[simp] theorem State.setBks_tb (i : Nat) (x : Bks) : (s.setBks i x).tb = s.tb := rfl
@[simp] theorem State.setBks_pins (i : Nat) (x : Bks) : (s.setBks i x).pins = s.pins := rfl
@[simp] theorem State.setBks_out (i : Nat) (x : Bks) : (s.setBks i x).out = s.out := rfl
@[simp] theorem State.setBks_free (i : Nat) (x : Bks) : (s.setBks i x).free = s.free := rfl
@[simp] theorem State.setBks_kcu_st (i : Nat) (x : Bks) : (s.setBks i x).kcu.st = s.kcu.st := rfl
@[simp] theorem State.setBks_kcu_starting (i : Nat) (x : Bks) : (s.setBks i x).kcu.starting = s.kcu.starting := rfl
@[simp] theorem State.setBks_kcu_drbg (i : Nat) (x : Bks) : (s.setBks i x).kcu.drbg = s.kcu.drbg := rfl
@[simp] theorem State.setBks_kcu_requests (i : Nat) (x : Bks) : (s.setBks i x).kcu.requests = s.kcu.requests := rfl
@[simp] theorem State.setBks_kcu_testedAt (i : Nat) (x : Bks) : (s.setBks i x).kcu.testedAt = s.kcu.testedAt := rfl
@[simp] theorem State.setBks_kcu_draws (i : Nat) (x : Bks) : (s.setBks i x).kcu.draws = s.kcu.draws := rfl
@[simp] theorem State.setBks_kcu_bksLost (i : Nat) (x : Bks) : (s.setBks i x).kcu.bksLost = s.kcu.bksLost := rfl
@[simp] theorem State.setBks_kcu_bksGone (i : Nat) (x : Bks) : (s.setBks i x).kcu.bksGone = s.kcu.bksGone := rfl
@[simp] theorem State.setBks_kcu_root (i : Nat) (x : Bks) : (s.setBks i x).kcu.root = s.kcu.root := rfl
@[simp] theorem State.setBks_kcu_cascade (i : Nat) (x : Bks) : (s.setBks i x).kcu.cascade = s.kcu.cascade := rfl
@[simp] theorem State.setBks_kcu_challenge (i : Nat) (x : Bks) : (s.setBks i x).kcu.challenge = s.kcu.challenge := rfl
@[simp] theorem State.setBks_kcu_fails (i : Nat) (x : Bks) : (s.setBks i x).kcu.fails = s.kcu.fails := rfl
@[simp] theorem State.setBks_kcu_otp (i : Nat) (x : Bks) : (s.setBks i x).kcu.otp = s.kcu.otp := rfl
@[simp] theorem State.setBks_kcu_damaged (i : Nat) (x : Bks) : (s.setBks i x).kcu.damaged = s.kcu.damaged := rfl
@[simp] theorem State.setBks_kcu_stage (i : Nat) (x : Bks) : (s.setBks i x).kcu.stage = s.kcu.stage := rfl
@[simp] theorem State.setBks_kcu_lc (i : Nat) (x : Bks) : (s.setBks i x).kcu.lc = s.kcu.lc := rfl
@[simp] theorem State.setBks_kcu_interrupted (i : Nat) (x : Bks) : (s.setBks i x).kcu.interrupted = s.kcu.interrupted := rfl
@[simp] theorem State.setBks_kcu_target (i : Nat) (x : Bks) : (s.setBks i x).kcu.target = s.kcu.target := rfl
@[simp] theorem State.setBks_kcu_lcDamaged (i : Nat) (x : Bks) : (s.setBks i x).kcu.lcDamaged = s.kcu.lcDamaged := rfl
@[simp] theorem State.setBks_kcu_test (i : Nat) (x : Bks) : (s.setBks i x).kcu.test = s.kcu.test := rfl
@[simp] theorem State.setBks_kcu_scope (i : Nat) (x : Bks) : (s.setBks i x).kcu.scope = s.kcu.scope := rfl

/-! ### setTsrc -/

@[simp] theorem State.setTsrc_pending (i : Nat) (x : TSrc) : (s.setTsrc i x).pending = s.pending := rfl
@[simp] theorem State.setTsrc_variant (i : Nat) (x : TSrc) : (s.setTsrc i x).variant = s.variant := rfl
@[simp] theorem State.setTsrc_stepping (i : Nat) (x : TSrc) : (s.setTsrc i x).stepping = s.stepping := rfl
@[simp] theorem State.setTsrc_regs (i : Nat) (x : TSrc) : (s.setTsrc i x).regs = s.regs := rfl
@[simp] theorem State.setTsrc_shu (i : Nat) (x : TSrc) : (s.setTsrc i x).shu = s.shu := rfl
@[simp] theorem State.setTsrc_beam (i : Nat) (x : TSrc) : (s.setTsrc i x).beam = s.beam := rfl
@[simp] theorem State.setTsrc_tab (i : Nat) (x : TSrc) : (s.setTsrc i x).tab = s.tab := rfl
@[simp] theorem State.setTsrc_cie (i : Nat) (x : TSrc) : (s.setTsrc i x).cie = s.cie := rfl
@[simp] theorem State.setTsrc_sch (i : Nat) (x : TSrc) : (s.setTsrc i x).sch = s.sch := rfl
@[simp] theorem State.setTsrc_wov (i : Nat) (x : TSrc) : (s.setTsrc i x).wov = s.wov := rfl
@[simp] theorem State.setTsrc_weft (i : Nat) (x : TSrc) : (s.setTsrc i x).weft = s.weft := rfl
@[simp] theorem State.setTsrc_msc (i : Nat) (x : TSrc) : (s.setTsrc i x).msc = s.msc := rfl
@[simp] theorem State.setTsrc_hif (i : Nat) (x : TSrc) : (s.setTsrc i x).hif = s.hif := rfl
@[simp] theorem State.setTsrc_kcu (i : Nat) (x : TSrc) : (s.setTsrc i x).kcu = s.kcu := rfl
@[simp] theorem State.setTsrc_bbx (i : Nat) (x : TSrc) : (s.setTsrc i x).bbx = s.bbx := rfl
@[simp] theorem State.setTsrc_pmc (i : Nat) (x : TSrc) : (s.setTsrc i x).pmc = s.pmc := rfl
@[simp] theorem State.setTsrc_evc (i : Nat) (x : TSrc) : (s.setTsrc i x).evc = s.evc := rfl
@[simp] theorem State.setTsrc_tb (i : Nat) (x : TSrc) : (s.setTsrc i x).tb = s.tb := rfl
@[simp] theorem State.setTsrc_pins (i : Nat) (x : TSrc) : (s.setTsrc i x).pins = s.pins := rfl
@[simp] theorem State.setTsrc_out (i : Nat) (x : TSrc) : (s.setTsrc i x).out = s.out := rfl
@[simp] theorem State.setTsrc_free (i : Nat) (x : TSrc) : (s.setTsrc i x).free = s.free := rfl
@[simp] theorem State.setTsrc_tmu_batt (i : Nat) (x : TSrc) : (s.setTsrc i x).tmu.batt = s.tmu.batt := rfl
@[simp] theorem State.setTsrc_tmu_fired (i : Nat) (x : TSrc) : (s.setTsrc i x).tmu.fired = s.tmu.fired := rfl
@[simp] theorem State.setTsrc_tmu_bank (i : Nat) (x : TSrc) : (s.setTsrc i x).tmu.bank = s.tmu.bank := rfl
@[simp] theorem State.setTsrc_tmu_fuses (i : Nat) (x : TSrc) : (s.setTsrc i x).tmu.fuses = s.tmu.fuses := rfl
@[simp] theorem State.setTsrc_tmu_burning (i : Nat) (x : TSrc) : (s.setTsrc i x).tmu.burning = s.tmu.burning := rfl
@[simp] theorem State.setTsrc_tmu_decidedAt (i : Nat) (x : TSrc) : (s.setTsrc i x).tmu.decidedAt = s.tmu.decidedAt := rfl
@[simp] theorem State.setTsrc_tmu_tapClosed (i : Nat) (x : TSrc) : (s.setTsrc i x).tmu.tapClosed = s.tmu.tapClosed := rfl
@[simp] theorem State.setTsrc_tmu_running (i : Nat) (x : TSrc) : (s.setTsrc i x).tmu.running = s.tmu.running := rfl
@[simp] theorem State.setTsrc_tmu_quiesceRuns (i : Nat) (x : TSrc) : (s.setTsrc i x).tmu.quiesceRuns = s.tmu.quiesceRuns := rfl
@[simp] theorem State.setTsrc_tmu_last (i : Nat) (x : TSrc) : (s.setTsrc i x).tmu.last = s.tmu.last := rfl
@[simp] theorem State.setTsrc_tmu_alarmN (i : Nat) (x : TSrc) : (s.setTsrc i x).tmu.alarmN = s.tmu.alarmN := rfl
@[simp] theorem State.setTsrc_tmu_battErase (i : Nat) (x : TSrc) : (s.setTsrc i x).tmu.battErase = s.tmu.battErase := rfl
@[simp] theorem State.setTsrc_tmu_latchOvf (i : Nat) (x : TSrc) : (s.setTsrc i x).tmu.latchOvf = s.tmu.latchOvf := rfl
@[simp] theorem State.setTsrc_tmu_latch (i : Nat) (x : TSrc) : (s.setTsrc i x).tmu.latch = s.tmu.latch := rfl
@[simp] theorem State.setTsrc_tmu_ovf (i : Nat) (x : TSrc) : (s.setTsrc i x).tmu.ovf = s.tmu.ovf := rfl
@[simp] theorem State.setTsrc_tmu_resp (i : Nat) (x : TSrc) : (s.setTsrc i x).tmu.resp = s.tmu.resp := rfl
@[simp] theorem State.setTsrc_tmu_ticks (i : Nat) (x : TSrc) : (s.setTsrc i x).tmu.ticks = s.tmu.ticks := rfl
@[simp] theorem State.setTsrc_tmu_battAlarm (i : Nat) (x : TSrc) : (s.setTsrc i x).tmu.battAlarm = s.tmu.battAlarm := rfl
@[simp] theorem State.setTsrc_tmu_measured (i : Nat) (x : TSrc) : (s.setTsrc i x).tmu.measured = s.tmu.measured := rfl
@[simp] theorem State.setTsrc_tmu_ohms (i : Nat) (x : TSrc) : (s.setTsrc i x).tmu.ohms = s.tmu.ohms := rfl
@[simp] theorem State.setTsrc_tmu_drifting (i : Nat) (x : TSrc) : (s.setTsrc i x).tmu.drifting = s.tmu.drifting := rfl
@[simp] theorem State.setTsrc_tmu_drift (i : Nat) (x : TSrc) : (s.setTsrc i x).tmu.drift = s.tmu.drift := rfl
@[simp] theorem State.setTsrc_tmu_vbat (i : Nat) (x : TSrc) : (s.setTsrc i x).tmu.vbat = s.tmu.vbat := rfl
@[simp] theorem State.setTsrc_tmu_temp (i : Nat) (x : TSrc) : (s.setTsrc i x).tmu.temp = s.tmu.temp := rfl
@[simp] theorem State.setTsrc_tmu_sampling (i : Nat) (x : TSrc) : (s.setTsrc i x).tmu.sampling = s.tmu.sampling := rfl
@[simp] theorem State.setTsrc_tmu_erasing (i : Nat) (x : TSrc) : (s.setTsrc i x).tmu.erasing = s.tmu.erasing := rfl
@[simp] theorem State.setTsrc_tmu_quiesced (i : Nat) (x : TSrc) : (s.setTsrc i x).tmu.quiesced = s.tmu.quiesced := rfl

/-! ### setReg -/

@[simp] theorem State.setReg_pending (id : RegId) (i j : Nat) (w : Word) : (s.setReg id i j w).pending = s.pending := rfl
@[simp] theorem State.setReg_variant (id : RegId) (i j : Nat) (w : Word) : (s.setReg id i j w).variant = s.variant := rfl
@[simp] theorem State.setReg_stepping (id : RegId) (i j : Nat) (w : Word) : (s.setReg id i j w).stepping = s.stepping := rfl
@[simp] theorem State.setReg_shu (id : RegId) (i j : Nat) (w : Word) : (s.setReg id i j w).shu = s.shu := rfl
@[simp] theorem State.setReg_beam (id : RegId) (i j : Nat) (w : Word) : (s.setReg id i j w).beam = s.beam := rfl
@[simp] theorem State.setReg_tab (id : RegId) (i j : Nat) (w : Word) : (s.setReg id i j w).tab = s.tab := rfl
@[simp] theorem State.setReg_cie (id : RegId) (i j : Nat) (w : Word) : (s.setReg id i j w).cie = s.cie := rfl
@[simp] theorem State.setReg_sch (id : RegId) (i j : Nat) (w : Word) : (s.setReg id i j w).sch = s.sch := rfl
@[simp] theorem State.setReg_wov (id : RegId) (i j : Nat) (w : Word) : (s.setReg id i j w).wov = s.wov := rfl
@[simp] theorem State.setReg_weft (id : RegId) (i j : Nat) (w : Word) : (s.setReg id i j w).weft = s.weft := rfl
@[simp] theorem State.setReg_msc (id : RegId) (i j : Nat) (w : Word) : (s.setReg id i j w).msc = s.msc := rfl
@[simp] theorem State.setReg_hif (id : RegId) (i j : Nat) (w : Word) : (s.setReg id i j w).hif = s.hif := rfl
@[simp] theorem State.setReg_kcu (id : RegId) (i j : Nat) (w : Word) : (s.setReg id i j w).kcu = s.kcu := rfl
@[simp] theorem State.setReg_tmu (id : RegId) (i j : Nat) (w : Word) : (s.setReg id i j w).tmu = s.tmu := rfl
@[simp] theorem State.setReg_bbx (id : RegId) (i j : Nat) (w : Word) : (s.setReg id i j w).bbx = s.bbx := rfl
@[simp] theorem State.setReg_pmc (id : RegId) (i j : Nat) (w : Word) : (s.setReg id i j w).pmc = s.pmc := rfl
@[simp] theorem State.setReg_evc (id : RegId) (i j : Nat) (w : Word) : (s.setReg id i j w).evc = s.evc := rfl
@[simp] theorem State.setReg_tb (id : RegId) (i j : Nat) (w : Word) : (s.setReg id i j w).tb = s.tb := rfl
@[simp] theorem State.setReg_pins (id : RegId) (i j : Nat) (w : Word) : (s.setReg id i j w).pins = s.pins := rfl
@[simp] theorem State.setReg_out (id : RegId) (i j : Nat) (w : Word) : (s.setReg id i j w).out = s.out := rfl
@[simp] theorem State.setReg_free (id : RegId) (i j : Nat) (w : Word) : (s.setReg id i j w).free = s.free := rfl

/-! ### setRegBit -/

@[simp] theorem State.setRegBit_pending (id : RegId) (n : Nat) : (s.setRegBit id n).pending = s.pending := rfl
@[simp] theorem State.setRegBit_variant (id : RegId) (n : Nat) : (s.setRegBit id n).variant = s.variant := rfl
@[simp] theorem State.setRegBit_stepping (id : RegId) (n : Nat) : (s.setRegBit id n).stepping = s.stepping := rfl
@[simp] theorem State.setRegBit_shu (id : RegId) (n : Nat) : (s.setRegBit id n).shu = s.shu := rfl
@[simp] theorem State.setRegBit_beam (id : RegId) (n : Nat) : (s.setRegBit id n).beam = s.beam := rfl
@[simp] theorem State.setRegBit_tab (id : RegId) (n : Nat) : (s.setRegBit id n).tab = s.tab := rfl
@[simp] theorem State.setRegBit_cie (id : RegId) (n : Nat) : (s.setRegBit id n).cie = s.cie := rfl
@[simp] theorem State.setRegBit_sch (id : RegId) (n : Nat) : (s.setRegBit id n).sch = s.sch := rfl
@[simp] theorem State.setRegBit_wov (id : RegId) (n : Nat) : (s.setRegBit id n).wov = s.wov := rfl
@[simp] theorem State.setRegBit_weft (id : RegId) (n : Nat) : (s.setRegBit id n).weft = s.weft := rfl
@[simp] theorem State.setRegBit_msc (id : RegId) (n : Nat) : (s.setRegBit id n).msc = s.msc := rfl
@[simp] theorem State.setRegBit_hif (id : RegId) (n : Nat) : (s.setRegBit id n).hif = s.hif := rfl
@[simp] theorem State.setRegBit_kcu (id : RegId) (n : Nat) : (s.setRegBit id n).kcu = s.kcu := rfl
@[simp] theorem State.setRegBit_tmu (id : RegId) (n : Nat) : (s.setRegBit id n).tmu = s.tmu := rfl
@[simp] theorem State.setRegBit_bbx (id : RegId) (n : Nat) : (s.setRegBit id n).bbx = s.bbx := rfl
@[simp] theorem State.setRegBit_pmc (id : RegId) (n : Nat) : (s.setRegBit id n).pmc = s.pmc := rfl
@[simp] theorem State.setRegBit_evc (id : RegId) (n : Nat) : (s.setRegBit id n).evc = s.evc := rfl
@[simp] theorem State.setRegBit_tb (id : RegId) (n : Nat) : (s.setRegBit id n).tb = s.tb := rfl
@[simp] theorem State.setRegBit_pins (id : RegId) (n : Nat) : (s.setRegBit id n).pins = s.pins := rfl
@[simp] theorem State.setRegBit_out (id : RegId) (n : Nat) : (s.setRegBit id n).out = s.out := rfl
@[simp] theorem State.setRegBit_free (id : RegId) (n : Nat) : (s.setRegBit id n).free = s.free := rfl

/-! ### emit -/

@[simp] theorem State.emit_pending (o : Out) : (s.emit o).pending = s.pending := rfl
@[simp] theorem State.emit_variant (o : Out) : (s.emit o).variant = s.variant := rfl
@[simp] theorem State.emit_stepping (o : Out) : (s.emit o).stepping = s.stepping := rfl
@[simp] theorem State.emit_regs (o : Out) : (s.emit o).regs = s.regs := rfl
@[simp] theorem State.emit_shu (o : Out) : (s.emit o).shu = s.shu := rfl
@[simp] theorem State.emit_beam (o : Out) : (s.emit o).beam = s.beam := rfl
@[simp] theorem State.emit_tab (o : Out) : (s.emit o).tab = s.tab := rfl
@[simp] theorem State.emit_cie (o : Out) : (s.emit o).cie = s.cie := rfl
@[simp] theorem State.emit_sch (o : Out) : (s.emit o).sch = s.sch := rfl
@[simp] theorem State.emit_wov (o : Out) : (s.emit o).wov = s.wov := rfl
@[simp] theorem State.emit_weft (o : Out) : (s.emit o).weft = s.weft := rfl
@[simp] theorem State.emit_msc (o : Out) : (s.emit o).msc = s.msc := rfl
@[simp] theorem State.emit_hif (o : Out) : (s.emit o).hif = s.hif := rfl
@[simp] theorem State.emit_kcu (o : Out) : (s.emit o).kcu = s.kcu := rfl
@[simp] theorem State.emit_tmu (o : Out) : (s.emit o).tmu = s.tmu := rfl
@[simp] theorem State.emit_bbx (o : Out) : (s.emit o).bbx = s.bbx := rfl
@[simp] theorem State.emit_pmc (o : Out) : (s.emit o).pmc = s.pmc := rfl
@[simp] theorem State.emit_evc (o : Out) : (s.emit o).evc = s.evc := rfl
@[simp] theorem State.emit_tb (o : Out) : (s.emit o).tb = s.tb := rfl
@[simp] theorem State.emit_pins (o : Out) : (s.emit o).pins = s.pins := rfl
@[simp] theorem State.emit_free (o : Out) : (s.emit o).free = s.free := rfl

/-! ### touchDom -/

@[simp] theorem State.touchDom_pending (d : Nat) : (s.touchDom d).pending = s.pending := rfl
@[simp] theorem State.touchDom_variant (d : Nat) : (s.touchDom d).variant = s.variant := rfl
@[simp] theorem State.touchDom_stepping (d : Nat) : (s.touchDom d).stepping = s.stepping := rfl
@[simp] theorem State.touchDom_regs (d : Nat) : (s.touchDom d).regs = s.regs := rfl
@[simp] theorem State.touchDom_shu (d : Nat) : (s.touchDom d).shu = s.shu := rfl
@[simp] theorem State.touchDom_beam (d : Nat) : (s.touchDom d).beam = s.beam := rfl
@[simp] theorem State.touchDom_tab (d : Nat) : (s.touchDom d).tab = s.tab := rfl
@[simp] theorem State.touchDom_cie (d : Nat) : (s.touchDom d).cie = s.cie := rfl
@[simp] theorem State.touchDom_sch (d : Nat) : (s.touchDom d).sch = s.sch := rfl
@[simp] theorem State.touchDom_wov (d : Nat) : (s.touchDom d).wov = s.wov := rfl
@[simp] theorem State.touchDom_weft (d : Nat) : (s.touchDom d).weft = s.weft := rfl
@[simp] theorem State.touchDom_msc (d : Nat) : (s.touchDom d).msc = s.msc := rfl
@[simp] theorem State.touchDom_hif (d : Nat) : (s.touchDom d).hif = s.hif := rfl
@[simp] theorem State.touchDom_kcu (d : Nat) : (s.touchDom d).kcu = s.kcu := rfl
@[simp] theorem State.touchDom_tmu (d : Nat) : (s.touchDom d).tmu = s.tmu := rfl
@[simp] theorem State.touchDom_bbx (d : Nat) : (s.touchDom d).bbx = s.bbx := rfl
@[simp] theorem State.touchDom_evc (d : Nat) : (s.touchDom d).evc = s.evc := rfl
@[simp] theorem State.touchDom_tb (d : Nat) : (s.touchDom d).tb = s.tb := rfl
@[simp] theorem State.touchDom_pins (d : Nat) : (s.touchDom d).pins = s.pins := rfl
@[simp] theorem State.touchDom_out (d : Nat) : (s.touchDom d).out = s.out := rfl
@[simp] theorem State.touchDom_free (d : Nat) : (s.touchDom d).free = s.free := rfl
@[simp] theorem State.touchDom_pmc_tols (d : Nat) : (s.touchDom d).pmc.tols = s.pmc.tols := rfl
@[simp] theorem State.touchDom_pmc_level (d : Nat) : (s.touchDom d).pmc.level = s.pmc.level := rfl
@[simp] theorem State.touchDom_pmc_refilled (d : Nat) : (s.touchDom d).pmc.refilled = s.pmc.refilled := rfl
@[simp] theorem State.touchDom_pmc_wakes (d : Nat) : (s.touchDom d).pmc.wakes = s.pmc.wakes := rfl
@[simp] theorem State.touchDom_pmc_decided (d : Nat) : (s.touchDom d).pmc.decided = s.pmc.decided := rfl
@[simp] theorem State.touchDom_pmc_standby (d : Nat) : (s.touchDom d).pmc.standby = s.pmc.standby := rfl
@[simp] theorem State.touchDom_pmc_cluLow (d : Nat) : (s.touchDom d).pmc.cluLow = s.pmc.cluLow := rfl
@[simp] theorem State.touchDom_pmc_cieLow (d : Nat) : (s.touchDom d).pmc.cieLow = s.pmc.cieLow := rfl
@[simp] theorem State.touchDom_pmc_pfw (d : Nat) : (s.touchDom d).pmc.pfw = s.pmc.pfw := rfl
@[simp] theorem State.touchDom_pmc_pfwSeen (d : Nat) : (s.touchDom d).pmc.pfwSeen = s.pmc.pfwSeen := rfl
@[simp] theorem State.touchDom_pmc_pfwCount (d : Nat) : (s.touchDom d).pmc.pfwCount = s.pmc.pfwCount := rfl

/-! ### What is read after a write -/

@[simp] theorem State.bob_setBob (i : Nat) (x : Bobbin) : (s.setBob i x).bob i = x := tget_tset_same _ _ _ _
theorem State.bob_setBob_other {i j : Nat} (x : Bobbin) (h : j ≠ i) : (s.setBob i x).bob j = s.bob j := tget_tset_other _ _ _ _ h
@[simp] theorem State.clu_setClu (i : Nat) (x : Cluster) : (s.setClu i x).clu i = x := tget_tset_same _ _ _ _
theorem State.clu_setClu_other {i j : Nat} (x : Cluster) (h : j ≠ i) : (s.setClu i x).clu j = s.clu j := tget_tset_other _ _ _ _ h
@[simp] theorem State.assoc_setAssoc (i : Nat) (x : AtEntry) : (s.setAssoc i x).assoc i = x := tget_tset_same _ _ _ _
theorem State.assoc_setAssoc_other {i j : Nat} (x : AtEntry) (h : j ≠ i) : (s.setAssoc i x).assoc j = s.assoc j := tget_tset_other _ _ _ _ h
@[simp] theorem State.engine_setEngine (i : Nat) (x : Engine) : (s.setEngine i x).engine i = x := tget_tset_same _ _ _ _
theorem State.engine_setEngine_other {i j : Nat} (x : Engine) (h : j ≠ i) : (s.setEngine i x).engine j = s.engine j := tget_tset_other _ _ _ _ h
@[simp] theorem State.pair_setPair (i : Nat) (x : Pair) : (s.setPair i x).pair i = x := tget_tset_same _ _ _ _
theorem State.pair_setPair_other {i j : Nat} (x : Pair) (h : j ≠ i) : (s.setPair i x).pair j = s.pair j := tget_tset_other _ _ _ _ h
@[simp] theorem State.queue_setQueue (i : Nat) (x : Queue) : (s.setQueue i x).queue i = x := tget_tset_same _ _ _ _
theorem State.queue_setQueue_other {i j : Nat} (x : Queue) (h : j ≠ i) : (s.setQueue i x).queue j = s.queue j := tget_tset_other _ _ _ _ h
@[simp] theorem State.port_setPort (i : Nat) (x : Port) : (s.setPort i x).port i = x := tget_tset_same _ _ _ _
theorem State.port_setPort_other {i j : Nat} (x : Port) (h : j ≠ i) : (s.setPort i x).port j = s.port j := tget_tset_other _ _ _ _ h
@[simp] theorem State.group_setGroup (i : Nat) (x : Group) : (s.setGroup i x).group i = x := tget_tset_same _ _ _ _
theorem State.group_setGroup_other {i j : Nat} (x : Group) (h : j ≠ i) : (s.setGroup i x).group j = s.group j := tget_tset_other _ _ _ _ h
@[simp] theorem State.lane_setLane (i : Nat) (x : Lane) : (s.setLane i x).lane i = x := tget_tset_same _ _ _ _
theorem State.lane_setLane_other {i j : Nat} (x : Lane) (h : j ≠ i) : (s.setLane i x).lane j = s.lane j := tget_tset_other _ _ _ _ h
@[simp] theorem State.wport_setWport (i : Nat) (x : Weft) : (s.setWport i x).wport i = x := tget_tset_same _ _ _ _
theorem State.wport_setWport_other {i j : Nat} (x : Weft) (h : j ≠ i) : (s.setWport i x).wport j = s.wport j := tget_tset_other _ _ _ _ h
@[simp] theorem State.dom_setDom (i : Nat) (x : Dom) : (s.setDom i x).dom i = x := tget_tset_same _ _ _ _
theorem State.dom_setDom_other {i j : Nat} (x : Dom) (h : j ≠ i) : (s.setDom i x).dom j = s.dom j := tget_tset_other _ _ _ _ h
@[simp] theorem State.page_setPage (i : Nat) (x : KeyPage) : (s.setPage i x).page i = x := tget_tset_same _ _ _ _
theorem State.page_setPage_other {i j : Nat} (x : KeyPage) (h : j ≠ i) : (s.setPage i x).page j = s.page j := tget_tset_other _ _ _ _ h
@[simp] theorem State.bks_setBks (i : Nat) (x : Bks) : (s.setBks i x).bks i = x := tget_tset_same _ _ _ _
theorem State.bks_setBks_other {i j : Nat} (x : Bks) (h : j ≠ i) : (s.setBks i x).bks j = s.bks j := tget_tset_other _ _ _ _ h
@[simp] theorem State.tsrc_setTsrc (i : Nat) (x : TSrc) : (s.setTsrc i x).tsrc i = x := tget_tset_same _ _ _ _
theorem State.tsrc_setTsrc_other {i j : Nat} (x : TSrc) (h : j ≠ i) : (s.setTsrc i x).tsrc j = s.tsrc j := tget_tset_other _ _ _ _ h

@[simp] theorem State.pick_setPick (p : Nat) (x : Pick) : (s.setPick p x).pick p = some x := tfind_tput_same _ _ _
theorem State.pick_setPick_other {p q : Nat} (x : Pick) (h : q ≠ p) : (s.setPick p x).pick q = s.pick q :=
  tfind_tput_other _ _ h
@[simp] theorem State.pick_delPick (p : Nat) : (s.delPick p).pick p = none := tfind_tdel_same _ _
theorem State.pick_delPick_other {p q : Nat} (h : q ≠ p) : (s.delPick p).pick q = s.pick q := tfind_tdel_other _ h
@[simp] theorem State.ring_setRing (f r : Nat) (x : Ring) : (s.setRing f r x).ring f r = x := tget_tset_same _ _ _ _
theorem State.ring_setRing_other {f r f' r' : Nat} (x : Ring) (h : 8 * f' + r' ≠ 8 * f + r) :
    (s.setRing f r x).ring f' r' = s.ring f' r' := tget_tset_other _ _ _ _ h
@[simp] theorem State.reg_setReg (id : RegId) (i j : Nat) (w : Word) : (s.setReg id i j w).reg id i j = w :=
  tget_tset_same _ _ _ _
theorem State.reg_setReg_other {id id' : RegId} {i j i' j' : Nat} (w : Word)
    (h : id'.offset i' j' ≠ id.offset i j) : (s.setReg id i j w).reg id' i' j' = s.reg id' i' j' :=
  tget_tset_other _ _ _ _ h

/-! ### Accessors that an update leaves as they were -/

@[simp] theorem State.clu_setBob (b : Nat) (x : Bobbin) (k : Nat) : (s.setBob b x).clu k = s.clu k := rfl
@[simp] theorem State.pick_setBob (b : Nat) (x : Bobbin) (k : Nat) : (s.setBob b x).pick k = s.pick k := rfl
@[simp] theorem State.assoc_setBob (b : Nat) (x : Bobbin) (k : Nat) : (s.setBob b x).assoc k = s.assoc k := rfl
@[simp] theorem State.engine_setBob (b : Nat) (x : Bobbin) (k : Nat) : (s.setBob b x).engine k = s.engine k := rfl
@[simp] theorem State.pair_setBob (b : Nat) (x : Bobbin) (k : Nat) : (s.setBob b x).pair k = s.pair k := rfl
@[simp] theorem State.queue_setBob (b : Nat) (x : Bobbin) (k : Nat) : (s.setBob b x).queue k = s.queue k := rfl
@[simp] theorem State.port_setBob (b : Nat) (x : Bobbin) (k : Nat) : (s.setBob b x).port k = s.port k := rfl
@[simp] theorem State.group_setBob (b : Nat) (x : Bobbin) (k : Nat) : (s.setBob b x).group k = s.group k := rfl
@[simp] theorem State.lane_setBob (b : Nat) (x : Bobbin) (k : Nat) : (s.setBob b x).lane k = s.lane k := rfl
@[simp] theorem State.wport_setBob (b : Nat) (x : Bobbin) (k : Nat) : (s.setBob b x).wport k = s.wport k := rfl
@[simp] theorem State.dom_setBob (b : Nat) (x : Bobbin) (k : Nat) : (s.setBob b x).dom k = s.dom k := rfl
@[simp] theorem State.page_setBob (b : Nat) (x : Bobbin) (k : Nat) : (s.setBob b x).page k = s.page k := rfl
@[simp] theorem State.bks_setBob (b : Nat) (x : Bobbin) (k : Nat) : (s.setBob b x).bks k = s.bks k := rfl
@[simp] theorem State.tsrc_setBob (b : Nat) (x : Bobbin) (k : Nat) : (s.setBob b x).tsrc k = s.tsrc k := rfl
@[simp] theorem State.ring_setBob (b : Nat) (x : Bobbin) (k m : Nat) : (s.setBob b x).ring k m = s.ring k m := rfl
@[simp] theorem State.reg_setBob (b : Nat) (x : Bobbin) (k : RegId) (m n : Nat) : (s.setBob b x).reg k m n = s.reg k m n := rfl
@[simp] theorem State.bob_setClu (c : Nat) (x : Cluster) (k : Nat) : (s.setClu c x).bob k = s.bob k := rfl
@[simp] theorem State.pick_setClu (c : Nat) (x : Cluster) (k : Nat) : (s.setClu c x).pick k = s.pick k := rfl
@[simp] theorem State.assoc_setClu (c : Nat) (x : Cluster) (k : Nat) : (s.setClu c x).assoc k = s.assoc k := rfl
@[simp] theorem State.engine_setClu (c : Nat) (x : Cluster) (k : Nat) : (s.setClu c x).engine k = s.engine k := rfl
@[simp] theorem State.pair_setClu (c : Nat) (x : Cluster) (k : Nat) : (s.setClu c x).pair k = s.pair k := rfl
@[simp] theorem State.queue_setClu (c : Nat) (x : Cluster) (k : Nat) : (s.setClu c x).queue k = s.queue k := rfl
@[simp] theorem State.port_setClu (c : Nat) (x : Cluster) (k : Nat) : (s.setClu c x).port k = s.port k := rfl
@[simp] theorem State.group_setClu (c : Nat) (x : Cluster) (k : Nat) : (s.setClu c x).group k = s.group k := rfl
@[simp] theorem State.lane_setClu (c : Nat) (x : Cluster) (k : Nat) : (s.setClu c x).lane k = s.lane k := rfl
@[simp] theorem State.wport_setClu (c : Nat) (x : Cluster) (k : Nat) : (s.setClu c x).wport k = s.wport k := rfl
@[simp] theorem State.dom_setClu (c : Nat) (x : Cluster) (k : Nat) : (s.setClu c x).dom k = s.dom k := rfl
@[simp] theorem State.page_setClu (c : Nat) (x : Cluster) (k : Nat) : (s.setClu c x).page k = s.page k := rfl
@[simp] theorem State.bks_setClu (c : Nat) (x : Cluster) (k : Nat) : (s.setClu c x).bks k = s.bks k := rfl
@[simp] theorem State.tsrc_setClu (c : Nat) (x : Cluster) (k : Nat) : (s.setClu c x).tsrc k = s.tsrc k := rfl
@[simp] theorem State.ring_setClu (c : Nat) (x : Cluster) (k m : Nat) : (s.setClu c x).ring k m = s.ring k m := rfl
@[simp] theorem State.reg_setClu (c : Nat) (x : Cluster) (k : RegId) (m n : Nat) : (s.setClu c x).reg k m n = s.reg k m n := rfl
@[simp] theorem State.bob_setPick (p : Nat) (x : Pick) (k : Nat) : (s.setPick p x).bob k = s.bob k := rfl
@[simp] theorem State.clu_setPick (p : Nat) (x : Pick) (k : Nat) : (s.setPick p x).clu k = s.clu k := rfl
@[simp] theorem State.assoc_setPick (p : Nat) (x : Pick) (k : Nat) : (s.setPick p x).assoc k = s.assoc k := rfl
@[simp] theorem State.engine_setPick (p : Nat) (x : Pick) (k : Nat) : (s.setPick p x).engine k = s.engine k := rfl
@[simp] theorem State.pair_setPick (p : Nat) (x : Pick) (k : Nat) : (s.setPick p x).pair k = s.pair k := rfl
@[simp] theorem State.queue_setPick (p : Nat) (x : Pick) (k : Nat) : (s.setPick p x).queue k = s.queue k := rfl
@[simp] theorem State.port_setPick (p : Nat) (x : Pick) (k : Nat) : (s.setPick p x).port k = s.port k := rfl
@[simp] theorem State.group_setPick (p : Nat) (x : Pick) (k : Nat) : (s.setPick p x).group k = s.group k := rfl
@[simp] theorem State.lane_setPick (p : Nat) (x : Pick) (k : Nat) : (s.setPick p x).lane k = s.lane k := rfl
@[simp] theorem State.wport_setPick (p : Nat) (x : Pick) (k : Nat) : (s.setPick p x).wport k = s.wport k := rfl
@[simp] theorem State.dom_setPick (p : Nat) (x : Pick) (k : Nat) : (s.setPick p x).dom k = s.dom k := rfl
@[simp] theorem State.page_setPick (p : Nat) (x : Pick) (k : Nat) : (s.setPick p x).page k = s.page k := rfl
@[simp] theorem State.bks_setPick (p : Nat) (x : Pick) (k : Nat) : (s.setPick p x).bks k = s.bks k := rfl
@[simp] theorem State.tsrc_setPick (p : Nat) (x : Pick) (k : Nat) : (s.setPick p x).tsrc k = s.tsrc k := rfl
@[simp] theorem State.ring_setPick (p : Nat) (x : Pick) (k m : Nat) : (s.setPick p x).ring k m = s.ring k m := rfl
@[simp] theorem State.reg_setPick (p : Nat) (x : Pick) (k : RegId) (m n : Nat) : (s.setPick p x).reg k m n = s.reg k m n := rfl
@[simp] theorem State.bob_delPick (p : Nat) (k : Nat) : (s.delPick p).bob k = s.bob k := rfl
@[simp] theorem State.clu_delPick (p : Nat) (k : Nat) : (s.delPick p).clu k = s.clu k := rfl
@[simp] theorem State.assoc_delPick (p : Nat) (k : Nat) : (s.delPick p).assoc k = s.assoc k := rfl
@[simp] theorem State.engine_delPick (p : Nat) (k : Nat) : (s.delPick p).engine k = s.engine k := rfl
@[simp] theorem State.pair_delPick (p : Nat) (k : Nat) : (s.delPick p).pair k = s.pair k := rfl
@[simp] theorem State.queue_delPick (p : Nat) (k : Nat) : (s.delPick p).queue k = s.queue k := rfl
@[simp] theorem State.port_delPick (p : Nat) (k : Nat) : (s.delPick p).port k = s.port k := rfl
@[simp] theorem State.group_delPick (p : Nat) (k : Nat) : (s.delPick p).group k = s.group k := rfl
@[simp] theorem State.lane_delPick (p : Nat) (k : Nat) : (s.delPick p).lane k = s.lane k := rfl
@[simp] theorem State.wport_delPick (p : Nat) (k : Nat) : (s.delPick p).wport k = s.wport k := rfl
@[simp] theorem State.dom_delPick (p : Nat) (k : Nat) : (s.delPick p).dom k = s.dom k := rfl
@[simp] theorem State.page_delPick (p : Nat) (k : Nat) : (s.delPick p).page k = s.page k := rfl
@[simp] theorem State.bks_delPick (p : Nat) (k : Nat) : (s.delPick p).bks k = s.bks k := rfl
@[simp] theorem State.tsrc_delPick (p : Nat) (k : Nat) : (s.delPick p).tsrc k = s.tsrc k := rfl
@[simp] theorem State.ring_delPick (p : Nat) (k m : Nat) : (s.delPick p).ring k m = s.ring k m := rfl
@[simp] theorem State.reg_delPick (p : Nat) (k : RegId) (m n : Nat) : (s.delPick p).reg k m n = s.reg k m n := rfl
@[simp] theorem State.bob_setAssoc (i : Nat) (x : AtEntry) (k : Nat) : (s.setAssoc i x).bob k = s.bob k := rfl
@[simp] theorem State.clu_setAssoc (i : Nat) (x : AtEntry) (k : Nat) : (s.setAssoc i x).clu k = s.clu k := rfl
@[simp] theorem State.pick_setAssoc (i : Nat) (x : AtEntry) (k : Nat) : (s.setAssoc i x).pick k = s.pick k := rfl
@[simp] theorem State.engine_setAssoc (i : Nat) (x : AtEntry) (k : Nat) : (s.setAssoc i x).engine k = s.engine k := rfl
@[simp] theorem State.pair_setAssoc (i : Nat) (x : AtEntry) (k : Nat) : (s.setAssoc i x).pair k = s.pair k := rfl
@[simp] theorem State.queue_setAssoc (i : Nat) (x : AtEntry) (k : Nat) : (s.setAssoc i x).queue k = s.queue k := rfl
@[simp] theorem State.port_setAssoc (i : Nat) (x : AtEntry) (k : Nat) : (s.setAssoc i x).port k = s.port k := rfl
@[simp] theorem State.group_setAssoc (i : Nat) (x : AtEntry) (k : Nat) : (s.setAssoc i x).group k = s.group k := rfl
@[simp] theorem State.lane_setAssoc (i : Nat) (x : AtEntry) (k : Nat) : (s.setAssoc i x).lane k = s.lane k := rfl
@[simp] theorem State.wport_setAssoc (i : Nat) (x : AtEntry) (k : Nat) : (s.setAssoc i x).wport k = s.wport k := rfl
@[simp] theorem State.dom_setAssoc (i : Nat) (x : AtEntry) (k : Nat) : (s.setAssoc i x).dom k = s.dom k := rfl
@[simp] theorem State.page_setAssoc (i : Nat) (x : AtEntry) (k : Nat) : (s.setAssoc i x).page k = s.page k := rfl
@[simp] theorem State.bks_setAssoc (i : Nat) (x : AtEntry) (k : Nat) : (s.setAssoc i x).bks k = s.bks k := rfl
@[simp] theorem State.tsrc_setAssoc (i : Nat) (x : AtEntry) (k : Nat) : (s.setAssoc i x).tsrc k = s.tsrc k := rfl
@[simp] theorem State.ring_setAssoc (i : Nat) (x : AtEntry) (k m : Nat) : (s.setAssoc i x).ring k m = s.ring k m := rfl
@[simp] theorem State.reg_setAssoc (i : Nat) (x : AtEntry) (k : RegId) (m n : Nat) : (s.setAssoc i x).reg k m n = s.reg k m n := rfl
@[simp] theorem State.bob_setEngine (e : Nat) (x : Engine) (k : Nat) : (s.setEngine e x).bob k = s.bob k := rfl
@[simp] theorem State.clu_setEngine (e : Nat) (x : Engine) (k : Nat) : (s.setEngine e x).clu k = s.clu k := rfl
@[simp] theorem State.pick_setEngine (e : Nat) (x : Engine) (k : Nat) : (s.setEngine e x).pick k = s.pick k := rfl
@[simp] theorem State.assoc_setEngine (e : Nat) (x : Engine) (k : Nat) : (s.setEngine e x).assoc k = s.assoc k := rfl
@[simp] theorem State.pair_setEngine (e : Nat) (x : Engine) (k : Nat) : (s.setEngine e x).pair k = s.pair k := rfl
@[simp] theorem State.queue_setEngine (e : Nat) (x : Engine) (k : Nat) : (s.setEngine e x).queue k = s.queue k := rfl
@[simp] theorem State.port_setEngine (e : Nat) (x : Engine) (k : Nat) : (s.setEngine e x).port k = s.port k := rfl
@[simp] theorem State.group_setEngine (e : Nat) (x : Engine) (k : Nat) : (s.setEngine e x).group k = s.group k := rfl
@[simp] theorem State.lane_setEngine (e : Nat) (x : Engine) (k : Nat) : (s.setEngine e x).lane k = s.lane k := rfl
@[simp] theorem State.wport_setEngine (e : Nat) (x : Engine) (k : Nat) : (s.setEngine e x).wport k = s.wport k := rfl
@[simp] theorem State.dom_setEngine (e : Nat) (x : Engine) (k : Nat) : (s.setEngine e x).dom k = s.dom k := rfl
@[simp] theorem State.page_setEngine (e : Nat) (x : Engine) (k : Nat) : (s.setEngine e x).page k = s.page k := rfl
@[simp] theorem State.bks_setEngine (e : Nat) (x : Engine) (k : Nat) : (s.setEngine e x).bks k = s.bks k := rfl
@[simp] theorem State.tsrc_setEngine (e : Nat) (x : Engine) (k : Nat) : (s.setEngine e x).tsrc k = s.tsrc k := rfl
@[simp] theorem State.ring_setEngine (e : Nat) (x : Engine) (k m : Nat) : (s.setEngine e x).ring k m = s.ring k m := rfl
@[simp] theorem State.reg_setEngine (e : Nat) (x : Engine) (k : RegId) (m n : Nat) : (s.setEngine e x).reg k m n = s.reg k m n := rfl
@[simp] theorem State.bob_setPair (p : Nat) (x : Pair) (k : Nat) : (s.setPair p x).bob k = s.bob k := rfl
@[simp] theorem State.clu_setPair (p : Nat) (x : Pair) (k : Nat) : (s.setPair p x).clu k = s.clu k := rfl
@[simp] theorem State.pick_setPair (p : Nat) (x : Pair) (k : Nat) : (s.setPair p x).pick k = s.pick k := rfl
@[simp] theorem State.assoc_setPair (p : Nat) (x : Pair) (k : Nat) : (s.setPair p x).assoc k = s.assoc k := rfl
@[simp] theorem State.engine_setPair (p : Nat) (x : Pair) (k : Nat) : (s.setPair p x).engine k = s.engine k := rfl
@[simp] theorem State.queue_setPair (p : Nat) (x : Pair) (k : Nat) : (s.setPair p x).queue k = s.queue k := rfl
@[simp] theorem State.port_setPair (p : Nat) (x : Pair) (k : Nat) : (s.setPair p x).port k = s.port k := rfl
@[simp] theorem State.group_setPair (p : Nat) (x : Pair) (k : Nat) : (s.setPair p x).group k = s.group k := rfl
@[simp] theorem State.lane_setPair (p : Nat) (x : Pair) (k : Nat) : (s.setPair p x).lane k = s.lane k := rfl
@[simp] theorem State.wport_setPair (p : Nat) (x : Pair) (k : Nat) : (s.setPair p x).wport k = s.wport k := rfl
@[simp] theorem State.dom_setPair (p : Nat) (x : Pair) (k : Nat) : (s.setPair p x).dom k = s.dom k := rfl
@[simp] theorem State.page_setPair (p : Nat) (x : Pair) (k : Nat) : (s.setPair p x).page k = s.page k := rfl
@[simp] theorem State.bks_setPair (p : Nat) (x : Pair) (k : Nat) : (s.setPair p x).bks k = s.bks k := rfl
@[simp] theorem State.tsrc_setPair (p : Nat) (x : Pair) (k : Nat) : (s.setPair p x).tsrc k = s.tsrc k := rfl
@[simp] theorem State.ring_setPair (p : Nat) (x : Pair) (k m : Nat) : (s.setPair p x).ring k m = s.ring k m := rfl
@[simp] theorem State.reg_setPair (p : Nat) (x : Pair) (k : RegId) (m n : Nat) : (s.setPair p x).reg k m n = s.reg k m n := rfl
@[simp] theorem State.bob_setQueue (q : Nat) (x : Queue) (k : Nat) : (s.setQueue q x).bob k = s.bob k := rfl
@[simp] theorem State.clu_setQueue (q : Nat) (x : Queue) (k : Nat) : (s.setQueue q x).clu k = s.clu k := rfl
@[simp] theorem State.pick_setQueue (q : Nat) (x : Queue) (k : Nat) : (s.setQueue q x).pick k = s.pick k := rfl
@[simp] theorem State.assoc_setQueue (q : Nat) (x : Queue) (k : Nat) : (s.setQueue q x).assoc k = s.assoc k := rfl
@[simp] theorem State.engine_setQueue (q : Nat) (x : Queue) (k : Nat) : (s.setQueue q x).engine k = s.engine k := rfl
@[simp] theorem State.pair_setQueue (q : Nat) (x : Queue) (k : Nat) : (s.setQueue q x).pair k = s.pair k := rfl
@[simp] theorem State.port_setQueue (q : Nat) (x : Queue) (k : Nat) : (s.setQueue q x).port k = s.port k := rfl
@[simp] theorem State.group_setQueue (q : Nat) (x : Queue) (k : Nat) : (s.setQueue q x).group k = s.group k := rfl
@[simp] theorem State.lane_setQueue (q : Nat) (x : Queue) (k : Nat) : (s.setQueue q x).lane k = s.lane k := rfl
@[simp] theorem State.wport_setQueue (q : Nat) (x : Queue) (k : Nat) : (s.setQueue q x).wport k = s.wport k := rfl
@[simp] theorem State.dom_setQueue (q : Nat) (x : Queue) (k : Nat) : (s.setQueue q x).dom k = s.dom k := rfl
@[simp] theorem State.page_setQueue (q : Nat) (x : Queue) (k : Nat) : (s.setQueue q x).page k = s.page k := rfl
@[simp] theorem State.bks_setQueue (q : Nat) (x : Queue) (k : Nat) : (s.setQueue q x).bks k = s.bks k := rfl
@[simp] theorem State.tsrc_setQueue (q : Nat) (x : Queue) (k : Nat) : (s.setQueue q x).tsrc k = s.tsrc k := rfl
@[simp] theorem State.ring_setQueue (q : Nat) (x : Queue) (k m : Nat) : (s.setQueue q x).ring k m = s.ring k m := rfl
@[simp] theorem State.reg_setQueue (q : Nat) (x : Queue) (k : RegId) (m n : Nat) : (s.setQueue q x).reg k m n = s.reg k m n := rfl
@[simp] theorem State.bob_setPort (p : Nat) (x : Port) (k : Nat) : (s.setPort p x).bob k = s.bob k := rfl
@[simp] theorem State.clu_setPort (p : Nat) (x : Port) (k : Nat) : (s.setPort p x).clu k = s.clu k := rfl
@[simp] theorem State.pick_setPort (p : Nat) (x : Port) (k : Nat) : (s.setPort p x).pick k = s.pick k := rfl
@[simp] theorem State.assoc_setPort (p : Nat) (x : Port) (k : Nat) : (s.setPort p x).assoc k = s.assoc k := rfl
@[simp] theorem State.engine_setPort (p : Nat) (x : Port) (k : Nat) : (s.setPort p x).engine k = s.engine k := rfl
@[simp] theorem State.pair_setPort (p : Nat) (x : Port) (k : Nat) : (s.setPort p x).pair k = s.pair k := rfl
@[simp] theorem State.queue_setPort (p : Nat) (x : Port) (k : Nat) : (s.setPort p x).queue k = s.queue k := rfl
@[simp] theorem State.group_setPort (p : Nat) (x : Port) (k : Nat) : (s.setPort p x).group k = s.group k := rfl
@[simp] theorem State.lane_setPort (p : Nat) (x : Port) (k : Nat) : (s.setPort p x).lane k = s.lane k := rfl
@[simp] theorem State.wport_setPort (p : Nat) (x : Port) (k : Nat) : (s.setPort p x).wport k = s.wport k := rfl
@[simp] theorem State.dom_setPort (p : Nat) (x : Port) (k : Nat) : (s.setPort p x).dom k = s.dom k := rfl
@[simp] theorem State.page_setPort (p : Nat) (x : Port) (k : Nat) : (s.setPort p x).page k = s.page k := rfl
@[simp] theorem State.bks_setPort (p : Nat) (x : Port) (k : Nat) : (s.setPort p x).bks k = s.bks k := rfl
@[simp] theorem State.tsrc_setPort (p : Nat) (x : Port) (k : Nat) : (s.setPort p x).tsrc k = s.tsrc k := rfl
@[simp] theorem State.ring_setPort (p : Nat) (x : Port) (k m : Nat) : (s.setPort p x).ring k m = s.ring k m := rfl
@[simp] theorem State.reg_setPort (p : Nat) (x : Port) (k : RegId) (m n : Nat) : (s.setPort p x).reg k m n = s.reg k m n := rfl
@[simp] theorem State.bob_setGroup (g : Nat) (x : Group) (k : Nat) : (s.setGroup g x).bob k = s.bob k := rfl
@[simp] theorem State.clu_setGroup (g : Nat) (x : Group) (k : Nat) : (s.setGroup g x).clu k = s.clu k := rfl
@[simp] theorem State.pick_setGroup (g : Nat) (x : Group) (k : Nat) : (s.setGroup g x).pick k = s.pick k := rfl
@[simp] theorem State.assoc_setGroup (g : Nat) (x : Group) (k : Nat) : (s.setGroup g x).assoc k = s.assoc k := rfl
@[simp] theorem State.engine_setGroup (g : Nat) (x : Group) (k : Nat) : (s.setGroup g x).engine k = s.engine k := rfl
@[simp] theorem State.pair_setGroup (g : Nat) (x : Group) (k : Nat) : (s.setGroup g x).pair k = s.pair k := rfl
@[simp] theorem State.queue_setGroup (g : Nat) (x : Group) (k : Nat) : (s.setGroup g x).queue k = s.queue k := rfl
@[simp] theorem State.port_setGroup (g : Nat) (x : Group) (k : Nat) : (s.setGroup g x).port k = s.port k := rfl
@[simp] theorem State.lane_setGroup (g : Nat) (x : Group) (k : Nat) : (s.setGroup g x).lane k = s.lane k := rfl
@[simp] theorem State.wport_setGroup (g : Nat) (x : Group) (k : Nat) : (s.setGroup g x).wport k = s.wport k := rfl
@[simp] theorem State.dom_setGroup (g : Nat) (x : Group) (k : Nat) : (s.setGroup g x).dom k = s.dom k := rfl
@[simp] theorem State.page_setGroup (g : Nat) (x : Group) (k : Nat) : (s.setGroup g x).page k = s.page k := rfl
@[simp] theorem State.bks_setGroup (g : Nat) (x : Group) (k : Nat) : (s.setGroup g x).bks k = s.bks k := rfl
@[simp] theorem State.tsrc_setGroup (g : Nat) (x : Group) (k : Nat) : (s.setGroup g x).tsrc k = s.tsrc k := rfl
@[simp] theorem State.ring_setGroup (g : Nat) (x : Group) (k m : Nat) : (s.setGroup g x).ring k m = s.ring k m := rfl
@[simp] theorem State.reg_setGroup (g : Nat) (x : Group) (k : RegId) (m n : Nat) : (s.setGroup g x).reg k m n = s.reg k m n := rfl
@[simp] theorem State.bob_setLane (l : Nat) (x : Lane) (k : Nat) : (s.setLane l x).bob k = s.bob k := rfl
@[simp] theorem State.clu_setLane (l : Nat) (x : Lane) (k : Nat) : (s.setLane l x).clu k = s.clu k := rfl
@[simp] theorem State.pick_setLane (l : Nat) (x : Lane) (k : Nat) : (s.setLane l x).pick k = s.pick k := rfl
@[simp] theorem State.assoc_setLane (l : Nat) (x : Lane) (k : Nat) : (s.setLane l x).assoc k = s.assoc k := rfl
@[simp] theorem State.engine_setLane (l : Nat) (x : Lane) (k : Nat) : (s.setLane l x).engine k = s.engine k := rfl
@[simp] theorem State.pair_setLane (l : Nat) (x : Lane) (k : Nat) : (s.setLane l x).pair k = s.pair k := rfl
@[simp] theorem State.queue_setLane (l : Nat) (x : Lane) (k : Nat) : (s.setLane l x).queue k = s.queue k := rfl
@[simp] theorem State.port_setLane (l : Nat) (x : Lane) (k : Nat) : (s.setLane l x).port k = s.port k := rfl
@[simp] theorem State.group_setLane (l : Nat) (x : Lane) (k : Nat) : (s.setLane l x).group k = s.group k := rfl
@[simp] theorem State.wport_setLane (l : Nat) (x : Lane) (k : Nat) : (s.setLane l x).wport k = s.wport k := rfl
@[simp] theorem State.dom_setLane (l : Nat) (x : Lane) (k : Nat) : (s.setLane l x).dom k = s.dom k := rfl
@[simp] theorem State.page_setLane (l : Nat) (x : Lane) (k : Nat) : (s.setLane l x).page k = s.page k := rfl
@[simp] theorem State.bks_setLane (l : Nat) (x : Lane) (k : Nat) : (s.setLane l x).bks k = s.bks k := rfl
@[simp] theorem State.tsrc_setLane (l : Nat) (x : Lane) (k : Nat) : (s.setLane l x).tsrc k = s.tsrc k := rfl
@[simp] theorem State.ring_setLane (l : Nat) (x : Lane) (k m : Nat) : (s.setLane l x).ring k m = s.ring k m := rfl
@[simp] theorem State.reg_setLane (l : Nat) (x : Lane) (k : RegId) (m n : Nat) : (s.setLane l x).reg k m n = s.reg k m n := rfl
@[simp] theorem State.bob_setWport (n : Nat) (x : Weft) (k : Nat) : (s.setWport n x).bob k = s.bob k := rfl
@[simp] theorem State.clu_setWport (n : Nat) (x : Weft) (k : Nat) : (s.setWport n x).clu k = s.clu k := rfl
@[simp] theorem State.pick_setWport (n : Nat) (x : Weft) (k : Nat) : (s.setWport n x).pick k = s.pick k := rfl
@[simp] theorem State.assoc_setWport (n : Nat) (x : Weft) (k : Nat) : (s.setWport n x).assoc k = s.assoc k := rfl
@[simp] theorem State.engine_setWport (n : Nat) (x : Weft) (k : Nat) : (s.setWport n x).engine k = s.engine k := rfl
@[simp] theorem State.pair_setWport (n : Nat) (x : Weft) (k : Nat) : (s.setWport n x).pair k = s.pair k := rfl
@[simp] theorem State.queue_setWport (n : Nat) (x : Weft) (k : Nat) : (s.setWport n x).queue k = s.queue k := rfl
@[simp] theorem State.port_setWport (n : Nat) (x : Weft) (k : Nat) : (s.setWport n x).port k = s.port k := rfl
@[simp] theorem State.group_setWport (n : Nat) (x : Weft) (k : Nat) : (s.setWport n x).group k = s.group k := rfl
@[simp] theorem State.lane_setWport (n : Nat) (x : Weft) (k : Nat) : (s.setWport n x).lane k = s.lane k := rfl
@[simp] theorem State.dom_setWport (n : Nat) (x : Weft) (k : Nat) : (s.setWport n x).dom k = s.dom k := rfl
@[simp] theorem State.page_setWport (n : Nat) (x : Weft) (k : Nat) : (s.setWport n x).page k = s.page k := rfl
@[simp] theorem State.bks_setWport (n : Nat) (x : Weft) (k : Nat) : (s.setWport n x).bks k = s.bks k := rfl
@[simp] theorem State.tsrc_setWport (n : Nat) (x : Weft) (k : Nat) : (s.setWport n x).tsrc k = s.tsrc k := rfl
@[simp] theorem State.ring_setWport (n : Nat) (x : Weft) (k m : Nat) : (s.setWport n x).ring k m = s.ring k m := rfl
@[simp] theorem State.reg_setWport (u : Nat) (x : Weft) (k : RegId) (m n : Nat) : (s.setWport u x).reg k m n = s.reg k m n := rfl
@[simp] theorem State.bob_setDom (d : Nat) (x : Dom) (k : Nat) : (s.setDom d x).bob k = s.bob k := rfl
@[simp] theorem State.clu_setDom (d : Nat) (x : Dom) (k : Nat) : (s.setDom d x).clu k = s.clu k := rfl
@[simp] theorem State.pick_setDom (d : Nat) (x : Dom) (k : Nat) : (s.setDom d x).pick k = s.pick k := rfl
@[simp] theorem State.assoc_setDom (d : Nat) (x : Dom) (k : Nat) : (s.setDom d x).assoc k = s.assoc k := rfl
@[simp] theorem State.engine_setDom (d : Nat) (x : Dom) (k : Nat) : (s.setDom d x).engine k = s.engine k := rfl
@[simp] theorem State.pair_setDom (d : Nat) (x : Dom) (k : Nat) : (s.setDom d x).pair k = s.pair k := rfl
@[simp] theorem State.queue_setDom (d : Nat) (x : Dom) (k : Nat) : (s.setDom d x).queue k = s.queue k := rfl
@[simp] theorem State.port_setDom (d : Nat) (x : Dom) (k : Nat) : (s.setDom d x).port k = s.port k := rfl
@[simp] theorem State.group_setDom (d : Nat) (x : Dom) (k : Nat) : (s.setDom d x).group k = s.group k := rfl
@[simp] theorem State.lane_setDom (d : Nat) (x : Dom) (k : Nat) : (s.setDom d x).lane k = s.lane k := rfl
@[simp] theorem State.wport_setDom (d : Nat) (x : Dom) (k : Nat) : (s.setDom d x).wport k = s.wport k := rfl
@[simp] theorem State.page_setDom (d : Nat) (x : Dom) (k : Nat) : (s.setDom d x).page k = s.page k := rfl
@[simp] theorem State.bks_setDom (d : Nat) (x : Dom) (k : Nat) : (s.setDom d x).bks k = s.bks k := rfl
@[simp] theorem State.tsrc_setDom (d : Nat) (x : Dom) (k : Nat) : (s.setDom d x).tsrc k = s.tsrc k := rfl
@[simp] theorem State.ring_setDom (d : Nat) (x : Dom) (k m : Nat) : (s.setDom d x).ring k m = s.ring k m := rfl
@[simp] theorem State.reg_setDom (d : Nat) (x : Dom) (k : RegId) (m n : Nat) : (s.setDom d x).reg k m n = s.reg k m n := rfl
@[simp] theorem State.bob_setRing (f r : Nat) (x : Ring) (k : Nat) : (s.setRing f r x).bob k = s.bob k := rfl
@[simp] theorem State.clu_setRing (f r : Nat) (x : Ring) (k : Nat) : (s.setRing f r x).clu k = s.clu k := rfl
@[simp] theorem State.pick_setRing (f r : Nat) (x : Ring) (k : Nat) : (s.setRing f r x).pick k = s.pick k := rfl
@[simp] theorem State.assoc_setRing (f r : Nat) (x : Ring) (k : Nat) : (s.setRing f r x).assoc k = s.assoc k := rfl
@[simp] theorem State.engine_setRing (f r : Nat) (x : Ring) (k : Nat) : (s.setRing f r x).engine k = s.engine k := rfl
@[simp] theorem State.pair_setRing (f r : Nat) (x : Ring) (k : Nat) : (s.setRing f r x).pair k = s.pair k := rfl
@[simp] theorem State.queue_setRing (f r : Nat) (x : Ring) (k : Nat) : (s.setRing f r x).queue k = s.queue k := rfl
@[simp] theorem State.port_setRing (f r : Nat) (x : Ring) (k : Nat) : (s.setRing f r x).port k = s.port k := rfl
@[simp] theorem State.group_setRing (f r : Nat) (x : Ring) (k : Nat) : (s.setRing f r x).group k = s.group k := rfl
@[simp] theorem State.lane_setRing (f r : Nat) (x : Ring) (k : Nat) : (s.setRing f r x).lane k = s.lane k := rfl
@[simp] theorem State.wport_setRing (f r : Nat) (x : Ring) (k : Nat) : (s.setRing f r x).wport k = s.wport k := rfl
@[simp] theorem State.dom_setRing (f r : Nat) (x : Ring) (k : Nat) : (s.setRing f r x).dom k = s.dom k := rfl
@[simp] theorem State.page_setRing (f r : Nat) (x : Ring) (k : Nat) : (s.setRing f r x).page k = s.page k := rfl
@[simp] theorem State.bks_setRing (f r : Nat) (x : Ring) (k : Nat) : (s.setRing f r x).bks k = s.bks k := rfl
@[simp] theorem State.tsrc_setRing (f r : Nat) (x : Ring) (k : Nat) : (s.setRing f r x).tsrc k = s.tsrc k := rfl
@[simp] theorem State.reg_setRing (f r : Nat) (x : Ring) (k : RegId) (m n : Nat) : (s.setRing f r x).reg k m n = s.reg k m n := rfl
@[simp] theorem State.bob_setPage (f : Nat) (x : KeyPage) (k : Nat) : (s.setPage f x).bob k = s.bob k := rfl
@[simp] theorem State.clu_setPage (f : Nat) (x : KeyPage) (k : Nat) : (s.setPage f x).clu k = s.clu k := rfl
@[simp] theorem State.pick_setPage (f : Nat) (x : KeyPage) (k : Nat) : (s.setPage f x).pick k = s.pick k := rfl
@[simp] theorem State.assoc_setPage (f : Nat) (x : KeyPage) (k : Nat) : (s.setPage f x).assoc k = s.assoc k := rfl
@[simp] theorem State.engine_setPage (f : Nat) (x : KeyPage) (k : Nat) : (s.setPage f x).engine k = s.engine k := rfl
@[simp] theorem State.pair_setPage (f : Nat) (x : KeyPage) (k : Nat) : (s.setPage f x).pair k = s.pair k := rfl
@[simp] theorem State.queue_setPage (f : Nat) (x : KeyPage) (k : Nat) : (s.setPage f x).queue k = s.queue k := rfl
@[simp] theorem State.port_setPage (f : Nat) (x : KeyPage) (k : Nat) : (s.setPage f x).port k = s.port k := rfl
@[simp] theorem State.group_setPage (f : Nat) (x : KeyPage) (k : Nat) : (s.setPage f x).group k = s.group k := rfl
@[simp] theorem State.lane_setPage (f : Nat) (x : KeyPage) (k : Nat) : (s.setPage f x).lane k = s.lane k := rfl
@[simp] theorem State.wport_setPage (f : Nat) (x : KeyPage) (k : Nat) : (s.setPage f x).wport k = s.wport k := rfl
@[simp] theorem State.dom_setPage (f : Nat) (x : KeyPage) (k : Nat) : (s.setPage f x).dom k = s.dom k := rfl
@[simp] theorem State.bks_setPage (f : Nat) (x : KeyPage) (k : Nat) : (s.setPage f x).bks k = s.bks k := rfl
@[simp] theorem State.tsrc_setPage (f : Nat) (x : KeyPage) (k : Nat) : (s.setPage f x).tsrc k = s.tsrc k := rfl
@[simp] theorem State.ring_setPage (f : Nat) (x : KeyPage) (k m : Nat) : (s.setPage f x).ring k m = s.ring k m := rfl
@[simp] theorem State.reg_setPage (f : Nat) (x : KeyPage) (k : RegId) (m n : Nat) : (s.setPage f x).reg k m n = s.reg k m n := rfl
@[simp] theorem State.bob_setBks (i : Nat) (x : Bks) (k : Nat) : (s.setBks i x).bob k = s.bob k := rfl
@[simp] theorem State.clu_setBks (i : Nat) (x : Bks) (k : Nat) : (s.setBks i x).clu k = s.clu k := rfl
@[simp] theorem State.pick_setBks (i : Nat) (x : Bks) (k : Nat) : (s.setBks i x).pick k = s.pick k := rfl
@[simp] theorem State.assoc_setBks (i : Nat) (x : Bks) (k : Nat) : (s.setBks i x).assoc k = s.assoc k := rfl
@[simp] theorem State.engine_setBks (i : Nat) (x : Bks) (k : Nat) : (s.setBks i x).engine k = s.engine k := rfl
@[simp] theorem State.pair_setBks (i : Nat) (x : Bks) (k : Nat) : (s.setBks i x).pair k = s.pair k := rfl
@[simp] theorem State.queue_setBks (i : Nat) (x : Bks) (k : Nat) : (s.setBks i x).queue k = s.queue k := rfl
@[simp] theorem State.port_setBks (i : Nat) (x : Bks) (k : Nat) : (s.setBks i x).port k = s.port k := rfl
@[simp] theorem State.group_setBks (i : Nat) (x : Bks) (k : Nat) : (s.setBks i x).group k = s.group k := rfl
@[simp] theorem State.lane_setBks (i : Nat) (x : Bks) (k : Nat) : (s.setBks i x).lane k = s.lane k := rfl
@[simp] theorem State.wport_setBks (i : Nat) (x : Bks) (k : Nat) : (s.setBks i x).wport k = s.wport k := rfl
@[simp] theorem State.dom_setBks (i : Nat) (x : Bks) (k : Nat) : (s.setBks i x).dom k = s.dom k := rfl
@[simp] theorem State.page_setBks (i : Nat) (x : Bks) (k : Nat) : (s.setBks i x).page k = s.page k := rfl
@[simp] theorem State.tsrc_setBks (i : Nat) (x : Bks) (k : Nat) : (s.setBks i x).tsrc k = s.tsrc k := rfl
@[simp] theorem State.ring_setBks (i : Nat) (x : Bks) (k m : Nat) : (s.setBks i x).ring k m = s.ring k m := rfl
@[simp] theorem State.reg_setBks (i : Nat) (x : Bks) (k : RegId) (m n : Nat) : (s.setBks i x).reg k m n = s.reg k m n := rfl
@[simp] theorem State.bob_setTsrc (i : Nat) (x : TSrc) (k : Nat) : (s.setTsrc i x).bob k = s.bob k := rfl
@[simp] theorem State.clu_setTsrc (i : Nat) (x : TSrc) (k : Nat) : (s.setTsrc i x).clu k = s.clu k := rfl
@[simp] theorem State.pick_setTsrc (i : Nat) (x : TSrc) (k : Nat) : (s.setTsrc i x).pick k = s.pick k := rfl
@[simp] theorem State.assoc_setTsrc (i : Nat) (x : TSrc) (k : Nat) : (s.setTsrc i x).assoc k = s.assoc k := rfl
@[simp] theorem State.engine_setTsrc (i : Nat) (x : TSrc) (k : Nat) : (s.setTsrc i x).engine k = s.engine k := rfl
@[simp] theorem State.pair_setTsrc (i : Nat) (x : TSrc) (k : Nat) : (s.setTsrc i x).pair k = s.pair k := rfl
@[simp] theorem State.queue_setTsrc (i : Nat) (x : TSrc) (k : Nat) : (s.setTsrc i x).queue k = s.queue k := rfl
@[simp] theorem State.port_setTsrc (i : Nat) (x : TSrc) (k : Nat) : (s.setTsrc i x).port k = s.port k := rfl
@[simp] theorem State.group_setTsrc (i : Nat) (x : TSrc) (k : Nat) : (s.setTsrc i x).group k = s.group k := rfl
@[simp] theorem State.lane_setTsrc (i : Nat) (x : TSrc) (k : Nat) : (s.setTsrc i x).lane k = s.lane k := rfl
@[simp] theorem State.wport_setTsrc (i : Nat) (x : TSrc) (k : Nat) : (s.setTsrc i x).wport k = s.wport k := rfl
@[simp] theorem State.dom_setTsrc (i : Nat) (x : TSrc) (k : Nat) : (s.setTsrc i x).dom k = s.dom k := rfl
@[simp] theorem State.page_setTsrc (i : Nat) (x : TSrc) (k : Nat) : (s.setTsrc i x).page k = s.page k := rfl
@[simp] theorem State.bks_setTsrc (i : Nat) (x : TSrc) (k : Nat) : (s.setTsrc i x).bks k = s.bks k := rfl
@[simp] theorem State.ring_setTsrc (i : Nat) (x : TSrc) (k m : Nat) : (s.setTsrc i x).ring k m = s.ring k m := rfl
@[simp] theorem State.reg_setTsrc (i : Nat) (x : TSrc) (k : RegId) (m n : Nat) : (s.setTsrc i x).reg k m n = s.reg k m n := rfl
@[simp] theorem State.bob_setReg (id : RegId) (i j : Nat) (w : Word) (k : Nat) : (s.setReg id i j w).bob k = s.bob k := rfl
@[simp] theorem State.clu_setReg (id : RegId) (i j : Nat) (w : Word) (k : Nat) : (s.setReg id i j w).clu k = s.clu k := rfl
@[simp] theorem State.pick_setReg (id : RegId) (i j : Nat) (w : Word) (k : Nat) : (s.setReg id i j w).pick k = s.pick k := rfl
@[simp] theorem State.assoc_setReg (id : RegId) (i j : Nat) (w : Word) (k : Nat) : (s.setReg id i j w).assoc k = s.assoc k := rfl
@[simp] theorem State.engine_setReg (id : RegId) (i j : Nat) (w : Word) (k : Nat) : (s.setReg id i j w).engine k = s.engine k := rfl
@[simp] theorem State.pair_setReg (id : RegId) (i j : Nat) (w : Word) (k : Nat) : (s.setReg id i j w).pair k = s.pair k := rfl
@[simp] theorem State.queue_setReg (id : RegId) (i j : Nat) (w : Word) (k : Nat) : (s.setReg id i j w).queue k = s.queue k := rfl
@[simp] theorem State.port_setReg (id : RegId) (i j : Nat) (w : Word) (k : Nat) : (s.setReg id i j w).port k = s.port k := rfl
@[simp] theorem State.group_setReg (id : RegId) (i j : Nat) (w : Word) (k : Nat) : (s.setReg id i j w).group k = s.group k := rfl
@[simp] theorem State.lane_setReg (id : RegId) (i j : Nat) (w : Word) (k : Nat) : (s.setReg id i j w).lane k = s.lane k := rfl
@[simp] theorem State.wport_setReg (id : RegId) (i j : Nat) (w : Word) (k : Nat) : (s.setReg id i j w).wport k = s.wport k := rfl
@[simp] theorem State.dom_setReg (id : RegId) (i j : Nat) (w : Word) (k : Nat) : (s.setReg id i j w).dom k = s.dom k := rfl
@[simp] theorem State.page_setReg (id : RegId) (i j : Nat) (w : Word) (k : Nat) : (s.setReg id i j w).page k = s.page k := rfl
@[simp] theorem State.bks_setReg (id : RegId) (i j : Nat) (w : Word) (k : Nat) : (s.setReg id i j w).bks k = s.bks k := rfl
@[simp] theorem State.tsrc_setReg (id : RegId) (i j : Nat) (w : Word) (k : Nat) : (s.setReg id i j w).tsrc k = s.tsrc k := rfl
@[simp] theorem State.ring_setReg (id : RegId) (i j : Nat) (w : Word) (k m : Nat) : (s.setReg id i j w).ring k m = s.ring k m := rfl
@[simp] theorem State.bob_setRegBit (id : RegId) (n : Nat) (k : Nat) : (s.setRegBit id n).bob k = s.bob k := rfl
@[simp] theorem State.clu_setRegBit (id : RegId) (n : Nat) (k : Nat) : (s.setRegBit id n).clu k = s.clu k := rfl
@[simp] theorem State.pick_setRegBit (id : RegId) (n : Nat) (k : Nat) : (s.setRegBit id n).pick k = s.pick k := rfl
@[simp] theorem State.assoc_setRegBit (id : RegId) (n : Nat) (k : Nat) : (s.setRegBit id n).assoc k = s.assoc k := rfl
@[simp] theorem State.engine_setRegBit (id : RegId) (n : Nat) (k : Nat) : (s.setRegBit id n).engine k = s.engine k := rfl
@[simp] theorem State.pair_setRegBit (id : RegId) (n : Nat) (k : Nat) : (s.setRegBit id n).pair k = s.pair k := rfl
@[simp] theorem State.queue_setRegBit (id : RegId) (n : Nat) (k : Nat) : (s.setRegBit id n).queue k = s.queue k := rfl
@[simp] theorem State.port_setRegBit (id : RegId) (n : Nat) (k : Nat) : (s.setRegBit id n).port k = s.port k := rfl
@[simp] theorem State.group_setRegBit (id : RegId) (n : Nat) (k : Nat) : (s.setRegBit id n).group k = s.group k := rfl
@[simp] theorem State.lane_setRegBit (id : RegId) (n : Nat) (k : Nat) : (s.setRegBit id n).lane k = s.lane k := rfl
@[simp] theorem State.wport_setRegBit (id : RegId) (n : Nat) (k : Nat) : (s.setRegBit id n).wport k = s.wport k := rfl
@[simp] theorem State.dom_setRegBit (id : RegId) (n : Nat) (k : Nat) : (s.setRegBit id n).dom k = s.dom k := rfl
@[simp] theorem State.page_setRegBit (id : RegId) (n : Nat) (k : Nat) : (s.setRegBit id n).page k = s.page k := rfl
@[simp] theorem State.bks_setRegBit (id : RegId) (n : Nat) (k : Nat) : (s.setRegBit id n).bks k = s.bks k := rfl
@[simp] theorem State.tsrc_setRegBit (id : RegId) (n : Nat) (k : Nat) : (s.setRegBit id n).tsrc k = s.tsrc k := rfl
@[simp] theorem State.ring_setRegBit (id : RegId) (n : Nat) (k m : Nat) : (s.setRegBit id n).ring k m = s.ring k m := rfl
@[simp] theorem State.bob_emit (o : Out) (k : Nat) : (s.emit o).bob k = s.bob k := rfl
@[simp] theorem State.clu_emit (o : Out) (k : Nat) : (s.emit o).clu k = s.clu k := rfl
@[simp] theorem State.pick_emit (o : Out) (k : Nat) : (s.emit o).pick k = s.pick k := rfl
@[simp] theorem State.assoc_emit (o : Out) (k : Nat) : (s.emit o).assoc k = s.assoc k := rfl
@[simp] theorem State.engine_emit (o : Out) (k : Nat) : (s.emit o).engine k = s.engine k := rfl
@[simp] theorem State.pair_emit (o : Out) (k : Nat) : (s.emit o).pair k = s.pair k := rfl
@[simp] theorem State.queue_emit (o : Out) (k : Nat) : (s.emit o).queue k = s.queue k := rfl
@[simp] theorem State.port_emit (o : Out) (k : Nat) : (s.emit o).port k = s.port k := rfl
@[simp] theorem State.group_emit (o : Out) (k : Nat) : (s.emit o).group k = s.group k := rfl
@[simp] theorem State.lane_emit (o : Out) (k : Nat) : (s.emit o).lane k = s.lane k := rfl
@[simp] theorem State.wport_emit (o : Out) (k : Nat) : (s.emit o).wport k = s.wport k := rfl
@[simp] theorem State.dom_emit (o : Out) (k : Nat) : (s.emit o).dom k = s.dom k := rfl
@[simp] theorem State.page_emit (o : Out) (k : Nat) : (s.emit o).page k = s.page k := rfl
@[simp] theorem State.bks_emit (o : Out) (k : Nat) : (s.emit o).bks k = s.bks k := rfl
@[simp] theorem State.tsrc_emit (o : Out) (k : Nat) : (s.emit o).tsrc k = s.tsrc k := rfl
@[simp] theorem State.ring_emit (o : Out) (k m : Nat) : (s.emit o).ring k m = s.ring k m := rfl
@[simp] theorem State.reg_emit (o : Out) (k : RegId) (m n : Nat) : (s.emit o).reg k m n = s.reg k m n := rfl
@[simp] theorem State.bob_touchDom (d : Nat) (k : Nat) : (s.touchDom d).bob k = s.bob k := rfl
@[simp] theorem State.clu_touchDom (d : Nat) (k : Nat) : (s.touchDom d).clu k = s.clu k := rfl
@[simp] theorem State.pick_touchDom (d : Nat) (k : Nat) : (s.touchDom d).pick k = s.pick k := rfl
@[simp] theorem State.assoc_touchDom (d : Nat) (k : Nat) : (s.touchDom d).assoc k = s.assoc k := rfl
@[simp] theorem State.engine_touchDom (d : Nat) (k : Nat) : (s.touchDom d).engine k = s.engine k := rfl
@[simp] theorem State.pair_touchDom (d : Nat) (k : Nat) : (s.touchDom d).pair k = s.pair k := rfl
@[simp] theorem State.queue_touchDom (d : Nat) (k : Nat) : (s.touchDom d).queue k = s.queue k := rfl
@[simp] theorem State.port_touchDom (d : Nat) (k : Nat) : (s.touchDom d).port k = s.port k := rfl
@[simp] theorem State.group_touchDom (d : Nat) (k : Nat) : (s.touchDom d).group k = s.group k := rfl
@[simp] theorem State.lane_touchDom (d : Nat) (k : Nat) : (s.touchDom d).lane k = s.lane k := rfl
@[simp] theorem State.wport_touchDom (d : Nat) (k : Nat) : (s.touchDom d).wport k = s.wport k := rfl
@[simp] theorem State.page_touchDom (d : Nat) (k : Nat) : (s.touchDom d).page k = s.page k := rfl
@[simp] theorem State.bks_touchDom (d : Nat) (k : Nat) : (s.touchDom d).bks k = s.bks k := rfl
@[simp] theorem State.tsrc_touchDom (d : Nat) (k : Nat) : (s.touchDom d).tsrc k = s.tsrc k := rfl
@[simp] theorem State.ring_touchDom (d : Nat) (k m : Nat) : (s.touchDom d).ring k m = s.ring k m := rfl
@[simp] theorem State.reg_touchDom (d : Nat) (k : RegId) (m n : Nat) : (s.touchDom d).reg k m n = s.reg k m n := rfl

end Sys2Proof.Machine
end

