-- ==== Sys2Proof/Laws/Ops.lean ====
section
/-! SUPPORT. Laws of the shared operations: for each, the parts of the state it leaves as they were, so that a proof about
a command that uses it never unfolds it. -/

namespace Sys2Proof.Machine

variable (s : State)

/-- err changes at most: regs, hif. -/
@[simp] theorem State.err_keeps (f bit : Nat) :
    (s.err f bit).pending = s.pending ∧ (s.err f bit).variant = s.variant ∧ (s.err f bit).stepping = s.stepping ∧
      (s.err f bit).shu = s.shu ∧ (s.err f bit).beam = s.beam ∧ (s.err f bit).tab = s.tab ∧
      (s.err f bit).cie = s.cie ∧ (s.err f bit).sch = s.sch ∧ (s.err f bit).wov = s.wov ∧
      (s.err f bit).weft = s.weft ∧ (s.err f bit).msc = s.msc ∧ (s.err f bit).kcu = s.kcu ∧
      (s.err f bit).tmu = s.tmu ∧ (s.err f bit).bbx = s.bbx ∧ (s.err f bit).pmc = s.pmc ∧
      (s.err f bit).evc = s.evc ∧ (s.err f bit).tb = s.tb ∧ (s.err f bit).pins = s.pins ∧
      (s.err f bit).out = s.out ∧ (s.err f bit).free = s.free := by
  simp [State.err]

@[simp] theorem State.err_reads (f bit : Nat) (i0 : Nat) :
    (s.err f bit).bob i0 = s.bob i0 ∧ (s.err f bit).clu i0 = s.clu i0 ∧ (s.err f bit).pick i0 = s.pick i0 ∧
      (s.err f bit).assoc i0 = s.assoc i0 ∧ (s.err f bit).engine i0 = s.engine i0 ∧
      (s.err f bit).pair i0 = s.pair i0 ∧ (s.err f bit).queue i0 = s.queue i0 ∧ (s.err f bit).port i0 = s.port i0 ∧
      (s.err f bit).group i0 = s.group i0 ∧ (s.err f bit).lane i0 = s.lane i0 ∧
      (s.err f bit).wport i0 = s.wport i0 ∧ (s.err f bit).dom i0 = s.dom i0 ∧ (s.err f bit).bks i0 = s.bks i0 ∧
      (s.err f bit).tsrc i0 = s.tsrc i0 := by
  simp [State.bob, State.clu, State.pick, State.assoc, State.engine, State.pair, State.queue, State.port, State.group, State.lane, State.wport, State.dom, State.bks, State.tsrc]

/-- accessErr changes at most: regs, hif. -/
@[simp] theorem State.accessErr_keeps (f : Nat) (bar2 : Bool) (off bit : Nat) :
    (s.accessErr f bar2 off bit).pending = s.pending ∧ (s.accessErr f bar2 off bit).variant = s.variant ∧
      (s.accessErr f bar2 off bit).stepping = s.stepping ∧ (s.accessErr f bar2 off bit).shu = s.shu ∧
      (s.accessErr f bar2 off bit).beam = s.beam ∧ (s.accessErr f bar2 off bit).tab = s.tab ∧
      (s.accessErr f bar2 off bit).cie = s.cie ∧ (s.accessErr f bar2 off bit).sch = s.sch ∧
      (s.accessErr f bar2 off bit).wov = s.wov ∧ (s.accessErr f bar2 off bit).weft = s.weft ∧
      (s.accessErr f bar2 off bit).msc = s.msc ∧ (s.accessErr f bar2 off bit).kcu = s.kcu ∧
      (s.accessErr f bar2 off bit).tmu = s.tmu ∧ (s.accessErr f bar2 off bit).bbx = s.bbx ∧
      (s.accessErr f bar2 off bit).pmc = s.pmc ∧ (s.accessErr f bar2 off bit).evc = s.evc ∧
      (s.accessErr f bar2 off bit).tb = s.tb ∧ (s.accessErr f bar2 off bit).pins = s.pins ∧
      (s.accessErr f bar2 off bit).out = s.out ∧ (s.accessErr f bar2 off bit).free = s.free := by
  simp [State.accessErr]

@[simp] theorem State.accessErr_reads (f : Nat) (bar2 : Bool) (off bit : Nat) (i0 : Nat) :
    (s.accessErr f bar2 off bit).bob i0 = s.bob i0 ∧ (s.accessErr f bar2 off bit).clu i0 = s.clu i0 ∧
      (s.accessErr f bar2 off bit).pick i0 = s.pick i0 ∧ (s.accessErr f bar2 off bit).assoc i0 = s.assoc i0 ∧
      (s.accessErr f bar2 off bit).engine i0 = s.engine i0 ∧ (s.accessErr f bar2 off bit).pair i0 = s.pair i0 ∧
      (s.accessErr f bar2 off bit).queue i0 = s.queue i0 ∧ (s.accessErr f bar2 off bit).port i0 = s.port i0 ∧
      (s.accessErr f bar2 off bit).group i0 = s.group i0 ∧ (s.accessErr f bar2 off bit).lane i0 = s.lane i0 ∧
      (s.accessErr f bar2 off bit).wport i0 = s.wport i0 ∧ (s.accessErr f bar2 off bit).dom i0 = s.dom i0 ∧
      (s.accessErr f bar2 off bit).bks i0 = s.bks i0 ∧ (s.accessErr f bar2 off bit).tsrc i0 = s.tsrc i0 := by
  simp [State.bob, State.clu, State.pick, State.assoc, State.engine, State.pair, State.queue, State.port, State.group, State.lane, State.wport, State.dom, State.bks, State.tsrc]

/-- signal changes at most: hif, out. -/
@[simp] theorem State.signal_keeps (f vec : Nat) :
    (s.signal f vec).pending = s.pending ∧ (s.signal f vec).variant = s.variant ∧
      (s.signal f vec).stepping = s.stepping ∧ (s.signal f vec).regs = s.regs ∧ (s.signal f vec).shu = s.shu ∧
      (s.signal f vec).beam = s.beam ∧ (s.signal f vec).tab = s.tab ∧ (s.signal f vec).cie = s.cie ∧
      (s.signal f vec).sch = s.sch ∧ (s.signal f vec).wov = s.wov ∧ (s.signal f vec).weft = s.weft ∧
      (s.signal f vec).msc = s.msc ∧ (s.signal f vec).kcu = s.kcu ∧ (s.signal f vec).tmu = s.tmu ∧
      (s.signal f vec).bbx = s.bbx ∧ (s.signal f vec).pmc = s.pmc ∧ (s.signal f vec).evc = s.evc ∧
      (s.signal f vec).tb = s.tb ∧ (s.signal f vec).pins = s.pins ∧ (s.signal f vec).free = s.free := by
  unfold State.signal
  (repeat' split) <;> simp

@[simp] theorem State.signal_reads (f vec : Nat) (i0 j0 : Nat) (id0 : RegId) :
    (s.signal f vec).bob i0 = s.bob i0 ∧ (s.signal f vec).clu i0 = s.clu i0 ∧
      (s.signal f vec).pick i0 = s.pick i0 ∧ (s.signal f vec).assoc i0 = s.assoc i0 ∧
      (s.signal f vec).engine i0 = s.engine i0 ∧ (s.signal f vec).pair i0 = s.pair i0 ∧
      (s.signal f vec).queue i0 = s.queue i0 ∧ (s.signal f vec).port i0 = s.port i0 ∧
      (s.signal f vec).group i0 = s.group i0 ∧ (s.signal f vec).lane i0 = s.lane i0 ∧
      (s.signal f vec).wport i0 = s.wport i0 ∧ (s.signal f vec).dom i0 = s.dom i0 ∧
      (s.signal f vec).bks i0 = s.bks i0 ∧ (s.signal f vec).tsrc i0 = s.tsrc i0 ∧
      (s.signal f vec).reg id0 i0 j0 = s.reg id0 i0 j0 := by
  simp [State.bob, State.clu, State.pick, State.assoc, State.engine, State.pair, State.queue, State.port, State.group, State.lane, State.wport, State.dom, State.bks, State.tsrc, State.reg]

/-- ringSignal changes at most: hif, out. -/
@[simp] theorem State.ringSignal_keeps (f r : Nat) :
    (s.ringSignal f r).pending = s.pending ∧ (s.ringSignal f r).variant = s.variant ∧
      (s.ringSignal f r).stepping = s.stepping ∧ (s.ringSignal f r).regs = s.regs ∧
      (s.ringSignal f r).shu = s.shu ∧ (s.ringSignal f r).beam = s.beam ∧ (s.ringSignal f r).tab = s.tab ∧
      (s.ringSignal f r).cie = s.cie ∧ (s.ringSignal f r).sch = s.sch ∧ (s.ringSignal f r).wov = s.wov ∧
      (s.ringSignal f r).weft = s.weft ∧ (s.ringSignal f r).msc = s.msc ∧ (s.ringSignal f r).kcu = s.kcu ∧
      (s.ringSignal f r).tmu = s.tmu ∧ (s.ringSignal f r).bbx = s.bbx ∧ (s.ringSignal f r).pmc = s.pmc ∧
      (s.ringSignal f r).evc = s.evc ∧ (s.ringSignal f r).tb = s.tb ∧ (s.ringSignal f r).pins = s.pins ∧
      (s.ringSignal f r).free = s.free := by
  unfold State.ringSignal
  dsimp only
  (repeat' split) <;> simp

@[simp] theorem State.ringSignal_reads (f r : Nat) (i0 j0 : Nat) (id0 : RegId) :
    (s.ringSignal f r).bob i0 = s.bob i0 ∧ (s.ringSignal f r).clu i0 = s.clu i0 ∧
      (s.ringSignal f r).pick i0 = s.pick i0 ∧ (s.ringSignal f r).assoc i0 = s.assoc i0 ∧
      (s.ringSignal f r).engine i0 = s.engine i0 ∧ (s.ringSignal f r).pair i0 = s.pair i0 ∧
      (s.ringSignal f r).queue i0 = s.queue i0 ∧ (s.ringSignal f r).port i0 = s.port i0 ∧
      (s.ringSignal f r).group i0 = s.group i0 ∧ (s.ringSignal f r).lane i0 = s.lane i0 ∧
      (s.ringSignal f r).wport i0 = s.wport i0 ∧ (s.ringSignal f r).dom i0 = s.dom i0 ∧
      (s.ringSignal f r).bks i0 = s.bks i0 ∧ (s.ringSignal f r).tsrc i0 = s.tsrc i0 ∧
      (s.ringSignal f r).reg id0 i0 j0 = s.reg id0 i0 j0 := by
  simp [State.bob, State.clu, State.pick, State.assoc, State.engine, State.pair, State.queue, State.port, State.group, State.lane, State.wport, State.dom, State.bks, State.tsrc, State.reg]

/-- ringDone changes at most: hif, out. -/
@[simp] theorem State.ringDone_keeps (f r : Nat) (now : Bool) :
    (s.ringDone f r now).pending = s.pending ∧ (s.ringDone f r now).variant = s.variant ∧
      (s.ringDone f r now).stepping = s.stepping ∧ (s.ringDone f r now).regs = s.regs ∧
      (s.ringDone f r now).shu = s.shu ∧ (s.ringDone f r now).beam = s.beam ∧ (s.ringDone f r now).tab = s.tab ∧
      (s.ringDone f r now).cie = s.cie ∧ (s.ringDone f r now).sch = s.sch ∧ (s.ringDone f r now).wov = s.wov ∧
      (s.ringDone f r now).weft = s.weft ∧ (s.ringDone f r now).msc = s.msc ∧ (s.ringDone f r now).kcu = s.kcu ∧
      (s.ringDone f r now).tmu = s.tmu ∧ (s.ringDone f r now).bbx = s.bbx ∧ (s.ringDone f r now).pmc = s.pmc ∧
      (s.ringDone f r now).evc = s.evc ∧ (s.ringDone f r now).tb = s.tb ∧ (s.ringDone f r now).pins = s.pins ∧
      (s.ringDone f r now).free = s.free := by
  unfold State.ringDone
  dsimp only
  (repeat' split) <;> simp

@[simp] theorem State.ringDone_reads (f r : Nat) (now : Bool) (i0 j0 : Nat) (id0 : RegId) :
    (s.ringDone f r now).bob i0 = s.bob i0 ∧ (s.ringDone f r now).clu i0 = s.clu i0 ∧
      (s.ringDone f r now).pick i0 = s.pick i0 ∧ (s.ringDone f r now).assoc i0 = s.assoc i0 ∧
      (s.ringDone f r now).engine i0 = s.engine i0 ∧ (s.ringDone f r now).pair i0 = s.pair i0 ∧
      (s.ringDone f r now).queue i0 = s.queue i0 ∧ (s.ringDone f r now).port i0 = s.port i0 ∧
      (s.ringDone f r now).group i0 = s.group i0 ∧ (s.ringDone f r now).lane i0 = s.lane i0 ∧
      (s.ringDone f r now).wport i0 = s.wport i0 ∧ (s.ringDone f r now).dom i0 = s.dom i0 ∧
      (s.ringDone f r now).bks i0 = s.bks i0 ∧ (s.ringDone f r now).tsrc i0 = s.tsrc i0 ∧
      (s.ringDone f r now).reg id0 i0 j0 = s.reg id0 i0 j0 := by
  simp [State.bob, State.clu, State.pick, State.assoc, State.engine, State.pair, State.queue, State.port, State.group, State.lane, State.wport, State.dom, State.bks, State.tsrc, State.reg]

/-- ringStop changes at most: regs, hif, out. -/
@[simp] theorem State.ringStop_keeps (f r : Nat) (code : BitVec 3) :
    (s.ringStop f r code).pending = s.pending ∧ (s.ringStop f r code).variant = s.variant ∧
      (s.ringStop f r code).stepping = s.stepping ∧ (s.ringStop f r code).shu = s.shu ∧
      (s.ringStop f r code).beam = s.beam ∧ (s.ringStop f r code).tab = s.tab ∧ (s.ringStop f r code).cie = s.cie ∧
      (s.ringStop f r code).sch = s.sch ∧ (s.ringStop f r code).wov = s.wov ∧ (s.ringStop f r code).weft = s.weft ∧
      (s.ringStop f r code).msc = s.msc ∧ (s.ringStop f r code).kcu = s.kcu ∧ (s.ringStop f r code).tmu = s.tmu ∧
      (s.ringStop f r code).bbx = s.bbx ∧ (s.ringStop f r code).pmc = s.pmc ∧ (s.ringStop f r code).evc = s.evc ∧
      (s.ringStop f r code).tb = s.tb ∧ (s.ringStop f r code).pins = s.pins ∧ (s.ringStop f r code).free = s.free := by
  unfold State.ringStop
  dsimp only
  (repeat' split) <;> simp

@[simp] theorem State.ringStop_reads (f r : Nat) (code : BitVec 3) (i0 : Nat) :
    (s.ringStop f r code).bob i0 = s.bob i0 ∧ (s.ringStop f r code).clu i0 = s.clu i0 ∧
      (s.ringStop f r code).pick i0 = s.pick i0 ∧ (s.ringStop f r code).assoc i0 = s.assoc i0 ∧
      (s.ringStop f r code).engine i0 = s.engine i0 ∧ (s.ringStop f r code).pair i0 = s.pair i0 ∧
      (s.ringStop f r code).queue i0 = s.queue i0 ∧ (s.ringStop f r code).port i0 = s.port i0 ∧
      (s.ringStop f r code).group i0 = s.group i0 ∧ (s.ringStop f r code).lane i0 = s.lane i0 ∧
      (s.ringStop f r code).wport i0 = s.wport i0 ∧ (s.ringStop f r code).dom i0 = s.dom i0 ∧
      (s.ringStop f r code).bks i0 = s.bks i0 ∧ (s.ringStop f r code).tsrc i0 = s.tsrc i0 := by
  simp [State.bob, State.clu, State.pick, State.assoc, State.engine, State.pair, State.queue, State.port, State.group, State.lane, State.wport, State.dom, State.bks, State.tsrc]

/-- complete changes at most: hif, out. -/
@[simp] theorem State.complete_keeps (f r : Nat) (st : HStat) (r0 r1 r2 : Nat) (tr : Bool) :
    (s.complete f r st r0 r1 r2 tr).pending = s.pending ∧ (s.complete f r st r0 r1 r2 tr).variant = s.variant ∧
      (s.complete f r st r0 r1 r2 tr).stepping = s.stepping ∧ (s.complete f r st r0 r1 r2 tr).regs = s.regs ∧
      (s.complete f r st r0 r1 r2 tr).shu = s.shu ∧ (s.complete f r st r0 r1 r2 tr).beam = s.beam ∧
      (s.complete f r st r0 r1 r2 tr).tab = s.tab ∧ (s.complete f r st r0 r1 r2 tr).cie = s.cie ∧
      (s.complete f r st r0 r1 r2 tr).sch = s.sch ∧ (s.complete f r st r0 r1 r2 tr).wov = s.wov ∧
      (s.complete f r st r0 r1 r2 tr).weft = s.weft ∧ (s.complete f r st r0 r1 r2 tr).msc = s.msc ∧
      (s.complete f r st r0 r1 r2 tr).kcu = s.kcu ∧ (s.complete f r st r0 r1 r2 tr).tmu = s.tmu ∧
      (s.complete f r st r0 r1 r2 tr).bbx = s.bbx ∧ (s.complete f r st r0 r1 r2 tr).pmc = s.pmc ∧
      (s.complete f r st r0 r1 r2 tr).evc = s.evc ∧ (s.complete f r st r0 r1 r2 tr).tb = s.tb ∧
      (s.complete f r st r0 r1 r2 tr).pins = s.pins ∧ (s.complete f r st r0 r1 r2 tr).free = s.free := by
  unfold State.complete
  dsimp only
  (repeat' split) <;> simp

@[simp] theorem State.complete_reads (f r : Nat) (st : HStat) (r0 r1 r2 : Nat) (tr : Bool) (i0 j0 : Nat) (id0 : RegId) :
    (s.complete f r st r0 r1 r2 tr).bob i0 = s.bob i0 ∧ (s.complete f r st r0 r1 r2 tr).clu i0 = s.clu i0 ∧
      (s.complete f r st r0 r1 r2 tr).pick i0 = s.pick i0 ∧ (s.complete f r st r0 r1 r2 tr).assoc i0 = s.assoc i0 ∧
      (s.complete f r st r0 r1 r2 tr).engine i0 = s.engine i0 ∧
      (s.complete f r st r0 r1 r2 tr).pair i0 = s.pair i0 ∧ (s.complete f r st r0 r1 r2 tr).queue i0 = s.queue i0 ∧
      (s.complete f r st r0 r1 r2 tr).port i0 = s.port i0 ∧ (s.complete f r st r0 r1 r2 tr).group i0 = s.group i0 ∧
      (s.complete f r st r0 r1 r2 tr).lane i0 = s.lane i0 ∧ (s.complete f r st r0 r1 r2 tr).wport i0 = s.wport i0 ∧
      (s.complete f r st r0 r1 r2 tr).dom i0 = s.dom i0 ∧ (s.complete f r st r0 r1 r2 tr).bks i0 = s.bks i0 ∧
      (s.complete f r st r0 r1 r2 tr).tsrc i0 = s.tsrc i0 ∧
      (s.complete f r st r0 r1 r2 tr).reg id0 i0 j0 = s.reg id0 i0 j0 := by
  simp [State.bob, State.clu, State.pick, State.assoc, State.engine, State.pair, State.queue, State.port, State.group, State.lane, State.wport, State.dom, State.bks, State.tsrc, State.reg]

/-- completeOut changes at most: hif, out. -/
@[simp] theorem State.completeOut_keeps (f r : Nat) (o : Bytes) (n : Bool) :
    (s.completeOut f r o n).pending = s.pending ∧ (s.completeOut f r o n).variant = s.variant ∧
      (s.completeOut f r o n).stepping = s.stepping ∧ (s.completeOut f r o n).regs = s.regs ∧
      (s.completeOut f r o n).shu = s.shu ∧ (s.completeOut f r o n).beam = s.beam ∧
      (s.completeOut f r o n).tab = s.tab ∧ (s.completeOut f r o n).cie = s.cie ∧
      (s.completeOut f r o n).sch = s.sch ∧ (s.completeOut f r o n).wov = s.wov ∧
      (s.completeOut f r o n).weft = s.weft ∧ (s.completeOut f r o n).msc = s.msc ∧
      (s.completeOut f r o n).kcu = s.kcu ∧ (s.completeOut f r o n).tmu = s.tmu ∧
      (s.completeOut f r o n).bbx = s.bbx ∧ (s.completeOut f r o n).pmc = s.pmc ∧
      (s.completeOut f r o n).evc = s.evc ∧ (s.completeOut f r o n).tb = s.tb ∧
      (s.completeOut f r o n).pins = s.pins ∧ (s.completeOut f r o n).free = s.free := by
  unfold State.completeOut
  (repeat' split) <;> simp

@[simp] theorem State.completeOut_reads (f r : Nat) (o : Bytes) (n : Bool) (i0 j0 : Nat) (id0 : RegId) :
    (s.completeOut f r o n).bob i0 = s.bob i0 ∧ (s.completeOut f r o n).clu i0 = s.clu i0 ∧
      (s.completeOut f r o n).pick i0 = s.pick i0 ∧ (s.completeOut f r o n).assoc i0 = s.assoc i0 ∧
      (s.completeOut f r o n).engine i0 = s.engine i0 ∧ (s.completeOut f r o n).pair i0 = s.pair i0 ∧
      (s.completeOut f r o n).queue i0 = s.queue i0 ∧ (s.completeOut f r o n).port i0 = s.port i0 ∧
      (s.completeOut f r o n).group i0 = s.group i0 ∧ (s.completeOut f r o n).lane i0 = s.lane i0 ∧
      (s.completeOut f r o n).wport i0 = s.wport i0 ∧ (s.completeOut f r o n).dom i0 = s.dom i0 ∧
      (s.completeOut f r o n).bks i0 = s.bks i0 ∧ (s.completeOut f r o n).tsrc i0 = s.tsrc i0 ∧
      (s.completeOut f r o n).reg id0 i0 j0 = s.reg id0 i0 j0 := by
  simp [State.bob, State.clu, State.pick, State.assoc, State.engine, State.pair, State.queue, State.port, State.group, State.lane, State.wport, State.dom, State.bks, State.tsrc, State.reg]

/-- event changes at most: hif, out. -/
@[simp] theorem State.event_keeps (d : Nat) (u : EvUnit) (c w0 w1 w2 w3 : Nat) :
    (s.event d u c w0 w1 w2 w3).pending = s.pending ∧ (s.event d u c w0 w1 w2 w3).variant = s.variant ∧
      (s.event d u c w0 w1 w2 w3).stepping = s.stepping ∧ (s.event d u c w0 w1 w2 w3).regs = s.regs ∧
      (s.event d u c w0 w1 w2 w3).shu = s.shu ∧ (s.event d u c w0 w1 w2 w3).beam = s.beam ∧
      (s.event d u c w0 w1 w2 w3).tab = s.tab ∧ (s.event d u c w0 w1 w2 w3).cie = s.cie ∧
      (s.event d u c w0 w1 w2 w3).sch = s.sch ∧ (s.event d u c w0 w1 w2 w3).wov = s.wov ∧
      (s.event d u c w0 w1 w2 w3).weft = s.weft ∧ (s.event d u c w0 w1 w2 w3).msc = s.msc ∧
      (s.event d u c w0 w1 w2 w3).kcu = s.kcu ∧ (s.event d u c w0 w1 w2 w3).tmu = s.tmu ∧
      (s.event d u c w0 w1 w2 w3).bbx = s.bbx ∧ (s.event d u c w0 w1 w2 w3).pmc = s.pmc ∧
      (s.event d u c w0 w1 w2 w3).evc = s.evc ∧ (s.event d u c w0 w1 w2 w3).tb = s.tb ∧
      (s.event d u c w0 w1 w2 w3).pins = s.pins ∧ (s.event d u c w0 w1 w2 w3).free = s.free := by
  unfold State.event
  dsimp only
  (repeat' split) <;> simp

@[simp] theorem State.event_reads (d : Nat) (u : EvUnit) (c w0 w1 w2 w3 : Nat) (i0 j0 : Nat) (id0 : RegId) :
    (s.event d u c w0 w1 w2 w3).bob i0 = s.bob i0 ∧ (s.event d u c w0 w1 w2 w3).clu i0 = s.clu i0 ∧
      (s.event d u c w0 w1 w2 w3).pick i0 = s.pick i0 ∧ (s.event d u c w0 w1 w2 w3).assoc i0 = s.assoc i0 ∧
      (s.event d u c w0 w1 w2 w3).engine i0 = s.engine i0 ∧ (s.event d u c w0 w1 w2 w3).pair i0 = s.pair i0 ∧
      (s.event d u c w0 w1 w2 w3).queue i0 = s.queue i0 ∧ (s.event d u c w0 w1 w2 w3).port i0 = s.port i0 ∧
      (s.event d u c w0 w1 w2 w3).group i0 = s.group i0 ∧ (s.event d u c w0 w1 w2 w3).lane i0 = s.lane i0 ∧
      (s.event d u c w0 w1 w2 w3).wport i0 = s.wport i0 ∧ (s.event d u c w0 w1 w2 w3).dom i0 = s.dom i0 ∧
      (s.event d u c w0 w1 w2 w3).bks i0 = s.bks i0 ∧ (s.event d u c w0 w1 w2 w3).tsrc i0 = s.tsrc i0 ∧
      (s.event d u c w0 w1 w2 w3).reg id0 i0 j0 = s.reg id0 i0 j0 := by
  simp [State.bob, State.clu, State.pick, State.assoc, State.engine, State.pair, State.queue, State.port, State.group, State.lane, State.wport, State.dom, State.bks, State.tsrc, State.reg]

/-- evcEnd changes at most: evc, hif, out. -/
@[simp] theorem State.evcEnd_keeps (n : Nat) :
    (s.evcEnd n).pending = s.pending ∧ (s.evcEnd n).variant = s.variant ∧ (s.evcEnd n).stepping = s.stepping ∧
      (s.evcEnd n).regs = s.regs ∧ (s.evcEnd n).shu = s.shu ∧ (s.evcEnd n).beam = s.beam ∧
      (s.evcEnd n).tab = s.tab ∧ (s.evcEnd n).cie = s.cie ∧ (s.evcEnd n).sch = s.sch ∧ (s.evcEnd n).wov = s.wov ∧
      (s.evcEnd n).weft = s.weft ∧ (s.evcEnd n).msc = s.msc ∧ (s.evcEnd n).kcu = s.kcu ∧ (s.evcEnd n).tmu = s.tmu ∧
      (s.evcEnd n).bbx = s.bbx ∧ (s.evcEnd n).pmc = s.pmc ∧ (s.evcEnd n).tb = s.tb ∧ (s.evcEnd n).pins = s.pins ∧
      (s.evcEnd n).free = s.free := by
  unfold State.evcEnd
  dsimp only
  (repeat' split) <;> simp

@[simp] theorem State.evcEnd_reads (n : Nat) (i0 j0 : Nat) (id0 : RegId) :
    (s.evcEnd n).bob i0 = s.bob i0 ∧ (s.evcEnd n).clu i0 = s.clu i0 ∧ (s.evcEnd n).pick i0 = s.pick i0 ∧
      (s.evcEnd n).assoc i0 = s.assoc i0 ∧ (s.evcEnd n).engine i0 = s.engine i0 ∧
      (s.evcEnd n).pair i0 = s.pair i0 ∧ (s.evcEnd n).queue i0 = s.queue i0 ∧ (s.evcEnd n).port i0 = s.port i0 ∧
      (s.evcEnd n).group i0 = s.group i0 ∧ (s.evcEnd n).lane i0 = s.lane i0 ∧ (s.evcEnd n).wport i0 = s.wport i0 ∧
      (s.evcEnd n).dom i0 = s.dom i0 ∧ (s.evcEnd n).bks i0 = s.bks i0 ∧ (s.evcEnd n).tsrc i0 = s.tsrc i0 ∧
      (s.evcEnd n).reg id0 i0 j0 = s.reg id0 i0 j0 := by
  simp [State.bob, State.clu, State.pick, State.assoc, State.engine, State.pair, State.queue, State.port, State.group, State.lane, State.wport, State.dom, State.bks, State.tsrc, State.reg]

/-- evcAdd changes at most: evc, hif, out. -/
@[simp] theorem State.evcAdd_keeps (n a fuel : Nat) :
    (s.evcAdd n a fuel).pending = s.pending ∧ (s.evcAdd n a fuel).variant = s.variant ∧
      (s.evcAdd n a fuel).stepping = s.stepping ∧ (s.evcAdd n a fuel).regs = s.regs ∧
      (s.evcAdd n a fuel).shu = s.shu ∧ (s.evcAdd n a fuel).beam = s.beam ∧ (s.evcAdd n a fuel).tab = s.tab ∧
      (s.evcAdd n a fuel).cie = s.cie ∧ (s.evcAdd n a fuel).sch = s.sch ∧ (s.evcAdd n a fuel).wov = s.wov ∧
      (s.evcAdd n a fuel).weft = s.weft ∧ (s.evcAdd n a fuel).msc = s.msc ∧ (s.evcAdd n a fuel).kcu = s.kcu ∧
      (s.evcAdd n a fuel).tmu = s.tmu ∧ (s.evcAdd n a fuel).bbx = s.bbx ∧ (s.evcAdd n a fuel).pmc = s.pmc ∧
      (s.evcAdd n a fuel).tb = s.tb ∧ (s.evcAdd n a fuel).pins = s.pins ∧ (s.evcAdd n a fuel).free = s.free := by
  induction fuel generalizing s n a with
  | zero => simp [State.evcAdd]
  | succ fuel ih =>
    unfold State.evcAdd
    dsimp only
    (repeat' split) <;> simp [ih]

@[simp] theorem State.evcAdd_reads (n a fuel : Nat) (i0 j0 : Nat) (id0 : RegId) :
    (s.evcAdd n a fuel).bob i0 = s.bob i0 ∧ (s.evcAdd n a fuel).clu i0 = s.clu i0 ∧
      (s.evcAdd n a fuel).pick i0 = s.pick i0 ∧ (s.evcAdd n a fuel).assoc i0 = s.assoc i0 ∧
      (s.evcAdd n a fuel).engine i0 = s.engine i0 ∧ (s.evcAdd n a fuel).pair i0 = s.pair i0 ∧
      (s.evcAdd n a fuel).queue i0 = s.queue i0 ∧ (s.evcAdd n a fuel).port i0 = s.port i0 ∧
      (s.evcAdd n a fuel).group i0 = s.group i0 ∧ (s.evcAdd n a fuel).lane i0 = s.lane i0 ∧
      (s.evcAdd n a fuel).wport i0 = s.wport i0 ∧ (s.evcAdd n a fuel).dom i0 = s.dom i0 ∧
      (s.evcAdd n a fuel).bks i0 = s.bks i0 ∧ (s.evcAdd n a fuel).tsrc i0 = s.tsrc i0 ∧
      (s.evcAdd n a fuel).reg id0 i0 j0 = s.reg id0 i0 j0 := by
  simp [State.bob, State.clu, State.pick, State.assoc, State.engine, State.pair, State.queue, State.port, State.group, State.lane, State.wport, State.dom, State.bks, State.tsrc, State.reg]

/-- occurAll changes at most: evc, hif, out. -/
@[simp] theorem State.occurAll_keeps (a b c d : Nat) (k : Option Nat) (m : Nat) (l : List Nat) :
    (s.occurAll a b c d k m l).pending = s.pending ∧ (s.occurAll a b c d k m l).variant = s.variant ∧
      (s.occurAll a b c d k m l).stepping = s.stepping ∧ (s.occurAll a b c d k m l).regs = s.regs ∧
      (s.occurAll a b c d k m l).shu = s.shu ∧ (s.occurAll a b c d k m l).beam = s.beam ∧
      (s.occurAll a b c d k m l).tab = s.tab ∧ (s.occurAll a b c d k m l).cie = s.cie ∧
      (s.occurAll a b c d k m l).sch = s.sch ∧ (s.occurAll a b c d k m l).wov = s.wov ∧
      (s.occurAll a b c d k m l).weft = s.weft ∧ (s.occurAll a b c d k m l).msc = s.msc ∧
      (s.occurAll a b c d k m l).kcu = s.kcu ∧ (s.occurAll a b c d k m l).tmu = s.tmu ∧
      (s.occurAll a b c d k m l).bbx = s.bbx ∧ (s.occurAll a b c d k m l).pmc = s.pmc ∧
      (s.occurAll a b c d k m l).tb = s.tb ∧ (s.occurAll a b c d k m l).pins = s.pins ∧
      (s.occurAll a b c d k m l).free = s.free := by
  induction l generalizing s with
  | nil => simp [State.occurAll]
  | cons n ns ih =>
    simp only [State.occurAll]
    split <;> simp [ih]

@[simp] theorem State.occurAll_reads (a b c d : Nat) (k : Option Nat) (m : Nat) (l : List Nat) (i0 j0 : Nat) (id0 : RegId) :
    (s.occurAll a b c d k m l).bob i0 = s.bob i0 ∧ (s.occurAll a b c d k m l).clu i0 = s.clu i0 ∧
      (s.occurAll a b c d k m l).pick i0 = s.pick i0 ∧ (s.occurAll a b c d k m l).assoc i0 = s.assoc i0 ∧
      (s.occurAll a b c d k m l).engine i0 = s.engine i0 ∧ (s.occurAll a b c d k m l).pair i0 = s.pair i0 ∧
      (s.occurAll a b c d k m l).queue i0 = s.queue i0 ∧ (s.occurAll a b c d k m l).port i0 = s.port i0 ∧
      (s.occurAll a b c d k m l).group i0 = s.group i0 ∧ (s.occurAll a b c d k m l).lane i0 = s.lane i0 ∧
      (s.occurAll a b c d k m l).wport i0 = s.wport i0 ∧ (s.occurAll a b c d k m l).dom i0 = s.dom i0 ∧
      (s.occurAll a b c d k m l).bks i0 = s.bks i0 ∧ (s.occurAll a b c d k m l).tsrc i0 = s.tsrc i0 ∧
      (s.occurAll a b c d k m l).reg id0 i0 j0 = s.reg id0 i0 j0 := by
  simp [State.bob, State.clu, State.pick, State.assoc, State.engine, State.pair, State.queue, State.port, State.group, State.lane, State.wport, State.dom, State.bks, State.tsrc, State.reg]

/-- occurWith changes at most: evc, hif, out. -/
@[simp] theorem State.occurWith_keeps (x : Src) (i d m : Nat) (c : Option Nat) (n : Nat) :
    (s.occurWith x i d m c n).pending = s.pending ∧ (s.occurWith x i d m c n).variant = s.variant ∧
      (s.occurWith x i d m c n).stepping = s.stepping ∧ (s.occurWith x i d m c n).regs = s.regs ∧
      (s.occurWith x i d m c n).shu = s.shu ∧ (s.occurWith x i d m c n).beam = s.beam ∧
      (s.occurWith x i d m c n).tab = s.tab ∧ (s.occurWith x i d m c n).cie = s.cie ∧
      (s.occurWith x i d m c n).sch = s.sch ∧ (s.occurWith x i d m c n).wov = s.wov ∧
      (s.occurWith x i d m c n).weft = s.weft ∧ (s.occurWith x i d m c n).msc = s.msc ∧
      (s.occurWith x i d m c n).kcu = s.kcu ∧ (s.occurWith x i d m c n).tmu = s.tmu ∧
      (s.occurWith x i d m c n).bbx = s.bbx ∧ (s.occurWith x i d m c n).pmc = s.pmc ∧
      (s.occurWith x i d m c n).tb = s.tb ∧ (s.occurWith x i d m c n).pins = s.pins ∧
      (s.occurWith x i d m c n).free = s.free := by
  unfold State.occurWith
  simp

@[simp] theorem State.occurWith_reads (x : Src) (i d m : Nat) (c : Option Nat) (n : Nat) (i0 j0 : Nat) (id0 : RegId) :
    (s.occurWith x i d m c n).bob i0 = s.bob i0 ∧ (s.occurWith x i d m c n).clu i0 = s.clu i0 ∧
      (s.occurWith x i d m c n).pick i0 = s.pick i0 ∧ (s.occurWith x i d m c n).assoc i0 = s.assoc i0 ∧
      (s.occurWith x i d m c n).engine i0 = s.engine i0 ∧ (s.occurWith x i d m c n).pair i0 = s.pair i0 ∧
      (s.occurWith x i d m c n).queue i0 = s.queue i0 ∧ (s.occurWith x i d m c n).port i0 = s.port i0 ∧
      (s.occurWith x i d m c n).group i0 = s.group i0 ∧ (s.occurWith x i d m c n).lane i0 = s.lane i0 ∧
      (s.occurWith x i d m c n).wport i0 = s.wport i0 ∧ (s.occurWith x i d m c n).dom i0 = s.dom i0 ∧
      (s.occurWith x i d m c n).bks i0 = s.bks i0 ∧ (s.occurWith x i d m c n).tsrc i0 = s.tsrc i0 ∧
      (s.occurWith x i d m c n).reg id0 i0 j0 = s.reg id0 i0 j0 := by
  simp [State.bob, State.clu, State.pick, State.assoc, State.engine, State.pair, State.queue, State.port, State.group, State.lane, State.wport, State.dom, State.bks, State.tsrc, State.reg]

/-- occur changes at most: evc, hif, out. -/
@[simp] theorem State.occur_keeps (x : Src) (i n : Nat) :
    (s.occur x i n).pending = s.pending ∧ (s.occur x i n).variant = s.variant ∧
      (s.occur x i n).stepping = s.stepping ∧ (s.occur x i n).regs = s.regs ∧ (s.occur x i n).shu = s.shu ∧
      (s.occur x i n).beam = s.beam ∧ (s.occur x i n).tab = s.tab ∧ (s.occur x i n).cie = s.cie ∧
      (s.occur x i n).sch = s.sch ∧ (s.occur x i n).wov = s.wov ∧ (s.occur x i n).weft = s.weft ∧
      (s.occur x i n).msc = s.msc ∧ (s.occur x i n).kcu = s.kcu ∧ (s.occur x i n).tmu = s.tmu ∧
      (s.occur x i n).bbx = s.bbx ∧ (s.occur x i n).pmc = s.pmc ∧ (s.occur x i n).tb = s.tb ∧
      (s.occur x i n).pins = s.pins ∧ (s.occur x i n).free = s.free := by
  unfold State.occur
  simp

@[simp] theorem State.occur_reads (x : Src) (i n : Nat) (i0 j0 : Nat) (id0 : RegId) :
    (s.occur x i n).bob i0 = s.bob i0 ∧ (s.occur x i n).clu i0 = s.clu i0 ∧ (s.occur x i n).pick i0 = s.pick i0 ∧
      (s.occur x i n).assoc i0 = s.assoc i0 ∧ (s.occur x i n).engine i0 = s.engine i0 ∧
      (s.occur x i n).pair i0 = s.pair i0 ∧ (s.occur x i n).queue i0 = s.queue i0 ∧
      (s.occur x i n).port i0 = s.port i0 ∧ (s.occur x i n).group i0 = s.group i0 ∧
      (s.occur x i n).lane i0 = s.lane i0 ∧ (s.occur x i n).wport i0 = s.wport i0 ∧
      (s.occur x i n).dom i0 = s.dom i0 ∧ (s.occur x i n).bks i0 = s.bks i0 ∧ (s.occur x i n).tsrc i0 = s.tsrc i0 ∧
      (s.occur x i n).reg id0 i0 j0 = s.reg id0 i0 j0 := by
  simp [State.bob, State.clu, State.pick, State.assoc, State.engine, State.pair, State.queue, State.port, State.group, State.lane, State.wport, State.dom, State.bks, State.tsrc, State.reg]

/-- occurPick changes at most: evc, hif, out. -/
@[simp] theorem State.occurPick_keeps (k : Pick) (x : Src) (i : Nat) :
    (s.occurPick k x i).pending = s.pending ∧ (s.occurPick k x i).variant = s.variant ∧
      (s.occurPick k x i).stepping = s.stepping ∧ (s.occurPick k x i).regs = s.regs ∧
      (s.occurPick k x i).shu = s.shu ∧ (s.occurPick k x i).beam = s.beam ∧ (s.occurPick k x i).tab = s.tab ∧
      (s.occurPick k x i).cie = s.cie ∧ (s.occurPick k x i).sch = s.sch ∧ (s.occurPick k x i).wov = s.wov ∧
      (s.occurPick k x i).weft = s.weft ∧ (s.occurPick k x i).msc = s.msc ∧ (s.occurPick k x i).kcu = s.kcu ∧
      (s.occurPick k x i).tmu = s.tmu ∧ (s.occurPick k x i).bbx = s.bbx ∧ (s.occurPick k x i).pmc = s.pmc ∧
      (s.occurPick k x i).tb = s.tb ∧ (s.occurPick k x i).pins = s.pins ∧ (s.occurPick k x i).free = s.free := by
  unfold State.occurPick
  simp

@[simp] theorem State.occurPick_reads (k : Pick) (x : Src) (i : Nat) (i0 j0 : Nat) (id0 : RegId) :
    (s.occurPick k x i).bob i0 = s.bob i0 ∧ (s.occurPick k x i).clu i0 = s.clu i0 ∧
      (s.occurPick k x i).pick i0 = s.pick i0 ∧ (s.occurPick k x i).assoc i0 = s.assoc i0 ∧
      (s.occurPick k x i).engine i0 = s.engine i0 ∧ (s.occurPick k x i).pair i0 = s.pair i0 ∧
      (s.occurPick k x i).queue i0 = s.queue i0 ∧ (s.occurPick k x i).port i0 = s.port i0 ∧
      (s.occurPick k x i).group i0 = s.group i0 ∧ (s.occurPick k x i).lane i0 = s.lane i0 ∧
      (s.occurPick k x i).wport i0 = s.wport i0 ∧ (s.occurPick k x i).dom i0 = s.dom i0 ∧
      (s.occurPick k x i).bks i0 = s.bks i0 ∧ (s.occurPick k x i).tsrc i0 = s.tsrc i0 ∧
      (s.occurPick k x i).reg id0 i0 j0 = s.reg id0 i0 j0 := by
  simp [State.bob, State.clu, State.pick, State.assoc, State.engine, State.pair, State.queue, State.port, State.group, State.lane, State.wport, State.dom, State.bks, State.tsrc, State.reg]

/-- record changes at most: bbx. -/
@[simp] theorem State.record_keeps (q : BbxReq) :
    (s.record q).pending = s.pending ∧ (s.record q).variant = s.variant ∧ (s.record q).stepping = s.stepping ∧
      (s.record q).regs = s.regs ∧ (s.record q).shu = s.shu ∧ (s.record q).beam = s.beam ∧
      (s.record q).tab = s.tab ∧ (s.record q).cie = s.cie ∧ (s.record q).sch = s.sch ∧ (s.record q).wov = s.wov ∧
      (s.record q).weft = s.weft ∧ (s.record q).msc = s.msc ∧ (s.record q).hif = s.hif ∧ (s.record q).kcu = s.kcu ∧
      (s.record q).tmu = s.tmu ∧ (s.record q).pmc = s.pmc ∧ (s.record q).evc = s.evc ∧ (s.record q).tb = s.tb ∧
      (s.record q).pins = s.pins ∧ (s.record q).out = s.out ∧ (s.record q).free = s.free := by
  unfold State.record
  (repeat' split) <;> simp

@[simp] theorem State.record_reads (q : BbxReq) (i0 j0 : Nat) (id0 : RegId) :
    (s.record q).bob i0 = s.bob i0 ∧ (s.record q).clu i0 = s.clu i0 ∧ (s.record q).pick i0 = s.pick i0 ∧
      (s.record q).assoc i0 = s.assoc i0 ∧ (s.record q).engine i0 = s.engine i0 ∧
      (s.record q).pair i0 = s.pair i0 ∧ (s.record q).queue i0 = s.queue i0 ∧ (s.record q).port i0 = s.port i0 ∧
      (s.record q).group i0 = s.group i0 ∧ (s.record q).lane i0 = s.lane i0 ∧ (s.record q).wport i0 = s.wport i0 ∧
      (s.record q).dom i0 = s.dom i0 ∧ (s.record q).page i0 = s.page i0 ∧ (s.record q).bks i0 = s.bks i0 ∧
      (s.record q).tsrc i0 = s.tsrc i0 ∧ (s.record q).ring i0 j0 = s.ring i0 j0 ∧
      (s.record q).reg id0 i0 j0 = s.reg id0 i0 j0 := by
  simp [State.bob, State.clu, State.pick, State.assoc, State.engine, State.pair, State.queue, State.port, State.group, State.lane, State.wport, State.dom, State.page, State.bks, State.tsrc, State.ring, State.reg]

/-- faultRec changes at most: bbx. -/
@[simp] theorem State.faultRec_keeps (back : Bool) (u : EvUnit) (k i c : Nat) :
    (s.faultRec back u k i c).pending = s.pending ∧ (s.faultRec back u k i c).variant = s.variant ∧
      (s.faultRec back u k i c).stepping = s.stepping ∧ (s.faultRec back u k i c).regs = s.regs ∧
      (s.faultRec back u k i c).shu = s.shu ∧ (s.faultRec back u k i c).beam = s.beam ∧
      (s.faultRec back u k i c).tab = s.tab ∧ (s.faultRec back u k i c).cie = s.cie ∧
      (s.faultRec back u k i c).sch = s.sch ∧ (s.faultRec back u k i c).wov = s.wov ∧
      (s.faultRec back u k i c).weft = s.weft ∧ (s.faultRec back u k i c).msc = s.msc ∧
      (s.faultRec back u k i c).hif = s.hif ∧ (s.faultRec back u k i c).kcu = s.kcu ∧
      (s.faultRec back u k i c).tmu = s.tmu ∧ (s.faultRec back u k i c).pmc = s.pmc ∧
      (s.faultRec back u k i c).evc = s.evc ∧ (s.faultRec back u k i c).tb = s.tb ∧
      (s.faultRec back u k i c).pins = s.pins ∧ (s.faultRec back u k i c).out = s.out ∧
      (s.faultRec back u k i c).free = s.free := by
  simp [State.faultRec]

@[simp] theorem State.faultRec_reads (back : Bool) (u : EvUnit) (k i c : Nat) (i0 j0 : Nat) (id0 : RegId) :
    (s.faultRec back u k i c).bob i0 = s.bob i0 ∧ (s.faultRec back u k i c).clu i0 = s.clu i0 ∧
      (s.faultRec back u k i c).pick i0 = s.pick i0 ∧ (s.faultRec back u k i c).assoc i0 = s.assoc i0 ∧
      (s.faultRec back u k i c).engine i0 = s.engine i0 ∧ (s.faultRec back u k i c).pair i0 = s.pair i0 ∧
      (s.faultRec back u k i c).queue i0 = s.queue i0 ∧ (s.faultRec back u k i c).port i0 = s.port i0 ∧
      (s.faultRec back u k i c).group i0 = s.group i0 ∧ (s.faultRec back u k i c).lane i0 = s.lane i0 ∧
      (s.faultRec back u k i c).wport i0 = s.wport i0 ∧ (s.faultRec back u k i c).dom i0 = s.dom i0 ∧
      (s.faultRec back u k i c).page i0 = s.page i0 ∧ (s.faultRec back u k i c).bks i0 = s.bks i0 ∧
      (s.faultRec back u k i c).tsrc i0 = s.tsrc i0 ∧ (s.faultRec back u k i c).ring i0 j0 = s.ring i0 j0 ∧
      (s.faultRec back u k i c).reg id0 i0 j0 = s.reg id0 i0 j0 := by
  simp [State.bob, State.clu, State.pick, State.assoc, State.engine, State.pair, State.queue, State.port, State.group, State.lane, State.wport, State.dom, State.page, State.bks, State.tsrc, State.ring, State.reg]

/-- fire changes at most: tmu. -/
@[simp] theorem State.fire_keeps (i : Nat) :
    (s.fire i).pending = s.pending ∧ (s.fire i).variant = s.variant ∧ (s.fire i).stepping = s.stepping ∧
      (s.fire i).regs = s.regs ∧ (s.fire i).shu = s.shu ∧ (s.fire i).beam = s.beam ∧ (s.fire i).tab = s.tab ∧
      (s.fire i).cie = s.cie ∧ (s.fire i).sch = s.sch ∧ (s.fire i).wov = s.wov ∧ (s.fire i).weft = s.weft ∧
      (s.fire i).msc = s.msc ∧ (s.fire i).hif = s.hif ∧ (s.fire i).kcu = s.kcu ∧ (s.fire i).bbx = s.bbx ∧
      (s.fire i).pmc = s.pmc ∧ (s.fire i).evc = s.evc ∧ (s.fire i).tb = s.tb ∧ (s.fire i).pins = s.pins ∧
      (s.fire i).out = s.out ∧ (s.fire i).free = s.free := by
  unfold State.fire
  (repeat' split) <;> simp

@[simp] theorem State.fire_reads (i : Nat) (i0 j0 : Nat) (id0 : RegId) :
    (s.fire i).bob i0 = s.bob i0 ∧ (s.fire i).clu i0 = s.clu i0 ∧ (s.fire i).pick i0 = s.pick i0 ∧
      (s.fire i).assoc i0 = s.assoc i0 ∧ (s.fire i).engine i0 = s.engine i0 ∧ (s.fire i).pair i0 = s.pair i0 ∧
      (s.fire i).queue i0 = s.queue i0 ∧ (s.fire i).port i0 = s.port i0 ∧ (s.fire i).group i0 = s.group i0 ∧
      (s.fire i).lane i0 = s.lane i0 ∧ (s.fire i).wport i0 = s.wport i0 ∧ (s.fire i).dom i0 = s.dom i0 ∧
      (s.fire i).page i0 = s.page i0 ∧ (s.fire i).bks i0 = s.bks i0 ∧ (s.fire i).ring i0 j0 = s.ring i0 j0 ∧
      (s.fire i).reg id0 i0 j0 = s.reg id0 i0 j0 := by
  simp [State.bob, State.clu, State.pick, State.assoc, State.engine, State.pair, State.queue, State.port, State.group, State.lane, State.wport, State.dom, State.page, State.bks, State.ring, State.reg]

/-- updPick changes at most: beam. -/
@[simp] theorem State.updPick_keeps (b : Nat) (g : Pick → Pick) :
    (s.updPick b g).pending = s.pending ∧ (s.updPick b g).variant = s.variant ∧
      (s.updPick b g).stepping = s.stepping ∧ (s.updPick b g).regs = s.regs ∧ (s.updPick b g).shu = s.shu ∧
      (s.updPick b g).tab = s.tab ∧ (s.updPick b g).cie = s.cie ∧ (s.updPick b g).sch = s.sch ∧
      (s.updPick b g).wov = s.wov ∧ (s.updPick b g).weft = s.weft ∧ (s.updPick b g).msc = s.msc ∧
      (s.updPick b g).hif = s.hif ∧ (s.updPick b g).kcu = s.kcu ∧ (s.updPick b g).tmu = s.tmu ∧
      (s.updPick b g).bbx = s.bbx ∧ (s.updPick b g).pmc = s.pmc ∧ (s.updPick b g).evc = s.evc ∧
      (s.updPick b g).tb = s.tb ∧ (s.updPick b g).pins = s.pins ∧ (s.updPick b g).out = s.out ∧
      (s.updPick b g).free = s.free := by
  unfold State.updPick
  (repeat' split) <;> simp

@[simp] theorem State.updPick_reads (b : Nat) (g : Pick → Pick) (i0 j0 : Nat) (id0 : RegId) :
    (s.updPick b g).bob i0 = s.bob i0 ∧ (s.updPick b g).clu i0 = s.clu i0 ∧ (s.updPick b g).assoc i0 = s.assoc i0 ∧
      (s.updPick b g).engine i0 = s.engine i0 ∧ (s.updPick b g).pair i0 = s.pair i0 ∧
      (s.updPick b g).queue i0 = s.queue i0 ∧ (s.updPick b g).port i0 = s.port i0 ∧
      (s.updPick b g).group i0 = s.group i0 ∧ (s.updPick b g).lane i0 = s.lane i0 ∧
      (s.updPick b g).wport i0 = s.wport i0 ∧ (s.updPick b g).dom i0 = s.dom i0 ∧
      (s.updPick b g).page i0 = s.page i0 ∧ (s.updPick b g).bks i0 = s.bks i0 ∧
      (s.updPick b g).tsrc i0 = s.tsrc i0 ∧ (s.updPick b g).ring i0 j0 = s.ring i0 j0 ∧
      (s.updPick b g).reg id0 i0 j0 = s.reg id0 i0 j0 := by
  simp [State.bob, State.clu, State.assoc, State.engine, State.pair, State.queue, State.port, State.group, State.lane, State.wport, State.dom, State.page, State.bks, State.tsrc, State.ring, State.reg]

/-- refSlot changes at most: tab. -/
@[simp] theorem State.refSlot_keeps (i : BitVec 24) (x up : Bool) :
    (s.refSlot i x up).pending = s.pending ∧ (s.refSlot i x up).variant = s.variant ∧
      (s.refSlot i x up).stepping = s.stepping ∧ (s.refSlot i x up).regs = s.regs ∧
      (s.refSlot i x up).shu = s.shu ∧ (s.refSlot i x up).beam = s.beam ∧ (s.refSlot i x up).cie = s.cie ∧
      (s.refSlot i x up).sch = s.sch ∧ (s.refSlot i x up).wov = s.wov ∧ (s.refSlot i x up).weft = s.weft ∧
      (s.refSlot i x up).msc = s.msc ∧ (s.refSlot i x up).hif = s.hif ∧ (s.refSlot i x up).kcu = s.kcu ∧
      (s.refSlot i x up).tmu = s.tmu ∧ (s.refSlot i x up).bbx = s.bbx ∧ (s.refSlot i x up).pmc = s.pmc ∧
      (s.refSlot i x up).evc = s.evc ∧ (s.refSlot i x up).tb = s.tb ∧ (s.refSlot i x up).pins = s.pins ∧
      (s.refSlot i x up).out = s.out ∧ (s.refSlot i x up).free = s.free := by
  simp [State.refSlot]

@[simp] theorem State.refSlot_reads (i : BitVec 24) (x up : Bool) (i0 j0 : Nat) (id0 : RegId) :
    (s.refSlot i x up).bob i0 = s.bob i0 ∧ (s.refSlot i x up).clu i0 = s.clu i0 ∧
      (s.refSlot i x up).pick i0 = s.pick i0 ∧ (s.refSlot i x up).engine i0 = s.engine i0 ∧
      (s.refSlot i x up).pair i0 = s.pair i0 ∧ (s.refSlot i x up).queue i0 = s.queue i0 ∧
      (s.refSlot i x up).port i0 = s.port i0 ∧ (s.refSlot i x up).group i0 = s.group i0 ∧
      (s.refSlot i x up).lane i0 = s.lane i0 ∧ (s.refSlot i x up).wport i0 = s.wport i0 ∧
      (s.refSlot i x up).dom i0 = s.dom i0 ∧ (s.refSlot i x up).page i0 = s.page i0 ∧
      (s.refSlot i x up).bks i0 = s.bks i0 ∧ (s.refSlot i x up).tsrc i0 = s.tsrc i0 ∧
      (s.refSlot i x up).ring i0 j0 = s.ring i0 j0 ∧ (s.refSlot i x up).reg id0 i0 j0 = s.reg id0 i0 j0 := by
  simp [State.bob, State.clu, State.pick, State.engine, State.pair, State.queue, State.port, State.group, State.lane, State.wport, State.dom, State.page, State.bks, State.tsrc, State.ring, State.reg]

/-- Seeds drawn change only the DRBG's counts. -/
theorem State.drawSeeds_kcu (n : Nat) :
    ∃ d r, s.drawSeeds n = { s with kcu := { s.kcu with draws := d, requests := r } } := by
  induction n generalizing s with
  | zero => exact ⟨s.kcu.draws, s.kcu.requests, rfl⟩
  | succ n ih =>
    obtain ⟨d, r, h⟩ := ih s.draw.2
    exact ⟨d, r, by simp only [State.drawSeeds, h]; rfl⟩

/-- What a cancelled job's blocks cost changes only the engines' part and the DRBG's counts. -/
theorem State.spendMask_cie (j : Job) :
    ∃ c d r, s.spendMask j = { s with cie := c, kcu := { s.kcu with draws := d, requests := r } } := by
  have same : ∃ c d r, s = { s with cie := c, kcu := { s.kcu with draws := d, requests := r } } := ⟨_, _, _, rfl⟩
  have take : ∀ p n, ∃ c d r,
      (s.takeMask p n).1 = { s with cie := c, kcu := { s.kcu with draws := d, requests := r } } := by
    intro p n
    unfold State.takeMask
    dsimp only
    split
    · exact ⟨_, _, _, rfl⟩
    · split
      · exact ⟨_, _, _, rfl⟩
      · obtain ⟨d, r, h⟩ := s.drawSeeds_kcu ((n - (s.pair p).blocks + 65535) / 65536)
        exact ⟨_, d, r, by rw [h]; rfl⟩
  unfold State.spendMask
  cases j.st <;> dsimp only <;> (try split) <;> first | exact same | exact take _ _

/-- Nor do those of several jobs. -/
theorem State.foldl_spendMask_cie (l : List Job) :
    ∃ c d r, l.foldl State.spendMask s = { s with cie := c, kcu := { s.kcu with draws := d, requests := r } } := by
  induction l generalizing s with
  | nil => exact ⟨_, _, _, rfl⟩
  | cons j l ih =>
    obtain ⟨c, d, r, h⟩ := s.spendMask_cie j
    obtain ⟨c', d', r', h'⟩ := ih (s.spendMask j)
    exact ⟨c', d', r', by rw [List.foldl_cons, h', h]⟩

/-- Cancelling a pick's jobs changes only the engines' part and the DRBG's counts. -/
theorem State.cancelJobs_cie (p : Nat) :
    ∃ c d r, s.cancelJobs p = { s with cie := c, kcu := { s.kcu with draws := d, requests := r } } := by
  obtain ⟨c, d, r, h⟩ := s.foldl_spendMask_cie (s.cie.jobs.filter (fun j => j.pick == some p))
  simp only [State.cancelJobs, h]
  exact ⟨_, _, _, rfl⟩

/-- cancelJobs changes at most: cie, and the counts of kcu. -/
@[simp] theorem State.cancelJobs_keeps (p : Nat) :
    (s.cancelJobs p).pending = s.pending ∧ (s.cancelJobs p).variant = s.variant ∧
      (s.cancelJobs p).stepping = s.stepping ∧ (s.cancelJobs p).regs = s.regs ∧ (s.cancelJobs p).shu = s.shu ∧
      (s.cancelJobs p).beam = s.beam ∧ (s.cancelJobs p).tab = s.tab ∧ (s.cancelJobs p).sch = s.sch ∧
      (s.cancelJobs p).wov = s.wov ∧ (s.cancelJobs p).weft = s.weft ∧ (s.cancelJobs p).msc = s.msc ∧
      (s.cancelJobs p).hif = s.hif ∧ (s.cancelJobs p).kcu.bks = s.kcu.bks ∧ (s.cancelJobs p).tmu = s.tmu ∧
      (s.cancelJobs p).bbx = s.bbx ∧ (s.cancelJobs p).pmc = s.pmc ∧ (s.cancelJobs p).evc = s.evc ∧
      (s.cancelJobs p).tb = s.tb ∧ (s.cancelJobs p).pins = s.pins ∧ (s.cancelJobs p).out = s.out ∧
      (s.cancelJobs p).free = s.free := by
  obtain ⟨c, d, r, h⟩ := s.cancelJobs_cie p
  simp [h]

@[simp] theorem State.cancelJobs_reads (p : Nat) (i0 j0 : Nat) (id0 : RegId) :
    (s.cancelJobs p).bob i0 = s.bob i0 ∧ (s.cancelJobs p).clu i0 = s.clu i0 ∧
      (s.cancelJobs p).pick i0 = s.pick i0 ∧ (s.cancelJobs p).assoc i0 = s.assoc i0 ∧
      (s.cancelJobs p).queue i0 = s.queue i0 ∧ (s.cancelJobs p).port i0 = s.port i0 ∧
      (s.cancelJobs p).group i0 = s.group i0 ∧ (s.cancelJobs p).lane i0 = s.lane i0 ∧
      (s.cancelJobs p).wport i0 = s.wport i0 ∧ (s.cancelJobs p).dom i0 = s.dom i0 ∧
      (s.cancelJobs p).page i0 = s.page i0 ∧ (s.cancelJobs p).bks i0 = s.bks i0 ∧
      (s.cancelJobs p).tsrc i0 = s.tsrc i0 ∧ (s.cancelJobs p).ring i0 j0 = s.ring i0 j0 ∧
      (s.cancelJobs p).reg id0 i0 j0 = s.reg id0 i0 j0 := by
  simp [State.bob, State.clu, State.pick, State.assoc, State.queue, State.port, State.group, State.lane, State.wport, State.dom, State.page, State.bks, State.tsrc, State.ring, State.reg]

/-- landFadds changes at most: shu. -/
@[simp] theorem State.landFadds_keeps (b : Nat) :
    (s.landFadds b).pending = s.pending ∧ (s.landFadds b).variant = s.variant ∧
      (s.landFadds b).stepping = s.stepping ∧ (s.landFadds b).regs = s.regs ∧ (s.landFadds b).beam = s.beam ∧
      (s.landFadds b).tab = s.tab ∧ (s.landFadds b).cie = s.cie ∧ (s.landFadds b).sch = s.sch ∧
      (s.landFadds b).wov = s.wov ∧ (s.landFadds b).weft = s.weft ∧ (s.landFadds b).msc = s.msc ∧
      (s.landFadds b).hif = s.hif ∧ (s.landFadds b).kcu = s.kcu ∧ (s.landFadds b).tmu = s.tmu ∧
      (s.landFadds b).bbx = s.bbx ∧ (s.landFadds b).pmc = s.pmc ∧ (s.landFadds b).evc = s.evc ∧
      (s.landFadds b).tb = s.tb ∧ (s.landFadds b).pins = s.pins ∧ (s.landFadds b).out = s.out ∧
      (s.landFadds b).free = s.free := by
  simp [State.landFadds]

@[simp] theorem State.landFadds_reads (b : Nat) (i0 j0 : Nat) (id0 : RegId) :
    (s.landFadds b).pick i0 = s.pick i0 ∧ (s.landFadds b).assoc i0 = s.assoc i0 ∧
      (s.landFadds b).engine i0 = s.engine i0 ∧ (s.landFadds b).pair i0 = s.pair i0 ∧
      (s.landFadds b).queue i0 = s.queue i0 ∧ (s.landFadds b).port i0 = s.port i0 ∧
      (s.landFadds b).group i0 = s.group i0 ∧ (s.landFadds b).lane i0 = s.lane i0 ∧
      (s.landFadds b).wport i0 = s.wport i0 ∧ (s.landFadds b).dom i0 = s.dom i0 ∧
      (s.landFadds b).page i0 = s.page i0 ∧ (s.landFadds b).bks i0 = s.bks i0 ∧
      (s.landFadds b).tsrc i0 = s.tsrc i0 ∧ (s.landFadds b).ring i0 j0 = s.ring i0 j0 ∧
      (s.landFadds b).reg id0 i0 j0 = s.reg id0 i0 j0 := by
  simp [State.pick, State.assoc, State.engine, State.pair, State.queue, State.port, State.group, State.lane, State.wport, State.dom, State.page, State.bks, State.tsrc, State.ring, State.reg]

/-- freeBob changes at most: shu. -/
@[simp] theorem State.freeBob_keeps (b : Nat) :
    (s.freeBob b).pending = s.pending ∧ (s.freeBob b).variant = s.variant ∧ (s.freeBob b).stepping = s.stepping ∧
      (s.freeBob b).regs = s.regs ∧ (s.freeBob b).beam = s.beam ∧ (s.freeBob b).tab = s.tab ∧
      (s.freeBob b).cie = s.cie ∧ (s.freeBob b).sch = s.sch ∧ (s.freeBob b).wov = s.wov ∧
      (s.freeBob b).weft = s.weft ∧ (s.freeBob b).msc = s.msc ∧ (s.freeBob b).hif = s.hif ∧
      (s.freeBob b).kcu = s.kcu ∧ (s.freeBob b).tmu = s.tmu ∧ (s.freeBob b).bbx = s.bbx ∧
      (s.freeBob b).pmc = s.pmc ∧ (s.freeBob b).evc = s.evc ∧ (s.freeBob b).tb = s.tb ∧
      (s.freeBob b).pins = s.pins ∧ (s.freeBob b).out = s.out ∧ (s.freeBob b).free = s.free := by
  simp [State.freeBob]

@[simp] theorem State.freeBob_reads (b : Nat) (i0 j0 : Nat) (id0 : RegId) :
    (s.freeBob b).pick i0 = s.pick i0 ∧ (s.freeBob b).assoc i0 = s.assoc i0 ∧
      (s.freeBob b).engine i0 = s.engine i0 ∧ (s.freeBob b).pair i0 = s.pair i0 ∧
      (s.freeBob b).queue i0 = s.queue i0 ∧ (s.freeBob b).port i0 = s.port i0 ∧
      (s.freeBob b).group i0 = s.group i0 ∧ (s.freeBob b).lane i0 = s.lane i0 ∧
      (s.freeBob b).wport i0 = s.wport i0 ∧ (s.freeBob b).dom i0 = s.dom i0 ∧ (s.freeBob b).page i0 = s.page i0 ∧
      (s.freeBob b).bks i0 = s.bks i0 ∧ (s.freeBob b).tsrc i0 = s.tsrc i0 ∧
      (s.freeBob b).ring i0 j0 = s.ring i0 j0 ∧ (s.freeBob b).reg id0 i0 j0 = s.reg id0 i0 j0 := by
  simp [State.pick, State.assoc, State.engine, State.pair, State.queue, State.port, State.group, State.lane, State.wport, State.dom, State.page, State.bks, State.tsrc, State.ring, State.reg]

/-- The slot reference given back changes only the table part. -/
@[simp] theorem State.giveRef_keeps (k : Pick) :
    (s.giveRef k).1.pending = s.pending ∧ (s.giveRef k).1.variant = s.variant ∧ (s.giveRef k).1.stepping = s.stepping ∧ (s.giveRef k).1.regs = s.regs ∧ (s.giveRef k).1.shu = s.shu ∧ (s.giveRef k).1.beam = s.beam ∧ (s.giveRef k).1.cie = s.cie ∧ (s.giveRef k).1.sch = s.sch ∧ (s.giveRef k).1.wov = s.wov ∧ (s.giveRef k).1.weft = s.weft ∧ (s.giveRef k).1.msc = s.msc ∧ (s.giveRef k).1.hif = s.hif ∧ (s.giveRef k).1.kcu = s.kcu ∧ (s.giveRef k).1.tmu = s.tmu ∧ (s.giveRef k).1.bbx = s.bbx ∧ (s.giveRef k).1.pmc = s.pmc ∧ (s.giveRef k).1.evc = s.evc ∧ (s.giveRef k).1.tb = s.tb ∧ (s.giveRef k).1.pins = s.pins ∧ (s.giveRef k).1.out = s.out ∧ (s.giveRef k).1.free = s.free := by
  unfold State.giveRef
  (repeat' split) <;> simp

@[simp] theorem State.giveRef_reads (k : Pick) (i : Nat) :
    (s.giveRef k).1.bob i = s.bob i ∧ (s.giveRef k).1.clu i = s.clu i ∧ (s.giveRef k).1.pick i = s.pick i ∧ (s.giveRef k).1.engine i = s.engine i ∧ (s.giveRef k).1.pair i = s.pair i ∧ (s.giveRef k).1.queue i = s.queue i ∧ (s.giveRef k).1.port i = s.port i ∧ (s.giveRef k).1.group i = s.group i ∧ (s.giveRef k).1.lane i = s.lane i ∧ (s.giveRef k).1.wport i = s.wport i ∧ (s.giveRef k).1.dom i = s.dom i ∧ (s.giveRef k).1.page i = s.page i ∧ (s.giveRef k).1.bks i = s.bks i ∧ (s.giveRef k).1.tsrc i = s.tsrc i := by
  simp [State.bob, State.clu, State.pick, State.engine, State.pair, State.queue, State.port, State.group, State.lane, State.wport, State.dom, State.page, State.bks, State.tsrc]

/-- endPick changes at most: cie, beam, tab, and the counts of kcu. -/
@[simp] theorem State.endPick_keeps (p r : Nat) :
    (s.endPick p r).pending = s.pending ∧ (s.endPick p r).variant = s.variant ∧
      (s.endPick p r).stepping = s.stepping ∧ (s.endPick p r).regs = s.regs ∧ (s.endPick p r).shu = s.shu ∧
      (s.endPick p r).sch = s.sch ∧ (s.endPick p r).wov = s.wov ∧ (s.endPick p r).weft = s.weft ∧
      (s.endPick p r).msc = s.msc ∧ (s.endPick p r).hif = s.hif ∧ (s.endPick p r).kcu.bks = s.kcu.bks ∧
      (s.endPick p r).tmu = s.tmu ∧ (s.endPick p r).bbx = s.bbx ∧ (s.endPick p r).pmc = s.pmc ∧
      (s.endPick p r).evc = s.evc ∧ (s.endPick p r).tb = s.tb ∧ (s.endPick p r).pins = s.pins ∧
      (s.endPick p r).out = s.out ∧ (s.endPick p r).free = s.free := by
  unfold State.endPick
  split
  · simp
  · next k _ =>
    dsimp only
    by_cases h : r = 2 ∨ r = 5 <;> by_cases h2 : k.mirrors = [] <;> simp [h, h2]

@[simp] theorem State.endPick_reads (p r : Nat) (i0 j0 : Nat) (id0 : RegId) :
    (s.endPick p r).bob i0 = s.bob i0 ∧ (s.endPick p r).clu i0 = s.clu i0 ∧ (s.endPick p r).queue i0 = s.queue i0 ∧
      (s.endPick p r).port i0 = s.port i0 ∧ (s.endPick p r).group i0 = s.group i0 ∧
      (s.endPick p r).lane i0 = s.lane i0 ∧ (s.endPick p r).wport i0 = s.wport i0 ∧
      (s.endPick p r).dom i0 = s.dom i0 ∧ (s.endPick p r).page i0 = s.page i0 ∧ (s.endPick p r).bks i0 = s.bks i0 ∧
      (s.endPick p r).tsrc i0 = s.tsrc i0 ∧ (s.endPick p r).ring i0 j0 = s.ring i0 j0 ∧
      (s.endPick p r).reg id0 i0 j0 = s.reg id0 i0 j0 := by
  simp [State.bob, State.clu, State.queue, State.port, State.group, State.lane, State.wport, State.dom, State.page, State.bks, State.tsrc, State.ring, State.reg]

/-- dropPick changes at most: cie, beam, tab, evc, hif, out. -/
@[simp] theorem State.dropPick_keeps (p r : Nat) :
    (s.dropPick p r).pending = s.pending ∧ (s.dropPick p r).variant = s.variant ∧
      (s.dropPick p r).stepping = s.stepping ∧ (s.dropPick p r).regs = s.regs ∧ (s.dropPick p r).shu = s.shu ∧
      (s.dropPick p r).sch = s.sch ∧ (s.dropPick p r).wov = s.wov ∧ (s.dropPick p r).weft = s.weft ∧
      (s.dropPick p r).msc = s.msc ∧ (s.dropPick p r).kcu.bks = s.kcu.bks ∧ (s.dropPick p r).tmu = s.tmu ∧
      (s.dropPick p r).bbx = s.bbx ∧ (s.dropPick p r).pmc = s.pmc ∧ (s.dropPick p r).tb = s.tb ∧
      (s.dropPick p r).pins = s.pins ∧ (s.dropPick p r).free = s.free := by
  unfold State.dropPick
  (repeat' split) <;> simp

@[simp] theorem State.dropPick_reads (p r : Nat) (i0 j0 : Nat) (id0 : RegId) :
    (s.dropPick p r).bob i0 = s.bob i0 ∧ (s.dropPick p r).clu i0 = s.clu i0 ∧
      (s.dropPick p r).queue i0 = s.queue i0 ∧ (s.dropPick p r).port i0 = s.port i0 ∧
      (s.dropPick p r).group i0 = s.group i0 ∧ (s.dropPick p r).lane i0 = s.lane i0 ∧
      (s.dropPick p r).wport i0 = s.wport i0 ∧ (s.dropPick p r).dom i0 = s.dom i0 ∧
      (s.dropPick p r).bks i0 = s.bks i0 ∧ (s.dropPick p r).tsrc i0 = s.tsrc i0 ∧
      (s.dropPick p r).reg id0 i0 j0 = s.reg id0 i0 j0 := by
  simp [State.bob, State.clu, State.queue, State.port, State.group, State.lane, State.wport, State.dom, State.bks, State.tsrc, State.reg]

/-- trapAt changes at most: shu, cie, beam, tab, evc, hif, out. -/
@[simp] theorem State.trapAt_keeps (b : Nat) (t : Trap) (pc : Nat) (w : Word) :
    (s.trapAt b t pc w).pending = s.pending ∧ (s.trapAt b t pc w).variant = s.variant ∧
      (s.trapAt b t pc w).stepping = s.stepping ∧ (s.trapAt b t pc w).regs = s.regs ∧
      (s.trapAt b t pc w).sch = s.sch ∧ (s.trapAt b t pc w).wov = s.wov ∧ (s.trapAt b t pc w).weft = s.weft ∧
      (s.trapAt b t pc w).msc = s.msc ∧ (s.trapAt b t pc w).kcu.bks = s.kcu.bks ∧ (s.trapAt b t pc w).tmu = s.tmu ∧
      (s.trapAt b t pc w).bbx = s.bbx ∧ (s.trapAt b t pc w).pmc = s.pmc ∧ (s.trapAt b t pc w).tb = s.tb ∧
      (s.trapAt b t pc w).pins = s.pins ∧ (s.trapAt b t pc w).free = s.free := by
  unfold State.trapAt
  dsimp only
  (repeat' split) <;> simp

@[simp] theorem State.trapAt_reads (b : Nat) (t : Trap) (pc : Nat) (w : Word) (i0 j0 : Nat) (id0 : RegId) :
    (s.trapAt b t pc w).queue i0 = s.queue i0 ∧ (s.trapAt b t pc w).port i0 = s.port i0 ∧
      (s.trapAt b t pc w).group i0 = s.group i0 ∧ (s.trapAt b t pc w).lane i0 = s.lane i0 ∧
      (s.trapAt b t pc w).wport i0 = s.wport i0 ∧ (s.trapAt b t pc w).dom i0 = s.dom i0 ∧
      (s.trapAt b t pc w).bks i0 = s.bks i0 ∧ (s.trapAt b t pc w).tsrc i0 = s.tsrc i0 ∧
      (s.trapAt b t pc w).reg id0 i0 j0 = s.reg id0 i0 j0 := by
  simp [State.queue, State.port, State.group, State.lane, State.wport, State.dom, State.bks, State.tsrc, State.reg]

/-- advance changes at most: shu. -/
@[simp] theorem State.advance_keeps (b pc : Nat) :
    (s.advance b pc).pending = s.pending ∧ (s.advance b pc).variant = s.variant ∧
      (s.advance b pc).stepping = s.stepping ∧ (s.advance b pc).regs = s.regs ∧ (s.advance b pc).beam = s.beam ∧
      (s.advance b pc).tab = s.tab ∧ (s.advance b pc).cie = s.cie ∧ (s.advance b pc).sch = s.sch ∧
      (s.advance b pc).wov = s.wov ∧ (s.advance b pc).weft = s.weft ∧ (s.advance b pc).msc = s.msc ∧
      (s.advance b pc).hif = s.hif ∧ (s.advance b pc).kcu = s.kcu ∧ (s.advance b pc).tmu = s.tmu ∧
      (s.advance b pc).bbx = s.bbx ∧ (s.advance b pc).pmc = s.pmc ∧ (s.advance b pc).evc = s.evc ∧
      (s.advance b pc).tb = s.tb ∧ (s.advance b pc).pins = s.pins ∧ (s.advance b pc).out = s.out ∧
      (s.advance b pc).free = s.free := by
  simp [State.advance]

@[simp] theorem State.advance_reads (b pc : Nat) (i0 j0 : Nat) (id0 : RegId) :
    (s.advance b pc).pick i0 = s.pick i0 ∧ (s.advance b pc).assoc i0 = s.assoc i0 ∧
      (s.advance b pc).engine i0 = s.engine i0 ∧ (s.advance b pc).pair i0 = s.pair i0 ∧
      (s.advance b pc).queue i0 = s.queue i0 ∧ (s.advance b pc).port i0 = s.port i0 ∧
      (s.advance b pc).group i0 = s.group i0 ∧ (s.advance b pc).lane i0 = s.lane i0 ∧
      (s.advance b pc).wport i0 = s.wport i0 ∧ (s.advance b pc).dom i0 = s.dom i0 ∧
      (s.advance b pc).page i0 = s.page i0 ∧ (s.advance b pc).bks i0 = s.bks i0 ∧
      (s.advance b pc).tsrc i0 = s.tsrc i0 ∧ (s.advance b pc).ring i0 j0 = s.ring i0 j0 ∧
      (s.advance b pc).reg id0 i0 j0 = s.reg id0 i0 j0 := by
  simp [State.pick, State.assoc, State.engine, State.pair, State.queue, State.port, State.group, State.lane, State.wport, State.dom, State.page, State.bks, State.tsrc, State.ring, State.reg]

end Sys2Proof.Machine
end

