-- ==== Sys2Proof/Tests/Slice0.lean ====
section
/-! SUPPORT. Tests of the model against the spec's own examples and tables, and the smoke test of `Instr.wf`. The
expected values are the spec's or worked out by hand from its rules. -/

-- The tests are checked one after another: side by side each would hold a thread of its own.
section
set_option Elab.async false

open Sys2Proof Sys2Proof.Machine

/-! ### The ill-formed commands are refused -/

/-- The findings of an untroubled start. -/
def Tests.goodStart : StartObs where
  railsGood := true
  decodesAgree := true
  pufA := []
  pufB := []
  sealFails := []
  otpReads := []
  fuseSecond := 0
  smbAddr := 0
/-- A key store slot that does not exist. -/
def Tests.badStart : StartObs := { Tests.goodStart with sealFails := [64] }
/-- A level that no path has. -/
def Tests.badPath : PathObs := { level := 9, index := 0, sym := .clean, pass := true }

/-- Ill-formed commands, part 0: each breaks one check of `Instr.wf`. -/
theorem test_ill_formed_0 : ([
    .add 3072 0 0 0, .sub 3072 0 0 0, .bitAnd 3072 0 0 0, .bitOr 3072 0 0 0, .bitXor 3072 0 0 0,
    .shl 3072 0 0 0, .shr 3072 0 0 0, .sar 3072 0 0 0, .mul 3072 0 0 0, .mulhu 3072 0 0 0, .minS 3072 0 0 0,
    .maxS 3072 0 0 0, .minU 3072 0 0 0, .maxU 3072 0 0 0, .popc 3072 0 0 0, .clz 3072 0 0 0,
    .bswap16 3072 0 0 0, .bswap32 3072 0 0 0, .bswap64 3072 0 0 0, .addi 3072 0 0 0, .andi 3072 0 0 0,
    .ori 3072 0 0 0, .xori 3072 0 0 0, .li 3072 0 0 0, .lis 3072 0 0 0, .extF 3072 0 0 0, .depF 3072 0 0 0,
    .beq 3072 0 0 0, .bne 3072 0 0 0, .blt 3072 0 0 0, .bge 3072 0 0 0, .bltu 3072 0 0 0, .bgeu 3072 0 0 0,
    .jal 3072 0 0, .jr 3072 0 0 0, .ldw 3072 0 0 0 0 0, .stw 3072 0 0 0 0 0, .wedit 3072 0 0 0 0 0,
    .ldp 3072 0 0 0 0 0, .stp 3072 0 0 0 0 0] : List Instr).all (fun i => !i.wf) = true := by decide +kernel

/-- Ill-formed commands, part 1: each breaks one check of `Instr.wf`. -/
theorem test_ill_formed_1 : ([
    .lds 3072 0 0 0 0 0, .sts 3072 0 0 0 0 0, .faddS 3072 0 0 0 0 0, .fence 3072 0 0 0 0,
    .lookFt 3072 0 0 0 0, .lookMt 3072 0 0 0 0, .lookAt 3072 0 0 0 0, .pnNext 3072 0 0 0 0,
    .pnPeek 3072 0 0 0 0, .ordDom 3072 0 0 0 0, .ordRel 3072 0 0 0 0, .sealFrame 3072 0 0 0 0,
    .openFrame 3072 0 0 0 0, .crcRun 3072 0 0 0 0, .crcChk 3072 0 0 0 0, .crcGet 3072 0 0 0 0,
    .crcSet 3072 0 0 0 0, .pol 3072 0 0 0 0, .tb 3072 0 0 0 0, .enq 3072 0 0 0 0, .dropPick 3072 0 0 0 0,
    .punt 3072 0 0 0 0, .fwd 3072 0 0 0 0, .mirror 3072 0 0 0 0, .evcInc 3072 0 0 0 0, .evcAdd 3072 0 0 0 0,
    .waitSb 3072 0 0 0 0, .trapProg 3072 0 0 0 0, .halt 3072 0 0 0 0, .lookFtDone 3072 0, .lookMtDone 3072 0,
    .lookAtDone 3072 0, .pnNextServe 3072 0, .pnPeekServe 3072 0, .ordDomGrant 3072 0, .openServe 131072,
    .openVerdictCommit 131072, .sealDone 131072, .crcGetDone 3072 0, .ldsDone 3072 0] : List Instr).all (fun i => !i.wf) = true := by decide +kernel

/-- Ill-formed commands, part 2: each breaks one check of `Instr.wf`. -/
theorem test_ill_formed_2 : ([
    .faddSDone 3072 0, .frameReceive 64 [], .pickDispatch 3072, .pickRelease 131072,
    .puntMirrorRelease 131072, .spillReturn 16384 false, .schedSelect 64, .cutThroughStart 64 0,
    .cutThroughStart 0 131072, .cutFcsReached 64, .frameTxEnd 64, .cellWaitEnd 131072, .shedEntryAdvance 64,
    .shedBankSwitch 64, .schShedCtlSel 64 0, .histDepthSample 64, .schHistSnap 64 0, .schHistSnapDone 64,
    .jobSuspend 48, .engineJobComplete 48, .maskStallEnd 48, .maskExpanderReseed 24, .engineSelfCheckFault 48,
    .katPeriodic 48 false, .cieProfileWrite 24 0, .drainTimerExpiry (.cloth 8 0),
    .drainTimerExpiry (.cloth 0 4), .atInstall 64, .atSlotLoad 64, .atTxslot 64, .atSlotRetire 64,
    .atStateSuspend 64, .atStateResume 64, .atStateRemove 64, .atRxPn 64, .atSetCut 64, .atSetCutEvent 64,
    .atSetReplay 64, .atSetWindow 64, .atSetPolicer 64] : List Instr).all (fun i => !i.wf) = true := by decide +kernel

/-- Ill-formed commands, part 3: each breaks one check of `Instr.wf`. -/
theorem test_ill_formed_3 : ([
    .atSetQbase 64, .atSetK 64, .atSetSuite 64, .atSetMode 64, .atSetDomain 64, .atRead 64, .atBulkLoad 64,
    .atBulkLoadFlows 64, .ftInsert 64, .ftReplace 64, .ftDelete 64, .ftRead 64, .clothKeyLoad 64,
    .clothKeyRetire 64, .cardStage 64, .lksKeyLoad 64, .lksKeyDestroy 64, .xtsEncrypt 64, .xtsDecrypt 64,
    .gcmEncrypt 64, .gcmDecrypt 64, .inject 64, .puntBuf 64, .bksStore 64, .bksDestroy 64, .bksStatus 64,
    .zeroizeErase 64, .zeroizeEraseLock 64, .idCertRead 64, .cascadeCertLoad 64, .attest 64,
    .lcTransition 64 { toStartObs := Tests.goodStart }, .lcTransition 0 { toStartObs := Tests.badStart }, .shuavoChallenge 64, .shuavoResponse 64,
    .lcOtpWrite 64, .lcOtpRead 64, .bbxSeal 64, .kpCommit 64 0, .kpUnwrapDone 64] : List Instr).all (fun i => !i.wf) = true := by decide +kernel

/-- Ill-formed commands, part 4: each breaks one check of `Instr.wf`. -/
theorem test_ill_formed_4 : ([
    .kpClear 64 0, .hifRingTailWrite 64 0 0, .hifRingTailWrite 0 8 0, .hifRingEnable 64 0 0,
    .hifRingEnable 0 8 0, .hifRingResume 64 0 0, .hifRingResume 0 8 0,
    .descriptorFetch 64 0 (List.replicate 64 0) [], .descriptorFetch 0 8 (List.replicate 64 0) [],
    .descriptorFetch 0 0 [] [], .dmaFault 64 0 .read, .dmaFault 0 8 .read, .hifCmdWatchdogExpiry 64,
    .hifLateAnswer 64, .imodTimerExpiry 64 0, .imodTimerExpiry 0 8, .functionLevelReset 64,
    .shuCardCtlWrite 24 0, .clusterDrained 24, .cardLoadDone 24 .good, .clusterQuarantine 24,
    .clockFailure 96, .laneFrameSend 32, .clothItemSend 8 0, .laneFrameReceive 32 [], .rowRelease 8,
    .rowWaitExpiry 8 0, .rowWaitExpiry 0 32, .clothItemReceive 8, .resyncAtMarker 8, .wovCkTxSlotWrite 8 0,
    .keymarkSend 8, .wovTxMapWrite 8 0, .memberAnnounce 8, .mapTakeEffect 8, .wovGrpCfgWrite 8 0,
    .headerSealerKatFail 8, .losDetectorChange 64 false false, .linkChange 64 false, .linkTrainingTimeout 64] : List Instr).all (fun i => !i.wf) = true := by decide +kernel

/-- Ill-formed commands, part 5: each breaks one check of `Instr.wf`. -/
theorem test_ill_formed_5 : ([
    .prbsClr 64 0, .weftLinkStateChange 4 .present, .trainReq 4 [], .trainRsp 4 [], .trainDone 4,
    .keyHello 4 [], .keyShare 4 [], .keyFinish 4 [], .sidebandStatus 4 [], .sidebandRetry 4,
    .weftTrainTimeout 4, .weftKeyRetry 4, .weftRekeyTimer 4, .weftItemSend 4, .weftFrameReceive 4 [],
    .weftSkipReceive 4 [], .weftAckReceive 4 [], .weftNakReceive 4 [], .weftKeyswitchReceive 4 [],
    .weftTimeReceive 4 [], .weftAckTimeout 4, .weftAckSend 4, .weftTimeSend 4, .dramRead false 0 [Tests.badPath],
    .dramLineWrite false 256 0 (List.replicate 64 0) [], .dramLineWrite false 0 0 [] [],
    .dramLineWrite false 0 0 (List.replicate 64 0) [Tests.badPath], .dramPartialWrite false 256 0 0 [0] [],
    .dramPartialWrite false 0 0 64 [0] [], .dramPartialWrite false 0 0 0 [] [],
    .dramPartialWrite false 0 0 0 (List.replicate 64 0) [], .dramPartialWrite false 0 0 0 [0] [Tests.badPath],
    .cacheWriteback 0 [Tests.badPath], .dramFetchTimeout 16 0, .dramLateArrival 16,
    .patrolScrubRead false 0 [Tests.badPath], .stackFail 4 0, .stackFail 0 4, .mirrorRebuildDone 4, .mkiRetired 256] : List Instr).all (fun i => !i.wf) = true := by decide +kernel

/-- Ill-formed commands, part 6: each breaks one check of `Instr.wf`. -/
theorem test_ill_formed_6 : ([
    .domainSleepEntered 96, .domainPoweredUp 96, .domainFresh 96, .bistDone 96 false, .scratchCopyDone 24,
    .tamperSample 32 0 0, .batterySample 32 0 0, .meshMeasure 2 0, .powerOnReset Tests.badStart,
    .perst Tests.badStart, .softReset Tests.badStart, .railOutOfRange 8, .evcCntWrite 4096 false 0, .evcCfgCommit 4096 0,
    .cvuCtlCommit 16 0, .lowWordReadLatch 64 false 0, .lowWordReadLatch 0 false 33554432,
    .lowWordReadLatch 0 true 16384, .readClear 64 false 0, .readClear 0 false 33554432,
    .readClear 0 true 16384, .regWrite 64 false 0 0 0, .regWrite 0 false 33554432 0 0,
    .regWrite 0 true 16384 0 0, .forbiddenRegisterRead 64 false 0, .forbiddenRegisterRead 0 false 33554432,
    .forbiddenRegisterRead 0 true 16384, .illegalFetch 3072, .blockLockChange 64 false,
    .prbsLockChange 64 false 0, .sidebandMessageError 4 []] : List Instr).all (fun i => !i.wf) = true := by decide +kernel

theorem test_well_formed : ([.add 3071 31 31 31, .schShedCtlSel 63 0, .descriptorFetch 63 7 (List.replicate 64 0) [],
    .readClear 63 true 16380, .readClear 0 false 33554428, .drainTimerExpiry (.cloth 7 3),
    .dramPartialWrite true 255 0 1 (List.replicate 63 0) [⟨15, 0, .clean, true⟩]] : List Instr).all Instr.wf = true := by decide

/-! ### Commands carry no bits (the table gives none) -/

theorem test_no_table_word : decodeTableWord 16 0 = none ∧ State.reset.withFetchWord 16 0 = State.reset := by decide

/-! ### Instruction words (R60, Example 3.1, Example 4.1): each word of the examples, from its fields -/

theorem test_words_3_1 :
    encW 0x18 3 0 1 0 12 = 0x6060400C ∧ encI 0x03 4 0 0x888E = 0x0C80888E ∧ encB 0x10 3 4 32 = 0x40640020
    ∧ encU 0x20 5 6 0 0 0 = 0x80A60000 ∧ encI 0x07 7 5 (7 * 64 + 56) = 0x1CE501F8 ∧ encB 0x11 7 0 64 = 0x44E00040
    ∧ encI 0x03 0 0 0 = 0x0C000000 := by decide

theorem test_words_4_1 :
    encU 0x20 10 8 0 2 0 = 0x81480080 ∧ encU 0x21 11 0 0 0 0 = 0x85600000 ∧ encI 0x05 12 0 16 = 0x15800010
    ∧ encW 0x1A 12 0 0 0 12 = 0x6980000C ∧ encI 0x03 13 0 0x88E5 = 0x0DA088E5 ∧ encW 0x19 13 0 1 0 0x3FC = 0x65A043FC
    ∧ encW 0x19 11 0 2 0 0 = 0x65608000 ∧ encW 0x19 9 0 3 0 4 = 0x6520C004 ∧ encI 0x05 15 0 28 = 0x15E0001C
    ∧ encU 0x23 16 15 9 0 0 = 0x8E0F4800 := by decide

/-- R60: `add g1, g2, g3` bit by bit: opcode 000000, d 00001, a 00010, b 00011, func 00000000000. -/
theorem test_word_add : encA 0 1 2 3 0 = 0b000000_00001_00010_00011_00000000000 := by decide

/-- R60: `jal g1, −1`: opcode 010110, d 00001, offset twenty-one ones. -/
theorem test_word_jal : encJ 1 (-1) = 0b010110_00001_111111111111111111111 := by decide

theorem test_reserved_words : reservedWord 0x00000013 = true ∧ reservedWord 0x00000012 = false
    ∧ reservedWord 0xC8000000 = true ∧ reservedWord 0x80A600C0 = true ∧ reservedWord 0x80A60080 = false := by decide

/-! ### A small machine -/

/-- Cluster 0 serves a card of one word and bobbin 0 runs pick 0 at it. -/
def Tests.run (w : Word) (g : Tbl DWord) (k : Pick) : State :=
  { State.reset with
    shu := { clusters := [(0, { ctlGen := 1, st := .fresh,
                                card := some { gen := 1, timeAware := true, entry := List.replicate 16 0, words := [w] } })]
             bobs := [(0, { pick := some 0, g := g })] }
    beam := { picks := [(0, k)] } }

/-- A running pick with a frame of 64 bytes 0, 1, …, 63. -/
def Tests.pick : Pick :=
  { st := .running, frame := (List.range 64).map (BitVec.ofNat 8), orig := (List.range 64).map (BitVec.ofNat 8), cells := 1 }

/-- Register r of bobbin 0 after a command. -/
def Tests.after (c : Instr) (s : State) (r : Reg) : DWord :=
  match exec c s with
  | .next t => (t.bob 0).rd r
  | _ => 0

/-- What is in pick 0's place after a command. -/
def Tests.pickAfter (c : Instr) (s : State) : Option Pick :=
  match exec c s with
  | .next t => t.pick 0
  | _ => none

/-! ### Register operations (R77, R78), by hand -/

theorem test_add_wraps : Tests.after (.add 0 1 2 3) (Tests.run (encA 0 1 2 3 0) [(2, 0xFFFFFFFFFFFFFFFF), (3, 2)] Tests.pick) 1 = 1 := by
  decide +kernel
theorem test_sub_borrows : Tests.after (.sub 0 1 2 3) (Tests.run (encA 0 1 2 3 1) [(2, 1), (3, 2)] Tests.pick) 1 = 0xFFFFFFFFFFFFFFFF := by
  decide +kernel
theorem test_shl_low_six : Tests.after (.shl 0 1 2 3) (Tests.run (encA 0 1 2 3 5) [(2, 3), (3, 65)] Tests.pick) 1 = 6 := by
  decide +kernel
theorem test_sar_sign : Tests.after (.sar 0 1 2 3) (Tests.run (encA 0 1 2 3 7) [(2, 0x8000000000000000), (3, 63)] Tests.pick) 1
    = 0xFFFFFFFFFFFFFFFF := by decide +kernel
theorem test_mulhu : Tests.after (.mulhu 0 1 2 3) (Tests.run (encA 0 1 2 3 9) [(2, 0xFFFFFFFFFFFFFFFF), (3, 2)] Tests.pick) 1 = 1 := by
  decide +kernel
theorem test_min_signed : Tests.after (.minS 0 1 2 3) (Tests.run (encA 0 1 2 3 10) [(2, 0xFFFFFFFFFFFFFFFF), (3, 1)] Tests.pick) 1
    = 0xFFFFFFFFFFFFFFFF := by decide +kernel
theorem test_popc : Tests.after (.popc 0 1 2 3) (Tests.run (encA 0 1 2 3 14) [(2, 0xF1)] Tests.pick) 1 = 5 := by decide +kernel
theorem test_clz_zero : Tests.after (.clz 0 1 2 3) (Tests.run (encA 0 1 2 3 15) [] Tests.pick) 1 = 64 := by decide +kernel
theorem test_bswap16 : Tests.after (.bswap16 0 1 2 3) (Tests.run (encA 0 1 2 3 16) [(2, 0xAABBCCDD)] Tests.pick) 1 = 0xDDCC := by
  decide +kernel
theorem test_li_extends : Tests.after (.li 0 4 0 0x888E) (Tests.run (encI 5 4 0 0x888E) [] Tests.pick) 4 = 0xFFFFFFFFFFFF888E := by
  decide +kernel
theorem test_lis : Tests.after (.lis 0 4 0 0x5678) (Tests.run (encI 6 4 0 0x5678) [(4, 0x1234)] Tests.pick) 4 = 0x12345678 := by
  decide +kernel
theorem test_ext_status : Tests.after (.extF 0 7 5 (7 * 64 + 56)) (Tests.run (encI 7 7 5 (7 * 64 + 56)) [(5, 0x0123456789ABCDEF)] Tests.pick) 7
    = 1 := by decide +kernel
theorem test_g0_discards : Tests.after (.addi 0 0 0 7) (Tests.run (encI 1 0 0 7) [] Tests.pick) 0 = 0 := by decide +kernel

/-! ### Window and record (R51, R54 to R56, R81, R82) -/

/-- Example 3.1, slot 0: two bytes at offset 12 in network order. -/
theorem test_ldw_network : Tests.after (.ldw 0 3 0 1 0 12) (Tests.run (encW 0x18 3 0 1 0 12) [] Tests.pick) 3 = 0x0C0D := by
  decide +kernel
theorem test_ldw_beyond_frame : Tests.after (.ldw 0 3 0 1 0 63) (Tests.run (encW 0x18 3 0 1 0 63) [] Tests.pick) 3 = 0x3F00 := by
  decide +kernel
/-- Example 4.1: WEDIT grows by 16 at window offset 12: bytes 0 to 11 move in front, woff becomes −16, len 80. -/
theorem test_wedit_grows :
    (Tests.pickAfter (.wedit 0 12 0 0 0 12) (Tests.run (encW 0x1A 12 0 0 0 12) [(12, 16)] Tests.pick)).map
      (fun k => (k.woff, k.frame.length, k.winBytes (-16) 2, k.winByte (-4), k.winByte 12)) = some (-16, 80, [0, 1], 0, 12) := by
  decide +kernel
theorem test_ldp_len : Tests.after (.ldp 0 3 0 1 0 8) (Tests.run (encW 0x1B 3 0 1 0 8) [] Tests.pick) 3 = 64 := by decide +kernel

/-! ### Check values (R484, Example 19.1) -/

/-- R484: CRC-32 over "123456789" is 0xCBF43926. -/
theorem test_crc32 : (CrcCtx.feed {} (ascii "123456789")).value = 0xCBF43926 := by decide +kernel
/-- Example 19.1: CRC-16/ARC over "123456789" is 0xBB3D, stored as 0x3D, 0xBB. -/
theorem test_crc16_arc :
    (CrcCtx.feed { w := 2, poly := 0x8005, xorout := 0, reg := 0 } (ascii "123456789")).stored = [0x3D, 0xBB] := by decide +kernel

/-! ### Reset (R388, R417, R435, R450, R466 to R470, R479) -/

theorem test_reset_mode : State.reset.hif.mode = 0 ∧ State.reset.tmu.running = 7 ∧ State.reset.bbx.ready = false
    ∧ State.reset.pins.inReset = false ∧ State.reset.held = true := by decide
theorem test_reset_regs : State.reset.reg .shuBudget = 4096 ∧ State.reset.reg .pmcWake = 0x00010008
    ∧ State.reset.reg .atDrain = 200 ∧ State.reset.reg .lksCap = 4 ∧ State.reset.reg .mscTimeout = 2000
    ∧ State.reset.reg .schQQuantum 5 = 16384 ∧ State.reset.reg .wftPortTimers 2 = 2000 + 8 * 65536 := by decide +kernel
theorem test_reset_counters : (State.reset.evcCfg 16).src = 16 ∧ (State.reset.evcCfg 57).src = 0
    ∧ State.reset.readReg .capId 0 0 = 0x11001 := by decide +kernel

/-- Example 22.1: a TV32-S of stepping B0: CAP_ID, CAP_FEAT, CAP_COUNTS, CAP_AT_CAP, and CAP_AT_CAP with mirror mode. -/
theorem test_cap_tv32s : ∀ s : State, s = { State.reset with variant := .tv32s } →
    s.readReg .capId 0 0 = 0x00011002 ∧ s.readReg .capFeat 0 0 = 0x7D ∧ s.readReg .capCounts 0 0 = 0x00109618
    ∧ s.readReg .capAtCap 0 0 = 0x00800000 ∧ (s.setReg .mscMirror 0 0 1).readReg .capAtCap 0 0 = 0x00400000 := by
  intro s h; subst h; decide +kernel

end
end

