-- ==== Sys2Proof/Tests/Ezgus.lean ====
section
/-! SUPPORT. Witnesses: for each statement about Ezgus, states and operands that meet the hypotheses of each of its
clauses, at the boundaries of their ranges where they have any. -/

-- The tests are checked one after another: side by side each would hold a thread of its own.
section
set_option Elab.async false

open Sys2Proof Sys2Proof.Machine

/-! ### Registers, control transfer, stalls -/

theorem wit_AluResult :
    (Tests.run (encA 0 1 2 3 0) [] Tests.pick).mayIssue 0 (encA 0 1 2 3 0) [1, 2, 3] Tests.pick = true
    ∧ (Tests.run (encA 0 1 2 3 0x12) [] Tests.pick).mayIssue 0 (encA 0 1 2 3 0x12) [1, 2] Tests.pick = true := by decide +kernel

theorem wit_ImmediateResult :
    (Tests.run (encI 0x01 1 2 0xFFFF) [] Tests.pick).mayIssue 0 (encI 0x01 1 2 0xFFFF) [1, 2] Tests.pick = true
    ∧ (Tests.run (encI 0x06 1 2 0) [] Tests.pick).mayIssue 0 (encI 0x06 1 2 0) [1] Tests.pick = true := by decide +kernel

theorem wit_BitFieldResult :
    (Tests.run (encI 0x07 1 2 4095) [] Tests.pick).mayIssue 0 (encI 0x07 1 2 4095) [1, 2] Tests.pick = true
    ∧ (Tests.run (encI 0x08 1 2 0) [] Tests.pick).mayIssue 0 (encI 0x08 1 2 0) [1, 2] Tests.pick = true := by decide +kernel

theorem wit_ControlTransferTarget :
    (Tests.run (encB 0x10 1 2 5) [] Tests.pick).mayIssue 0 (encB 0x10 1 2 5) [1, 2] Tests.pick = true
    ∧ (Tests.run (encJ 1 (-1)) [] Tests.pick).mayIssue 0 (encJ 1 (-1)) [1] Tests.pick = true
    ∧ (Tests.run (encA 0x17 0 2 0 0) [(2, 16383)] Tests.pick).mayIssue 0 (encA 0x17 0 2 0 0) [2] Tests.pick = true
    ∧ (((Tests.run (encA 0x17 0 2 0 0) [(2, 16383)] Tests.pick).bob 0).rd 2).toNat ≤ 16383
    ∧ (Tests.run (encA 0x17 0 2 0 0) [(2, 16384)] Tests.pick).mayIssue 0 (encA 0x17 0 2 0 0) [2] Tests.pick = true
    ∧ 16383 < (((Tests.run (encA 0x17 0 2 0 0) [(2, 16384)] Tests.pick).bob 0).rd 2).toNat := by decide +kernel

/-- Bobbin 0 with g1 pending. -/
def Tests.busy : State := State.reset.setBob 0 { sb := 2 }

theorem wit_PendingRegisterStalls : (Tests.busy.bob 0).busy 1 = true := by decide +kernel

/-! ### Window, record, scratch -/

/-- Bobbin 0 at word w, with g2 and nothing else set, running `Tests.pick`. -/
def Tests.w (w : Word) (g2 : DWord) : State := Tests.run w [(2, g2)] Tests.pick

theorem wit_WindowLoadValue : ∀ s : State, s = Tests.w (encW 0x18 1 2 3 0 0) 504 →
    s.mayIssueRun 0 (encW 0x18 1 2 3 0 0) [1, 2] 0 Tests.pick = true ∧ Tests.pick.cipherBusy = false
    ∧ -64 ≤ effOffset (s.bob 0) 2 0 ∧ effOffset (s.bob 0) 2 0 + (2 ^ (3 : BitVec 2).toNat : Nat) - 1 ≤ 511 := by
  intro s h; subst h; decide +kernel

theorem wit_WindowStoreWrites : ∀ s : State, s = Tests.w (encW 0x19 1 2 3 0 0) 56 →
    s.mayIssueRun 0 (encW 0x19 1 2 3 0 0) [1, 2] 0 Tests.pick = true ∧ Tests.pick.cipher = none ∧ Tests.pick.opened = false
    ∧ effOffset (s.bob 0) 2 0 = 56 ∧ (56 : Int) + 8 ≤ Tests.pick.woff.toInt + Tests.pick.frame.length
    ∧ (Tests.pick.newCells 56 63).length ≤ s.cellsFree := by
  intro s h; subst h; decide +kernel

theorem wit_WindowEditResizes :
    (∀ s : State, s = Tests.run (encW 0x1A 1 2 0 1 0) [(1, 50)] Tests.pick →
      s.mayIssueRun 0 (encW 0x1A 1 2 0 1 0) [1, 2] 0 Tests.pick = true ∧ effOffset (s.bob 0) 2 0 = 0
      ∧ ((s.bob 0).rd 1).toNat = 50 ∧ (0 : Int) + 50 ≤ Tests.pick.woff.toInt + Tests.pick.frame.length
      ∧ 14 + 50 ≤ Tests.pick.frame.length ∧ (Tests.pick.newCells (0 + 50) (0 + 50 - 1)).length ≤ s.cellsFree)
    ∧ (∀ s : State, s = Tests.run (encW 0x1A 1 2 0 0 0) [(1, 64), (2, 64)] Tests.pick →
      s.mayIssueRun 0 (encW 0x1A 1 2 0 0 0) [1, 2] 0 Tests.pick = true ∧ effOffset (s.bob 0) 2 0 = 64
      ∧ ((s.bob 0).rd 1).toNat = 64 ∧ (64 : Int) ≤ Tests.pick.woff.toInt + Tests.pick.frame.length
      ∧ (-64 : Int) ≤ Tests.pick.woff.toInt - 64 ∧ (Tests.pick.newCells (0 - 64) (64 - 1)).length ≤ s.cellsFree) := by
  refine ⟨?_, ?_⟩ <;> (intro s h; subst h; decide +kernel)

theorem wit_RecordAccess :
    (∀ s : State, s = Tests.w (encW 0x1B 1 2 3 0 0) 56 →
      s.mayIssueRun 0 (encW 0x1B 1 2 3 0 0) [1, 2] 0 Tests.pick = true ∧ effOffset (s.bob 0) 2 0 = 56 ∧ s.timeAware 0 = true)
    ∧ (∀ s : State, s = Tests.w (encW 0x1B 1 2 3 0 0) 57 →
      s.mayIssueRun 0 (encW 0x1B 1 2 3 0 0) [1, 2] 0 Tests.pick = true ∧ effOffset (s.bob 0) 2 0 % 8 ≠ 0)
    ∧ (∀ s : State, s = Tests.w (encW 0x1C 1 2 0 0 0) 7 →
      s.mayIssueRun 0 (encW 0x1C 1 2 0 0 0) [1, 2] 0 Tests.pick = true ∧ effOffset (s.bob 0) 2 0 = 7
      ∧ Claims.rwMask (7 + 0) ≠ 0)
    ∧ (∀ s : State, s = Tests.w (encW 0x1C 1 2 0 0 0) 8 →
      s.mayIssueRun 0 (encW 0x1C 1 2 0 0 0) [1, 2] 0 Tests.pick = true ∧ effOffset (s.bob 0) 2 0 = 8
      ∧ ∀ i < 1, Claims.rwMask (8 + i) = 0) := by
  refine ⟨?_, ?_, ?_, ?_⟩ <;> (intro s h; subst h; decide +kernel)

theorem wit_ScratchIssue :
    (∀ op ∈ [0x1D, 0x1E, 0x1F], ∀ s : State, s = Tests.w (encW op 1 2 3 0 0) 16376 →
      s.mayIssueRun 0 (encW op 1 2 3 0 0) [1, 2] 0 Tests.pick = true ∧ effOffset (s.bob 0) 2 0 = 16376
      ∧ (s.bob 0).fenced = false)
    ∧ (Tests.w (encU 0x31 0 0 0 0 0) 0).mayIssue 0 (encU 0x31 0 0 0 0 0) [] Tests.pick = true := by
  refine ⟨?_, by decide +kernel⟩
  intro op h s e; subst e; fin_cases h <;> decide +kernel

theorem wit_ScratchAccessTraps :
    (∀ op ∈ [0x1D, 0x1E, 0x1F], ∀ s : State, s = Tests.w (encW op 1 2 3 0 0) 16377 →
      s.mayIssueRun 0 (encW op 1 2 3 0 0) [1, 2] 0 Tests.pick = true ∧ (16384 : Int) < effOffset (s.bob 0) 2 0 + 8)
    ∧ ∀ s : State, s = Tests.w (encW 0x1F 1 2 1 0 0) 8 →
      s.mayIssue 0 (encW 0x1F 1 2 1 0 0) [1, 2] Tests.pick = true ∧ s.mayIssueRun 0 (encW 0x1F 1 2 1 0 0) [1, 2] 0 Tests.pick = true
      ∧ effOffset (s.bob 0) 2 0 = 8 ∧ 2 ^ (1 : BitVec 2).toNat < 4 := by
  refine ⟨?_, ?_⟩
  · intro op h s e; subst e; fin_cases h <;> decide +kernel
  · intro s e; subst e; decide +kernel

/-- Bobbin 0 of `Tests.run` with one operation pending on g1. -/
def Tests.pend (op : AsyncOp) (k : Pick) : State :=
  (Tests.run 0 [] k).setBob 0 { pick := some 0, sb := 2, pend := [⟨1, op, 0, 0⟩] }

theorem wit_ScratchCompletes :
    ((Tests.pend (.lds 16376 8 true) Tests.pick).bob 0).pend = ⟨1, .lds 16376 8 true, 0, 0⟩ :: []
    ∧ ((Tests.pend (.fadd 0 4 false 1) Tests.pick).bob 0).pend = ⟨1, .fadd 0 4 false 1, 0, 0⟩ :: [] := by decide +kernel

/-! ### Lookups, packet numbers, ordering -/

theorem wit_LookupIssue : ∀ e ∈ [((0 : Nat), ([1, 2, 3] : List Reg)), (1, [1, 2, 3]), (2, [1, 2])],
    ∀ imm ∈ ([0, 1, 2] : List (BitVec 6)), ∀ s : State, s = Tests.w (encU 0x20 1 2 3 e.1 imm) 0 →
    s.mayIssueRun 0 (encU 0x20 1 2 3 e.1 imm) e.2 0 Tests.pick = true := by
  intro e h imm g s q; subst q; fin_cases h <;> fin_cases g <;> decide +kernel

/-- A flow of space 1 with key 5, 6. -/
def Tests.flow : Flow := { space := 1, lo := 5, hi := 6, result := 7, hits := 0, domain := 0, bucket := 0, poisoned := false }

theorem Tests.no_waits (s : State) (ls : List Nat) (h : s.msc.rerooting = []) : s.tableWaits ls = false := by
  simp [State.tableWaits, State.rerooted, h]

theorem Tests.no_bad (s : State) (ls : List Nat) (h : s.msc.suspects = []) (k : s.keyless = false) : s.tableBad ls = none := by
  simp [State.tableBad, State.suspect, h, k]

theorem wit_FlowLookupResult :
    (∀ s : State, s = Tests.pend (.lookFt 1 5 6) Tests.pick →
      (s.bob 0).pend = ⟨1, .lookFt 1 5 6, 0, 0⟩ :: []
      ∧ s.tableWaits ((s.bucketsOf 1 5 6).flatMap s.bucketLines) = false
      ∧ s.tableBad ((s.bucketsOf 1 5 6).flatMap s.bucketLines) = none
      ∧ s.tab.flows.find? (fun f => f.hasKey 1 5 6) = none)
    ∧ (∀ s : State, s = { Tests.pend (.lookFt 1 5 6) Tests.pick with tab := { flows := [Tests.flow] } } →
      s.tab.flows.find? (fun f => f.hasKey 1 5 6) = some Tests.flow
      ∧ s.tableWaits ((s.bucketsOf 1 5 6).flatMap s.bucketLines) = false
      ∧ s.tableBad ((s.bucketsOf 1 5 6).flatMap s.bucketLines) = none) := by
  refine ⟨?_, ?_⟩ <;> intro s h
  · exact ⟨by subst h; decide +kernel, Tests.no_waits _ _ (by subst h; decide +kernel),
      Tests.no_bad _ _ (by subst h; decide +kernel) (by subst h; decide +kernel), by subst h; decide +kernel⟩
  · exact ⟨by subst h; decide +kernel, Tests.no_waits _ _ (by subst h; decide +kernel),
      Tests.no_bad _ _ (by subst h; decide +kernel) (by subst h; decide +kernel)⟩

/-- Entry 5 of the mask table matches key 9 under mask 15 in partition 2. -/
def Tests.mt : List (Nat × MtEntry) := [(5, { value := 9, mask := 15, part := 2, valid := true, result := 3 })]

theorem wit_MaskLookupResult : ∀ s : State, s = { Tests.pend (.lookMt 2 9 0) Tests.pick with tab := { mt := Tests.mt } } →
    (s.bob 0).pend = ⟨1, .lookMt 2 9 0, 0, 0⟩ :: [] ∧ tsorted (fun i _ => decide (i < 4096)) s.tab.mt = true
    ∧ ∃ e, (5, e) ∈ s.tab.mt ∧ e.valid = true ∧ e.part = 2 ∧ ((0 : DWord) ++ (9 : DWord)) &&& e.mask = e.value
      ∧ (∀ x ∈ s.tab.mt, x.2.valid = true → x.2.part = 3 → ((0 : DWord) ++ (9 : DWord)) &&& x.2.mask ≠ x.2.value) := by
  intro s h; subst h
  exact ⟨by decide +kernel, by decide +kernel, _, List.mem_singleton.2 rfl, by decide +kernel, by decide +kernel, by decide +kernel,
    by decide +kernel⟩

/-- An ACTIVE association of suite 1 whose slot A is valid with packet number pn. -/
def Tests.at (pn : DWord) : AtEntry :=
  { st := .active, suite := 1, k := 31, a := { key := List.replicate 32 1, pn := pn, valid := true } }

theorem wit_AssociationLookupSnapshot :
    (∀ s : State, s = { Tests.pend (.lookAt 16777215 0 false) Tests.pick with tab := { assocs := [(16777215, Tests.at 5)] } } →
      (s.bob 0).pend = ⟨1, .lookAt 16777215 0 false, 0, 0⟩ :: [] ∧ (s.bob 0).pick = some 0 ∧ s.pick 0 = some Tests.pick
      ∧ Tests.pick.refHeld = none ∧ s.assoc 16777215 = Tests.at 5 ∧ 16777215 < s.capacity
      ∧ s.tableWaits (assocLines 16777215) = false ∧ s.tableBad (assocLines 16777215) = none
      ∧ (s.assoc 16777214).st = .empty)
    ∧ (∀ s : State, s = { Tests.pend (.lookAt 16777215 0 false) Tests.pick with variant := .tv16e } →
      ¬ 16777215 < s.capacity) := by
  refine ⟨?_, ?_⟩ <;> (intro s h; subst h; decide +kernel)

/-- A pick whose latest lookup of association 3 returned OK for transmission, slot A. -/
def Tests.txPick : Pick :=
  { Tests.pick with assoc := 3, snap := some { rx := false, status := 0, slot := some false, entry := Tests.at 5 } }

theorem wit_PacketNumberIssue :
    (∀ n < 2, ∀ s : State, s = Tests.run (encU 0x21 1 2 3 n 0) [] Tests.txPick →
      s.mayIssueRun 0 (encU 0x21 1 2 3 n 0) [1] 0 Tests.txPick = true ∧ (s.bob 0).pends AsyncOp.isLookAt = false
      ∧ (s.bob 0).pends AsyncOp.isPnNext = false ∧ Tests.txPick.memTrap = false ∧ Tests.txPick.snapOk false = true
      ∧ Tests.txPick.servedNow.contains Tests.txPick.assoc = false ∧ Tests.pick.snapOk false = false)
    ∧ (∀ s : State, s = Tests.run (encU 0x22 1 2 3 0 0) [] Tests.pick →
      s.mayIssueRun 0 (encU 0x22 1 2 3 0 0) [1, 2] 0 Tests.pick = true ∧ Tests.pick.ordUsed = false ∧ Tests.pick.pnIssued = false)
    ∧ (∀ k, k = { Tests.pick with ordUsed := true } → ∀ s : State, s = Tests.run (encU 0x22 1 2 3 1 0) [] k →
      s.mayIssueRun 0 (encU 0x22 1 2 3 1 0) [] 0 k = true ∧ k.ordUsed = true) := by
  refine ⟨?_, ?_, ?_⟩
  · intro n h s e; subst e; interval_cases n <;> decide +kernel
  · intro s e; subst e; decide +kernel
  · intro k h s e; subst h; subst e; decide +kernel

/-- Bobbin 0 waits for its packet number of association 3, whose next one is pn. -/
def Tests.served (op : AsyncOp) (pn : DWord) (k : Pick) : State :=
  { Tests.pend op k with tab := { assocs := [(3, Tests.at pn)] } }

/-- Pick 0 with sequence number 1, behind pick 1 of the same domain that has not passed its packet-number point. -/
def Tests.behind (op : AsyncOp) : State :=
  (Tests.served op 5 { Tests.txPick with seq := 1 }).setPick 1 Tests.pick

theorem wit_PacketNumberServed :
    (∀ op ∈ [AsyncOp.pnNext, .pnPeek], ∀ pn ∈ ([5, 4294967295] : List DWord), ∀ s : State,
      s = Tests.served op pn Tests.txPick →
      (s.bob 0).pend = ⟨1, op, 0, 0⟩ :: [] ∧ (s.bob 0).pick = some 0 ∧ s.pick 0 = some Tests.txPick
      ∧ Tests.txPick.ordWait = false ∧ Tests.txPick.memTrap = false ∧ s.lowerHolds 0 Tests.txPick Pick.holdsPn = false
      ∧ Tests.txPick.recorded = none ∧ ((s.assoc 3).slot false).pn = pn
      ∧ (pn = 5 → pn.toNat < 2 ^ ((s.assoc 3).k.toNat + 1) - 1)
      ∧ (pn ≠ 5 → 2 ^ ((s.assoc 3).k.toNat + 1) - 1 ≤ pn.toNat))
    ∧ ({ Tests.txPick with served := [(3, 7)] } : Pick).recorded = some 7
    ∧ (∀ s : State, s = Tests.behind .pnPeek →
      (s.bob 0).pend = ⟨1, .pnPeek, 0, 0⟩ :: [] ∧ (s.bob 0).pick = some 0
      ∧ s.pick 0 = some { Tests.txPick with seq := 1 } ∧ Tests.txPick.recorded = none
      ∧ s.lowerHolds 0 { Tests.txPick with seq := 1 } Pick.holdsPn = true) := by
  refine ⟨?_, by decide +kernel, by intro s e; subst e; decide +kernel⟩
  intro op h pn g s e; subst e; fin_cases h <;> fin_cases g <;> decide +kernel

theorem wit_OrderingDomainGranted : ∀ k, k = { Tests.pick with ordUsed := true, ordWait := true } →
    ∀ s : State, s = Tests.pend (.ordDom 9) k →
    (s.bob 0).pend = ⟨1, .ordDom 9, 0, 0⟩ :: [] ∧ (s.bob 0).pick = some 0 ∧ s.pick 0 = some k ∧ k.ordMoved = false
    ∧ s.lowerHolds 0 k Pick.holdsOrd = false := by
  intro k h s e; subst h; subst e; decide +kernel

end
end

