-- ==== Sys2Proof/Tests/Units.lean ====
section
/-! SUPPORT. Witnesses for the statements about cipher operations, engines, check values, dispositions, traps, counting. -/

-- The tests are checked one after another: side by side each would hold a thread of its own.
section
set_option Elab.async false

open Sys2Proof Sys2Proof.Machine

/-! ### Cipher operations and engines -/

/-- A pick whose latest lookup of association 3 returned OK for reception, slot A, with the CUT flag. -/
def Tests.rxPick : Pick :=
  { Tests.pick with assoc := 3, snap := some { rx := true, slot := some false, entry := { Tests.at 5 with cut := true } } }

theorem wit_CipherIssue :
    (∀ k, k = { Tests.txPick with served := [(3, 5)], servedNow := [3] } → ∀ s : State, s = Tests.run (encU 0x23 1 2 3 0 0) [(2, 64)] k →
      k.cipher = none ∧ k.opened = false ∧ k.snap = some { rx := false, status := 0, slot := some false, entry := Tests.at 5 }
      ∧ (s.bob 0).pends AsyncOp.isLookAt = false ∧ s.mayIssueRun 0 (encU 0x23 1 2 3 0 0) [1, 2, 3] 0 k = true
      ∧ (s.bob 0).pends AsyncOp.isPnNext = false ∧ k.servedNow.contains k.assoc = true
      ∧ k.served.find? (fun e => e.1 == k.assoc) = some (k.assoc, 5)
      ∧ ((s.bob 0).rd 2).toNat = k.frame.length ∧ k.frame.length + 16 ≤ 16128)
    ∧ (∀ imm ∈ ([0, 1] : List (BitVec 6)), ∀ s : State, s = Tests.run (encU 0x24 0 2 3 0 imm) [(2, 48)] Tests.rxPick →
      s.mayIssueRun 0 (encU 0x24 0 2 3 0 imm) [0, 2, 3] 0 Tests.rxPick = true ∧ Tests.rxPick.memTrap = false
      ∧ (∃ sn, Tests.rxPick.snap = some sn ∧ sn.rx = true ∧ sn.status = 0 ∧ sn.entry.cut = true)
      ∧ ((s.bob 0).rd 2).toNat + 16 = Tests.rxPick.frame.length) := by
  refine ⟨?_, ?_⟩
  · intro k h s e; subst h; subst e; decide +kernel
  · intro imm h s e; subst e; fin_cases h
    · exact ⟨by decide +kernel, by decide +kernel, ⟨_, rfl, by decide +kernel, by decide +kernel, by decide +kernel⟩, by decide +kernel⟩
    · exact ⟨by decide +kernel, by decide +kernel, ⟨_, rfl, by decide +kernel, by decide +kernel, by decide +kernel⟩, by decide +kernel⟩

/-- A cipher operation of bobbin 0 on association 3. -/
def Tests.cip (op : Bool) (ph : CipherPhase) (pn : DWord) (r : Option (Bool × Bytes)) : Cipher :=
  { isOpen := op, d := 1, bob := 0, pc := 0, aad := 0, sci := 0, cut := false, level := 1, phase := ph, ord := 0,
    snap := { rx := op, slot := some false, entry := { Tests.at 5 with replay := true, window := 2 } }, assoc := 3, pn := pn,
    result := r, status := 0 }

/-- Pick 0 of bobbin 0 with a cipher operation. -/
def Tests.ciph (c : Cipher) : State :=
  { Tests.run 0 [] { Tests.rxPick with cipher := some c } with tab := { assocs := [(3, Tests.at 5)] } }

theorem wit_CipherCompletes :
    (∀ pn ∈ ([0, 4, 5] : List DWord), ∀ c, c = Tests.cip true .requested pn none → ∀ s : State, s = Tests.ciph c →
      s.pick 0 = some { Tests.rxPick with cipher := some c } ∧ (s.bob c.bob).pick = some 0 ∧ c.d ≠ 0
      ∧ s.lowerHolds 0 { Tests.rxPick with cipher := some c } Pick.holdsPn = false ∧ Tests.rxPick.ordWait = false
      ∧ Tests.rxPick.disp = 0
      ∧ (pn ≠ 0 → pn ≠ 4 → ((s.assoc c.assoc.toNat).slot (c.snap.slot.getD false)).pn.toNat ≤ c.pn.toNat)
      ∧ (pn = 4 → c.pn.toNat < ((s.assoc c.assoc.toNat).slot (c.snap.slot.getD false)).pn.toNat))
    ∧ (∀ ok ∈ [true, false], ∀ c, c = Tests.cip true .engineDone 9 (some (ok, [1])) → ∀ s : State, s = Tests.ciph c →
      s.earlierOpen 0 c = false ∧ ((s.assoc c.assoc.toNat).slot (c.snap.slot.getD false)).pn.toNat ≤ c.pn.toNat
      ∧ ((s.assoc c.assoc.toNat).slot (c.snap.slot.getD false)).loads = (c.snap.entry.slot (c.snap.slot.getD false)).loads
      ∧ c.pn.toNat + 1 - c.snap.entry.window.toNat < 2 ^ 64)
    ∧ (∀ ok ∈ [true, false], ∀ c, c = Tests.cip true .engineDone 4 (some (ok, [1])) → ∀ s : State, s = Tests.ciph c →
      s.earlierOpen 0 c = false ∧ c.snap.entry.replay = true
      ∧ c.pn.toNat < ((s.assoc c.assoc.toNat).slot (c.snap.slot.getD false)).pn.toNat
      ∧ ({ Tests.rxPick with cipher := some c } : Pick).verified ≠ some (c.assoc, c.pn))
    ∧ (Tests.cip false .engineDone 9 (some (true, [1]))).result = some (true, [1]) := by
  refine ⟨?_, ?_, ?_, by decide +kernel⟩
  · intro pn h c hc s e; subst hc; subst e; fin_cases h <;> decide +kernel
  · intro ok h c hc s e; subst hc; subst e; fin_cases h <;> decide +kernel
  · intro ok h c hc s e; subst hc; subst e; fin_cases h <;> decide +kernel

/-- The job of pick 0's cipher operation, in state st. -/
def Tests.job (id lv : Nat) (st : JobSt) (stalled : Bool) : Job :=
  { id := id, kind := .seal, level := lv, ord := id, st := st, ctx := .assoc 3 false 0, pick := some 0, stalled := stalled }

/-- The first n engines of the variant are ready, the others quarantined, and jobs wait or run. -/
def Tests.engOf (n : Nat) (jobs : List Job) (drbg : Nat) : State :=
  { Tests.ciph (Tests.cip false .job 5 none) with
    cie := { jobs := jobs, next := 9, engines := (List.range 48).map (fun e =>
      (e, ({ st := if e < n then .fresh else .quarantined } : Engine))) }
    kcu := { (Tests.ciph (Tests.cip false .job 5 none)).kcu with drbg := drbg } }

/-- As `Tests.engOf` with engines 0 and 1 ready. -/
def Tests.eng (jobs : List Job) (drbg : Nat) : State := Tests.engOf 2 jobs drbg

/-- The one running job, on engine 0, not yet in its last block, is the victim of a job of a higher level. -/
theorem Tests.victim (s : State) (lv : Nat) (j : Job) (rest : List Nat) (hr : List.range s.variant.engines = 0 :: rest)
    (h0 : s.jobOn 0 = some j) (hf : Config.lastBlockIn j.id s.tb.elapsed = false) (hl : j.level < lv)
    (ho : s.engineOpen 0 = true) (hn : ∀ e ∈ rest, s.jobOn e = none) : s.victimFor lv = some 0 := by
  have key : ∀ l : List Nat, (∀ e ∈ l, s.jobOn e = none) → ∀ f : Option Nat → Nat → Option Nat,
      (∀ b e, s.jobOn e = none → f b e = b) → l.foldl f (some 0) = some 0 := by
    intro l hl f hf
    induction l with
    | nil => rfl
    | cons x xs ih => simp [hf _ x (hl x (by simp)), ih (fun e h => hl e (by simp [h]))]
  unfold State.victimFor
  rw [hr]
  simp only [List.foldl_cons]
  rw [show (Option.map (fun j : Job => j.level) (Option.filter (fun j : Job => !Config.lastBlockIn j.id s.tb.elapsed) (s.jobOn 0)))
    = some j.level by rw [h0]; simp [Option.filter, hf]]
  simp only [ho, Nat.not_le.2 hl, Bool.true_eq_false, or_self, if_false]
  exact key rest hn _ (fun b e he => by simp [he])

theorem wit_EngineJobs :
    (∀ s : State, s = Tests.eng [Tests.job 0 1 .queued false] 2 →
      s.cie.jobs.Pairwise (fun x y => x.id ≠ y.id) ∧ s.kcu.drbg = 2 ∧ s.nextJob = some (Tests.job 0 1 .queued false)
      ∧ s.idleFor (Tests.job 0 1 .queued false) = some 0)
    ∧ (∀ s : State, s = Tests.engOf 1 [Tests.job 0 0 (.running 0) false, Tests.job 2 1 .queued false] 2 →
      s.cie.jobs.Pairwise (fun x y => x.id ≠ y.id) ∧ s.kcu.drbg = 2 ∧ s.nextJob = some (Tests.job 2 1 .queued false)
      ∧ s.idleFor (Tests.job 2 1 .queued false) = none ∧ (Config.lastBlockIn 0 0 = false → s.victimFor 1 = some 0))
    ∧ (∀ s : State, s = Tests.eng [{ Tests.job 0 1 (.running 0) false with constant := true }] 2 →
      s.jobOn 0 = some { Tests.job 0 1 (.running 0) false with constant := true }
      ∧ s.pick 0 = some { Tests.rxPick with cipher := some (Tests.cip false .job 5 none) }
      ∧ s.cie.jobs.any (fun x => x.st == .doomed 0) = false)
    ∧ (∀ s : State, s = Tests.eng [Tests.job 0 1 (.running 0) true] 2 →
      s.jobOn 0 = some (Tests.job 0 1 (.running 0) true) ∧ s.kcu.drbg = 2) := by
  refine ⟨?_, ?_, ?_, ?_⟩
  · intro s h; subst h; decide +kernel
  · intro s h; subst h
    exact ⟨by decide +kernel, by decide +kernel, by decide +kernel, by decide +kernel, fun hf =>
      Tests.victim _ _ _ _ rfl (show _ = some (Tests.job 0 0 (.running 0) false) by decide +kernel) hf (by decide +kernel)
        (by decide +kernel) (by decide +kernel)⟩
  · intro s h; subst h; decide +kernel
  · intro s h; subst h; decide +kernel

/-! ### Check values, colour, time -/

/-- Bobbin 0 at word w with a CRC profile of four bytes. -/
def Tests.crc (w : Word) (g : Tbl DWord) : State :=
  (Tests.run w g Tests.pick).setBob 0 { (Tests.run w g Tests.pick).bob 0 with crc := { w := 4 } }

theorem wit_CheckValues :
    (∀ s : State, s = Tests.crc (encU 0x25 1 2 3 0 0) [(2, 60), (3, 4)] →
      s.mayIssueRun 0 (encU 0x25 1 2 3 0 0) [2, 3] 0 Tests.pick = true
      ∧ ((s.bob 0).rd 2).toNat + ((s.bob 0).rd 3).toNat = Tests.pick.frame.length)
    ∧ (∀ s : State, s = Tests.crc (encU 0x25 1 2 3 1 0) [(2, 60)] →
      s.mayIssueRun 0 (encU 0x25 1 2 3 1 0) [2] 0 Tests.pick = true
      ∧ (s.bob 0).crc.w + ((s.bob 0).rd 2).toNat = Tests.pick.frame.length)
    ∧ (∀ s : State, s = Tests.crc (encU 0x25 1 2 3 2 1) [] →
      s.mayIssueRun 0 (encU 0x25 1 2 3 2 1) [1] 0 Tests.pick = true)
    ∧ (∀ s : State, s = Tests.crc (encU 0x25 1 2 3 3 31) [] →
      s.mayIssueRun 0 (encU 0x25 1 2 3 3 31) [2] 0 Tests.pick = true)
    ∧ (∀ s : State, s = Tests.pend (.crcGet 5 4) Tests.pick →
      (s.bob 0).pick = some 0 ∧ s.pick 0 = some Tests.pick ∧ (s.bob 0).pend = ⟨1, .crcGet 5 4, 0, 0⟩ :: []) := by
  refine ⟨?_, ?_, ?_, ?_, ?_⟩ <;> (intro s h; subst h; decide +kernel)

theorem wit_ColourAndTime :
    (∀ imm ∈ ([0, 1] : List (BitVec 6)), ∀ s : State, s = Tests.run (encU 0x26 1 2 0 0 imm) [(2, 32767)] Tests.pick →
      s.mayIssueRun 0 (encU 0x26 1 2 0 0 imm) [1, 2, 0] 0 Tests.pick = true
      ∧ ((s.bob 0).rd 2).toNat % 2 ^ 20 = s.variant.policers - 1 ∧ s.tb.elapsed < s.sch.lastTick + 64)
    ∧ (∀ imm ∈ ([0, 1, 2] : List (BitVec 6)), ∀ s : State, s = Tests.run (encU 0x27 1 2 0 0 imm) [] Tests.pick →
      s.mayIssueRun 0 (encU 0x27 1 2 0 0 imm) [1] 0 Tests.pick = true) := by
  refine ⟨?_, ?_⟩ <;> (intro imm h s e; subst e; fin_cases h <;> decide +kernel)

/-! ### Dispositions, waiting, counting, traps -/

theorem wit_DispositionEndsPick :
    (∀ k, k = Tests.rxPick → ∀ imm ∈ ([0, 3] : List (BitVec 6)),
      ∀ s : State, s = Tests.run (encU 0x28 0 2 3 0 imm) [] k →
      s.mayIssueRun 0 (encU 0x28 0 2 3 0 imm) [] 0 k = true ∧ (s.bob 0).sb = 0
      ∧ (s.bob 0).pends AsyncOp.isLookAt = false ∧ k.lookedUp = true ∧ k.openFailed = false ∧ k.frame.length ≤ 16128)
    ∧ (∀ s : State, s = Tests.run (encU 0x2A 0 2 3 0 63) [] Tests.pick →
      s.mayIssueRun 0 (encU 0x2A 0 2 3 0 63) [2] 0 Tests.pick = true ∧ (s.bob 0).sb = 0)
    ∧ (∀ imm ∈ ([3, 6, 15] : List (BitVec 6)), ∀ s : State, s = Tests.run (encU 0x2B 0 2 3 0 imm) [(3, 1)] Tests.pick →
      s.mayIssueRun 0 (encU 0x2B 0 2 3 0 imm) [2, 3] 0 Tests.pick = true ∧ (s.bob 0).sb = 0
      ∧ ((s.bob 0).rd 3).toNat % 2 ^ 16 ≠ 0 ∧ 0 < s.variant.weftPorts)
    ∧ (∀ imm ∈ ([0, 3] : List (BitVec 6)), ∀ s : State, s = Tests.run (encU 0x2C 0 2 3 0 imm) [] Tests.pick →
      s.mayIssueRun 0 (encU 0x2C 0 2 3 0 imm) [2] 0 Tests.pick = true ∧ Tests.pick.mirrorCount < 2) := by
  refine ⟨?_, ?_, ?_, ?_⟩
  · intro k hk imm h s e; subst hk; subst e; fin_cases h <;> decide +kernel
  · intro s e; subst e; decide +kernel
  · intro imm h s e; subst e; fin_cases h <;> decide +kernel
  · intro imm h s e; subst e; fin_cases h <;> decide +kernel

/-- A pick that has asked for a copy of itself. -/
def Tests.mirrored : Pick := { Tests.pick with mirrors := [{ toQueue := false, target := 0, original := false }], mirrorCount := 1 }

theorem wit_DropEndsPick : ∀ k ∈ [Tests.pick, Tests.mirrored], ∀ r ∈ ([3, 7, 8, 64, 255, 9, 63, 256] : List DWord),
    ∀ s : State, s = Tests.run (encU 0x29 0 2 0 0 0) [(2, r)] k →
    s.mayIssueRun 0 (encU 0x29 0 2 0 0 0) [2] 0 k = true ∧ ((s.bob 0).rd 2).toNat % 256 = r.toNat % 256 := by
  intro k h r g s e; subst e; fin_cases h <;> fin_cases g <;> decide +kernel

theorem wit_WaitOnScoreboard :
    ∀ imm ∈ ([0, 1] : List (BitVec 6)), ∀ sb ∈ ([0, 2] : List Word), ∀ s : State,
      s = (Tests.run (encU 0x2E 0 2 0 0 imm) [(2, 2)] Tests.pick).setBob 0
        { (Tests.run (encU 0x2E 0 2 0 0 imm) [(2, 2)] Tests.pick).bob 0 with sb := sb } →
      s.mayIssue 0 (encU 0x2E 0 2 0 0 imm) (if imm.getLsbD 0 then [] else [2]) Tests.pick = true
      ∧ (sb = 0 → ∀ n, n < 32 → (s.bob 0).sb.getLsbD n = false)
      ∧ (sb ≠ 0 → ((s.bob 0).rd 2).getLsbD 1 = true ∧ (s.bob 0).sb.getLsbD 1 = true) := by
  intro imm h sb g s e; subst e; fin_cases h <;> fin_cases g <;> decide +kernel

theorem wit_CountAndHalt :
    (∀ src ∈ ([255, 3] : List Nat), ∀ op ∈ [0, 1], ∀ s : State,
      s = { Tests.run (encU 0x2D 0 2 3 op 0) [(2, 7), (3, 2 ^ 48 - 2)] Tests.pick with
        evc := { cfg := [(7, { src := src })] } } →
      s.mayIssue 0 (encU 0x2D 0 2 3 op 0) (if op = 0 then [2] else [2, 3]) Tests.pick = true
      ∧ (s.evcCfg 7).src = src ∧ (s.evcCfg 7).chain = false
      ∧ tget 0 s.evc.cnt 7 + ((s.bob 0).rd 3).toNat % 2 ^ 48 < 2 ^ 48 - 1)
    ∧ (∀ sb ∈ ([0, 2] : List Word), ∀ k ∈ [Tests.pick, { Tests.pick with disp := 1, st := .ended }], ∀ s : State,
      s = (Tests.run (encU 0x30 0 0 0 0 0) [] k).setBob 0
        { sb := sb, pick := if k.disp = 0 then some 0 else none, left := if k.disp = 0 then none else some k } →
      s.mayIssue 0 (encU 0x30 0 0 0 0 0) [] k = true ∧ (s.bob 0).sb = sb ∧ (s.bob 0).pend = []) := by
  refine ⟨?_, ?_⟩
  · intro src h op g s e; subst e; fin_cases h <;> fin_cases g <;> decide +kernel
  · intro sb h k g s e; subst e; fin_cases h <;> fin_cases g <;> decide +kernel

/-- Bobbin 0 at word w with its budget used up. -/
def Tests.spent (w : Word) : State := (Tests.run w [] Tests.pick).setBob 0 { pick := some 0, count := 4096 }

theorem wit_TrapTaken_budget :
    (∀ w ∈ Claims.aluOne.map (fun e => encA 0 1 2 3 e.1) ++ Claims.immediates.map (fun e => encI e.1 1 2 7)
        ++ Claims.branches.map (fun e => encB e.1 2 3 7), ∀ s : State, s = Tests.spent w →
      s.bobPick 0 = some Tests.pick ∧ Tests.pick.cellWait = false ∧ (∀ r ∈ [1, 2, 3], (s.bob 0).busy r = false)
      ∧ s.budget (s.bob 0) ≤ (s.bob 0).count ∧ s.fetchWord 0 = some w) := by
  intro w h s e; subst e; fin_cases h <;> decide +kernel

/-- A pick at each end of the legal window offsets and frame lengths. -/
theorem wit_TrapTaken_window :
    (∀ g ∈ ([(505 : DWord), 0xFFFF_FFFF_FFFF_FFBF] : List DWord), ∀ s : State, s = Tests.w (encW 0x18 1 2 3 0 0) g →
      s.mayIssueRun 0 (encW 0x18 1 2 3 0 0) [1, 2] 0 Tests.pick = true
      ∧ (effOffset (s.bob 0) 2 0 < -64 ∨ 511 < effOffset (s.bob 0) 2 0 + 8 - 1))
    ∧ (∀ g ∈ ([(57 : DWord), 0xFFFF_FFFF_FFFF_FFFF] : List DWord), ∀ s : State, s = Tests.w (encW 0x19 1 2 3 0 0) g →
      s.mayIssueRun 0 (encW 0x19 1 2 3 0 0) [1, 2] 0 Tests.pick = true ∧ Tests.pick.cipher = none ∧ Tests.pick.opened = false
      ∧ (effOffset (s.bob 0) 2 0 < Tests.pick.woff.toInt
        ∨ Tests.pick.woff.toInt + Tests.pick.frame.length < effOffset (s.bob 0) 2 0 + 8))
    ∧ (∀ g ∈ ([(64 : DWord), 51] : List DWord), ∀ s : State, s = Tests.run (encW 0x1A 1 2 0 1 0) [(1, 51), (2, g)] Tests.pick →
      s.mayIssueRun 0 (encW 0x1A 1 2 0 1 0) [1, 2] 0 Tests.pick = true ∧ ((s.bob 0).rd 1).toNat = 51
      ∧ (Tests.pick.woff.toInt + Tests.pick.frame.length < effOffset (s.bob 0) 2 0 + 51 ∨ Tests.pick.frame.length < 14 + 51))
    ∧ (∀ s : State, s = Tests.run (encW 0x1A 1 2 0 0 0) [(1, 1), (2, 65)] Tests.pick →
      s.mayIssueRun 0 (encW 0x1A 1 2 0 0 0) [1, 2] 0 Tests.pick = true ∧ ((s.bob 0).rd 1).toNat = 1
      ∧ Tests.pick.woff.toInt + Tests.pick.frame.length < effOffset (s.bob 0) 2 0) := by
  refine ⟨?_, ?_, ?_, ?_⟩
  · intro g h s e; subst e; fin_cases h <;> decide +kernel
  · intro g h s e; subst e; fin_cases h <;> decide +kernel
  · intro g h s e; subst e; fin_cases h <;> decide +kernel
  · intro s e; subst e; decide +kernel

theorem wit_TrapTaken :
    (∀ s : State, s = Tests.run (encU 0x2F 0 0 0 0 0) [] Tests.pick →
      s.mayIssueRun 0 (encU 0x2F 0 0 0 0 0) [] 0 Tests.pick = true
      ∧ (s.bob 0).left = none ∧ (s.bob 0).pick = some 0 ∧ s.pick 0 = some Tests.pick
      ∧ (s.bob 0).inHandler = false ∧ s.entry 0 5 = some 0)
    ∧ (∀ s : State, s = { Tests.run 0 [] Tests.pick with shu := { (Tests.run 0 [] Tests.pick).shu with
        clusters := [(0, { ctlGen := 1, st := .fresh, card := some ⟨1, true, List.replicate 16 0xFFFF, [0]⟩ })] } } →
      (s.bob 0).left = none ∧ (s.bob 0).pick = some 0 ∧ s.entry 0 5 = none)
    ∧ (∀ s : State, s = Tests.run 0x13 [] Tests.pick →
      s.bobPick 0 = some Tests.pick ∧ s.fetchWord 0 = some 0x13 ∧ reservedWord 0x13 = true)
    ∧ (∀ s : State, s = (Tests.run 0 [] Tests.pick).setBob 0 { pick := some 0, pc := 1 } →
      s.bobPick 0 = some Tests.pick ∧ s.fetchWord 0 = none)
    ∧ (∀ e ∈ Claims.aluTwo, ∀ s : State, s = (Tests.run (encA 0 1 2 3 e.1) [] Tests.pick).setBob 0
        { pick := some 0, count := 4096 } →
      s.bobPick 0 = some Tests.pick ∧ s.fetchWord 0 = some (encA 0 1 2 3 e.1) ∧ (s.bob 0).busy 1 = false
      ∧ (s.bob 0).busy 2 = false ∧ (s.bob 0).busy 3 = false ∧ s.budget (s.bob 0) ≤ (s.bob 0).count)
    ∧ (∀ s : State, s = { Tests.run 0 [] Tests.pick with shu := { (Tests.run 0 [] Tests.pick).shu with
        clusters := [(0, { ctlGen := 1, st := .fresh, card := some ⟨1, true, (List.replicate 16 0).set 5 1, [0, 0]⟩ })] } } →
      (s.bob 0).left = none ∧ (s.bob 0).pick = some 0 ∧ s.pick 0 = some Tests.pick ∧ (s.bob 0).inHandler = false
      ∧ s.entry 0 5 = some 1) := by
  refine ⟨?_, ?_, ?_, ?_, ?_, ?_⟩
  · intro s h; subst h; decide +kernel
  · intro s h; subst h; decide +kernel
  · intro s h; subst h; decide +kernel
  · intro s h; subst h; decide +kernel
  · intro e h s g; subst g; fin_cases h <;> decide +kernel
  · intro s h; subst h; decide +kernel

end
end

