-- ==== Sys2Proof/Tests/Frames.lean ====
section
/-! SUPPORT. Witnesses for the statements about picks, queues, ports, the scheduler and the engines' upkeep. -/

-- The tests are checked one after another: side by side each would hold a thread of its own.
section
set_option Elab.async false

open Sys2Proof Sys2Proof.Machine

/-! ### Picks -/

/-- A state that carries traffic: mode RUN, the slice of ports 0 to 15 on, port 0 enabled in mode 1 with a longest frame
of n bytes. -/
def Tests.live (n : Nat) : State :=
  let s := { State.reset with
    hif := { State.reset.hif with mode := 1 }
    pmc := { State.reset.pmc with doms := [(88, { st := .p0, ready := .fresh, up := true })] }
    sch := { ports := [(0, { link := true })] } }
  s.setReg .lnePortCfg 0 0 (BitVec.ofNat 32 (3 + 65536 * n))

/-- A frame of n zero bytes and its FCS. -/
def Tests.good (n : Nat) : Bytes := List.replicate n 0 ++ fcs (List.replicate n 0)
/-- A MAC control frame with its FCS. -/
def Tests.macctl : Bytes :=
  let b : Bytes := List.replicate 12 0 ++ [0x88, 0x08] ++ List.replicate 46 0
  b ++ fcs b

theorem wit_FrameBecomesPick :
    (∀ s : State, s = Tests.live 60 →
      s.portKind 0 = .eth ∧ s.portEn 0 = true ∧ (s.port 0).link = true ∧ s.field .lnePortCfg 0 16 14 = 60
      ∧ s.tagOff 0 = false ∧ s.held = false ∧ s.defClass 0 ≠ 7
      ∧ s.fits (cellsFor 60) (s.field .schAdmSlots 0 0 17) (s.field .schAdmCells 0 0 19) = true)
    ∧ (∀ n ∈ [59, 60, 61], (Tests.good n).length = n + 4
      ∧ fcs ((Tests.good n).take ((Tests.good n).length - 4)) = (Tests.good n).drop ((Tests.good n).length - 4))
    ∧ slice (List.replicate 60 (0 : Byte)) 12 2 ≠ [0x88, 0x08]
    ∧ fcs (List.replicate 60 0) ≠ List.replicate 4 0
    ∧ (slice (Tests.macctl.take 60) 12 2 = [0x88, 0x08] ∧ fcs (Tests.macctl.take 60) = Tests.macctl.drop 60) := by
  refine ⟨?_, ?_, by decide +kernel, by decide +kernel, by decide +kernel⟩
  · intro s h; subst h; decide +kernel
  · intro n h; fin_cases h <;> decide +kernel

/-- A waiting pick, and cluster 0 with a card of the given entries. -/
def Tests.waits (e : List Nat) : State :=
  { Tests.live 1518 with
    shu := { clusters := [(0, { ctlGen := 1, st := .fresh, card := some ⟨1, true, e, [0]⟩ })] }
    beam := { picks := [(0, { Tests.pick with st := .waiting })] } }

theorem wit_PickDispatched :
    ∀ e ∈ [List.replicate 16 0, List.replicate 16 0xFFFF, []], ∀ s : State, s = Tests.waits e →
      s.held = false ∧ s.firstWaiting s.generationGone = none
      ∧ s.firstWaiting (fun x => (s.clusterFor x).isSome) = some (0, { Tests.pick with st := .waiting })
      ∧ s.clusterFor { Tests.pick with st := .waiting } = some (127 / 128) ∧ (s.bob 127).pick = none ∧ (s.bob 127).left = none
      ∧ (s.clu (127 / 128)).card = some ⟨1, true, e, [0]⟩ := by
  intro e h s g; subst g; fin_cases h <;> decide +kernel

/-- An ended pick of a disposition for queue 5. -/
def Tests.over (disp : BitVec 4) : Pick := { Tests.pick with st := .ended, disp := disp, queue := 5 }

/-- Queue 5 goes to port 0 with class 3 and capacity 16,384 bytes; weft port 0 is up and leads to device 9. -/
def Tests.routes (k : Pick) : State :=
  let s := ((Tests.live 1518).setReg .schQMap 5 0 0x800_02C0).setReg .wftRoute 9 0 4
  let s := (s.setReg .schQQuantum 5 0 2000).setReg .wftDevId 0 0 1
  { s with beam := { picks := [(0, k)] }, weft := [(0, { st := .up })] }

/-- A mirror copy to a queue or a ring, of the frame as it was received or at its end. -/
def Tests.copyTo (toQueue original : Bool) (target : Nat) : Mirror := { toQueue := toQueue, target := target, original := original }

theorem wit_PickReleased :
    (∀ s : State, s = Tests.routes (Tests.over 1) →
      s.pick 0 = some (Tests.over 1) ∧ s.held = false ∧ s.mayRelease (Tests.over 1) = true
      ∧ s.lowerHolds 0 (Tests.over 1) Pick.holdsRel = false ∧ s.portKind (s.qPort 5) = .eth ∧ s.tagOff (s.qPort 5) = false
      ∧ (s.reg .schQMap 5).getLsbD 9 = true ∧ s.spills 5 = false
      ∧ (∀ s', s' = s.setPick 0 { Tests.over 1 with left := true, st := .queued, queuedAt := s.tb.elapsed } →
          s'.depth 5 + s'.shapedLen (s.qPort 5) (.pick 0) ≤ s.field .schQMap 5 19 12 * 16384))
    ∧ (∀ k, k = { Tests.over 4 with fwdTo := some (9, 3, 0) } → ∀ s : State, s = Tests.routes k →
      s.pick 0 = some k ∧ s.mayRelease k = true ∧ s.lowerHolds 0 k Pick.holdsRel = false
      ∧ (9 : Nat) ≠ s.devId ∧ s.routeTo 9 = some 0)
    ∧ (∀ k, k = { Tests.over 3 with puntTo := some (3, 63) } → ∀ s : State, s = Tests.routes k →
      s.pick 0 = some k ∧ k.cipher = none ∧ s.lowerHolds 0 k Pick.holdsRec = false ∧ (s.ring 63 3).en = false
      ∧ s.beam.puntWait.any (fun x => x.dom == 63) = false)
    ∧ (∀ k, k = { Tests.pick with cipher := some (Tests.cip false .cellWait 5 none) } → ∀ s : State, s = Tests.routes k →
      s.pick 0 = some k ∧ (k.frame.length + 16 + 127) / 128 ≤ s.cellsFree)
    ∧ (∀ k, k = { Tests.pick with cellWait := true } → ∀ s : State, s = Tests.routes k →
      s.pick 0 = some k ∧ k.cipher = none ∧ 0 < s.cellsFree)
    ∧ (∀ f, f = Tests.pick.asFrame [1, 2, 3] true 0 → ∀ s : State,
      s = (Tests.routes Tests.pick).setQueue 5 { fifo := [.spilled f 3 7 1023] } →
      (s.queue 5).fifo = .spilled f 3 7 1023 :: [] ∧ (s.spillLines f 7 1023).any (fun l => s.rerooted true l) = false
      ∧ (f.frame.length + 64 + 127) / 128 ≤ s.cellsFree ∧ (∀ l ∈ s.spillLines f 7 1023, s.suspect true l = false)
      ∧ (s.useLines true (s.spillLines f 7 1023)).linesOff true (s.spillLines f 7 1023) = false)
    ∧ (∀ m ∈ [Tests.copyTo true false 5, Tests.copyTo true true 5, Tests.copyTo false false 63, Tests.copyTo false true 63],
      ∀ d ∈ [(1 : BitVec 4), 2], ∀ k, k = { Tests.over d with mirrors := [m] } → ∀ s : State, s = Tests.routes k →
      ∀ x, x = k.asFrame (if m.original then k.orig else k.endFrame.getD k.frame) true s.tb.elapsed →
      s.pick 0 = some k ∧ k.mirrors = [m] ∧ k.st = .ended ∧ s.lowerHolds 0 k Pick.holdsRec = false ∧ k.puntTo = none ∧ k.cipher = none
      ∧ s.lowerHolds 0 k Pick.holdsRel = false ∧ s.mayRelease k = true
      ∧ (m.toQueue = true → s.portKind (s.qPort m.target) = .eth ∧ s.tagOff (s.qPort m.target) = false
          ∧ (s.reg .schQMap m.target).getLsbD 9 = true ∧ s.spills m.target = false
          ∧ s.depth m.target + s.shapedLen (s.qPort m.target) (.held x) ≤ s.field .schQMap m.target 19 12 * 16384)
      ∧ (m.toQueue = false → (s.ring m.target 3).en = false ∧ s.beam.puntWait.any (fun y => y.dom == m.target) = false
          ∧ ∀ s', s' = s.setPick 0 { k with left := true, mirrors := [], st := .queued, queuedAt := s.tb.elapsed } →
            s'.depth 5 + s'.shapedLen (s.qPort 5) (.pick 0) ≤ s.field .schQMap 5 19 12 * 16384)) := by
  refine ⟨?_, ?_, ?_, ?_, ?_, ?_, ?_⟩
  · intro s h; subst h
    refine ⟨by decide +kernel, by decide +kernel, by decide +kernel, by decide +kernel, by decide +kernel, by decide +kernel,
      by decide +kernel, by decide +kernel, ?_⟩
    intro s' h; subst h; decide +kernel
  · intro k h s e; subst h; subst e; decide +kernel
  · intro k h s e; subst h; subst e; decide +kernel
  · intro k h s e; subst h; subst e; decide +kernel
  · intro k h s e; subst h; subst e; decide +kernel
  · intro f h s e; subst h; subst e; decide +kernel
  · intro m hm d hd k h s e x g; subst g; subst e; subst h
    fin_cases hm <;> fin_cases hd <;> (refine ⟨by decide +kernel, rfl, rfl, by decide +kernel, rfl, rfl, by decide +kernel, by decide +kernel,
      by decide +kernel, fun hq => ⟨by decide +kernel, by decide +kernel, ?_⟩⟩; intro s' e; subst e; decide +kernel)

/-- Queue 5 holds pick 0 in the class ring of port 0. -/
def Tests.queued : State :=
  let s := Tests.routes { Tests.over 1 with left := true, st := .queued }
  { s with sch := { queues := [(5, { fifo := [.pick 0] })], ports := [(0, { link := true, rings := [(3, [5])] })] } }

/-- A sealed woven pick that holds a served packet number. -/
def Tests.wovenPick : Pick :=
  { Tests.pick with
    st := .queued, disp := 1, left := true, queue := 5, assoc := 3, kn := 2, pn := 7, servedNow := [3]
    snap := some { entry := { Tests.at 5 with mode := true } }, cipher := some (Tests.cip false .done 7 none) }

/-- A cloth key of 32 bytes of 1. -/
def Tests.ck : CkSlot := { valid := true, key := List.replicate 32 1, salt := [0, 0, 0, 0] }

/-- A group that seals under slot A, has a supply of masks and knows slot B; member 0 carries its cloth. -/
def Tests.group : Group :=
  { map := 1, mapInForce := 1, sealing := some false, maskBlocks := 32768
    cks := [(0, Tests.ck), (1, Tests.ck), (2, Tests.ck), (3, { Tests.ck with kn := 1 })] }

/-- A group of line lane 0 takes the place of port 32, and queue 5 goes to it. -/
def Tests.woven : State :=
  let s := ((Tests.queued.setReg .wovGrpLanes 0 0 1).setReg .wovGrpCfg 0 0 1).setReg .schQMap 5 0 0x800_02E0
  { s with sch := { queues := [(5, { fifo := [.pick 0] })], ports := [(32, { rings := [(3, [5])] })] }
           beam := { picks := [(0, Tests.wovenPick)] }
           wov := { groups := [(0, Tests.group)] }
           pmc := { s.pmc with doms := [(90, { st := .p0, ready := .fresh, up := true })] } }

/-- A cut-through pick whose `open` has its result and awaits its commit. -/
def Tests.cutPick : Pick :=
  { Tests.over 1 with left := true, st := .queued, cipher := some { Tests.cip true .engineDone 5 none with cut := true } }

/-- It stands at the head of queue 5. -/
def Tests.cutHead : State := { Tests.queued with beam := { picks := [(0, Tests.cutPick)] } }

/-- A cut-through pick on port 0, in a phase of its `open`, its frame begun or not. -/
def Tests.cutting (ph : CipherPhase) (began : Bool) : State :=
  (Tests.routes { Tests.over 1 with
    st := .queued, cutStarted := began, cipher := some { Tests.cip true ph 5 none with cut := true } }).setPort 0
      { tx := some { pick := some 0, bytes := [], cut := true, fcsAt := 0, ends := 0 } }

theorem wit_PortSendsFrame :
    (∀ s r : State, s = Tests.queued → r = (s.selectQueue 0 (fun s i => s.macStarts 0 i) [7, 6, 5, 4, 3, 2, 1, 0]).2 →
      s.portKind 0 = .eth ∧ s.portEn 0 = true ∧ (s.port 0).link = true ∧ (s.port 0).tx = none ∧ s.held = false
      ∧ s.sliceOn 0 = true ∧ s.tagOff 0 = false ∧ s.tb.elapsed < s.sch.lastTick + 64 ∧ s.portHeld 0 = false
      ∧ s.selectQueue 0 (fun s i => s.macStarts 0 i) [7, 6, 5, 4, 3, 2, 1, 0] = (some 5, r) ∧ (r.queue 5).fifo = .pick 0 :: []
      ∧ s.cutPending (.pick 0) = false ∧ r.cutPending (.pick 0) = false ∧ r.itemBytes 0 (.pick 0) ≠ []
      ∧ r.regs = s.regs ∧ r.tb = s.tb ∧ r.variant = s.variant)
    ∧ (∀ s r u : State, s = Tests.woven → r = (s.selectQueue 32 (fun s i => s.framerStarts 0 i) [7, 6, 5, 4, 3, 2, 1, 0]).2 →
      u = r.takeHead 32 5 (.pick 0) [] →
      s.portKind 32 = .woven 0 ∧ s.clothReady 0 = true ∧ s.tb.elapsed < s.sch.lastTick + 64 ∧ s.held = false
      ∧ s.sliceOn 32 = true ∧ s.portHeld 32 = false
      ∧ s.selectQueue 32 (fun s i => s.framerStarts 0 i) [7, 6, 5, 4, 3, 2, 1, 0] = (some 5, r) ∧ (r.queue 5).fifo = .pick 0 :: []
      ∧ (u.group 0).sealing = some false ∧ u.held = false ∧ 16384 < (u.group 0).maskBlocks
      ∧ u.tb.elapsed < (u.group 0).maskAt + 100000 ∧ u.wovenItem (.pick 0) = some (3, 2, 7, Tests.wovenPick.frame)
      ∧ u.fitsWindow (u.groupPort 0) (u.chargedLen (u.groupPort 0) (.pick 0)) (u.openWindow (u.groupPort 0) (u.qClass 5)) = true
      ∧ 16 * frameBytes (dataMembers (u.group 0).mapInForce).length - (u.group 0).placed = 261888
      ∧ (u.group 0).ckDone = true)
    ∧ (∀ s r : State, s = Tests.cutHead → r = (s.selectQueue 0 (fun s i => s.macStarts 0 i) [7, 6, 5, 4, 3, 2, 1, 0]).2 →
      s.portKind 0 = .eth ∧ s.portEn 0 = true ∧ (s.port 0).link = true ∧ (s.port 0).tx = none ∧ s.held = false
      ∧ s.sliceOn 0 = true ∧ s.tagOff 0 = false ∧ s.tb.elapsed < s.sch.lastTick + 64 ∧ s.portHeld 0 = false
      ∧ s.selectQueue 0 (fun s i => s.macStarts 0 i) [7, 6, 5, 4, 3, 2, 1, 0] = (some 5, r) ∧ (r.queue 5).fifo = .pick 0 :: []
      ∧ ∃ k c, r.pick 0 = some k ∧ k.cipher = some c ∧ c.isOpen = true ∧ c.cut = true ∧ c.phase ≠ .done)
    ∧ (∀ ph ∈ [CipherPhase.done, .engineDone], ∀ s : State, s = Tests.cutting ph true →
      ∃ x k c, (s.port 0).tx = some x ∧ s.pick 0 = some k ∧ k.cipher = some c ∧ x.pick = some 0 ∧ x.cut = true
      ∧ k.cutStarted = true ∧ x.fcsAt ≤ s.tb.elapsed ∧ k.cutFailed = false ∧ k.mirrors = [] ∧ c.phase = ph)
    ∧ (∀ s : State, s = (Tests.routes (Tests.over 1)).setPort 0
        { tx := some { pick := some 0, bytes := [1], cut := false, fcsAt := 0, ends := 0 } } →
      ∃ x, (s.port 0).tx = some x ∧ x.cut = false ∧ x.ends ≤ s.tb.elapsed) := by
  refine ⟨?_, ?_, ?_, ?_, ?_⟩
  · intro s r h e; subst e; subst h; decide +kernel
  · intro s r u h e g; subst g; subst e; subst h; decide +kernel
  · intro s r h e; subst e; subst h
    refine ⟨by decide +kernel, by decide +kernel, by decide +kernel, by decide +kernel, by decide +kernel, by decide +kernel, by decide +kernel,
      by decide +kernel, by decide +kernel, by decide +kernel, by decide +kernel, ?_⟩
    exact ⟨Tests.cutPick, _, by decide +kernel, rfl, by decide +kernel, by decide +kernel, by decide +kernel⟩
  · intro ph h s e; subst e
    fin_cases h <;> exact ⟨_, _, _, rfl, rfl, rfl, by decide +kernel, by decide +kernel, by decide +kernel, by decide +kernel, by decide +kernel,
      by decide +kernel, rfl⟩
  · intro s e; subst e; exact ⟨_, rfl, by decide +kernel, by decide +kernel⟩

/-! ### Ticks, sheds, histograms -/

/-- Bank A of port 0 has one entry of 5 ns with every gate open. -/
def Tests.shed : State :=
  ((Tests.live 1518).setReg .schShedCnt 0 0 1).setReg .schShedEnt 0 0 5

theorem wit_SchedulerTicks :
    (∀ s : State, s = { State.reset with tb := { State.reset.tb with elapsed := 64 } } → s.sch.lastTick + 64 ≤ s.tb.elapsed)
    ∧ (∀ s : State, s = Tests.shed → (s.bank 0 (s.port 0).bankB).durs ≠ [] ∧ (s.port 0).entryEnd ≤ s.tb.tod)
    ∧ (∀ s : State, s = Tests.shed.setPort 0 { switchAt := some 0 } → (s.port 0).switchAt = some 0 ∧ (0 : Int) ≤ s.tb.tod)
    ∧ (∀ s : State, s = State.reset.setPort 63 { switchAt := some 0 } →
      s.pins.inReset = false ∧ s.lcShut = false ∧ s.variant ≠ .tv16e ∧ s.variant.lane 63 = true ∧ (0 : Word).getLsbD 0 = (s.port 63).bankB)
    ∧ (∀ s : State, s = { State.reset.setReg .schHistCfg 63 0 0xC000 with
        tb := { State.reset.tb with elapsed := 1000 } } →
      (s.reg .schHistCfg 63).getLsbD 15 = true ∧ (s.reg .schHistCfg 63).getLsbD 14 = true
      ∧ (s.hist 63).last + 1000 * 2 ^ s.field .schHistCfg 63 16 5 ≤ s.tb.elapsed)
    ∧ (State.reset.pins.inReset = false ∧ State.reset.lcShut = false ∧ (3 : Word).getLsbD 0 = true ∧ (State.reset.hist 63).busy = false) := by
  refine ⟨?_, ?_, ?_, ?_, ?_, by decide +kernel⟩ <;> (intro s h; subst h; decide +kernel)

/-! ### Engines and the DRBG -/

theorem wit_EngineUpkeep :
    (∀ st ∈ [EngSt.fresh, .testing], ∀ s : State, s = (Tests.eng [] 2).setEngine 47 { st := st } →
      47 < s.variant.engines ∧ (s.engine 47).st = st ∧ (st = .testing → (s.engine 47).inTest = true)
      ∧ (s.dom (24 + 47 / 2)).st ≠ .waking)
    ∧ (∀ s : State, s = { (Tests.eng [] 2).setReg .cieKat 0 0 1 with tb := { State.reset.tb with elapsed := 100000 } } →
      s.kcu.drbg = 2 ∧ (s.engine 0).st = .fresh ∧ (s.engine (partner 0)).inTest = false ∧ s.cie.jobs.any (fun j => j.holds 0) = false
      ∧ (s.engine 0).lastKat + 100000 * s.field .cieKat 0 0 16 ≤ s.tb.elapsed)
    ∧ (∀ s : State, s = Tests.eng [] 2 → s.pins.inReset = false ∧ s.lcShut = false ∧ (0x8000_0001 : Word) &&& 0x7FFF_FFC0 = 0
      ∧ (s.engine 1).st ≠ .quarantined)
    ∧ (∀ b ∈ ([0, 1] : List Word), ∀ s : State, s = State.reset.setReg .ciePolicy 0 0 b →
      s.pins.inReset = false ∧ s.lcShut = false ∧ 2 * 23 < s.variant.engines ∧ (s.reg .ciePolicy).getLsbD 0 = b.getLsbD 0
      ∧ s.variant = .tv32f)
    ∧ (∀ t ∈ [0, 100000], ∀ s : State, s = { Tests.eng [] 2 with
        tb := { State.reset.tb with elapsed := t }
        pmc := { State.reset.pmc with doms := [(24, { st := .p0 })] } } →
      2 * 0 < s.variant.engines ∧ s.kcu.drbg = 2 ∧ (s.dom (24 + 0)).st.awake = true ∧ s.profileOf 0 = false
      ∧ ((s.pair 0).blocks ≤ 16384))
    ∧ (∀ s : State, s = Tests.eng [] 1 → s.kcu.drbg = 1 ∧ s.kcu.testedAt = 0)
    ∧ (∀ s : State, s = { Tests.eng [] 2 with kcu := { State.reset.kcu with drbg := 2, requests := 2 ^ 20 } } →
      s.kcu.drbg = 2 ∧ 2 ^ 20 ≤ s.kcu.requests)
    ∧ (∀ s : State, s = { Tests.eng [] 3 with tb := { State.reset.tb with elapsed := 999999 } } →
      s.kcu.drbg = 3 ∧ s.kcu.testedAt + 1000000 ≤ s.tb.elapsed + 1) := by
  refine ⟨?_, ?_, ?_, ?_, ?_, ?_, ?_, ?_⟩
  · intro st h s e; subst e; fin_cases h <;> decide +kernel
  · intro s e; subst e; decide +kernel
  · intro s e; subst e; decide +kernel
  · intro b h s e; subst e; fin_cases h <;> decide +kernel
  · intro t h s e; subst e; fin_cases h <;> decide +kernel
  · intro s e; subst e; decide +kernel
  · intro s e; subst e; decide +kernel
  · intro s e; subst e; decide +kernel

end
end

