-- ==== Sys2Proof/Tests/Commands.lean ====
section
/-! SUPPORT. Witnesses for the statements about associations, flows, cards and lookaside jobs. -/

-- The tests are checked one after another: side by side each would hold a thread of its own.
section
set_option Elab.async false

open Sys2Proof Sys2Proof.Machine

/-- A 64-byte descriptor: an operation, and bytes at offsets. -/
def Tests.desc (op : Nat) (l : List (Nat × Nat)) : Bytes :=
  (List.range 64).map (fun i => BitVec.ofNat 8 (if i = 0 then op else if i = 1 then op / 256
    else ((l.find? (fun x => x.1 == i)).map (fun x => x.2)).getD 0))

/-- Bytes at offsets of a buffer of n bytes. -/
def Tests.buf (n : Nat) (l : List (Nat × Nat)) : Bytes :=
  (List.range n).map (fun i => BitVec.ofNat 8 (((l.find? (fun x => x.1 == i)).map (fun x => x.2)).getD 0))

/-- A fetched slot. -/
def Tests.slot (op : Nat) (args : List (Nat × Nat)) (buf : Bytes) : Fetched :=
  { idx := 0, desc := Tests.desc op args, buf := buf, at_ := 0 }

/-- An OPERATIONAL device of the full variant, with its tables initialised, its channels running and its key store ready. -/
def Tests.ready : State :=
  { State.reset with
    hif := { State.reset.hif with mode := 1 }
    kcu := { State.reset.kcu with lc := 3, st := 2, drbg := 2, root := true }
    msc := { State.reset.msc with done := true, tableKey := some 0 }
    pmc := { State.reset.pmc with doms := (List.range 16).map (fun c => (64 + c, { st := .p0, ready := .fresh, up := true })) } }

/-- A state whose ring r of function f holds one slot. -/
def Tests.given (f r : Nat) (e : Fetched) (s : State) : State := s.setRing f r { fetched := [e] }

/-- The same with a key of n bytes in the function's page. -/
def Tests.keyed (f n : Nat) (s : State) : State := s.setPage f { st := 1, len := n, key := List.replicate n 7 }

/-- A write of a line goes to the line's channel and to at most nine nodes above it. -/
theorem Tests.few_writes (s : State) (l : Nat) (m : s.msc.mirror = 0) : (s.writeChannels false l (s.ownPaths false l)).length ≤ 10 := by
  have hc : s.copies false = [false] := by simp [State.copies, m]
  have ht : s.treeLevels false ≤ 9 := by
    unfold State.treeLevels
    cases h : (List.range 9).find? (fun l => decide (s.lines false ≤ 64 * 8 ^ l)) with
    | none => simp
    | some x => have := List.mem_of_find?_eq_some h; simp at this ⊢; omega
  have hp : (s.ownPath false l).length ≤ 9 := by
    simp only [State.ownPath, List.length_map, List.length_range]
    exact Nat.le_trans (Nat.lt_succ_iff.1 (Nat.mod_lt _ (Nat.succ_pos _))) ht
  have hf := List.length_filter_le (fun o : PathObs => o.level != 0 && decide (o.level ≤ s.treeLevels false)) (s.ownPath false l)
  simp only [State.writeChannels, State.ownPaths, State.pathIn, State.pathNodes, hc, List.flatMap_cons, List.flatMap_nil,
    List.append_nil, List.length_cons, List.length_nil, List.length_map, if_pos (Nat.le_refl 1), zero_add]
  omega

/-- While no channel has written, the clocks have room for any writing of fewer than 2^60 table lines. -/
theorem Tests.room (s : State) (ls : List Nat) (h : s.msc.clocks = []) (m : s.msc.mirror = 0) (n : ls.length < 2 ^ 60) :
    s.tableRoom ls = true := by
  have hl : (ls.flatMap (fun l => s.writeChannels false l (s.ownPaths false l))).length ≤ 10 * ls.length := by
    clear n
    induction ls with
    | nil => exact Nat.le_refl 0
    | cons x xs ih =>
      rw [List.flatMap_cons, List.length_append, List.length_cons]
      have := Tests.few_writes s x m
      omega
  simp only [State.tableRoom, State.clockRoom, Bool.or_eq_true, List.all_eq_true, decide_eq_true_eq]
  refine .inr fun ch _ => ?_
  have := List.count_le_length (a := ch) (l := ls.flatMap (fun l => s.writeChannels false l (s.ownPaths false l)))
  rw [h, show tget 0 [] ch = 0 from rfl]
  omega

/-- While every channel runs, none of the lines of a table waits for one. -/
theorem Tests.channels_on (s : State) (ls : List Nat) (m : s.msc.mirror = 0) (p : 0 < s.channels)
    (on : ∀ ch, ch < s.channels → s.chanSleeps ch = false) : s.linesOff false ls = false := by
  have hc : s.copies false = [false] := by simp [State.copies, m]
  have : (s.channelsOf false ls).any s.chanSleeps = false := by
    rw [List.any_eq_false]
    intro ch h
    simp only [State.channelsOf, hc, List.mem_flatMap, List.map_cons, List.map_nil, List.mem_singleton] at h
    obtain ⟨l, -, rfl⟩ := h
    simpa [State.lineChannel, m] using on _ (Nat.mod_lt (l / 64) p)
  simp [State.linesOff, this]

/-- A change of a small flow table changes few lines. -/
theorem Tests.few_lines (s : State) (old new : List Flow) (h : old.length + new.length < 2 ^ 60) :
    (s.flowChanges old new).length < 2 ^ 60 := by
  have a := (List.dedup_sublist ((new.filter (fun x => !old.contains x)
    ++ old.filter (fun x => !new.contains x)).map s.flowLine)).length_le
  have b := List.length_filter_le (fun x => !old.contains x) new
  have c := List.length_filter_le (fun x => !new.contains x) old
  simp only [List.length_map, List.length_append] at a
  unfold State.flowChanges
  omega

/-! ### Associations -/

/-- A block of AT_INSTALL for index i: suite 1, k = 31, ACTIVE, packet number pn. -/
def Tests.install (i st pn : Nat) : Bytes :=
  Tests.buf 64 [(0, i), (4, st), (8, 0x10), (9, 0xF0), (10, 0x01), (40, pn % 256), (41, pn / 256 % 256),
    (42, pn / 65536 % 256), (43, pn / 2 ^ 24 % 256)]

theorem wit_AssociationInstalled_install :
    ∀ st ∈ [1, 2], ∀ pn ∈ [1, 2 ^ 32 - 1], ∀ x ∈ [({} : AtEntry), { st := .poisoned }], ∀ e n, e = Tests.slot 0x0101 [] (Tests.install 5 st pn) →
      n = AtEntry.ofCommon (slice e.buf 8 16) → ∀ s : State,
      s = Tests.given 0 0 e (Tests.keyed 0 16 { Tests.ready with tab := { assocs := if x = {} then [] else [(5, x)] } }) →
      s.tableRoom (assocLines 5) = true ∧ s.assoc 5 = x ∧ Claims.reached s 0 5 ∧ Claims.holds s 0 0 0x0101 e
      ∧ x.a.drain = false ∧ x.b.drain = false ∧ leAt e.buf 0 3 = 5
      ∧ zeros e.buf 3 1 = true ∧ zeros e.buf 5 3 = true ∧ zeros e.buf 48 16 = true ∧ (e.buf.getD 4 0).toNat = st
      ∧ leAt e.buf 8 4 % 16 = 0 ∧ leAt e.buf 8 4 / 2 ^ 28 % 4 = 0 ∧ commonClear (slice e.buf 8 16) = true
      ∧ n.txslot = false ∧ s.valuesOk n = true ∧ n.pnOk (leAt e.buf 40 8) = true ∧ leAt e.buf 40 8 = pn
      ∧ Claims.keyAt s 0 n.keyLen := by
  intro st h pn g x k e n he hn s hs
  subst he; subst hn; subst hs
  refine ⟨Tests.room _ _ rfl rfl (by decide), ?_⟩
  fin_cases h <;> fin_cases g <;> fin_cases k <;> (unfold Claims.reached Claims.holds Claims.keyAt; decide +kernel)

/-- Association 5 as given, with a command on it in ring 0 of function 0 and a key of 16 bytes in its page. -/
def Tests.on (x : AtEntry) (e : Fetched) : State :=
  Tests.given 0 0 e (Tests.keyed 0 16 { Tests.ready with tab := { assocs := [(5, x)], drains := [(10, 1)] } })

/-- The state with the reference to slot A of association 5 counted n times. -/
def Tests.refs (n : Nat) : State :=
  { Tests.ready with tab := { assocs := [(5, Tests.at 5)], drains := [(10, 1)], refs := if n = 0 then [] else [(10, n)] } }

theorem wit_AssociationInstalled :
    (∀ st ∈ [AtSt.active, .suspended], ∀ e, e = Tests.slot 0x0102 [] (Tests.buf 32 [(0, 5), (4, 1), (5, 3), (24, 1)]) →
      ∀ s : State, s = Tests.on { Tests.at 5 with st := st } e →
      s.tableRoom (assocLines 5) = true ∧ Claims.reached s 0 5 ∧ Claims.holds s 0 0 0x0102 e ∧ leAt e.buf 0 3 = 5 ∧ (e.buf.getD 4 0).toNat < 2
      ∧ (e.buf.getD 5 0).toNat < 4 ∧ zeros e.buf 3 1 = true ∧ zeros e.buf 6 2 = true
      ∧ (s.assoc 5).b.drain = false ∧ (s.assoc 5).b.valid = false
      ∧ (s.assoc 5).a.kn.toNat ≠ (e.buf.getD 5 0).toNat ∧ (s.assoc 5).pnOk (leAt e.buf 24 8) = true
      ∧ Claims.keyAt s 0 (s.assoc 5).keyLen)
    ∧ (∀ e, e = Tests.slot 0x0103 [(20, 5), (24, 0)] [] → ∀ s : State, s = Tests.on (Tests.at 5) e →
      s.tableRoom (assocLines 5) = true ∧ Claims.reached s 0 5 ∧ Claims.holds s 0 0 0x0103 e ∧ e.index = 5 ∧ e.arg 24 < 2 ∧ (s.assoc 5).a.valid = true)
    ∧ (∀ e, e = Tests.slot 0x0104 [(20, 5), (24, 0)] [] → ∀ s : State, s = Tests.on { Tests.at 5 with txslot := true } e →
      s.tableRoom (assocLines 5) = true ∧ Claims.reached s 0 5 ∧ Claims.holds s 0 0 0x0104 e ∧ e.index = 5 ∧ (s.assoc 5).a.valid = true
      ∧ (s.assoc 5).a.drain = false ∧ (s.assoc 5).txslot = true)
    ∧ (∀ n ∈ [1, 2, 3], ∀ st ∈ [AtSt.active, .suspended], ∀ e, e = Tests.slot 0x0105 [(20, 5), (24, n)] [] →
      ∀ s : State, s = Tests.on { Tests.at 5 with st := st } e →
      s.tableRoom (assocLines 5) = true ∧ Claims.reached s 0 5 ∧ Claims.holds s 0 0 0x0105 e ∧ e.index = 5 ∧ e.arg 24 = n ∧ (s.assoc 5).st = st)
    ∧ (∀ n ∈ [0, 1], ∀ s : State, s = Tests.refs n →
      Claims.reached s 0 5 ∧ (5 : BitVec 24).toNat = 5 ∧ tget 0 s.tab.drains (slotNo 5 false) = 1 ∧ 1 ≤ s.tb.elapsed + 1
      ∧ tget 0 s.tab.refs (slotNo 5 false) = n)
    ∧ (∀ G, G = { State.reset.group 7 with cks := [(3, { valid := true, drain := true })] } →
      ∀ s : State, s = Tests.ready.setGroup 7 G → ((s.group 7).ck 3).drain = true ∧ ((s.group 7).ck 3).drainAt ≤ s.tb.elapsed + 1) := by
  refine ⟨?_, ?_, ?_, ?_, ?_, ?_⟩
  · intro st h e he s hs; subst he; subst hs
    refine ⟨Tests.room _ _ rfl rfl (by decide), ?_⟩
    fin_cases h <;> (unfold Claims.reached Claims.holds Claims.keyAt; decide +kernel)
  · intro e he s hs; subst he; subst hs
    exact ⟨Tests.room _ _ rfl rfl (by decide), by unfold Claims.reached Claims.holds; decide +kernel⟩
  · intro e he s hs; subst he; subst hs
    exact ⟨Tests.room _ _ rfl rfl (by decide), by unfold Claims.reached Claims.holds; decide +kernel⟩
  · intro n h st g e he s hs; subst he; subst hs
    refine ⟨Tests.room _ _ rfl rfl (by decide), ?_⟩
    fin_cases h <;> fin_cases g <;> (unfold Claims.reached Claims.holds; decide +kernel)
  · intro n h s hs; subst hs; fin_cases h <;> (unfold Claims.reached; decide +kernel)
  · intro G hG s hs; subst hG; subst hs; decide +kernel

/-- The bytes of a value at offset 28. -/
def Tests.val (v : Nat) : List (Nat × Nat) :=
  [(28, v % 256), (29, v / 256 % 256), (30, v / 65536 % 256), (31, v / 2 ^ 24 % 256)]

/-- A bundle of one record. -/
def Tests.bundle (kind : Nat) : Bytes :=
  Tests.buf (64 + if kind = 2 then 64 else 176) [(0, 0x31), (1, 0x42), (2, 0x54), (3, 0x41), (4, 1), (6, kind), (8, 1), (12, 63)]

theorem wit_AssociationFields :
    (∀ v ∈ [5, 2 ^ 32 - 1], ∀ e, e = Tests.slot 0x0106 ([(20, 5), (24, 0)] ++ Tests.val v) [] →
      ∀ s : State, s = Tests.on (Tests.at 5) e →
      s.tableRoom (assocLines 5) = true ∧ Claims.reached s 0 5 ∧ Claims.holds s 0 0 0x0106 e ∧ e.index = 5 ∧ (s.assoc 5).a.valid = true
      ∧ leAt e.desc 28 8 = v ∧ (s.assoc 5).a.pn.toNat ≤ v ∧ (s.assoc 5).pnOk v = true)
    ∧ (∀ x ∈ [(1, 1), (2, 1), (3, 0), (4, 2 ^ 30), (5, 32767), (6, 16383), (7, 31), (8, 2), (9, 1), (10, 63)],
      ∀ e, e = Tests.slot 0x0107 ([(20, 5), (24, x.1)] ++ Tests.val x.2) [] →
      ∀ s : State, s = Tests.on { Tests.at 5 with st := .suspended } e →
      s.tableRoom (assocLines 5) = true ∧ Claims.reached s 0 5 ∧ Claims.holds s 0 0 0x0107 e ∧ e.index = 5 ∧ e.arg 24 = x.1 ∧ leAt e.desc 28 4 = x.2
      ∧ (s.assoc 5).st = .suspended ∧ (x.1 = 5 → x.2 + 1 = s.variant.policers)
      ∧ (x.1 = 7 → (s.assoc 5).k.toNat ≤ x.2 ∧ ({ s.assoc 5 with k := BitVec.ofNat 6 x.2 } : AtEntry).suiteOk = true)
      ∧ (x.1 = 8 → ({ s.assoc 5 with suite := BitVec.ofNat 4 x.2 } : AtEntry).suiteOk = true))
    ∧ (∀ e, e = Tests.slot 0x0108 [(20, 5)] [] → ∀ s : State, s = Tests.on (Tests.at 5) e →
      Claims.reached s 0 5 ∧ Claims.holds s 0 0 0x0108 e ∧ e.index = 5 ∧ (s.assoc 5).st ≠ .poisoned)
    ∧ (∀ kind ∈ [1, 2], ∀ e, e = Tests.slot 0x0109 [] (Tests.bundle kind) →
      ∀ s : State, s = (Tests.given 0 1 e Tests.ready).setBks 63 { purpose := 1, key := List.replicate 32 1 } →
      Claims.holds s 0 1 0x0109 e ∧ s.storeFree = true ∧ bundleOk e.buf = true ∧ e.buf.length = bundleLen e.buf ∧ s.bulkWaits = false
      ∧ leAt e.buf 8 4 = 1 ∧ leAt e.buf 6 2 = kind ∧ (e.buf.getD 12 0).toNat = 63
      ∧ (s.bundleKey 0 63).toOption = some (List.replicate 32 1)) := by
  refine ⟨?_, ?_, ?_, ?_⟩
  · intro v h e he s hs; subst he; subst hs
    refine ⟨Tests.room _ _ rfl rfl (by decide), ?_⟩
    fin_cases h <;> (unfold Claims.reached Claims.holds; decide +kernel)
  · intro x h e he s hs; subst he; subst hs
    refine ⟨Tests.room _ _ rfl rfl (by decide), ?_⟩
    fin_cases h <;> (unfold Claims.reached Claims.holds; decide +kernel)
  · intro e he s hs; subst he; subst hs; unfold Claims.reached Claims.holds; decide +kernel
  · intro kind h e he s hs; subst he; subst hs
    fin_cases h <;> (unfold Claims.holds; decide +kernel)

/-! ### Flows, cards, lookaside jobs, injected frames -/

theorem Tests.ready_on : Tests.ready.variant ≠ .tv16e ∧ 0 < Tests.ready.channels
    ∧ ∀ ch, ch < Tests.ready.channels → Tests.ready.chanSleeps ch = false := by decide +kernel

theorem Tests.flow_lines (s : State) (h : s.msc.rerooting = []) (g : s.msc.suspects = []) (k : s.keyless = false)
    (v : s.variant ≠ .tv16e) (m : s.msc.mirror = 0) (p : 0 < s.channels) (on : ∀ ch, ch < s.channels → s.chanSleeps ch = false) (sp lo hi) :
    s.writeWaits (s.flowLines sp lo hi) = false ∧ s.tableBad (s.flowLines sp lo hi) = none :=
  ⟨by simp [State.writeWaits, State.tableBanks, Tests.no_waits s _ h, Tests.channels_on s _ m p on, v], Tests.no_bad _ _ g k⟩

/-- A flow of space 1, key 5, 6, as a block and as arguments. -/
def Tests.flowBlock : Bytes := Tests.buf 64 [(0, 5), (8, 6), (16, 1), (20, 7)]

theorem wit_FlowAndCardCommands :
    (∀ f ∈ [0, 1], ∀ e, e = Tests.slot 0x0201 [] Tests.flowBlock →
      ∀ s : State, s = Tests.given f 0 e (Tests.ready.setReg .ftDomQuota 1 0 1) →
      s.writeWaits (s.flowLines 1 5 6) = false ∧ s.tableBad (s.flowLines 1 5 6) = none
      ∧ e.blockKey = (1, 5, 6) ∧ flowClear e.buf = true ∧ Claims.holds s f 0 0x0201 e
      ∧ s.tab.flows.find? (fun y => y.hasKey 1 5 6) = none ∧ (f = 0 ∨ s.flowCount f < s.field .ftDomQuota f 0 25)
      ∧ ∃ l, ({ s with free := s.free + 1 } : State).placeFlow s.tab.flows (s.flowOf f e.buf) (17 * s.free) 17 = some l
        ∧ s.tableBad (s.flowChanges s.tab.flows l) = none ∧ s.tableRoom (s.flowChanges s.tab.flows l) = true)
    ∧ (∀ e, e = Tests.slot 0x0202 [] Tests.flowBlock →
      ∀ s : State, s = Tests.given 0 0 e { Tests.ready with tab := { flows := [Tests.flow] } } →
      s.writeWaits (s.flowLines 1 5 6) = false ∧ s.tableBad (s.flowLines 1 5 6) = none
      ∧ e.blockKey = (1, 5, 6) ∧ flowClear e.buf = true ∧ Claims.holds s 0 0 0x0202 e
      ∧ s.tab.flows.find? (fun y => y.hasKey 1 5 6) = some Tests.flow ∧ Tests.flow.poisoned = false
      ∧ ∀ l, l.length ≤ 1 → s.tableBad (s.flowChanges s.tab.flows l) = none
        ∧ s.tableRoom (s.flowChanges s.tab.flows l) = true)
    ∧ (∀ op ∈ [0x0203, 0x0204], ∀ e, e = Tests.slot op [(20, 5), (28, 6), (36, 1)] [] →
      ∀ s : State, s = Tests.given 0 0 e { Tests.ready with tab := { flows := [Tests.flow] } } →
      s.writeWaits (s.flowLines 1 5 6) = false ∧ s.tableBad (s.flowLines 1 5 6) = none
      ∧ e.flowKey = (1, 5, 6) ∧ e.arg 36 < 64 ∧ Claims.holds s 0 0 op e
      ∧ s.tab.flows.find? (fun y => y.hasKey 1 5 6) = some Tests.flow
      ∧ ∀ l, l.length ≤ 1 → s.tableBad (s.flowChanges s.tab.flows l) = none
        ∧ s.tableRoom (s.flowChanges s.tab.flows l) = true)
    ∧ (∀ e, e = Tests.slot 0x0401 [] (List.replicate 64 0) → ∀ s : State, s = Tests.given 0 1 e Tests.ready →
      Claims.holds s 0 1 0x0401 e ∧ s.shu.staging = none ∧ s.shu.next = none ∧ e.buf.length = 64)
    ∧ (∀ there ∈ [true, false], ∀ s : State,
      s = (Tests.given 0 1 { Tests.slot 0x0401 [] [] with posted := there } Tests.ready) →
      ({ s with shu := { s.shu with staging := some [] } } : State).shu.staging = some []
      ∧ (s.ring s.shu.stagingFn 1).rewrite = none ∧ s.writeWaits (s.stageLines true 0) = false ∧ s.tableRoom (s.stageLines true 0) = true
      ∧ ((s.ring 0 1).front.any (fun e => e.posted)) = there)
    ∧ (∀ op ∈ [0x0601, 0x0602], ∀ e, e = Tests.slot op [(28, 9), (29, 16)] (List.replicate 16 0) →
      ∀ s : State, s = (Tests.given 1 5 e Tests.ready).setLks 9 { key := List.replicate 32 1 ++ List.replicate 32 2, owner := 1 } →
      s.nextLookaside 1 = some e ∧ descOp e.desc = op ∧ s.gate 1 op = none ∧ s.kcu.st ≠ 4
      ∧ (s.lks (e.arg 28)).key ≠ [] ∧ (s.lks (e.arg 28)).owner = 1
      ∧ 16 ≤ leAt e.desc 29 3 ∧ leAt e.desc 29 3 ≤ 1048576
      ∧ (s.lks (e.arg 28)).key.take 32 ≠ (s.lks (e.arg 28)).key.drop 32
      ∧ leAt e.desc 32 16 + e.buf.length / leAt e.desc 29 3 ≤ 2 ^ 128)
    ∧ (∀ op ∈ [0x0603, 0x0604], ∀ e, e = Tests.slot op [(28, 9)] (List.replicate 17 0) →
      ∀ s : State, s = (Tests.given 1 5 e Tests.ready).setLks 9 { key := List.replicate 64 1, owner := 1 } →
      s.nextLookaside 1 = some e ∧ descOp e.desc = op ∧ s.gate 1 op = none
      ∧ leAt e.desc 30 2 + (if op = 0x0604 then 16 else 0) ≤ e.buf.length
      ∧ (if op = 0x0604 then 16 else 0) < e.buf.length ∧ e.arg 29 = 0
      ∧ e.buf.length - leAt e.desc 30 2 - (if op = 0x0604 then 16 else 0) < 2 ^ 24)
    ∧ (∀ vec ∈ [4, 6, 15], ∀ e, e = Tests.slot 0x0701 [(20, vec), (21, 6)] (List.replicate 60 0) →
      ∀ s : State, s = Tests.given 1 4 e (Tests.ready.setReg .hifFnCfg 1 0 1) →
      Claims.holds s 1 4 0x0701 e ∧ (s.reg .hifFnCfg 1).getLsbD 0 = true ∧ e.buf.length = 60 ∧ e.arg 20 = vec
      ∧ s.held = false ∧ BitVec.ofNat 3 (e.arg 21) ≠ 7
      ∧ s.fits (cellsFor e.buf.length) (s.field .schAdmSlots 0 0 17) (s.field .schAdmCells 0 0 19) = true)
    ∧ (∀ e, e = Tests.slot 0x0702 [] [] → ∀ s : State, s = Tests.given 63 3 e Tests.ready →
      s.fnExists 63 = true ∧ (s.ring 63 3).stopped = false ∧ (s.ring 63 3).fetched.find? (fun x => !x.posted) = some e
      ∧ s.gate 63 0x0702 = none ∧ s.beam.puntWait.any (fun x => x.dom == 63) = false) := by
  refine ⟨?_, ?_, ?_, ?_, ?_, ?_, ?_, ?_, ?_⟩
  · intro f h e he s hs
    have hl := Tests.flow_lines s (by subst hs; rfl) (by subst hs; rfl) (by subst hs; rfl) (by subst hs; exact Tests.ready_on.1)
      (by subst hs; rfl) (by subst hs; exact Tests.ready_on.2.1) (by subst hs; exact Tests.ready_on.2.2) 1 5 6
    refine ⟨hl.1, hl.2, by subst he; decide +kernel, by subst he; decide +kernel, ?_, ?_, ?_, ?_⟩
    · subst he; subst hs; fin_cases h <;> (unfold Claims.holds; decide +kernel)
    · subst hs; rfl
    · subst he; subst hs; fin_cases h <;> decide +kernel
    · subst hs
      exact ⟨_, rfl, Tests.no_bad _ _ rfl rfl, Tests.room _ _ rfl rfl (Tests.few_lines _ _ _ (by
        show 0 + 1 < 2 ^ 60
        norm_num))⟩
  · intro e he s hs
    have hl := Tests.flow_lines s (by subst hs; rfl) (by subst hs; rfl) (by subst hs; rfl) (by subst hs; exact Tests.ready_on.1)
      (by subst hs; rfl) (by subst hs; exact Tests.ready_on.2.1) (by subst hs; exact Tests.ready_on.2.2) 1 5 6
    refine ⟨hl.1, hl.2, by subst he; decide +kernel, by subst he; decide +kernel, ?_, ?_, by decide +kernel, ?_⟩
    rotate_right
    · intro l hn; subst hs
      exact ⟨Tests.no_bad _ _ rfl rfl, Tests.room _ _ rfl rfl (Tests.few_lines _ _ _ (by
        show 1 + l.length < 2 ^ 60
        omega))⟩
    · subst he; subst hs; unfold Claims.holds; decide +kernel
    · subst he; subst hs; decide +kernel
  · intro op h e he s hs
    have hl := Tests.flow_lines s (by subst hs; rfl) (by subst hs; rfl) (by subst hs; rfl) (by subst hs; exact Tests.ready_on.1)
      (by subst hs; rfl) (by subst hs; exact Tests.ready_on.2.1) (by subst hs; exact Tests.ready_on.2.2) 1 5 6
    refine ⟨hl.1, hl.2, ?_, ?_, ?_, ?_, fun l hn => by
      subst hs
      exact ⟨Tests.no_bad _ _ rfl rfl, Tests.room _ _ rfl rfl (Tests.few_lines _ _ _ (by
        show 1 + l.length < 2 ^ 60
        omega))⟩⟩ <;> subst he <;> fin_cases h
    · decide +kernel
    · decide +kernel
    · decide +kernel
    · decide +kernel
    · subst hs; unfold Claims.holds; decide +kernel
    · subst hs; unfold Claims.holds; decide +kernel
    · subst hs; decide +kernel
    · subst hs; decide +kernel
  · intro e he s hs; subst he; subst hs; unfold Claims.holds; decide +kernel
  · intro there h s hs; subst hs; fin_cases h <;> decide +kernel
  · intro op h e he s hs; subst he; subst hs; fin_cases h <;> decide +kernel
  · intro op h e he s hs; subst he; subst hs; fin_cases h <;> decide +kernel
  · intro vec h e he s hs; subst he; subst hs; fin_cases h <;> (unfold Claims.holds; decide +kernel)
  · intro e he s hs; subst he; subst hs; decide +kernel

end
end

