-- ==== Sys2Proof/Tests/Keys.lean ====
section
/-! SUPPORT. Witnesses for the statements about keys, the identity and the lifecycle. -/

-- The tests are checked one after another: side by side each would hold a thread of its own.
section
set_option Elab.async false

open Sys2Proof Sys2Proof.Machine

/-! ### Keys -/

/-- A wrapped key of 16 bytes for function 0 under a key of 32 bytes of 1, with a nonce of zeros. -/
def Tests.wrapped : Bytes :=
  [0, 0, 0, 0, 0, 0, 0, 0, 0, 0, 0, 0, 182, 60, 145, 213, 124, 50, 10, 182, 154, 112, 155, 76, 120, 45, 200, 72,
    250, 61, 12, 203, 99, 132, 223, 91, 144, 242, 152, 121, 250, 212, 117, 103]

theorem Tests.unwrap_of (s : State) (f k : Nat) (bytes r : Bytes) (h1 : s.kcu.st = 2) (h2 : (s.bks k).purpose = 2)
    (h3 : (s.bks k).owner = f ∨ (s.bks k).owner = 0)
    (h : gcmOpen (s.bks k).key (bytes.take 12) [BitVec.ofNat 8 f, BitVec.ofNat 8 (bytes.length - 28)]
      (slice bytes 12 (bytes.length - 28)) (bytes.drop (12 + (bytes.length - 28))) = (r, true)) :
    s.unwrapKey f bytes k = some r := by
  simp only [State.unwrapKey, h]; rcases h3 with h3 | h3 <;> simp [h1, h2, h3]

theorem Tests.unwraps : gcmOpen (List.replicate 32 1) (Tests.wrapped.take 12)
    [BitVec.ofNat 8 0, BitVec.ofNat 8 (Tests.wrapped.length - 28)] (slice Tests.wrapped 12 (Tests.wrapped.length - 28))
    (Tests.wrapped.drop (12 + (Tests.wrapped.length - 28))) = (List.replicate 16 9, true) := by decide +kernel

/-- A key page of function 0 that unwraps that key under slot 63, which has n uses left. -/
def Tests.unwrapping (n : Nat) : State :=
  (Tests.ready.setBks 63 { purpose := 2, key := List.replicate 32 1, uses := some n }).setPage 0
    { unwrap := some (Tests.wrapped, 63) }

theorem wit_KeyCommands_unwrap (n : Nat) (s : State) (h : s = Tests.unwrapping n) :
    (s.page 0).unwrap = some (Tests.wrapped, 63) ∧ s.earlierUse 0 = false ∧ s.unwrapKey 0 Tests.wrapped 63 = some (List.replicate 16 9)
    ∧ s.unwrapKey 0 Tests.wrapped 62 = none ∧ s.kcu.st = 2 ∧ (s.bks 63).purpose ≠ 0 ∧ (s.bks 63).uses = some n := by
  subst h
  have hk : ((Tests.unwrapping n).bks 63).key = List.replicate 32 1 := rfl
  refine ⟨rfl, rfl, Tests.unwrap_of _ _ _ _ _ rfl rfl (.inl rfl) (hk ▸ Tests.unwraps), ?_, rfl, ?_, rfl⟩
  · have h0 : ((Tests.unwrapping n).bks 62).purpose ≠ 2 := fun c => Nat.noConfusion (show (0 : Nat) = 2 from c)
    simp only [State.unwrapKey]; simp [h0]
  · exact fun c => Nat.noConfusion (show (2 : Nat) = 0 from c)

theorem wit_KeyCommands :
    (∀ e, e = Tests.slot 0x0301 [(20, 7), (21, 1), (22, 1), (23, 3)] [] → ∀ s : State,
      s = Tests.given 0 0 e (Tests.keyed 0 32 Tests.ready) →
      Claims.holds s 0 0 0x0301 e ∧ e.arg 20 = 7 ∧ e.arg 21 = 1 ∧ e.arg 22 = 1 ∧ e.arg 23 = 3
      ∧ ((s.group 7).ck 3).valid = false ∧ Claims.keyAt s 0 32)
    ∧ (∀ e, e = Tests.slot 0x0302 [(20, 7), (21, 1), (22, 1)] [] → ∀ s : State,
      s = Tests.given 0 0 e (Tests.ready.setGroup 7 { cks := [(3, { valid := true })] }) →
      Claims.holds s 0 0 0x0302 e ∧ e.arg 20 = 7 ∧ e.arg 21 = 1 ∧ e.arg 22 = 1 ∧ s.ckHeld 7 (e.arg 21) (e.arg 22) = false)
    ∧ (∀ e, e = Tests.slot 0x0501 [(20, 255)] [] → ∀ s : State, s = Tests.given 1 0 e (Tests.keyed 1 64 Tests.ready) →
      Claims.holds s 1 0 0x0501 e ∧ (s.lks (e.arg 20)).key = [] ∧ Claims.keyAt s 1 64)
    ∧ (∀ e, e = Tests.slot 0x0502 [(20, 255)] [] → ∀ s : State,
      s = Tests.given 1 0 e (Tests.ready.setLks 255 { key := [1], owner := 1 }) →
      Claims.holds s 1 0 0x0502 e ∧ (s.lks (e.arg 20)).key ≠ [] ∧ (s.lks (e.arg 20)).owner = 1 ∧ s.lksNamed (e.arg 20) = false)
    ∧ (∀ e, e = Tests.slot 0x0801 [(20, 63), (21, 2), (22, 63), (23, 3), (24, 1), (27, 1)] [] → ∀ s : State,
      s = Tests.given 63 0 e (Tests.keyed 63 32 Tests.ready) →
      Claims.holds s 63 0 0x0801 e ∧ e.arg 20 = 63 ∧ s.kcu.st = 2 ∧ e.arg 21 = 2 ∧ e.arg 22 = 63 ∧ leAt e.desc 24 3 ≠ 0
      ∧ e.arg 27 ≠ 0 ∧ (s.bks 63).purpose = 0 ∧ Claims.keyAt s 63 32)
    ∧ (∀ e, e = Tests.slot 0x0802 [(20, 63)] [] → ∀ s : State,
      s = Tests.given 1 0 e (Tests.ready.setBks 63 { purpose := 1, owner := 1 }) →
      Claims.holds s 1 0 0x0802 e ∧ (s.bks 63).owner = 1 ∧ s.bksBusy 63 = false)
    ∧ (∀ e, e = Tests.slot 0x0803 [] [] → ∀ s : State, s = Tests.given 1 0 e Tests.ready →
      Claims.holds s 1 0 0x0803 e ∧ s.kcu.st = 2)
    ∧ (∀ n ∈ [1, 2], ∀ e, e = Tests.slot 0x0804 [(20, n)] [] → ∀ s : State, s = Tests.given 0 0 e Tests.ready →
      Claims.holds s 0 0 0x0804 e ∧ e.arg 20 = n)
    ∧ (∀ v ∈ ([0x110, 0x140, 0xFE2C, 0xFE5C] : List Word), ∀ s : State, s = Tests.ready →
      s.pins.inReset = false ∧ s.lcShut = false ∧ s.fnExists 63 = true ∧ v.toNat < 2 ^ 18 ∧ v.getLsbD 7 = false ∧ v.toNat / 256 % 4 ≠ 3
      ∧ v.getLsbD 17 = false ∧ s.kcu.lc ≠ 4 ∧ (s.page 63).st = 0 ∧ (s.page 63).unwrap = none
      ∧ (v.toNat / 256 % 4 = 1 ∧ (v.toNat % 128 = 16 ∨ v.toNat % 128 = 64)
        ∨ v.toNat / 256 % 4 = 2 ∧ v.toNat / 1024 % 64 = 63 ∧ (v.toNat % 128 = 44 ∨ v.toNat % 128 = 92)))
    ∧ (∀ op ∈ [0x0805, 0x0806, 0x0807], ∀ e, e = Tests.slot op [] (List.replicate 160 0) → ∀ s : State,
      s = Tests.given 0 0 e Tests.ready → s.kcu.lc ≠ 1 ∧ s.kcu.st = 2 ∧ Claims.holds s 0 0 op e) := by
  refine ⟨?_, ?_, ?_, ?_, ?_, ?_, ?_, ?_, ?_, ?_⟩
  · intro e he s hs; subst he; subst hs; unfold Claims.holds Claims.keyAt; decide +kernel
  · intro e he s hs; subst he; subst hs; unfold Claims.holds; decide +kernel
  · intro e he s hs; subst he; subst hs; unfold Claims.holds Claims.keyAt; decide +kernel
  · intro e he s hs; subst he; subst hs; unfold Claims.holds; decide +kernel
  · intro e he s hs; subst he; subst hs; unfold Claims.holds Claims.keyAt; decide +kernel
  · intro e he s hs; subst he; subst hs; unfold Claims.holds; decide +kernel
  · intro e he s hs; subst he; subst hs; unfold Claims.holds; decide +kernel
  · intro n h e he s hs; subst he; subst hs; fin_cases h <;> (unfold Claims.holds; decide +kernel)
  · intro v h s hs; subst hs; fin_cases h <;> decide +kernel
  · intro op h e he s hs; subst he; subst hs; fin_cases h <;> (unfold Claims.holds; decide +kernel)

/-! ### Lifecycle

A signature here is made without a private key: for a fixed message it is chosen first, and the public key under which it
verifies follows. -/

/-- A public key under which the signature of `ticketSig` is one of its message. -/
def Tests.ticketKey : Bytes := 4 :: (beBytes
    0xb14fee5438d94cb0d13c247d7eacc3e75511589a2150d0cff7fc0491e4c449b72c1a2b902748f50778fcfa799153827b 48
  ++ beBytes 0x83990e4181db71334de95d260a6b5e89262a7d76b5b96a98f02b819ba5d32e470c0692b473449bc8eaa2790efaea94ef 48)
/-- A signature of that message. -/
def Tests.ticketSig : Bytes := beBytes
    0x8ca0767509f8a2a3cc3f39c7183abce54c302f258d3b6b3b94df80dcdac266c486fa3430127eda799e7ba65f5155193a 48
  ++ beBytes 0x46503b3a84fc5151e61f9ce38c1d5e72a6181792c69db59dca6fc06e6d613362437d1a18093f6d3ccf3dd32fa8aa8c9d 48

/-- A public key under which the signature of `resp1Sig` is one of its message. -/
def Tests.resp1Key : Bytes := 4 :: (beBytes
    0xfb3cba2375bf53cc3abd9c5de0b8885156b232e08cd0cd93a2415b057406ff24f60e790675a1173dcd8aad5cc01b173e 48
  ++ beBytes 0xb8bf33fed808d0c973960f22c52ac7e73942b11d950b6d620a6654dde9af7e35f23607584306aa9b991df557c4792c36 48)
/-- A signature of that message. -/
def Tests.resp1Sig : Bytes := beBytes
    0x35d9a5509bef34316545bc432661e59cde8185a8e48d779fb957e3c638ca262e4fb2ebb2960965709e3d1ca10d4baaf5 48
  ++ beBytes 0x11f3371adea51165cc6c94166220a1def4d5d7384c2f27dfe872a14212ee0cba1a90f93b875877258a145ee059c3e3a7 48

/-- A public key under which the signature of `resp3Sig` is one of its message. -/
def Tests.resp3Key : Bytes := 4 :: (beBytes
    0xb888ada8a069fe059bbede5058829c730ee172834d30cd8754bfca60df17e8677599c0cfbff82699486a05d059e6a245 48
  ++ beBytes 0xbbb4c28c0511d448c2ffb2defcf1d3ace365a42e715d0b91e46805ceae505d54c18ce2cd74e2d026ab9ed8fadab20597 48)
/-- A signature of that message. -/
def Tests.resp3Sig : Bytes := beBytes
    0x132482b0d51360a445f97cf09eb0cf43e6bddef898f45ab99586468a64fd7f8140c85f325c2f8d1ce1744e1c685bfe39 48
  ++ beBytes 0x132482b0d51360a445f97cf09eb0cf43e6bddef898f45ab99586468a64fd7f8140c85f325c2f8d1ce1744e1c685bfe39 48

/-- The messages: a ticket from RAW to 2, and the responses of scope 1 and 3 to a challenge with nonce AB…AB. -/
def Tests.ticketMsg : Bytes := [0x53, 0x48, 0x56, 0x54, 1, 1, 2, 1, 1, 2, 3, 4, 5, 6, 7, 8] ++ List.replicate 48 0
def Tests.respMsg (scope : Byte) : Bytes :=
  [0x53, 0x48, 0x56, 0x52, 1, scope, 1, 32, 1, 2, 3, 4, 5, 6, 7, 8] ++ List.replicate 32 0xAB ++ List.replicate 16 0

/-- A RAW device with serial 1 to 8 and a manufacturer's key, its tables ready, its challenge outstanding. -/
def Tests.raw (key : Bytes) : State :=
  { Tests.ready with kcu := { Tests.ready.kcu with
    lc := 1, otp := [(1, [1, 2, 3, 4, 5, 6, 7, 8]), (2, key)]
    challenge := some { scope := 1, nonce := List.replicate 32 0xAB, tokens := 32, at_ := 0 } } }

theorem Tests.signed_of (s : State) (a : Nat) (b key m sg : Bytes) (h4 : s.otpItem (authorityItem a) = some key)
    (h5 : slice b 0 64 = m) (h6 : slice b 64 96 = sg) (h7 : ecdsaVerify (key.drop 1) (sha384 m) sg = true) :
    s.signed a b = true := by
  simp only [State.signed, h4, h5, h6, h7]

theorem Tests.ticket_signed : ecdsaVerify (Tests.ticketKey.drop 1) (sha384 Tests.ticketMsg) Tests.ticketSig = true := by
  decide +kernel
theorem Tests.debug_signed : ecdsaVerify (Tests.resp1Key.drop 1) (sha384 (Tests.respMsg 1)) Tests.resp1Sig = true := by
  decide +kernel
theorem Tests.unlock_signed : ecdsaVerify (Tests.resp3Key.drop 1) (sha384 (Tests.respMsg 3)) Tests.resp3Sig = true := by
  decide +kernel

/-- The RAW device with a ticket or a response at hand. -/
def Tests.told (op : Nat) (msg key : Bytes) : State := Tests.given 0 0 (Tests.slot op [] msg) (Tests.raw key)

theorem wit_LifecycleCommands_ticket : ∀ b, b = Tests.ticketMsg ++ Tests.ticketSig → ∀ s : State,
    s = Tests.told 0x0901 b Tests.ticketKey →
    Claims.holds s 0 0 0x0901 (Tests.slot 0x0901 [] b) ∧ slice b 0 160 = b ∧ zeros b 16 48 = true ∧ s.ticketOk b = true
    ∧ (b.getD 6 0).toNat = 2 ∧ (∀ n, n < 4 → s.stage n = 0) ∧ Tests.goodStart.decodesAgree = true
    ∧ ({ toStartObs := Tests.goodStart } : LcObs).powerFails = none := by
  intro b hb s hs; subst hb; subst hs
  have h := Tests.signed_of (Tests.told 0x0901 (Tests.ticketMsg ++ Tests.ticketSig) Tests.ticketKey) 1
    (Tests.ticketMsg ++ Tests.ticketSig) _ _ _ rfl (by decide +kernel) (by decide +kernel) Tests.ticket_signed
  refine ⟨by unfold Claims.holds; decide +kernel, by decide +kernel, by decide +kernel, ?_, by decide +kernel, by decide +kernel, rfl, rfl⟩
  have h1 : ((Tests.ticketMsg ++ Tests.ticketSig).getD 7 0).toNat = 1 := by decide +kernel
  simp only [State.ticketOk, h1, h, Bool.and_true]
  decide +kernel

theorem wit_LifecycleCommands_debug : ∀ b, b = Tests.respMsg 1 ++ Tests.resp1Sig → ∀ s : State,
    s = Tests.told 0x0903 b Tests.resp1Key →
    Claims.holds s 0 0 0x0903 (Tests.slot 0x0903 [] b) ∧ slice b 0 160 = b ∧ zeros b 48 16 = true ∧ s.responseOk b = true
    ∧ (b.getD 5 0).toNat = 1 ∧ s.kcu.lc = 1 ∧ s.tmu.tapClosed = false ∧ s.kcu.test = false := by
  intro b hb s hs; subst hb; subst hs
  have h := Tests.signed_of (Tests.told 0x0903 (Tests.respMsg 1 ++ Tests.resp1Sig) Tests.resp1Key) 1
    (Tests.respMsg 1 ++ Tests.resp1Sig) _ _ _ rfl (by decide +kernel) (by decide +kernel) Tests.debug_signed
  refine ⟨by unfold Claims.holds; decide +kernel, by decide +kernel, by decide +kernel, ?_, by decide +kernel, by decide +kernel, rfl, rfl⟩
  have h1 : ((Tests.respMsg 1 ++ Tests.resp1Sig).getD 6 0).toNat = 1 := by decide +kernel
  simp only [State.responseOk, h1, h, Bool.and_true]
  decide +kernel

theorem wit_LifecycleCommands_unlock : ∀ b, b = Tests.respMsg 3 ++ Tests.resp3Sig → ∀ s : State,
    s = Tests.told 0x0903 b Tests.resp3Key →
    Claims.holds s 0 0 0x0903 (Tests.slot 0x0903 [] b) ∧ slice b 0 160 = b ∧ zeros b 48 16 = true ∧ s.responseOk b = true
    ∧ (b.getD 5 0).toNat = 3 := by
  intro b hb s hs; subst hb; subst hs
  have h := Tests.signed_of (Tests.told 0x0903 (Tests.respMsg 3 ++ Tests.resp3Sig) Tests.resp3Key) 1
    (Tests.respMsg 3 ++ Tests.resp3Sig) _ _ _ rfl (by decide +kernel) (by decide +kernel) Tests.unlock_signed
  refine ⟨by unfold Claims.holds; decide +kernel, by decide +kernel, by decide +kernel, ?_, by decide +kernel⟩
  have h1 : ((Tests.respMsg 3 ++ Tests.resp3Sig).getD 6 0).toNat = 1 := by decide +kernel
  simp only [State.responseOk, h1, h, Bool.and_true]
  decide +kernel

theorem wit_LifecycleCommands :
    (∀ scope ∈ [1, 3], ∀ e, e = Tests.slot 0x0902 [(20, scope)] [] → ∀ s : State,
      s = Tests.given 0 0 e (Tests.raw []) →
      Claims.holds s 0 0 0x0902 e ∧ e.arg 20 = scope ∧ s.kcu.fails < 3 ∧ s.kcu.drbg = 2)
    ∧ (∀ s : State, s = { Tests.raw [] with tb := { State.reset.tb with elapsed := 60000000000 } } →
      ∃ ch, s.kcu.challenge = some ch ∧ ch.at_ + 60000000000 ≤ s.tb.elapsed)
    ∧ (∀ e, e = Tests.slot 0x0903 [] (List.replicate 160 0) → ∀ s : State, s = Tests.given 0 0 e (Tests.raw []) →
      Claims.holds s 0 0 0x0903 e ∧ zeros (slice e.buf 0 160) 48 16 = true ∧ s.responseOk (slice e.buf 0 160) = false
      ∧ authorityOk ((slice e.buf 0 160).getD 6 0).toNat = false)
    ∧ (∀ e, e = Tests.slot 0x0904 [(20, 1)] (List.replicate 8 5) → ∀ s : State,
      s = Tests.given 0 0 e { Tests.ready with kcu := { Tests.ready.kcu with lc := 1 } } →
      Claims.holds s 0 0 0x0904 e ∧ s.otpWritable (e.arg 20) = true ∧ e.buf.length = otpSize (e.arg 20)
      ∧ s.otpValueOk (e.arg 20) e.buf = true ∧ e.arg 20 ∉ s.kcu.damaged ∧ tfind s.kcu.otp (e.arg 20) = none)
    ∧ (∀ code ∈ [1, 13], ∀ e, e = Tests.slot 0x0905 [(16, 4), (20, code)] [] → ∀ s : State,
      s = Tests.given 0 0 e (Tests.raw []) → Claims.holds s 0 0 0x0905 e ∧ e.arg 20 = code)
    ∧ (∀ e, e = Tests.slot 0x0808 [] (List.replicate 160 0) → ∀ s : State,
      s = Tests.given 0 0 e { Tests.ready with bbx := { State.reset.bbx with chain := some (List.replicate 16 0) } } →
      Claims.holds s 0 0 0x0808 e ∧ s.kcu.lc ≠ 1 ∧ s.kcu.st = 2 ∧ s.bbx.queue.length < 256 ∧ s.chainNow.length = 16) := by
  refine ⟨?_, ?_, ?_, ?_, ?_, ?_⟩
  · intro scope h e he s hs; subst he; subst hs; fin_cases h <;> (unfold Claims.holds; decide +kernel)
  · intro s hs; subst hs; exact ⟨_, rfl, by decide +kernel⟩
  · intro e he s hs; subst he; subst hs; unfold Claims.holds; decide +kernel
  · intro e he s hs; subst he; subst hs; unfold Claims.holds; decide +kernel
  · intro code h e he s hs; subst he; subst hs; fin_cases h <;> (unfold Claims.holds; decide +kernel)
  · intro e he s hs; subst he; subst hs; unfold Claims.holds; decide +kernel

end
end

