-- ==== Sys2Proof/Tests/Host.lean ====
section
/-! SUPPORT. Witnesses for the statements about rings, functions and the cards of clusters. -/

-- The tests are checked one after another: side by side each would hold a thread of its own.
section
set_option Elab.async false

open Sys2Proof Sys2Proof.Machine

/-! ### Rings -/

/-- A ring that is enabled and holds the slots given. -/
def Tests.ring (l : List Fetched) : Ring := { en := true, irqEn := true, head := 5, tail := 6, fetchIdx := 5, fetched := l }

/-- Ring r of function f. -/
def Tests.ringed (f r : Nat) (g : Ring) : State := Tests.ready.setRing f r g

theorem wit_RingCommands :
    (∀ e, e = Tests.slot 0x0803 [] [] → ∀ g, g = Tests.ring [e] → ∀ s : State, s = Tests.ringed 0 0 g →
      s.ring 0 0 = g ∧ g.front = some e)
    ∧ (∀ g, g = Tests.ring [] → ∀ s : State, s = Tests.ringed 63 5 g →
      s.fnExists 63 = true ∧ s.pins.inReset = false ∧ ((5 : Word) - (s.ring 63 5).head).toNat ≤ 2 ^ (s.ring 63 5).size
      ∧ ((21 : Word) - (s.ring 63 5).head).toNat = 2 ^ (s.ring 63 5).size
      ∧ 2 ^ (s.ring 63 5).size < ((22 : Word) - (s.ring 63 5).head).toNat)
    ∧ (∀ v ∈ ([0x24, 0xFF0] : List Word), v.toNat < 2 ^ 12 ∧ 4 ≤ v.toNat % 32 ∧ v.toNat % 32 ≤ 16 ∧ v.getLsbD 5 = true)
    ∧ (∀ s : State, s = Tests.ringed 0 0 {} → (s.ring 0 0).en = false)
    ∧ (∀ g ∈ [Tests.ring [], { Tests.ring [] with en := false, stopped := true }], ∀ s : State, s = Tests.ringed 0 0 g →
      ((s.ring 0 0).en = true ∨ (s.ring 0 0).stopped = true) ∧ (4 : Word).getLsbD 5 = false ∧ (4 : Word).toNat % 32 = (s.ring 0 0).size
      ∧ (4 : Word).toNat / 128 = (s.ring 0 0).vec)
    ∧ (∀ s : State, s = Tests.ringed 1 3 (Tests.ring []) →
      (s.ring 1 3).en = true ∧ (s.ring 1 3).front = none ∧ s.beam.puntWait.any (fun x => x.dom == 1) = false
      ∧ (s.ring 1 3).fetchIdx ≠ (s.ring 1 3).tail
      ∧ (checkDesc (s.ring 1 3) 3 (Tests.desc 0x0802 []) []).toOption = none)
    ∧ (∀ b ∈ [none, some (List.replicate 64 (0 : Byte))], ∀ i ∈ [none, some (3 : Word)], ∀ s : State,
      s = Tests.ringed 0 0 { Tests.ring [] with stopped := true, rewrite := b, rewriteAt := i } →
      (63 : Word).toNat < 64 ∧ (s.ring 0 0).stopped = true ∧ (s.ring 0 0).rewrite = b ∧ (s.ring 0 0).rewriteAt = i)
    ∧ (∀ s : State, s = Tests.ringed 0 0 (Tests.ring []) →
      s.fnExists 0 = true ∧ (s.ring 0 0).en = true ∧ (s.ring 0 0).stopped = false ∧ (s.ring 0 0).rewrite = none
      ∧ (s.ring 0 0).fetchIdx ≠ (s.ring 0 0).tail ∧ (s.ring 0 0).front = none
      ∧ (checkDesc (s.ring 0 0) 0 (Tests.desc 0x0802 [(20, 63)]) []).toOption = some ([], 0)
      ∧ (checkDesc (s.ring 0 0) 0 (Tests.desc 0x0101 [(16, 64)]) (List.replicate 64 1)).toOption = some (List.replicate 64 1, 64)
      ∧ (checkDesc (s.ring 0 0) 0 (Tests.desc 0x0802 [(19, 1)]) []).toOption = none)
    ∧ (∀ op ∈ [0x0101, 0x0904], ∀ e, e = Tests.slot op [] [] → ∀ s : State, s = Tests.ringed 0 0 (Tests.ring [e]) →
      s.handed 0 0 = some e ∧ (∃ info, opInfo (descOp e.desc) = some info ∧ (info.buf = .data ∨ ∃ n, info.buf = .block n))
      ∧ descOp e.desc ≠ 0x0109)
    ∧ (∀ i ∈ ([4, 9] : List Word), ∀ s : State, s = { Tests.ringed 0 5 (Tests.ring []) with out := [.hostSlot 0 5 i [1]] } →
      lastSlot 0 5 s.out = some (i, [1], []) ∧ s.fnExists 0 = true ∧ ((s.ring 0 5).head = i + 1 ↔ i = 4))
    ∧ (∀ e, e = Tests.slot 0x0803 [] [] → ∀ s : State, s = { Tests.ringed 0 0 (Tests.ring [e]) with
        tb := { State.reset.tb with elapsed := 65535001 } } →
      s.handed 0 0 = some e ∧ descOp e.desc ≠ 0x0901 ∧ descOp e.desc ≠ 0x0903
      ∧ e.at_ + 1000 * s.field .hifCmdWdog 0 0 16 < s.tb.elapsed)
    ∧ (∀ e, e = { Tests.slot 0x0803 [] [] with withdrawn := true } → ∀ s : State, s = Tests.ringed 0 0 (Tests.ring [e]) →
      (s.ring 0 0).fetched.any (fun x => x.withdrawn) = true)
    ∧ (∀ s : State, s = { Tests.ringed 0 0 { Tests.ring [] with unsignalled := 1, imodTime := 1 } with
        tb := { State.reset.tb with elapsed := 1000 } } →
      (s.ring 0 0).unsignalled ≠ 0 ∧ (s.ring 0 0).imodTime ≠ 0
      ∧ (s.ring 0 0).firstAt + 1000 * (s.ring 0 0).imodTime ≤ s.tb.elapsed ∧ (s.ring 0 0).irqEn = true)
    ∧ (Tests.ready.fnExists 63 = true ∧ Tests.ready.beam.puntWait.any (fun x => x.dom == 63) = false)
    ∧ (∀ m ∈ ([0, 2] : List (BitVec 3)), ∀ s : State, s = { Tests.ready with hif := { Tests.ready.hif with mode := m } } →
      s.pins.inReset = false ∧ s.lcShut = false ∧ s.hif.mode = m ∧ s.bbx.lock = false ∧ s.alarmQuiet = true) := by
  refine ⟨?_, ?_, ?_, ?_, ?_, ?_, ?_, ?_, ?_, ?_, ?_, ?_, ?_, by decide +kernel, ?_⟩
  · intro e he g hg s hs; subst he; subst hg; subst hs; decide +kernel
  · intro g hg s hs; subst hg; subst hs; decide +kernel
  · intro v h; fin_cases h <;> decide +kernel
  · intro s hs; subst hs; decide +kernel
  · intro g h s hs; subst hs; fin_cases h <;> decide +kernel
  · intro s hs; subst hs; decide +kernel
  · intro b h i k s hs; subst hs; fin_cases h <;> fin_cases k <;> decide +kernel
  · intro s hs; subst hs; decide +kernel
  · intro op h e he s hs; subst he; subst hs
    fin_cases h
    · exact ⟨by decide +kernel, ⟨_, rfl, .inr ⟨_, rfl⟩⟩, by decide +kernel⟩
    · exact ⟨by decide +kernel, ⟨_, rfl, .inl rfl⟩, by decide +kernel⟩
  · intro i h s hs; subst hs; fin_cases h <;> decide +kernel
  · intro e he s hs; subst he; subst hs; decide +kernel
  · intro e he s hs; subst he; subst hs; decide +kernel
  · intro s hs; subst hs; decide +kernel
  · intro m h s hs; subst hs; fin_cases h <;> decide +kernel

/-! ### Cards -/

/-- A card of a generation. -/
def Tests.card (gen : BitVec 16) : Card := ⟨gen, false, [], [0]⟩

/-- Cluster 23 in a state, with generation 1 staged in NEXT and its domain powered. -/
def Tests.clu (k : Cluster) : State :=
  { State.reset with
    shu := { clusters := [(23, k)], next := some (Tests.card 1) }
    pmc := { State.reset.pmc with doms := [(23, { st := .p0, ready := .fresh, up := true })] } }

theorem wit_ClusterCards :
    (∀ k ∈ [({ st := .fresh, ctlGen := 2, card := some (Tests.card 2) } : Cluster), { st := .held }, { st := .none }],
      ∀ s : State, s = Tests.clu k →
      23 < s.variant.clusters ∧ s.pins.inReset = false ∧ s.lcShut = false ∧ s.clu 23 = k ∧ (0x10001 : Word).toNat < 2 ^ 17
      ∧ s.staged ((0x10001 : Word).setWidth 16) ≠ none ∧ s.staged ((0 : Word).setWidth 16) = none
      ∧ k.card.any (fun x => x.gen == 1) = false ∧ s.cluAwake 23 = true)
    ∧ (∀ st ∈ [CluSt.held, .fresh], ∀ s : State, s = Tests.clu { st := st, card := some (Tests.card 1) } →
      (s.clu 23).st = st ∧ (s.clu 23).card.any (fun x => x.gen == (1 : Word).setWidth 16) = true
      ∧ (1 : Word).getLsbD 16 = false)
    ∧ (∀ s : State, s = Tests.clu { st := .draining } → (s.clu 23).st = .draining ∧ s.busyBobs 23 = 0)
    ∧ (∀ s : State, s = Tests.clu { st := .loading, ctlGen := 1, loadGen := 1 } →
      (s.clu 23).st = .loading ∧ (s.clu 23).loadGen = (s.clu 23).ctlGen ∧ s.staged (s.clu 23).loadGen = some (Tests.card 1)
      ∧ s.linesOff false (s.loadLines 1) = false ∧ (s.clu 23).returning = false ∧ (s.clu 23).retried = false ∧ s.loadResult (s.clu 23).loadGen .good = .good
      ∧ s.loadResult (s.clu 23).loadGen .crc = .crc)
    ∧ (∀ s : State, s = Tests.clu { st := .loading, ctlGen := 1, loadGen := 2, retried := true } →
      (s.clu 23).st = .loading ∧ s.linesOff false (s.loadLines 2) = false ∧ (s.clu 23).loadGen ≠ (s.clu 23).ctlGen ∧ (s.clu 23).retried = true
      ∧ s.loadResult (s.clu 23).loadGen .good = .good ∧ s.loadResult (s.clu 23).loadGen .crc = .crc)
    ∧ (∀ s : State, s = { Tests.clu { st := .loading, ctlGen := 1, loadGen := 1 } with msc := { State.reset.msc with done := true } } →
      (s.clu 23).st = .loading ∧ s.variant ≠ .tv16e ∧ s.linesOff false (s.loadLines 1) = true)
    ∧ (∀ gen ∈ ([1, 2] : List (BitVec 16)), ∀ v ∈ ([1, 2] : List Word), ∀ s : State,
      s = { State.reset with shu := { next := some (Tests.card 1), clusters := (List.range 24).map (fun c =>
        (c, ({ ctlGen := gen } : Cluster))) } } →
      s.pins.inReset = false ∧ s.lcShut = false ∧ v.toNat < 4 ∧ s.shu.next = some (Tests.card 1) ∧ s.allName 1 = (gen == 1)
      ∧ s.someName 1 = (gen == 1))
    ∧ (∀ s : State, s = { Tests.clu { st := .fresh } with
        shu := { clusters := [(23, { st := .fresh })], bobs := [(128 * 23, { pick := some 0 })] }
        beam := { picks := [(0, Tests.pick)] } } →
      (s.clu 23).st ≠ .quarantined ∧ s.shu.bobs.filter (fun e => e.1 / 128 == 23) = [(128 * 23, { pick := some 0 })]
      ∧ s.pick 0 = some Tests.pick ∧ Tests.pick.runs < 2)
    ∧ (∀ c ∈ [0, 23, 24, 47, 95], ∀ s : State, s = State.reset → s.variant.domain c = true ∧ (s.dom c).ready ≠ .quarantined) := by
  refine ⟨?_, ?_, ?_, ?_, ?_, ?_, ?_, ?_, ?_⟩
  · intro k h s hs; subst hs; fin_cases h <;> decide +kernel
  · intro st h s hs; subst hs; fin_cases h <;> decide +kernel
  · intro s hs; subst hs; decide +kernel
  · intro s hs; subst hs; decide +kernel
  · intro s hs; subst hs; decide +kernel
  · intro s hs; subst hs; decide +kernel
  · intro gen h v g s hs; subst hs; fin_cases h <;> fin_cases g <;> decide +kernel
  · intro s hs; subst hs; decide +kernel
  · intro c h s hs; subst hs; fin_cases h <;> decide +kernel

end
end

