-- ==== Sys2Proof/Tests/Weave.lean ====
section
/-! SUPPORT. Witnesses for the statements about woven groups, lanes, ports and their seconds. -/

-- The tests are checked one after another: side by side each would hold a thread of its own.
section
set_option Elab.async false

open Sys2Proof Sys2Proof.Machine

/-- Group 0 enabled over lanes 0 and 1, both live, with or without a binder on lane 1. -/
def Tests.weave (bind : Bool) (G : Group) (ls : Tbl Lane) : State :=
  let s := (((State.reset.setReg .wovGrpCfg 0 0 (if bind then 7 else 1)).setReg .wovGrpLanes 0 0 3).setReg .lnePortCfg 32 0
    0x5EE_000D).setReg .lnePortCfg 33 0 0x5EE_000D
  { s with
    hif := { s.hif with mode := 1 }
    wov := { groups := [(0, G)], lanes := ls }
    pmc := { s.pmc with doms := [(56, { st := .p0, ready := .fresh, up := true })] } }

/-- R212: a lane frame of an enabled group opens when enough cloth has been placed, or when it carries none. -/
theorem Tests.opens_frame (s : State) (g : Nat) (h : frameBytes (dataMembers (s.group g).mapInForce).length ≤ (s.group g).cloth.length) :
    ∃ u, s.openFrame g = some u := by
  unfold State.openFrame
  cases (s.grpOn g)
  · exact ⟨_, rfl⟩
  · cases hl : (s.group g).label <;> simp only [hl]
    · exact ⟨_, rfl⟩
    · rw [if_neg (Nat.not_lt.2 h)]; exact ⟨_, rfl⟩
    · exact ⟨_, rfl⟩

theorem wit_WovenSend :
    (∀ n ∈ [0, 16 * 16368 - 1], ∀ i ∈ [none, some (QItem.pick 0)], ∀ G, G = { Tests.group with placed := n, ready := i } →
      ∀ s : State, s = { Tests.weave false G [] with beam := { picks := [(0, Tests.wovenPick)] } } →
      s.group 0 = G ∧ s.clothOpen 0 = true ∧ G.sealing = some false ∧ 16384 < G.maskBlocks
      ∧ s.tb.elapsed < G.maskAt + 100000 ∧ s.readyFits 0 (.pick 0) = true ∧ (16 * 16368 - n) + G.placed = 16 * frameBytes (dataMembers G.mapInForce).length ∧ 0 < 16 * 16368 - n
      ∧ s.held = false ∧ s.wovenItem (.pick 0) = some (3, 2, 7, Tests.wovenPick.frame)
      ∧ ¬ (24 + Tests.wovenPick.frame.length < 16 * 16368 - n ∧ 16 * 16368 - n < 48 + Tests.wovenPick.frame.length)
      ∧ ¬ (G.ckDone = false ∧ G.announced = 8 ∧ 16 * 16368 - n < 24 + Tests.wovenPick.frame.length))
    ∧ (∀ G, G = { Tests.group with cloth := List.replicate 16368 5 } → ∀ s : State, s = Tests.weave false G [] →
      s.groupOf 0 = some 0 ∧ s.memberLive 0 = true ∧ 0 ∉ G.sent ∧ s.grpOn 0 = true ∧ G.mapDue = false ∧ G.keyDue = false
      ∧ (∃ u, (if G.sent = [] then s.openFrame 0 else some s) = some u) ∧ s.field .wovLaneTx 0 0 2 = 0
      ∧ s.binder 0 ≠ some 0 ∧ (dataMembers G.mapInForce)[0]? = some 0)
    ∧ (∀ s : State, s = Tests.weave false Tests.group [] →
      s.pins.inReset = false ∧ s.lcShut = false ∧ ((s.group 0).ck 0).valid = true ∧ ((s.group 0).ck 1).valid = true ∧ (s.group 0).ckDone = true)
    ∧ (∀ s : State, s = Tests.weave false { Tests.group with cks := [] } [] → ((s.group 0).ck 0).valid = false)
    ∧ (∀ G, G = { Tests.group with ckSlot := true, ckDone := false, announced := 9 } → ∀ s : State, s = Tests.weave false G [] →
      s.group 0 = G ∧ G.sealing = some false ∧ s.grpOn 0 = true ∧ G.keyDue = true ∧ G.mapDue = false ∧ G.pais = false
      ∧ G.seqStop = false ∧ false ≠ G.ckSlot ∧ 16384 < G.maskBlocks ∧ s.tb.elapsed < G.maskAt + 100000)
    ∧ (∀ s : State, s = State.reset → s.grpOn 7 = false)
    ∧ (∀ s : State, s = Tests.weave false Tests.group [] →
      s.variant ≠ .tv16e ∧ dataMembers ((s.group 0).map ^^^ 3) = [1] ∧ (s.group 0).change = none ∧ s.binder 0 ≠ some 1
      ∧ (s.reg .wovGrpLanes 0).getLsbD 1 = true)
    ∧ (∀ an ∈ [true, false], ∀ add ∈ [true, false], ∀ c : MemberChange, c = ⟨add, 1, true, an, false⟩ →
      ∀ s : State, s = Tests.weave false { Tests.group with change := some c, mfc := if an then 16 else 8 } [] →
      (s.group 0).change = some c ∧ s.grpOn 0 = true ∧ c.armed = true ∧ c.announced = an
      ∧ (s.group 0).mfc % 16 = (if an then 0 else 8) ∧ (s.group 0).sent = [])
    ∧ (∀ s : State, s = (Tests.weave false { map := 1 } []).setReg .wovGrpCfg 0 0 0 →
      s.pins.inReset = false ∧ s.lcShut = false ∧ (s.group 0).due = none ∧ (s.reg .wovGrpCfg 0).getLsbD 0 = false ∧ s.variant ≠ .tv16e ∧ s.enableBad 0 7 = false ∧ s.hasSource 0 = false)
    ∧ (∀ s : State, s = Tests.weave true Tests.group [] → (s.reg .wovGrpCfg 0).getLsbD 0 = true
      ∧ (s.group 0).due = none ∧ (s.group 0).tested = false) := by
  refine ⟨?_, ?_, ?_, ?_, ?_, ?_, ?_, ?_, ?_, ?_⟩
  · intro n h i g G hG s hs; subst hG; subst hs; fin_cases h <;> fin_cases g <;> decide +kernel
  · intro G hG s hs; subst hs
    refine ⟨by subst hG; decide +kernel, ?_, ?_, by subst hG; decide +kernel, ?_, ?_, ?_, by subst hG; decide +kernel,
      by subst hG; decide +kernel, ?_⟩
    · subst hG; rfl
    · subst hG; simp [Tests.group]
    · subst hG; rfl
    · subst hG; rfl
    · rw [if_pos (by subst hG; rfl)]
      refine Tests.opens_frame _ 0 ?_
      subst hG
      show 16368 * 1 ≤ (List.replicate 16368 (5 : Byte)).length
      rw [List.length_replicate]
    · subst hG; rfl
  · intro s hs; subst hs; decide +kernel
  · intro s hs; subst hs; decide +kernel
  · intro G hG s hs; subst hG; subst hs; decide +kernel
  · intro s hs; subst hs; decide +kernel
  · intro s hs; subst hs; decide +kernel
  · intro an h add g c hc s hs; subst hc; subst hs; fin_cases h <;> fin_cases g <;> decide +kernel
  · intro s hs; subst hs; decide +kernel
  · intro s hs; subst hs; decide +kernel

/-! ### The receiving side -/

/-- Word 0 of a lane frame of MFC 5, member 0. -/
def Tests.word0 : RxWord := ⟨0xA65BE11C_0005_0010, false, 1⟩

/-- A lane frame whose word 0 is `Tests.word0`. -/
def Tests.frame : List RxWord := Tests.word0 :: List.replicate 2047 ⟨0, false, 1⟩

/-- A lane in frame that holds lane frame 1, its words up to word 3 given. -/
def Tests.inFrame (member : Nat) (w3 : RxWord) : Lane :=
  { align := .inFrame, block := true, known := true, member := member, mfc := 5, lastMfc := some 1
    store := [(1, [⟨0, false, 1⟩, ⟨0, false, 1⟩, ⟨0, false, 1⟩, w3])] }

/-- Sealed headers under `Tests.ck`: a FILL of 8 bytes, a FRAME of 60, a KEYMARK of key number 1. -/
def Tests.hdrFill : Bytes :=
  [169, 218, 152, 135, 220, 62, 121, 34, 9, 51, 208, 121, 53, 38, 169, 103, 78, 64, 246, 55, 56, 220, 214, 182]
def Tests.hdrFrame : Bytes :=
  [170, 90, 172, 135, 220, 59, 121, 34, 9, 51, 208, 121, 53, 33, 169, 103, 56, 54, 208, 27, 193, 252, 232, 63]
def Tests.hdrKey : Bytes :=
  [168, 154, 144, 135, 220, 62, 121, 34, 9, 51, 208, 121, 53, 38, 169, 103, 143, 226, 28, 243, 124, 111, 200, 49]

theorem Tests.open_fill : Tests.ck.openHdr 1 (Tests.hdrFill ++ List.replicate 8 0) = some (hdrContent 2 0 8 0 0) := by
  decide +kernel
theorem Tests.open_frame : Tests.ck.openHdr 1 (Tests.hdrFrame ++ List.replicate 60 0) = some (hdrContent 1 2 60 5 7) := by
  decide +kernel
theorem Tests.open_key : Tests.ck.openHdr 1 Tests.hdrKey = some (hdrContent 3 1 0 0 0) := by decide +kernel
theorem Tests.open_none : Tests.ck.openHdr 1 (List.replicate 24 0) = none := by decide +kernel

/-- A group in sync that has received some cloth after a marker. -/
def Tests.parsing (cloth : Bytes) : Group :=
  { Tests.group with
    sync := true, rxMap := 1, rxSlot := some false, rxNext := some true, rxNka := 8, rxCloth := cloth, rxLen := 16 * 16368 }

theorem wit_WovenReceive :
    (∀ L, L = { Tests.inFrame 0 ⟨0, false, 1⟩ with part := [] } → ∀ s : State, s = Tests.weave false Tests.group [(32, L)] →
      s.groupOf 0 = some 0 ∧ s.lane 32 = L ∧ L.locked = true ∧ Tests.frame.map heardWord = Tests.frame ∧ s.deepDeskew 0 = false ∧ Tests.frame.length = 2048 ∧ L.align = .inFrame ∧ L.part = []
      ∧ Tests.frame = Tests.word0 :: List.replicate 2047 ⟨0, false, 1⟩ ∧ isFaw Tests.word0 = true ∧ rxMfc Tests.word0 = L.mfc
      ∧ L.dfc.getLsbD 4 = false ∧ s.grpOn 0 = true)
    ∧ (∀ L : Lane, L = { align := .hunt, block := true } → ∀ s : State, s = Tests.weave false Tests.group [(32, L)] →
      s.lane 32 = L ∧ L.locked = true ∧ L.align ≠ .inFrame ∧ L.cands = [] ∧ Tests.frame[0]? = some Tests.word0
      ∧ (∀ q x, q ≠ 0 → Tests.frame[q]? = some x → isFaw x = false))
    ∧ (∀ e0 ∈ [false, true], ∀ G, G = { Tests.parsing [] with row := some (1, 3) } → ∀ s : State,
      s = Tests.weave true G [(32, Tests.inFrame 0 ⟨6, e0, 1⟩), (33, Tests.inFrame 1 ⟨6, false, 1⟩)] →
      s.group 0 = G ∧ s.grpOn 0 = true ∧ G.row = some (1, 3) ∧ (∀ n ∈ s.mapped 0, (s.rowWord 0 n 1 3).isSome = true)
      ∧ G.rxMap ≠ 0 ∧ G.sync = true ∧ G.dfc &&& 0x0E = 0
      ∧ (dataMembers G.rxMap).map (fun n => (s.rowWord 0 n 1 3).getD (0, true)) = [(6, e0)]
      ∧ (s.binder 0).map (fun n => (s.rowWord 0 n 1 3).getD (0, true)) = some (6, false)
      ∧ [(6, e0)].map (fun (x : BitVec 64 × Bool) => x.2) = (List.range 1).map (fun j => e0 && j == 0))
    ∧ (∀ u s : State, s = Tests.weave true { Tests.parsing [] with row := some (1, 2) }
        [(32, Tests.inFrame 0 ⟨6, false, 1⟩), (33, Tests.inFrame 1 ⟨6, false, 1⟩)] → u = s.rowHead 0 1 →
      s.grpOn 0 = true ∧ (s.group 0).row = some (1, 2) ∧ (s.group 0).rxMap ≠ 0 ∧ s.clothItem 0 = none
      ∧ (∀ n ∈ s.mapped 0, (s.rowWord 0 n 1 2).isSome = true) ∧ (u.group 0).rxMap ≠ 0)
    ∧ (∀ s : State, s = { Tests.weave false { Tests.parsing [] with row := some (1, 3) }
          [(32, { Tests.inFrame 0 ⟨0, false, 1⟩ with store := [] })] with tb := { State.reset.tb with elapsed := 10000000 } } →
      s.grpOn 0 = true ∧ (s.group 0).row = some (1, 3) ∧ s.laneOfMember 0 0 = some 0 ∧ s.earliest 0 1 = some 0
      ∧ (s.lane 32).stored 1 = none
      ∧ (64 * 3 : Nat) ≤ (100 * s.tb.elapsed + 262144 : Nat)
          - ((0 : Int) + (100 * (s.lane 32).delay : Nat) + (100000 * s.field .wovRxCfg 0 12 4 : Nat)))
    ∧ (∀ e ∈ [(Tests.hdrFill ++ List.replicate 8 0, 2, 8, hdrContent 2 0 8 0 0),
          (Tests.hdrFrame ++ List.replicate 60 0, 1, 60, hdrContent 1 2 60 5 7), (Tests.hdrKey, 3, 0, hdrContent 3 1 0 0 0)],
      ∀ G, G = Tests.parsing e.1 → ∀ s : State, s = Tests.weave false G [] →
      s.group 0 = G ∧ s.grpOn 0 = true ∧ G.dfc &&& 0x0E = 0 ∧ G.rxSkip = false ∧ G.sync = true ∧ G.rxSlot = some false
      ∧ 24 ≤ G.rxCloth.length ∧ (G.rxCk false).openHdr G.rxSeq G.rxCloth = some e.2.2.2
      ∧ hdrValid e.2.2.2 G.rxPos G.rxLen G.keyHere = some (e.2.1, e.2.2.1) ∧ 24 + e.2.2.1 ≤ G.rxCloth.length
      ∧ s.held = false ∧ s.defClass (s.groupPort 0) ≠ 7
      ∧ s.fits (cellsFor 60) (s.field .schAdmSlots 0 0 17) (s.field .schAdmCells 0 0 19) = true)
    ∧ (∀ G, G = Tests.parsing (List.replicate 24 0) →
      24 ≤ G.rxCloth.length ∧ (G.rxCk false).openHdr G.rxSeq G.rxCloth = none)
    ∧ (∀ G, G = { Tests.parsing (Tests.hdrFill ++ List.replicate 8 0) with rxLen := 31 } →
      24 ≤ G.rxCloth.length ∧ (G.rxCk false).openHdr G.rxSeq G.rxCloth = some (hdrContent 2 0 8 0 0)
      ∧ hdrValid (hdrContent 2 0 8 0 0) G.rxPos G.rxLen G.keyHere = none)
    ∧ (∀ G, G = { Tests.parsing (Tests.hdrFill ++ List.replicate 8 0) with
        sync := false, rxHold := true, poh := [(9, 0), (10, 0), (11, 0), (12, 1)] } → ∀ s : State, s = Tests.weave false G [] →
      tfind G.poh 9 = some 0 ∧ tfind G.poh 10 = some 0 ∧ tfind G.poh 11 = some 0 ∧ tfind G.poh 12 = some 1
      ∧ G.rxSlot = some false ∧ s.grpOn 0 = true ∧ G.sync = false ∧ G.noref = false ∧ G.rxHold = true ∧ G.rxSkip = false
      ∧ G.dfc &&& 0x0E = 0 ∧ 0 + 24 ≤ G.rxCloth.length
      ∧ (candidates (G.rxSeq - 1) (G.rxSince + 0) G.rxMean (0 * 256 + 1)).find? (fun x =>
          ((G.rxCk false).openHdr x (slice G.rxCloth 0 24)).isSome) = some 1) := by
  refine ⟨?_, ?_, ?_, ?_, ?_, ?_, ?_, ?_, ?_⟩
  · intro L hL s hs; subst hL; subst hs
    refine ⟨by decide +kernel, by decide +kernel, by decide +kernel, ?_, by decide +kernel, ?_, by decide +kernel, by decide +kernel, rfl,
      by decide +kernel, by decide +kernel, by decide +kernel, by decide +kernel⟩
    · rw [Tests.frame, List.map_cons, List.map_replicate]
      rfl
    · rw [Tests.frame, List.length_cons, List.length_replicate]
  · intro L hL s hs; subst hL; subst hs
    refine ⟨by decide +kernel, by decide +kernel, by decide +kernel, by decide +kernel, rfl, ?_⟩
    intro q x hq hx
    obtain ⟨q, rfl⟩ := Nat.exists_eq_succ_of_ne_zero hq
    simp only [Tests.frame, List.getElem?_cons_succ, List.getElem?_replicate] at hx
    split at hx
    · cases hx; decide
    · cases hx
  · intro e0 h G hG s hs; subst hG; subst hs; fin_cases h <;> decide +kernel
  · intro u s hs hu; subst hu; subst hs; decide +kernel
  · intro s hs; subst hs; decide +kernel
  · intro e h G hG s hs; subst hG; subst hs
    fin_cases h
    · exact ⟨by decide +kernel, by decide +kernel, by decide +kernel, by decide +kernel, by decide +kernel, by decide +kernel,
        by decide +kernel, Tests.open_fill, by decide +kernel, by decide +kernel, by decide +kernel, by decide +kernel,
        by decide +kernel⟩
    · exact ⟨by decide +kernel, by decide +kernel, by decide +kernel, by decide +kernel, by decide +kernel, by decide +kernel,
        by decide +kernel, Tests.open_frame, by decide +kernel, by decide +kernel, by decide +kernel, by decide +kernel,
        by decide +kernel⟩
    · exact ⟨by decide +kernel, by decide +kernel, by decide +kernel, by decide +kernel, by decide +kernel, by decide +kernel,
        by decide +kernel, Tests.open_key, by decide +kernel, by decide +kernel, by decide +kernel, by decide +kernel,
        by decide +kernel⟩
  · intro G hG; subst hG; exact ⟨by decide +kernel, Tests.open_none⟩
  · intro G hG; subst hG; exact ⟨by decide +kernel, Tests.open_fill, by decide +kernel⟩
  · intro G hG s hs; subst hG; subst hs; decide +kernel

end
end

