-- ==== Sys2Proof/Tests/Weft.lean ====
section
/-! SUPPORT. Witnesses for the statements about lanes, their seconds and the weft ports. -/

-- The tests are checked one after another: side by side each would hold a thread of its own.
section
set_option Elab.async false

open Sys2Proof Sys2Proof.Machine

/-- Port 0 configured by a word, its lanes' domain up, the time base at a given elapsed time. -/
def Tests.line (cfg : Word) (now : Nat) : State :=
  let s := State.reset.setReg .lnePortCfg 0 0 cfg
  { s with
    tb := { s.tb with elapsed := now }
    pmc := { s.pmc with doms := [(48, { st := .p0, ready := .fresh, up := true })] } }

theorem wit_LinesAndSeconds :
    (∀ s : State, s = Tests.line 0x5EE_0003 5 →
      s.variant.lane 0 = true ∧ s.pcsRuns (s.portOfLane 0) = true ∧ s.pcsRuns 0 = true ∧ (s.dom (48 + 0 / 4)).up = true ∧ s.training (s.portOfLane 0) = false
      ∧ (∀ l ∈ s.portLanes 0, (s.dom (48 + l / 4)).up = true))
    ∧ (∀ s : State, s = Tests.line 0x5EE_0123 500000000 →
      s.training 0 = true ∧ (s.port 0).trainAt + 500000000 ≤ s.tb.elapsed)
    ∧ (∀ s : State, s = Tests.line 0x5EE_0019 5 → ∀ v ∈ [(0x0 : Word), 0x60, 0x280, 0xFFFF &&& ~~~0x180 &&& ~~~0x1C],
      s.variant.lane 0 = true ∧ s.pins.inReset = false ∧ s.lcShut = false ∧ v.toNat < 2 ^ 16 ∧ s.portOfLane 0 = 0 ∧ v.toNat / 4 % 8 ≠ 7
      ∧ v.toNat / 128 % 8 ≤ 5 ∧ (v.toNat / 128 % 8 = 0 ∨ s.portMode 0 = 12)
      ∧ ((v.getLsbD 5 = false ∧ v.getLsbD 6 = false) ∨ s.portEn 0 = false ∨ s.portMode 0 = 12))
    ∧ (∀ e ∈ [(true, 63), (true, 64), (false, 64)], ∀ s : State,
      s = ((Tests.line 0x5EE_0019 5).setReg .lneLaneCfg 0 0 0x44).setLane 0 { prbsLock := true } →
      s.variant.lane 0 = true ∧ s.checks 0 = true
      ∧ ¬ ((s.lane 0).prbsLock = true ∧ e.1 = false ∧ (s.lane 0).prbsRun + e.2 < 64))
    ∧ (∀ p ∈ [(8, ({} : Sec)), (9, {}), (9, { defect := true })], ∀ e : Entity, e = { now := p.2, wait := List.replicate p.1 p.2 } →
      ∀ s0 : State, s0 = Tests.weave false Tests.group [] → ∀ s : State, s = { s0 with
        tb := { s0.tb with tod := 5000000000 }
        wov := { s0.wov with lmt := { s0.wov.lmt with ents := [(0, e)] } } } →
      s.tb.tod / 1000000000 ≠ s.wov.lmt.second ∧ s.monitored 0 = true ∧ s.ent (4 * 0) = e
      ∧ (e.wait ++ [{ e.now with sec := s.wov.lmt.second, off := false }]).length = p.1 + 1 ∧ e.unavail = false ∧ e.es ≤ 0xFFFFFFFF
      ∧ ∀ y ∈ e.wait ++ [{ e.now with sec := s.wov.lmt.second, off := false }], y.severe = p.2.defect)
    ∧ (∀ s : State, s = State.reset → ∀ v ∈ [(1 : Word), 3],
      s.pins.inReset = false ∧ s.lcShut = false ∧ v.toNat < 4 ∧ v.getLsbD 0 = true ∧ s.wov.lmt.busy = false) := by
  refine ⟨?_, ?_, ?_, ?_, ?_, ?_⟩
  · intro s h; subst h; decide +kernel
  · intro s h; subst h; decide +kernel
  · intro s h v hv; subst h; fin_cases hv <;> decide +kernel
  · intro e he s h; subst h; fin_cases he <;> decide +kernel
  · intro p hp e he s0 h0 s hs; subst he; subst h0; subst hs; fin_cases hp <;> decide +kernel
  · intro s h v hv; subst h; fin_cases hv <;> decide +kernel

/-! ### Weft ports -/

/-- A public key under which `Tests.certSig` is a signature of the certificate's 112 bytes. -/
def Tests.anchor : Bytes := 4 :: (beBytes
    0xf6eff9a8850691483ee0c4d8fefef469d128156e59395b52560cec771a5dd93fa92d99431706f9cbaa3aac7b3b67a02d 48
  ++ beBytes 0xff854809c13cfa332e5a8023164ea2b80b20c1ebda6b0fe7f02a36a0f278983f7049f5ce902863b610bf0527cb25ac9f 48)
def Tests.certSig : Bytes := beBytes
    0xa5f9fa5055d12dad59fedd878663a392af4200051b231026508a7e02e1ff31e46ebc96672c2f57a2a9885dd216ae8b84 48
  ++ beBytes 0x297e7e9415744b6b567fb761e198e8e4abd0800146c8c40994229f80b87fcc791baf2599cb0bd5e8aa62177485aba2e1 48
/-- The certificate of device 2, its public key all zeros, and that device's HELLO. -/
def Tests.certBody : Bytes := [0x57, 0x46, 0x43, 0x31, 0, 1, 0, 2] ++ List.replicate 104 0
def Tests.hello : Bytes := [0, 2] ++ List.replicate 32 0 ++ Tests.certBody ++ Tests.certSig

theorem Tests.cert_signed : ecdsaVerify (Tests.anchor.drop 1) (sha384 Tests.certBody) Tests.certSig = true := by decide +kernel

/-- Device 1 that can agree on link keys, its weft port 0 as given, port 1 up and on the way to device 9. -/
def Tests.wft (w : Weft) : State :=
  let s := ((((Tests.live 1518).setReg .wftRoute 9 0 5).setReg .wftDevId 0 0 1).setReg .wftPortTimers 0 0 0x2_0010)
  { s with
    tb := { s.tb with elapsed := 2000000000 }
    pmc := { s.pmc with doms := [(92, { st := .p0, ready := .fresh, up := true })] }
    kcu := { s.kcu with root := true, drbg := 2, cascade := some [1], otp := [(6, Tests.anchor)] }
    weft := [(0, w), (1, { st := .up })] }

theorem Tests.peer_good (w : Weft) : (Tests.wft w).peerBad 0 Tests.hello = false := by
  have h : (Tests.wft w).certOk (Tests.certBody ++ Tests.certSig) = true := by
    simp only [State.certOk]
    rw [show (Tests.wft w).otpItem 6 = some Tests.anchor from rfl]
    simp only [show slice (Tests.certBody ++ Tests.certSig) 0 112 = Tests.certBody from by decide +kernel,
      show slice (Tests.certBody ++ Tests.certSig) 112 96 = Tests.certSig from by decide +kernel, Tests.cert_signed]
    decide +kernel
  simp only [State.peerBad]
  rw [show slice Tests.hello 34 208 = Tests.certBody ++ Tests.certSig from by decide +kernel, h,
    show (Tests.wft w).field .wftPortCfg 0 16 16 = (Tests.wft {}).field .wftPortCfg 0 16 16 from rfl, show (Tests.wft w).devId = (Tests.wft {}).devId from rfl]
  decide +kernel

/-- Sixteen data lanes, locked and aligned; the n-th one as given. -/
def Tests.lanes (n : Nat) (l : WeftLane) : Tbl WeftLane :=
  (List.range 16).map (fun i => (i, if i = n then l else { locked := true, aligned := true }))

theorem wit_WeftBringUp :
    (∀ st ∈ [WeftSt.down, .train, .lock, .up], ∀ w : Weft, w = { st := st } → ∀ s : State, s = Tests.wft w →
      s.wport 0 = w ∧ w.st = st ∧ 0 < s.variant.weftPorts ∧ (s.dom (92 + 0)).up = true ∧ s.devId ≠ 0 ∧ w.doneTx = false
      ∧ tapsOk (tget (4, 51, 8) w.taps 15) = true ∧ w.since + 100000000 ≤ s.tb.elapsed)
    ∧ (∀ st ∈ [WeftSt.lock, .up], ∀ w : Weft, w = { st := st, lanes := Tests.lanes 15 { locked := true, aligned := true } } →
      w.striped = true ∧ (w.lane 15).locked = true
      ∧ ((List.replicate 64 true).foldl WeftLane.header (w.lane 15)).locked = true
      ∧ ((List.replicate 64 true).foldl WeftLane.header (w.lane 15)).aligned = true)
    ∧ (∀ w : Weft, w = { st := .key, lanes := Tests.lanes 0 {} } → w.striped = false
      ∧ (w.lane 15).locked = true ∧ (List.replicate 64 true).foldl WeftLane.header (w.lane 0) = { locked := true })
    ∧ (∀ w : Weft, w = { st := .key, keyed := true } → ∀ s : State, s = Tests.wft w →
      s.wport 0 = w ∧ (s.dom (92 + 0)).up = true ∧ w.st = .key ∧ w.keyed = true)
    ∧ (∀ mode ∈ [(0 : Byte), 1, 2], (15 : Byte).toNat < 16 ∧ mode.toNat < 3 ∧ (2 : Byte).toNat < 3)
    ∧ (∀ st ∈ [WeftSt.key, .up], ∀ w : Weft, w = { st := st } → ∀ s : State, s = Tests.wft w →
      s.wport 0 = w ∧ w.st = st ∧ s.canAgree = true ∧ w.refusedAt = none ∧ w.helloRx ≠ Tests.hello ∧ Tests.hello.length = 242
      ∧ s.peerBad 0 Tests.hello = false)
    ∧ (∀ w : Weft, w = { st := .key } → ∀ s : State, s = Tests.wft w → s.wport 0 = w ∧ s.canAgree = true
      ∧ (List.replicate 242 (0 : Byte)).length = 242 ∧ s.peerBad 0 (List.replicate 242 0) = true)
    ∧ (∀ w : Weft, w = { st := .key, helloRx := Tests.hello, shareTx := [4] } → ∀ q : Bytes, q = List.replicate 193 0 →
      ∀ s : State, s = Tests.wft w →
      s.wport 0 = w ∧ w.st = .key ∧ q.length = 193 ∧ w.helloRx ≠ [] ∧ w.shareTx ≠ [] ∧ w.refusedAt = none ∧ w.shareRx ≠ q)
    ∧ (∀ d : Bytes × Bytes, d = ([], [1]) → ∀ w : Weft, w = { st := .key, derived := some d } → ∀ s : State, s = Tests.wft w →
      s.wport 0 = w ∧ w.derived = some d ∧ w.st = .key ∧ [] ≠ w.finish d.2)
    ∧ (∀ w : Weft, w = { st := .key, refusedAt := some 5 } → ∀ s : State, s = Tests.wft w →
      s.wport 0 = w ∧ s.canAgree = true ∧ s.kcu.cascade = some [1] ∧ w.st = .key ∧ w.refusedAt = some 5
      ∧ 5 + 1000000000 ≤ s.tb.elapsed)
    ∧ (∀ seq ∈ [1, 2 ^ 64 - 2 ^ 32], ∀ w : Weft, w = { st := .up, txSeq := seq } → ∀ s : State,
      s = (Tests.wft w).setReg .wftPortBudget 0 0 (if seq = 1 then 0 else 0x10000) →
      s.wport 0 = w ∧ s.canAgree = true ∧ w.st = .up ∧ w.rekeying = false ∧ w.newTx = none
      ∧ (if seq = 1 then w.keyedAt + 60000000000 * s.field .wftPortBudget 0 16 16 ≤ s.tb.elapsed else 2 ^ 64 - 2 ^ 32 ≤ w.txSeq))
    ∧ (∀ w : Weft, w = { st := .key, sbReq := some (1, [0], 5) } → ∀ s : State, s = Tests.wft w →
      s.wport 0 = w ∧ 0 < s.variant.weftPorts ∧ (5 : Byte) ≤ 5 ∧ 5 + 20000 ≤ s.tb.elapsed ∧ sbBad [] = true) := by
  refine ⟨?_, ?_, ?_, ?_, ?_, ?_, ?_, ?_, ?_, ?_, ?_, ?_⟩
  · intro st h w hw s hs; subst hw; subst hs; fin_cases h <;> decide +kernel
  · intro st h w hw; subst hw; fin_cases h <;> decide +kernel
  · intro w hw; subst hw; decide +kernel
  · intro w hw s hs; subst hw; subst hs; decide +kernel
  · decide +kernel
  · intro st h w hw s hs; subst hw; subst hs
    have h1 : ∀ st ∈ [WeftSt.key, .up], (Tests.wft { st := st }).wport 0 = { st := st } ∧ (Tests.wft { st := st }).canAgree = true
      ∧ ([] : Bytes) ≠ Tests.hello ∧ Tests.hello.length = 242 := by decide +kernel
    exact ⟨(h1 st h).1, rfl, (h1 st h).2.1, rfl, (h1 st h).2.2.1, (h1 st h).2.2.2, Tests.peer_good _⟩
  · intro w hw s hs; subst hw; subst hs; decide +kernel
  · intro w hw q hq s hs; subst hw; subst hq; subst hs; decide +kernel
  · intro d hd w hw s hs; subst hd; subst hw; subst hs; decide +kernel
  · intro w hw s hs; subst hw; subst hs; decide +kernel
  · intro seq h w hw s hs; subst hw; subst hs; fin_cases h <;> decide +kernel
  · intro w hw s hs; subst hw; subst hs; decide +kernel

/-! ### Items of an UP link -/

def Tests.linkKey : LinkKey := ⟨List.replicate 32 1, [0, 0, 0, 0]⟩
/-- A FRAME item for this device of SEQ 1, sealed under `Tests.linkKey`. -/
def Tests.ownItem : Bytes := beBytes
  0x0001000a000000000000000101000000bbda9087dc3e4b220933d0793526a96714207bc71286192323cab9b7584908c453cae992c185e4260b35a811757920e2b1fe2209dec7c64d0db4bf590abda3ea8a910a31 84
/-- A FRAME item for device 9 of SEQ 1, sealed under `Tests.linkKey`. -/
def Tests.onItem : Bytes := beBytes
  0x0009000a000000000000000101000000bbda9087dc3e4b220933d0793526a96714207bc71286192323cab9b7584908c453cae992c185e4260b35a811757920e2b1fe220983ce2b0ac511423ee52bb7183865e5d2 84
/-- A SKIP item of SEQ 1 and BUDGET 10, sealed under `Tests.linkKey`. -/
def Tests.skipItem : Bytes := beBytes
  0x0000000a000000000000000106000000bbda908757c1dd241b27552406b5cc0b748cd09e 36
/-- An ACK item of SEQ 1 and BUDGET 10, sealed under `Tests.linkKey`. -/
def Tests.ackItem : Bytes := beBytes
  0x0000000a000000000000000102000000bbda90874ca10b13737b7b1dd3527fdd93d0e07c 36
/-- A NAK item of SEQ 1 and BUDGET 10, sealed under `Tests.linkKey`. -/
def Tests.nakItem : Bytes := beBytes
  0x0000000a000000000000000103000000bbda9087ab793e9ea96c7093a62b93282a07ec44 36
/-- A KEYSWITCH item of SEQ 1 and BUDGET 10, sealed under `Tests.linkKey`. -/
def Tests.switchItem : Bytes := beBytes
  0x0000000a000000000000000104000000bbda90875a71b63faf094238ec4615e00722c8ef 36
/-- A TIME item of SEQ 1 and BUDGET 10, sealed under `Tests.linkKey`. -/
def Tests.timeItem : Bytes := beBytes
  0x0000000a000000000000000105000000bbda9087dc3e79220933d0793526a96714207bc71286192323cab9b7584908c453cae992c185e4260b35a811757920e2b1fe2209fd11e335119986e3b62b9b2738e5cf2c1bff0583afe456b879e887e7f5f106c24a1cb0274cff713454856254 112
/-- An ACK item of SEQ 1 and BUDGET 0, sealed under `Tests.linkKey`. -/
def Tests.ackLate : Bytes := beBytes
  0x00000000000000000000000102000000bbda9087a41f4dae6502ce3f2360bf5a326b9a56 36
/-- A NAK item of SEQ 1 and BUDGET 0, sealed under `Tests.linkKey`. -/
def Tests.nakLate : Bytes := beBytes
  0x00000000000000000000000103000000bbda908743c77823bf15c5b1561953af8bbc966e 36
/-- A KEYSWITCH item of SEQ 1 and BUDGET 0, sealed under `Tests.linkKey`. -/
def Tests.switchLate : Bytes := beBytes
  0x00000000000000000000000104000000bbda9087b2cff082b970f71a1c74d567a699b2c5 36
/-- A TIME item of SEQ 1 and BUDGET 0, sealed under `Tests.linkKey`. -/
def Tests.timeLate : Bytes := beBytes
  0x00000000000000000000000105000000bbda9087dc3e79220933d0793526a96714207bc71286192323cab9b7584908c453cae992c185e4260b35a811757920e2b1fe2209fd11e335119986e3b62b9b2738e5cf2c1bff0583afe456b879e887e7d6e3421bf418ffa1d06bc5fd6495a469 112

/-- Items of the reserved TYPEs 0 and 7, of SEQ 1, sealed under `Tests.linkKey`. -/
def Tests.oddItems : List Bytes :=
  [beBytes 0x0000000a000000000000000100000000d2afa54101b40cbc891c438dd519cd6d 32,
   beBytes 0x0000000a000000000000000107000000bbda9087b019e8a9c1305eaa73cc20fecd5bdca6 36]

/-- The body of the FRAME items: number 0, class 3, vector 2, a frame of 4 bytes. -/
def Tests.frameBody : Bytes := List.replicate 6 0 ++ [0x32] ++ List.replicate 45 0

theorem Tests.opens (s : State) (type : Nat) (item b : Bytes) (h : (s.wport 0).st = .up) (hk : (s.wport 0).rxKey = some Tests.linkKey)
    (hl : 36 ≤ item.length) (ht : (item.getD 12 0).toNat = type) (hq : (s.wport 0).rxSeq < beNat (slice item 4 8))
    (ho : gcmOpen Tests.linkKey.key (slice Tests.linkKey.salt 0 4 ++ beBytes (beNat (slice item 4 8)) 8) (item.take 16)
      ((item.take (item.length - 16)).drop 16) (item.drop (item.length - 16)) = (b, true)) : Claims.weftItem s 0 type item b :=
  ⟨h, hl, ht, hq, Tests.linkKey, hk, ho⟩

/-- A FRAME that waits for port 0, with a number. -/
def Tests.wframe (fn : Word) : WFrame :=
  { fn := fn, dest := 9, src := 1, budget := 1000000000, since := 0, vec := 0, cls := 2, kn := 0, assoc := 0, pn := 0
    u := (0, 0, 0), frame := [1], via := none, cells := 1, about := none }

/-- An UP port with both link keys, a new receive key announced, and FRAMEs 0 and 1 unacknowledged. -/
def Tests.upLink : Weft :=
  { st := .up, txKey := some Tests.linkKey, rxKey := some Tests.linkKey, newRx := some Tests.linkKey
    unacked := [Tests.wframe 0, Tests.wframe 1], ackAt := some 5, sinceAck := 1 }

theorem Tests.opened (w : Weft) (h : w = Tests.upLink) (s : State) (hs : s = Tests.wft w) :
    Claims.weftItem s 0 1 Tests.ownItem Tests.frameBody ∧ Claims.weftItem s 0 1 Tests.onItem Tests.frameBody
    ∧ Claims.weftItem s 0 6 Tests.skipItem [0, 0, 0, 0] ∧ Claims.weftItem s 0 2 Tests.ackItem [0, 0, 0, 0]
    ∧ Claims.weftItem s 0 3 Tests.nakItem [0, 0, 0, 0] ∧ Claims.weftItem s 0 4 Tests.switchItem [0, 0, 0, 0]
    ∧ Claims.weftItem s 0 5 Tests.timeItem (List.replicate 80 0) := by
  subst h; subst hs
  refine ⟨?_, ?_, ?_, ?_, ?_, ?_, ?_⟩ <;>
    exact Tests.opens _ _ _ _ (by decide +kernel) (by decide +kernel) (by decide +kernel) (by decide +kernel) (by decide +kernel)
      (by decide +kernel)

/-- Items whose BUDGET the link has used up. -/
theorem Tests.late (w : Weft) (h : w = Tests.upLink) (s : State) (hs : s = Tests.wft w) :
    Claims.weftItem s 0 2 Tests.ackLate [0, 0, 0, 0] ∧ Claims.weftItem s 0 3 Tests.nakLate [0, 0, 0, 0]
    ∧ Claims.weftItem s 0 4 Tests.switchLate [0, 0, 0, 0] ∧ Claims.weftItem s 0 5 Tests.timeLate (List.replicate 80 0)
    ∧ (∀ x ∈ [Tests.ackLate, Tests.nakLate, Tests.switchLate, Tests.timeLate], s.overdue 0 x = true) := by
  subst h; subst hs
  refine ⟨?_, ?_, ?_, ?_, by decide +kernel⟩ <;>
    exact Tests.opens _ _ _ _ (by decide +kernel) (by decide +kernel) (by decide +kernel) (by decide +kernel) (by decide +kernel)
      (by decide +kernel)

theorem wit_WeftData_sent : ∀ s : State, ∀ w : Weft, s = Tests.wft w →
    (w = { Tests.upLink with ctl := [.ack 5] } → s.wport 0 = w ∧ w.st = .up ∧ w.txKey = some Tests.linkKey ∧ w.ctl = .ack 5 :: [])
    ∧ (w = { Tests.upLink with resend := [Tests.wframe 0], unacked := [] } → s.wport 0 = w ∧ w.ctl = [] ∧ s.held = false
      ∧ w.resend = Tests.wframe 0 :: [] ∧ (Tests.wframe 0).left s.tb.elapsed = some 875000000)
    ∧ (w = { Tests.upLink with wait := [Tests.wframe 0], unacked := [] } → s.wport 0 = w ∧ w.ctl = [] ∧ s.held = false
      ∧ w.resend = [] ∧ nextFrame w.wait = some (Tests.wframe 0) ∧ (Tests.wframe 0).left s.tb.elapsed = some 875000000)
    ∧ (∀ e ∈ [0, 1], w = { Tests.upLink with expiries := e } → s.wport 0 = w ∧ w.ackAt = some 5 ∧ 5 < s.tb.elapsed
      ∧ (if e = 0 then w.expiries + 1 < s.field .wftPortTimers 0 16 4 else s.field .wftPortTimers 0 16 4 ≤ w.expiries + 1)
      ∧ w.sinceAck ≠ 0 ∧ w.lastAck + 1000 ≤ s.tb.elapsed ∧ w.lastTime + 1000000 ≤ s.tb.elapsed) := by
  intro s w hs
  refine ⟨?_, ?_, ?_, ?_⟩
  · intro h; subst h; subst hs; decide +kernel
  · intro h; subst h; subst hs; decide +kernel
  · intro h; subst h; subst hs; decide +kernel
  · intro e he h; subst h; subst hs; fin_cases he <;> decide +kernel

theorem wit_WeftData_reserved : ∀ w : Weft, w = Tests.upLink → ∀ s : State, s = Tests.wft w → ∀ item ∈ Tests.oddItems,
    s.wport 0 = w ∧ w.st = .up ∧ w.rxKey = some Tests.linkKey ∧ w.rxSeq < beNat (slice item 4 8) ∧ 32 ≤ item.length
    ∧ ((item.getD 12 0).toNat = 0 ∨ 6 < (item.getD 12 0).toNat)
    ∧ (gcmOpen Tests.linkKey.key (slice Tests.linkKey.salt 0 4 ++ beBytes (beNat (slice item 4 8)) 8) (item.take 16)
        ((item.take (item.length - 16)).drop 16) (item.drop (item.length - 16))).2 = true := by
  intro w hw s hs item h; subst hw; subst hs; fin_cases h <;> decide +kernel

theorem wit_WeftData : ∀ w : Weft, w = Tests.upLink → ∀ s : State, s = Tests.wft w →
    Claims.weftItem s 0 1 Tests.ownItem Tests.frameBody ∧ Claims.weftItem s 0 1 Tests.onItem Tests.frameBody
    ∧ Claims.weftItem s 0 6 Tests.skipItem [0, 0, 0, 0] ∧ Claims.weftItem s 0 2 Tests.ackItem [0, 0, 0, 0]
    ∧ Claims.weftItem s 0 3 Tests.nakItem [0, 0, 0, 0] ∧ Claims.weftItem s 0 4 Tests.switchItem [0, 0, 0, 0]
    ∧ Claims.weftItem s 0 5 Tests.timeItem (List.replicate 80 0)
    ∧ s.wport 0 = w ∧ w.st = .up ∧ beNat (slice Tests.frameBody 0 4) = w.rxFn.toNat ∧ beNat (slice [0, 0, 0, 0] 0 4) = w.rxFn.toNat
    ∧ w.sinceAck ≠ 15 ∧ beNat (slice Tests.ownItem 0 2) = s.devId ∧ beNat (slice Tests.ownItem 2 2) = 10 + (w.linkTime + 15) / 16
    ∧ s.held = false ∧ BitVec.ofNat 3 (s.field .wftPortCfg 0 1 3) ≠ 7
    ∧ s.fits (cellsFor (weftMeta Tests.frameBody ++ Tests.frameBody.drop 48).length) (s.field .schAdmSlots 0 0 17)
        (s.field .schAdmCells 0 0 19) = true
    ∧ beNat (slice Tests.onItem 0 2) = 9 ∧ 9 ≠ s.devId ∧ reservedId 9 = false ∧ s.routeTo 9 = some 1
    ∧ BitVec.ofNat 3 ((Tests.frameBody.getD 6 0).toNat / 16) ≠ 7
    ∧ s.fits (cellsFor (Tests.frameBody.drop 48).length) (s.field .schAdmSlots 0 0 17) (s.field .schAdmCells 0 0 19) = true
    ∧ w.unacked.filter (fun f => decide (0 < fnDiff f.fn 0)) = [Tests.wframe 1] ∧ [Tests.wframe 1] ≠ w.unacked
    ∧ w.newRx = some Tests.linkKey
    ∧ (∀ x ∈ [Tests.ownItem, Tests.onItem, Tests.skipItem, Tests.ackItem, Tests.nakItem, Tests.switchItem, Tests.timeItem],
        s.overdue 0 x = false) := by
  intro w hw s hs
  obtain ⟨h1, h2, h3, h4, h5, h6, h7⟩ := Tests.opened w hw s hs
  refine ⟨h1, h2, h3, h4, h5, h6, h7, ?_⟩
  subst hw; subst hs; decide +kernel

end
end

