-- ==== Sys2Proof/Tests/Memory.lean ====
section
/-! SUPPORT. Witnesses for the statements about the in-package memory. -/

-- The tests are checked one after another: side by side each would hold a thread of its own.
section
set_option Elab.async false

open Sys2Proof Sys2Proof.Machine

/-- An initialised memory whose channels all run; memory key index 3 is active. -/
def Tests.dram : State :=
  { Tests.ready with
    msc := { Tests.ready.msc with mkis := [(3, { st := .active, draw := 9 })] }
    pmc := { Tests.ready.pmc with doms := (List.range 16).map (fun c => (64 + c, { st := .p0, ready := .fresh, up := true })) } }

/-- One observation of a path. -/
def Tests.obs (level : Nat) (sym : SymCode) (pass : Bool) : PathObs := ⟨level, 0, sym, pass⟩

theorem wit_MemoryLines :
    (∀ b ∈ [false, true], ∀ s : State, s = { Tests.dram with
        msc := { Tests.dram.msc with lines := [(lineKey b 1, { data := [], ctr := 0, mki := 3, mac := 0 })] } } →
      Claims.memLine s (s.touchDom (64 + s.lineChannel b 1)) b 1 [s.readCopy b] ∧ [s.readCopy b] = s.copies b
      ∧ s.keyDraw b (s.lineMki b 1) false ≠ none ∧ [s.readCopy b] = [false]
      ∧ s.field .mscScrub 0 0 16 ≠ 0 ∧ s.shedding = false ∧ (false, b, 1) ∉ (if s.msc.scrubEra = s.scrubNow then s.msc.scrubbed else [])
      ∧ (∀ o ∈ [Tests.obs 0 .clean true, Tests.obs 1 .clean true], o.sym = .clean ∧ o.pass = true)
      ∧ (Tests.obs 0 .corrected true).sym = .corrected ∧ (Tests.obs 0 .corrected true).pass = true
      ∧ (Tests.obs 1 .clean false).sym = .clean ∧ (Tests.obs 1 .clean false).pass = false ∧ s.msc.suspects.length < 1024
      ∧ s.tmu.fuses.getLsbD 12 = false ∧ (Tests.obs 5 .uncorrectable false).sym = .uncorrectable ∧ s.msc.mirror ≠ 1
      ∧ 2 ^ s.field .mscPoisonCfg 0 0 5 ≤ min (s.cover b 5 0).2 (s.lines b - (s.cover b 5 0).1) ∧ s.hif.mode = 1
      ∧ min (s.cover b 1 0).2 (s.lines b - (s.cover b 1 0).1) < 2 ^ s.field .mscPoisonCfg 0 0 5
      ∧ s.keyDraw b (if b then 3 else 0) true = some (if b then 9 else 0) ∧ s.clockRoom (s.writeChannels b 1 [Tests.obs 0 .clean true, Tests.obs 1 .clean true]) = true
      ∧ (List.replicate 63 (0 : Byte)).length < 64 ∧ 1 + (List.replicate 63 (0 : Byte)).length ≤ 64)
    ∧ (∀ s : State, s = Tests.dram → Claims.memLine s (s.touchDom (64 + s.lineChannel false 1)) false 1 (s.copies false)
      ∧ 1 = 2 * (0 : BitVec 24).toNat + 1 ∧ (0 : BitVec 24).toNat < s.capacity)
    ∧ (∀ s : State, s = { Tests.dram with msc := { Tests.dram.msc with mirror := 1 } } →
      s.copies false = [false, true] ∧ s.clockRoom (s.writeChannels false 1 []) = true
      ∧ Claims.memLine s ((s.touchDom 64).touchDom 72) false 1 (s.copies false)) := by
  refine ⟨?_, ?_, ?_⟩
  · intro b hb s h; subst h; unfold Claims.memLine; fin_cases hb <;> decide +kernel
  · intro s h; subst h; unfold Claims.memLine; decide +kernel
  · intro s h; subst h; unfold Claims.memLine; decide +kernel

theorem wit_MemoryKeeping :
    (∀ r ∈ [([] : List Retried), [⟨0, false, 5, 3⟩]], ∀ f ∈ [none, some (false, 5), some (true, 9)], ∀ n ∈ [0, 1], ∀ s : State,
      s = { Tests.dram with
        tb := { State.reset.tb with elapsed := 2004 }
        shu := { bobs := [(0, { pick := some 0, pend := [⟨1, .lookAt 2 0 false, 7, 0⟩] })] }
        msc := { Tests.dram.msc with retried := r, lastFail := [(0, f)], expired := [(0, n)] } } →
      0 < s.channels ∧ s.stackOk (0 / 4) = true ∧ s.onChannel 0 false 5 = true ∧ tget 0 s.msc.expired 0 = n
      ∧ tget none s.msc.lastFail 0 = f
      ∧ (s.msc.retried.find? (fun (x : Retried) => x.ch == 0 && x.buffer == false && x.line == 5)) = r.head?
      ∧ s.fetchStart false 5 + s.field .mscTimeout 0 0 16 < s.tb.elapsed
      ∧ ∀ x ∈ r.head?, x.at_ + s.field .mscTimeout 0 0 16 < s.tb.elapsed)
    ∧ (∀ m ∈ [(0 : BitVec 2), 1], ∀ s : State, s = { Tests.dram with msc := { Tests.dram.msc with mirror := m } } →
      s.stackOk 0 = true ∧ s.msc.mirror = m ∧ s.msc.done = true ∧ s.hif.mode = 1 ∧ s.msc.stks = [])
    ∧ (∀ s : State, s = { Tests.dram with msc := { Tests.dram.msc with stks := [(0, .rebuilding)], rerooting := [(true, 8, 8)] } } →
      tget .ok s.msc.stks 0 = .rebuilding ∧ (true, 8, 8) ∈ s.msc.rerooting ∧ s.msc.done = true
      ∧ (∀ b ∈ s.copies true, ∀ ch, ch < s.channels →
        tget 0 s.msc.clocks ch + s.freshWrites true b 8 8 ch < 2 ^ 64 - 1))
    ∧ (∀ s : State, s = State.reset → s.pins.inReset = false ∧ s.lcShut = false ∧ s.variant ≠ .tv16e ∧ s.msc.go = false)
    ∧ (∀ q ∈ [0, 3], ∀ s : State, s = Tests.dram.setReg .schQMap 5 0 (BitVec.ofNat 32 (2048 * q)) →
      s.pins.inReset = false ∧ (tget {} s.msc.mkis 3).st = .active ∧ (0x8000_0003 : Word).toNat % 256 = 3
      ∧ (0x8000_0003 : Word).toNat = 3 + 2 ^ 31 ∧ (if q = 0 then s.mkiRefs 3 = 0 else s.mkiRefs 3 ≠ 0))
    ∧ (∀ e ∈ [((8 : Nat), (0 : Word), true), (15, 1, true), (0, 0xFFFFFFFF, false)], ∀ s : State,
      s = { Tests.dram with hif := { Tests.dram.hif with held := [(0xF0_0020, e.2.1)] } } →
      ∀ v : Word, v = BitVec.ofNat 32 (33 + 2 * e.1) →
      s.heldOr 0xF0_0020 (s.reg .mscReinit0) = e.2.1 ∧ v.toNat < 64 ∧ v.getLsbD 5 = true ∧ v.getLsbD 0 = true
      ∧ v.toNat / 2 % 16 = e.1 ∧ (e.1 ≤ 8 ∨ e.1 = 15) ∧ s.msc.done = true ∧ s.lineAt true e.1 e.2.1.toNat = e.2.2)
    ∧ (∀ s : State, s = { Tests.dram with msc := { Tests.dram.msc with go := true, done := false, tableKey := none } } →
      s.msc.go = true ∧ s.msc.started = false ∧ s.kcu.drbg = 2 ∧ s.dramFresh = true)
    ∧ (∀ s : State, s = { Tests.dram with msc := { Tests.dram.msc with started := true, done := false } } →
      s.msc.started = true ∧ s.msc.done = false ∧ s.msc.tableKey ≠ none)
    ∧ (∀ s : State, s = { Tests.dram with msc := { Tests.dram.msc with mkis := [(7, { st := .retiring, draw := 1 })] } } →
      (tget {} s.msc.mkis 7).st = .retiring ∧ s.mkiExtents 7 = 0 ∧ s.kcu.drbg = 2)
    ∧ (∀ s : State, s = { Tests.dram with
        tb := { State.reset.tb with elapsed := 2004 }
        msc := { Tests.dram.msc with retried := [⟨0, false, 5, 3⟩] }
        shu := { bobs := [(0, { pick := some 0, pend := [⟨1, .lookAt 2 0 false, 7, 0⟩] })] }
        beam := { picks := [(0, {})] } } →
      s.onChannel 0 false 5 = true
      ∧ (s.msc.retried.find? (fun (x : Retried) => x.ch == 0 && x.buffer == false && x.line == 5)) = some ⟨0, false, 5, 3⟩
      ∧ 3 + s.field .mscTimeout 0 0 16 < s.tb.elapsed ∧ tget none s.msc.lastFail 0 = none
      ∧ s.shu.bobs = [(0, s.bob 0)] ∧ (s.bob 0).pend = [⟨1, .lookAt 2 0 false, 7, 0⟩] ∧ (2 : BitVec 24).toNat < s.capacity
      ∧ 5 / 2 = (2 : BitVec 24).toNat ∧ (s.bob 0).left = none ∧ (s.bob 0).pick = some 0 ∧ s.pick 0 = some {}) := by
  refine ⟨?_, ?_, ?_, ?_, ?_, ?_, ?_, ?_, ?_, ?_⟩
  · intro r hr f hf n hn s h; subst h; fin_cases hr <;> fin_cases hf <;> fin_cases hn <;> decide +kernel
  · intro m hm s h; subst h; fin_cases hm <;> decide +kernel
  · intro s h; subst h; decide +kernel
  · intro s h; subst h; decide +kernel
  · intro q hq s h; subst h; fin_cases hq <;> decide +kernel
  · intro e he s h v hv; subst h; subst hv; fin_cases he <;> decide +kernel
  · intro s h; subst h; decide +kernel
  · intro s h; subst h; decide +kernel
  · intro s h; subst h; decide +kernel
  · intro s h; subst h; decide +kernel

end
end

