-- ==== Sys2Proof/Tests/Power.lean ====
section
/-! SUPPORT. Witnesses for the statements about power management. -/

-- The tests are checked one after another: side by side each would hold a thread of its own.
section
set_option Elab.async false

open Sys2Proof Sys2Proof.Machine

/-- A domain that runs. -/
def Tests.on0 : Dom := { st := .p0, ready := .fresh, up := true, upOnce := true }

/-- Weft ports 0 and 2 enabled, slice 0 in a service group of 100 ns, slice 1 and cache bank 80 in one of 0 ns, DRAM channel 0
and weft port 1 in none, and the domains as given. -/
def Tests.grid (doms : Tbl Dom) : State :=
  let s := (((State.reset.setReg .wftPortCfg 0 0 1).setReg .wftPortCfg 2 0 1).setReg .pmcLtol 3 0 100).setReg .pmcDomGrp 88 0 8
  let s := ((s.setReg .pmcDomGrp 89 0 16).setReg .pmcDomGrp 80 0 16).setReg .pmcLtol 4 0 0
  let s := (s.setReg .pmcDomGrp 64 0 0).setReg .pmcDomGrp 93 0 0
  { s with
    tb := { s.tb with elapsed := 1000000 }
    pmc := { s.pmc with doms := doms } }

/-- The same with the wake bucket sealed. -/
def Tests.gridSealed (doms : Tbl Dom) (wakes : List Nat) (level : Nat) : State :=
  let s := (Tests.grid doms).setReg .pmcWake 0 0 0x8001_0008
  { s with pmc := { s.pmc with wakes := wakes, level := level, refilled := 1000000 } }

theorem Tests.two_pow_24 : 2 ^ 24 = 0x1000000 := by norm_num

theorem wit_PowerDecisions :
    (∀ s : State, s = Tests.grid [(92, Tests.on0), (93, Tests.on0), (64, Tests.on0), (88, Tests.on0), (89, Tests.on0),
        (94, { st := .p3, upOnce := true }), (80, { st := .p3, upOnce := true })] →
      s.pins.inReset = false ∧ s.pmc.decided + 1000 ≤ s.tb.elapsed
      ∧ (∀ d ∈ [92, 93, 64, 88, 89], d < 96 ∧ 48 ≤ d ∧ s.variant.domain d = true ∧ (s.dom d).st.awake = true ∧ (s.dom d).ready = .fresh)
      ∧ s.idle 92 = false ∧ s.capCache 89 (s.deepestNow 89) = .p0
      ∧ s.idle 88 = true ∧ s.capCache 88 (s.deepestNow 88) = .p1
      ∧ s.idle 64 = true ∧ s.capCache 64 (s.deepestNow 64) = .p2
      ∧ s.idle 93 = true ∧ s.capCache 93 (s.deepestNow 93) = .p3
      ∧ (∀ d ∈ [94, 80], s.variant.domain d = true ∧ (s.dom d).st.deep = true ∧ (s.dom d).upOnce = true
        ∧ (s.dom d).ready ≠ .quarantined ∧ (s.dom d).wake = none)
      ∧ s.workWaits 94 = true ∧ s.tolFell 80 = true)
    ∧ (∀ l ∈ [511, 512], ∀ s : State, s = Tests.gridSealed [(30, { st := .p3, wake := some (.first, 0) })] [30, 5] l →
      s.pins.inReset = false ∧ s.wakeSealed = true ∧ s.pmc.wakes = 30 :: [5] ∧ 30 ∉ [5] ∧ (s.dom 30).st.deep = true
      ∧ (if l = 512 then 256 * (domKind 30).weight ≤ s.refillBucket.pmc.level
          else s.refillBucket.pmc.level < 256 * (domKind 30).weight))
    ∧ (∀ s : State, s = State.reset → s.pins.inReset = false ∧ s.lcShut = false ∧ s.wakeSealed = false
      ∧ (0xFFFF04 : Word).toNat < 0x1000000 ∧ 4 ≤ (0xFFFF04 : Word).toNat % 256 ∧ 256 ≤ (0x104 : Word).toNat
      ∧ (0x104 : Word).toNat < 0x1000000 ∧ 4 ≤ (0x104 : Word).toNat % 256
      ∧ (0x103 : Word).toNat % 256 < 4 ∧ (0xFF : Word).toNat < 256
      ∧ s.variant.domain 0 = true ∧ (s.dom 0).st.deep = true ∧ (s.dom 0).upOnce = false ∧ (s.dom 0).ready ≠ .quarantined
      ∧ (s.dom 0).wake = none)
    ∧ (∀ s : State, s = Tests.gridSealed [] [] 0 → s.pins.inReset = false ∧ s.lcShut = false ∧ s.wakeSealed = true)
    ∧ (∀ d ∈ [0, 24, 64], ∀ deep ∈ [true, false], ∀ s : State, s = Tests.grid [(d, { st := .entering deep, up := true })] →
      (s.dom d).st = .entering deep)
    ∧ domKind 0 = .cluster 0 ∧ domKind 24 = .pair 0 := by
  refine ⟨?_, ?_, ?_, ?_, ?_, by decide, by decide⟩
  · intro s h; subst h; decide +kernel
  · intro l hl s h; subst h; fin_cases hl <;> decide +kernel
  · intro s h; subst h; decide +kernel
  · intro s h; subst h; decide +kernel
  · intro d hd deep hp s h; subst h; fin_cases hd <;> fin_cases hp <;> decide +kernel

theorem wit_PowerReturns :
    (∀ d ∈ [0, 24, 64], ∀ r ∈ [Ready.quarantined, .stale], ∀ o ∈ [true, false], ∀ D : Dom, D = { st := .waking, ready := r, upOnce := o } →
      ∀ s : State, s = Tests.grid [(d, D)] → s.dom d = D ∧ D.st = .waking ∧ D.up = false ∧ D.ready = r ∧ D.upOnce = o
      ∧ (s.engine 0).st ≠ .quarantined)
    ∧ (∀ D : Dom, D = { st := .waking, ready := .quarantined, up := true } → ∀ s : State, s = Tests.grid [(5, D)] →
      s.dom 5 = D ∧ D.st = .waking ∧ D.up = true ∧ D.ready = .quarantined ∧ s.bbx.queue.length < 256)
    ∧ (∀ d ∈ [0, 64, 88, 93], ∀ D : Dom, D = { st := .waking, up := true } → ∀ c ∈ [some (Tests.card 5), none],
      ∀ s0 : State, s0 = Tests.grid [(d, D)] → ∀ s : State, s = s0.setClu 0 { card := c } →
      s.dom d = D ∧ D.st = .waking ∧ D.up = true ∧ D.ready = .stale ∧ s.stepsDone d = true ∧ (s.clu 0).card = c
      ∧ D.bist = false ∧ D.owed = 0)
    ∧ domKind 88 = .slice 0
    ∧ (∀ D : Dom, D = { st := .p3, ready := .quarantined } → ∀ s : State, s = Tests.grid [(95, D)] →
      s.dom 95 = D ∧ s.pins.inReset = false ∧ s.lcShut = false ∧ s.variant.domain 95 = true ∧ (0x8000_005F : Word).toNat = 0x8000_0000 + 95
      ∧ D.ready = .quarantined ∧ D.bist = false ∧ D.wake = none ∧ D.st.deep = true)
    ∧ (∀ d ∈ [23, 48], ∀ s : State, s = Tests.grid [] → (s.dom d).ready ≠ .quarantined ∧ (d < 24 ∨ 48 ≤ d)
      ∧ s.variant.domain d = true ∧ (0x8000_0000 ||| BitVec.ofNat 32 d).toNat = 0x8000_0000 + d)
    ∧ (∀ s0 : State, s0 = Tests.grid [(47, Tests.on0)] → ∀ s : State,
      s = { s0 with cie := { s0.cie with engines := [(47, { st := .quarantined })], jobs := [Tests.job 0 1 (.running 46) false] } } →
      47 = 24 + 23 ∧ (s.dom 47).ready = .fresh ∧ (s.engine (2 * 23)).st ≠ .quarantined
      ∧ (s.engine (2 * 23 + 1)).st = .quarantined ∧ s.idle 47 = false)
    ∧ (∀ s0 : State, s0 = Tests.grid [(3, { st := .waking, up := true })] → ∀ s : State, s = s0.setClu 3 { returning := true } →
      s.pins.inReset = false ∧ s.lcShut = false ∧ s.variant.clusters = 24 ∧ (0xFFFFFF : Word).toNat < 0x1000000 ∧ 3 < s.variant.clusters
      ∧ (0xFFFFFF : Word).getLsbD 3 = true ∧ (s.clu 3).returning = true ∧ (s.clu 3).scratchDone = false
      ∧ (s.dom 3).st = .waking)
    ∧ (∀ s : State, s = (Tests.grid []).setClu 3 { copying := true, copyOnce := true } →
      (s.clu 3).copying = true ∧ Memory.wf s.shu.images = true ∧ (s.clu 3).copyOnce = true) := by
  refine ⟨?_, ?_, ?_, by decide, ?_, ?_, ?_, ?_, ?_⟩
  · intro d hd r hr o ho D hD s h; subst hD; subst h; fin_cases hd <;> fin_cases hr <;> fin_cases ho <;> decide +kernel
  · intro D hD s h; subst hD; subst h; decide +kernel
  · intro d hd D hD c hc s0 h0 s h; subst hD; subst h0; subst h; fin_cases hd <;> fin_cases hc <;> decide +kernel
  · intro D hD s h; subst hD; subst h; decide +kernel
  · intro d hd s h; subst h; fin_cases hd <;> decide +kernel
  · intro s0 h0 s h; subst h0; subst h; decide +kernel
  · intro s0 h0 s h; subst h0; subst h; decide +kernel
  · intro s h; subst h; decide +kernel

end
end

