-- ==== Sys2Proof/Tests/Tamper.lean ====
section
/-! SUPPORT. Witnesses for the statements about the tamper monitor, the black box, resets, pins and registers, and about the block as a
whole. -/

-- The tests are checked one after another: side by side each would hold a thread of its own.
section
set_option Elab.async false

open Sys2Proof Sys2Proof.Machine

/-- The tamper monitor as given, sampling, the policy word of source 3 set, the black box ready. -/
def Tests.tam (t : Tmu) (cfg : Word) : State :=
  { State.reset.setReg .tmuSrcCfg 3 0 cfg with tmu := { t with sampling := true }, bbx := { State.reset.bbx with ready := true } }

/-- On the backup cell, with the battery domain's source 3 and latch file as given. -/
def Tests.cell (t0 : TSrc) (n : Nat) (r : BitVec 3) : State :=
  { State.reset with
    pins := { State.reset.pins with inReset := true, pwrgood := false }
    tmu := { State.reset.tmu with
      batt := [(3, t0)], resp := [(3, r)]
      latch := List.replicate n { src := 1, a := true, b := false, resp := 4, done := 4, ticks := 0, battery := true } } }

/-- What a detector that finds something, or nothing, reads. -/
def Tests.level (b : Bool) : Int := if b then 1 else 0

/-- A start whose key custodian waits for LATCH_COMMIT. -/
def Tests.starting (o : StartObs) : State :=
  { State.reset with kcu := { State.reset.kcu with st := 1, lc := 3, starting := some (1, o) } }

theorem wit_TamperAndBlackBox :
    (∀ e ∈ [(({ runA := 1 } : TSrc), true, false, true), ({}, true, false, false), ({ actA := true, alarm := true, clrA := 1 }, false, false, false)],
      ∀ s : State, s = Tests.tam { srcs := [(3, e.1)] } 0x23 →
      s.tmu.sampling = true ∧ sampled 3 = true ∧ s.tmu.fuses.getLsbD 3 = false ∧ s.sampleDue 3 = true ∧ s.tsrc 3 = e.1
      ∧ (s.sensed 3 (Tests.level e.2.1) (Tests.level e.2.2.1)).alarm = e.2.2.2
      ∧ s.inAlarm 3 true (Tests.level e.2.1) = e.2.1
      ∧ (e.2.1 = true → e.2.2.2 = true → s.field .tmuSrcCfg 3 4 4 ≤ (s.tsrc 3).runA + 1 ∧ (s.tsrc 3).alarm = false)
      ∧ (e.2.1 = true → e.2.2.2 = false → (s.tsrc 3).runA + 1 < s.field .tmuSrcCfg 3 4 4)
      ∧ (e.2.1 = false → s.field .tmuSrcCfg 3 4 4 ≤ (s.tsrc 3).clrA + 1 ∧ (s.tsrc 3).alarm = true))
    ∧ (∀ test ∈ [true, false], ∀ s0 : State, s0 = Tests.tam {} 0 → ∀ s : State, s = { s0 with kcu := { s0.kcu with test := test } } →
      s.tmu.sampling = true ∧ sampled 14 = true ∧ s.tmu.fuses.getLsbD 14 = false ∧ (14 == 14 && s.kcu.test) = test ∧ s.sampleDue 14 = true)
    ∧ (∀ r ∈ [(0 : BitVec 3), 1, 2, 3, 4], ∀ was ∈ [(7 : BitVec 3), 4], ∀ s : State,
      s = Tests.tam { fired := [3], running := was } (0x20 ||| r.setWidth 32) →
      s.wanted = r ∧ s.tmu.fired = [3] ∧ s.tmu.fired ≠ [] ∧ s.pins.inReset = false ∧ r ≤ 4 ∧ s.tmu.running = was
      ∧ s.decisionDue = true
      ∧ (if was = 7 then respLevel s.tmu.running < respLevel r else respLevel r ≤ respLevel s.tmu.running)
      ∧ s.bbx.ready = true ∧ s.bbx.queue.length < 256 ∧ s.tmu.fuses.getLsbD 11 = false)
    ∧ ((2 : RespCode) ≠ 0 ∧ (2 : RespCode) ≤ 4 ∧ (0 : RespCode) ≤ 4)
    ∧ (∀ q ∈ [true, false], ∀ s : State, s = Tests.tam { erasing := some true, running := 4, quiesceRuns := q } 0 →
      s.tmu.erasing = some true ∧ 3 ≤ s.tmu.running ∧ s.tmu.quiesceRuns = q)
    ∧ (∀ e ∈ [(({ runA := 1 } : TSrc), 15), ({ runA := 1 }, 16), ({}, 0)], ∀ r ∈ [(2 : BitVec 3), 3], ∀ s : State,
      s = Tests.cell e.1 e.2 r →
      onBattery 3 = some true ∧ s.onCell = true ∧ s.tmu.fuses.getLsbD 3 = false ∧ s.batteryDue 3 = true
      ∧ tget {} s.tmu.batt 3 = e.1 ∧ (s.sensedOnCell 3 true 1 0).alarm = (e.1.runA == 1) ∧ e.1.alarm = false ∧ s.battResp 3 = r
      ∧ s.tmu.latch.length = e.2)
    ∧ (∀ s : State, s = { State.reset with tmu := (Tests.cell {} 2 3).tmu } → s.bbx.ready = false ∧ s.pins.inReset = false
      ∧ (∃ r ∈ s.tmu.latch, r.resp = 4 ∧ r.battery = true ∧ 3 ≤ r.resp))
    ∧ (∀ r : LatchRec, r = { src := 1, a := true, b := false, resp := 2, done := 2, ticks := 0, battery := true } →
      ∀ s : State, s = { State.reset with tmu := { State.reset.tmu with latch := [r] } } →
      s.bbx.ready = false ∧ s.pins.inReset = false ∧ s.tmu.latch = [r] ∧ r.resp ≠ 4 ∧ s.tmu.ovf = 0)
    ∧ (∀ ok ∈ [true, false], ∀ o, o = { Tests.goodStart with decodesAgree := ok } → ∀ s : State, s = Tests.starting o →
      s.bbx.ready = false ∧ s.pins.inReset = false ∧ s.kcu.starting = some (1, o) ∧ o.decodesAgree = ok
      ∧ s.tmu.fuses.getLsbD 11 = false)
    ∧ (∀ lc ∈ [(1 : BitVec 3), 2, 3], ∀ s : State, s = { State.reset with kcu := { State.reset.kcu with lc := lc } } →
      s.pins.inReset = false ∧ s.lcShut = false ∧ ∀ src ∈ [1, 7, 14], s.tmu.bank.getLsbD src = false ∧ ((1 ≤ src ∧ src ≤ 7) ∨ src = 14)
        ∧ (0x8000_A500 ||| BitVec.ofNat 32 src : Word).toNat = 0x8000_0000 + 0xA500 + src
        ∧ (lc ≠ 3 → s.kcu.lc = 1 ∨ s.kcu.lc = 2) ∧ (lc = 3 → s.kcu.lc ≠ 1 ∧ s.kcu.lc ≠ 2))
    ∧ (∀ s : State, s = (Tests.tam {} 0).setReg .tmuMeshCfg 0 0 0x64_0000 → s.tmu.sampling = true ∧ s.tmu.fuses.getLsbD (0 + 1) = false
      ∧ s.measureDue 0 = true
      ∧ s.driftBand 0 10 = true ∧ 0 ∉ s.tmu.drifting ∧ s.driftBand 0 11 = false)
    ∧ (∀ ty ∈ [1, 3, 4, 5], ∀ s : State, s = { State.reset with bbx := { ready := true, queue := [{ type := ty, unit := 5 }] } } →
      s.bbx.ready = true ∧ s.pins.inReset = false ∧ s.bbx.queue = { type := ty, unit := 5 } :: [] ∧ s.bbx.lost = 0)
    ∧ (∀ due ∈ [true, false], ∀ s : State, s = { State.reset with bbx := { ready := true, lost := 3, ovfDue := due } } →
      s.bbx.ready = true ∧ s.pins.inReset = false ∧ s.bbx.lost ≠ 0 ∧ (s.bbx.ovfDue = true ∨ s.bbx.queue.length < 256)
      ∧ s.bbx.ovfDue = due) := by
  refine ⟨?_, ?_, ?_, by decide, ?_, ?_, ?_, ?_, ?_, ?_, ?_, ?_, ?_⟩
  · intro e he s h; subst h; fin_cases he <;> decide +kernel
  · intro x hx s0 h0 s h; subst h0; subst h; fin_cases hx <;> decide +kernel
  · intro r hr w hw s h; subst h; fin_cases hr <;> fin_cases hw <;> decide +kernel
  · intro q hq s h; subst h; fin_cases hq <;> decide +kernel
  · intro e he r hr s h; subst h; fin_cases he <;> fin_cases hr <;> decide +kernel
  · intro s h; subst h; decide +kernel
  · intro r hr s h; subst hr; subst h; decide +kernel
  · intro ok hok o ho s h; subst ho; subst h; fin_cases hok <;> decide +kernel
  · intro lc hl s h; subst h; fin_cases hl <;> decide +kernel
  · intro s h; subst h; decide +kernel
  · intro ty ht s h; subst h; fin_cases ht <;> decide +kernel
  · intro due hd s h; subst h; fin_cases hd <;> decide +kernel

theorem wit_ResetsAndPins :
    (Tests.goodStart.railsGood = true ∧ State.reset.pins.inReset = false ∧ State.reset.lcShut = false
      ∧ State.reset.tmu.burning = [] ∧ State.reset.tmu.fired = [] ∧ State.reset.pmc.pfw = false
      ∧ ({ State.reset.pmc with pfw := true } : Pmc).pfw = true ∧ (State.reset.setReg .pmcIoCfg 0 0 0).field .pmcIoCfg 0 6 2 = 0
      ∧ (State.reset.setReg .pmcIoCfg 0 0 0).field .pmcIoCfg 0 8 2 = 0 ∧ State.reset.tmu.latched = [] ∧ State.reset.bbx.queue = []
      ∧ State.reset.tb.ppsSec ≠ State.reset.tb.tod / 1000000000 + 1)
    ∧ (∀ s : State, s = Tests.tam {} 0 → s.pins.inReset = false ∧ s.tmu.sampling = true ∧ s.tmu.fuses.getLsbD 9 = false)
    ∧ (0x3B9A_C9FF : Word).toNat < 1000000000 ∧ 1000000000 ≤ (0x3B9A_CA00 : Word).toNat ∧ (0x3B9A_CA00 : Word).toNat < 0x4000_0000
    ∧ (∀ l ∈ [[], [({ type := 1, unit := 5 } : BbxReq)]], ∀ s : State, s = { State.reset with bbx := { ready := true, queue := l } } →
      s.bbx.ready = true ∧ s.pins.inReset = false ∧ s.tmu.fired = [] ∧ s.bbx.queue = l)
    ∧ State.reset.bbx.ready = false ∧ 5 < (6 : Byte).toNat
    ∧ ({ Tests.goodStart with railsGood := false } : StartObs).railsGood = false := by
  refine ⟨by decide +kernel, ?_, by decide +kernel, by decide +kernel, by decide +kernel, ?_, by decide +kernel, by decide, rfl⟩
  · intro s h; subst h; decide +kernel
  · intro l hl s h; subst h; fin_cases hl <;> decide +kernel

/-! ### Registers -/

/-- A register of BAR0 that one word holds and that reading leaves as it is. -/
def Tests.plainRead (s : State) (a : Nat) : Bool :=
  match bar0Target s.variant a with
  | .reg r _ _ => r.id.latched == 1 && !([RegId.evcCnt, .ringCopy, .mscReinit0, .mscReinit1, .tmuSrcStat].contains r.id)
  | _ => false

/-- A register of BAR0 with a reserved bit 31, or with none among the bits of v. -/
def Tests.reservedIn (s : State) (a : Nat) (v : Word) (b : Bool) : Bool :=
  match bar0Target s.variant a with
  | .reg r _ j => ((v &&& ~~~r.definedAt j) != 0) == b && !([RegId.ringCopy, .bbxWindow].contains r.id)
  | _ => false

/-- A register of BAR0 named, all of whose bits that v sets are defined. -/
def Tests.named (s : State) (a : Nat) (v : Word) (id : RegId) : Bool :=
  match bar0Target s.variant a with
  | .reg r i j => r.id == id && i == 0 && j == 0 && (v &&& ~~~r.definedAt j) == 0
  | _ => false

/-- A register of BAR0, whichever. -/
def Tests.isReg (s : State) (a : Nat) : Bool :=
  match bar0Target s.variant a with
  | .reg _ _ _ => true
  | _ => false

/-- The offset of a register. -/
def Tests.at0 (id : RegId) : Nat := id.offset

/-- An offset of a unit that the variant lacks. -/
def Tests.noUnit (s : State) (a : Nat) : Bool :=
  match bar0Target s.variant a with
  | .absent none => true
  | _ => false

theorem wit_RegisterReads :
    (∀ s : State, s = State.reset → s.pins.inReset = false ∧ s.evc.chainLatch = [] ∧ Tests.plainRead s 0 = true
      ∧ s.fnExists 0 = true ∧ s.fnExists 63 = true)
    ∧ (∀ s : State, s = { State.reset with evc := { State.reset.evc with cfg := [(1, { chain := true })] } } →
      s.evc.chainLatch = [] ∧ (s.evcCfg (0 + 1)).chain = true)
    ∧ (∀ s : State, s = { State.reset with variant := .tv16e } → Tests.noUnit s 0xF0_0010 = true)
    ∧ (∀ s : State, s = State.reset.setReg .evcWin 5 0 0x1000 → s.pins.inReset = false ∧ s.fnExists 5 = true
      ∧ s.windowCnt 5 0 = some 0 ∧ s.mayRead 5 0 = false) := by
  refine ⟨?_, ?_, ?_, ?_⟩
  · intro s h; subst h; decide +kernel
  · intro s h; subst h; decide +kernel
  · intro s h; subst h; decide +kernel
  · intro s h; subst h; decide +kernel

theorem wit_RegisterWrites :
    (∀ s : State, s = State.reset → s.pins.inReset = false ∧ s.lcShut = false
      ∧ Tests.reservedIn s 0x20_0000 0x8000_0000 true = true ∧ Tests.reservedIn s 0xF0_0014 0xFFFF false = true
      ∧ (match bar0Target s.variant 0xF0_0014 with | .reg r _ _ => r.id == RegId.mscScrub | _ => false) = true)
    ∧ (∀ s : State, s = State.reset →
      (∀ id ∈ [RegId.hifCmdWdog, .shuBudget, .cieKat, .cieBurst, .atDrain, .mscTimeout, .mscPoisonCfg, .schAdmSlots, .schAdmCells, .schPBurst,
        .schQBurst, .schPolCbs, .schPolPbs, .schPolCir, .schPolPir, .schQQuantum, .schPRate],
        Tests.named s (Tests.at0 id) 0 id = true ∧ 0x10_0000 ≤ Tests.at0 id ∧ Tests.at0 id < 0x200_0000)
      ∧ (∀ e ∈ [((1 : Word), RegId.lksCap), (48, .lksCap), (49, .lksCap), (0, .lksCap), (0xFF, .mscTimeout), (99, .mscTimeout), (100, .mscTimeout), (3, .mscPoisonCfg),
          (29, .mscPoisonCfg), (30, .mscPoisonCfg), (65536, .schAdmSlots), (65537, .schAdmSlots), (229376, .schAdmCells),
          (229377, .schAdmCells), (63, .schQBurst), (64, .schQBurst), (3200000, .schPolCir), (3200001, .schPolCir),
          (1000000, .schQQuantum), (1000001, .schQQuantum), (3200001, .schPRate)], Tests.named s (Tests.at0 e.2) e.1 e.2 = true))
    ∧ (∀ s : State, s = State.reset → ∀ e ∈ [((0x20_0001 : Nat), (15 : BitVec 4), true), (0x20_0000, 1, false), (0x20_0000, 14, false), (0x20_0002, 3, false)],
      Tests.isReg s (e.1 / 4 * 4) = true ∧ Tests.isReg s (lastWord e.1 e.2.1) = true ∧ (e.1 % 4 ≠ 0 ∨ e.2.1 ≠ 15)
      ∧ (e.1 / 4 * 4 ≠ lastWord e.1 e.2.1 ↔ e.2.2 = true))
    ∧ (∀ s : State, s = { State.reset with variant := .tv16e } → Tests.noUnit s (0xF0_0011 / 4 * 4) = true
      ∧ 0xF0_0011 / 4 * 4 = lastWord 0xF0_0011 1)
    ∧ (∀ s : State, s = { State.reset with variant := .tv16e } → s.pins.inReset = false ∧ s.lcShut = false ∧ Tests.noUnit s 0xF0_0010 = true)
    ∧ (∀ held, held = [(0x71_0010, 5), (0x71_0014, 5), (0x71_0018, 255), (0x70_0008, 7)] →
      ∀ s : State, s = { State.reset with hif := { State.reset.hif with held := held } } →
      tfind s.hif.held (0x71_0000 + 16 * 1) = some 5 ∧ tfind s.hif.held (0x71_0004 + 16 * 1) = some 5
      ∧ tfind s.hif.held (0x71_0008 + 16 * 1) = some 255 ∧ tfind s.hif.held (0x70_0000 + 8 * 1) = some 7
      ∧ tfind s.hif.held (0x70_0000 + 8 * 2) = none ∧ (0x1FF_F138 : Word).toNat < 0x200_0000
      ∧ srcOk ((0x1FF_F138 : Word).toNat % 256) = true ∧ srcOk ((0x39 : Word).toNat % 256) = false
      ∧ (5 : Word).toNat % 0x100_0000 ≤ (5 : Word).toNat % 0x100_0000)
    ∧ (∀ e ∈ [((0x8005 : Word), true), (0x8004, false)], ∀ s : State,
      s = { State.reset with hif := { State.reset.hif with held := [(0x80_00F0, e.1), (0x80_00F4, 0), (0x80_00F8, 0xFFFF)] } } →
      tfind s.hif.held (0x80_0000 + 16 * 15) = some e.1 ∧ tfind s.hif.held (0x80_0004 + 16 * 15) = some 0
      ∧ tfind s.hif.held (0x80_0008 + 16 * 15) = some 0xFFFF ∧ (2 : Word).toNat < 16
      ∧ 8 * [0, 1, 2, 4].getD ((2 : Word).toNat % 4) 0 = 16 ∧ e.1.toNat < 0x1_0000 ∧ (0xFFFF : Word).toNat < 0x1_0000
      ∧ e.1.getLsbD 0 = e.2)
    ∧ 8 * [0, 1, 2, 4].getD ((0 : Word).toNat % 4) 0 = 0 := by
  refine ⟨?_, ?_, ?_, ?_, ?_, ?_, ?_, by decide⟩
  · intro s h; subst h; decide +kernel
  · intro s h; subst h; decide +kernel
  · intro s h; subst h; decide +kernel
  · intro s h; subst h; decide +kernel
  · intro s h; subst h; decide +kernel
  · intro held hh s h; subst hh; subst h; decide +kernel
  · intro e he s h; subst h; fin_cases he <;> decide +kernel

/-! ### The block -/

theorem wit_StepRunsFrontCommand : State.reset.pending = [] := rfl

theorem wit_StepKeepsMemoriesCanonical : ∀ s : State, s = State.reset → s.MemInv ∧ ∃ t, step s = .next t := by
  intro s h; subst h
  exact ⟨⟨by decide +kernel, by decide +kernel, fun _ => rfl⟩, _, rfl⟩

theorem wit_FusesNeverUnblown : ∀ b ∈ [[], [(1, 0)], [(2, 11999), (1, 0)]], ∀ s : State,
    s = { State.reset with
      tb := { State.reset.tb with elapsed := 12000 }
      tmu := { State.reset.tmu with bank := 2, burning := b } } →
    (∃ t, step s = .next t) ∧ s.tmu.bank.getLsbD 1 = true
    ∧ ∀ x ∈ s.tmu.burning, x.1 = 1 → x.2 + 12000 ≤ s.tb.elapsed := by
  intro b hb s h; subst h; exact ⟨⟨_, rfl⟩, by fin_cases hb <;> decide +kernel, by fin_cases hb <;> decide +kernel⟩

end
end

section
/-! ### The block -/

namespace Sys2Proof.Machine

/-- Settles O1: both clauses are what `step` does with the queue, `State.elapse` being the idle nanosecond of log entry 1. -/
theorem stepRunsFrontCommand : Obligations.StepRunsFrontCommand := by
  refine ⟨fun _ _ _ => rfl, fun s idle => ?_⟩
  simp only [step, idle, State.elapse]

end Sys2Proof.Machine
end

section
/-! SUPPORT. Where the registers that the statements name by offset lie in BAR0, and what an access of a whole word to one does. -/

namespace Sys2Proof.Machine

/-! ### Places in the register map (R514) -/

/-- R514: the row of a register holds word j of its i-th unit. -/
theorem RegRow.index_at (r : RegRow) {i j off : Nat} (hi : i < r.n1) (hj : j < r.n2) (h2 : 0 < r.s2)
    (h1 : r.s2 * j < r.s1) (h : off = r.base + (r.s1 * i + r.s2 * j)) : r.index off = some (i, j) := by
  have hs : 0 < r.s1 := by omega
  have d : off - r.base = r.s1 * i + r.s2 * j := by omega
  have hq : (r.s1 * i + r.s2 * j) / r.s1 = i := by
    rw [Nat.mul_add_div hs, Nat.div_eq_of_lt h1, Nat.add_zero]
  have hm : (r.s1 * i + r.s2 * j) % r.s1 = r.s2 * j := by
    rw [Nat.mul_add_mod, Nat.mod_eq_of_lt h1]
  simp [RegRow.index, d, hq, hm, Nat.mul_div_cancel_left j h2, hi, hj, show r.base ≤ off by omega]

/-- R514: a row holds no offset outside its units, nor one past the words of a unit. -/
theorem RegRow.index_none (r : RegRow) {off : Nat} (h2 : 0 < r.s2)
    (h : off < r.base ∨ r.n1 ≤ (off - r.base) / r.s1 ∨ r.s2 * r.n2 ≤ (off - r.base) % r.s1) : r.index off = none := by
  have past : r.s2 * r.n2 ≤ (off - r.base) % r.s1 → r.n2 ≤ (off - r.base) % r.s1 / r.s2 :=
    fun h => (Nat.le_div_iff_mul_le h2).2 (by rwa [Nat.mul_comm])
  unfold RegRow.index
  refine if_neg fun ⟨hb, hi, _, hj⟩ => ?_
  rcases h with h | h | h
  · omega
  · omega
  · have := past h; omega

/-- R514: the register at an offset is the earliest row of its block that holds the offset. -/
theorem locate_of_getElem {off i j : Nat} {rows : List RegRow} (k : Nat) (hk : k < rows.length)
    (block : regRowsAt off = rows) (miss : ∀ x ∈ rows.take k, x.index off = none)
    (hit : rows[k].index off = some (i, j)) : locate off = some (rows[k], i, j) := by
  have cut : rows = rows.take k ++ rows[k] :: rows.drop (k + 1) := by simp
  have before : (rows.take k).findSome? (fun r => (r.index off).map (fun ij => (r, ij.1, ij.2))) = none := by
    simpa only [List.findSome?_eq_none_iff, Option.map_eq_none_iff] using miss
  rw [locate, block]
  conv_lhs => rw [cut]
  rw [List.findSome?_append, before, Option.none_or, List.findSome?_cons, hit]
  rfl

theorem regRowsAt_evc {off : Nat} (h : 0x70_0000 ≤ off) (h' : off < 0xA0_0000) : regRowsAt off = regRowsEvc := by
  simp only [regRowsAt]
  (repeat rw [if_neg (by omega)])
  exact if_pos h'

theorem regRowsAt_sec {off : Nat} (h : 0x30_0000 ≤ off) (h' : off < 0x70_0000) : regRowsAt off = regRowsSec := by
  simp only [regRowsAt]
  (repeat rw [if_neg (by omega)])
  exact if_pos h'

theorem locate_evcCnt {n j : Nat} (hn : n < 4096) (hj : j < 2) :
    locate (0x70_0000 + 8 * n + 4 * j) = some (regRowsEvc[0], n, j) := by
  refine locate_of_getElem 0 (by decide) (regRowsAt_evc (by omega) (by omega)) (by simp) ?_
  exact RegRow.index_at _ hn hj (by decide) (show 4 * j < 8 by omega)
    (show _ = 0x70_0000 + (8 * n + 4 * j) by omega)

theorem locate_evcCfg3 {n : Nat} (hn : n < 4096) : locate (0x71_000C + 16 * n) = some (regRowsEvc[4], n, 0) := by
  refine locate_of_getElem 4 (by decide) (regRowsAt_evc (by omega) (by omega)) ?_ ?_
  · simp only [regRowsEvc, List.take, List.forall_mem_cons]
    (repeat refine ⟨RegRow.index_none _ (by decide) (by simp only; omega), ?_⟩)
    simp
  · exact RegRow.index_at _ hn (by decide) (by decide) (by decide) (show _ = 0x71_000C + (16 * n + 4 * 0) by omega)

theorem locate_cvuCtl {p : Nat} (hp : p < 16) : locate (0x80_000C + 16 * p) = some (regRowsEvc[11], p, 0) := by
  refine locate_of_getElem 11 (by decide) (regRowsAt_evc (by omega) (by omega)) ?_ ?_
  · simp only [regRowsEvc, List.take, List.forall_mem_cons]
    (repeat refine ⟨RegRow.index_none _ (by decide) (by simp only; omega), ?_⟩)
    simp
  · exact RegRow.index_at _ hp (by decide) (by decide) (by decide) (show _ = 0x80_000C + (16 * p + 4 * 0) by omega)

theorem locate_tbNow {j : Nat} (hj : j < 3) : locate (0x90_0000 + 4 * j) = some (regRowsEvc[12], 0, j) := by
  refine locate_of_getElem 12 (by decide) (regRowsAt_evc (by omega) (by omega)) ?_ ?_
  · simp only [regRowsEvc, List.take, List.forall_mem_cons]
    (repeat refine ⟨RegRow.index_none _ (by decide) (by simp only; omega), ?_⟩)
    simp
  · exact RegRow.index_at _ (by decide) hj (by decide) (show 4 * j < 12 by omega)
      (show _ = 0x90_0000 + (12 * 0 + 4 * j) by omega)

theorem locate_tmuSrcStat {i : Nat} (hi : i < 32) : locate (0x50_0200 + 4 * i) = some (regRowsSec[8], i, 0) := by
  refine locate_of_getElem 8 (by decide) (regRowsAt_sec (by omega) (by omega)) ?_ ?_
  · simp only [regRowsSec, List.take, List.forall_mem_cons]
    (repeat refine ⟨RegRow.index_none _ (by decide) (by simp only; omega), ?_⟩)
    simp
  · exact RegRow.index_at _ hi (by decide) (by decide) (by decide) (show _ = 0x50_0200 + (4 * i + 4 * 0) by omega)

/-- R2: the blocks below the weft ports' are in every variant. -/
theorem blockAbsent_low (v : Variant) {a : Nat} (h : a < 0xB0_0000) : blockAbsent v a = false := by
  simp only [blockAbsent]
  (repeat rw [if_neg (by omega)])

/-- R514: a located register whose units every variant has is what BAR0 holds there. -/
theorem bar0Target_of_locate (v : Variant) {a i j : Nat} {r : RegRow} (h : locate a = some (r, i, j)) (ha : a < 0xB0_0000)
    (quota : r.id ≠ .ftDomQuota) (here : r.id.present v i = true) : bar0Target v a = .reg r i j := by
  simp [bar0Target, blockAbsent_low v ha, h, quota, here]

/-- R514: what BAR0 holds at an offset is a register of the offset's block, of a present unit. -/
theorem locate_of_bar0Target {v : Variant} {a i j : Nat} {r : RegRow} (h : bar0Target v a = .reg r i j) :
    locate a = some (r, i, j) := by
  unfold bar0Target at h
  split at h
  · cases h
  · split at h
    · cases h
    · next r' i' j' hl =>
      split at h
      · cases h
      · split at h
        · cases h; exact hl
        · cases h

/-! ### Reads of a whole word -/

theorem State.reaches_bar0 {s : State} {a : Nat} (hr : s.pins.inReset = false) (ha : a < 0x200_0000) :
    s.reaches 0 false a = true := by
  simp [State.reaches, State.fnExists, hr, ha]

theorem State.reaches_bar2 {s : State} {f a : Nat} (hr : s.pins.inReset = false) (hf : s.fnExists f = true)
    (ha : a < 0x4000) : s.reaches f true a = true := by
  simp [State.reaches, hr, hf, ha]

theorem word_aligned {a : Nat} (h : a % 4 = 0) : a / 4 * 4 = a := Nat.div_mul_cancel (Nat.dvd_of_mod_eq_zero h)

/-- R4: a read of a present register that no read clears. -/
theorem exec_lowWordReadLatch_reg {s : State} {a i j : Nat} {r : RegRow} (hr : s.pins.inReset = false) (h4 : a % 4 = 0)
    (ha : a < 0x200_0000) (h : bar0Target s.variant a = .reg r i j) (hid : r.id ≠ .tmuSrcStat) :
    exec (.lowWordReadLatch 0 false a) s = .next (s.readBar0 r.id i j a) := by
  simp [exec, execLowWordReadLatch, State.forbidden, State.clears, State.hostRead, State.target, word_aligned h4,
    State.reaches_bar0 hr ha, h, hid]

/-- R7: a read of a tamper source's status. -/
theorem exec_readClear_srcStat {s : State} {a i j : Nat} {r : RegRow} (hr : s.pins.inReset = false) (h4 : a % 4 = 0)
    (ha : a < 0x200_0000) (h : bar0Target s.variant a = .reg r i j) (hid : r.id = .tmuSrcStat) :
    exec (.readClear 0 false a) s = .next (s.readBar0 .tmuSrcStat i j a) := by
  simp [exec, execReadClear, State.clears, State.hostRead, State.target, word_aligned h4, State.reaches_bar0 hr ha, h, hid]

theorem bar0Target_evcCnt (v : Variant) {n j : Nat} (hn : n < 4096) (hj : j < 2) :
    bar0Target v (0x70_0000 + 8 * n + 4 * j) = .reg regRowsEvc[0] n j :=
  bar0Target_of_locate v (locate_evcCnt hn hj) (by omega) (by decide) rfl

theorem bar0Target_tbNow (v : Variant) {j : Nat} (hj : j < 3) : bar0Target v (0x90_0000 + 4 * j) = .reg regRowsEvc[12] 0 j :=
  bar0Target_of_locate v (locate_tbNow hj) (by omega) (by decide) rfl

theorem bar0Target_tmuSrcStat (v : Variant) {i : Nat} (hi : i < 32) :
    bar0Target v (0x50_0200 + 4 * i) = .reg regRowsSec[8] i 0 :=
  bar0Target_of_locate v (locate_tmuSrcStat hi) (by omega) (by decide) rfl

theorem bar0Target_evcCfg3 (v : Variant) {n : Nat} (hn : n < 4096) :
    bar0Target v (0x71_000C + 16 * n) = .reg regRowsEvc[4] n 0 :=
  bar0Target_of_locate v (locate_evcCfg3 hn) (by omega) (by decide) rfl

theorem bar0Target_cvuCtl (v : Variant) {p : Nat} (hp : p < 16) :
    bar0Target v (0x80_000C + 16 * p) = .reg regRowsEvc[11] p 0 :=
  bar0Target_of_locate v (locate_cvuCtl hp) (by omega) (by decide) rfl

/-- R4, R521: word 0 of the time is the time at the read. -/
theorem State.readBar0_tbNow_low (s : State) (a : Nat) :
    (s.readBar0 .tbNow 0 0 a).hif.readData = s.tbNow 0
      ∧ (s.readBar0 .tbNow 0 0 a).hif.latch = tput (tput s.hif.latch (a + 4) (s.tbNow 1)) (a + 8) (s.tbNow 2) :=
  ⟨rfl, rfl⟩

/-- R4, R521: a further word of the time is what was latched. -/
theorem State.readBar0_tbNow_high (s : State) {j a : Nat} {w : Word} (hj : j ≠ 0) (h : tfind s.hif.latch a = some w) :
    (s.readBar0 .tbNow 0 j a).hif.readData = w := by
  simp [State.readBar0, RegId.latched, State.answerRead, hj, h]

/-- R4, R477: a counter without a latch of its own read: its low word is answered, its high word latched. -/
theorem State.readCntLow_unlatched (s : State) (n key : Nat) (h : s.evc.chainLatch = []) :
    (s.readCntLow n key).hif.readData = BitVec.ofNat 32 (tget 0 s.evc.cnt n)
      ∧ (s.readCntLow n key).hif.latch = tput s.hif.latch (key + 4) (wordOf (tget 0 s.evc.cnt n) 1)
      ∧ (s.readCntLow n key).evc.cnt = s.evc.cnt
      ∧ (n + 1 < 4096 → (s.evcCfg (n + 1)).chain = true →
        (s.readCntLow n key).evc.chainLatch = [(n + 1, tget 0 s.evc.cnt (n + 1))]) := by
  have seen : s.cntSeen n = tget 0 s.evc.cnt n := by simp [State.cntSeen, h]
  have low : wordOf (tget 0 s.evc.cnt n) 0 = BitVec.ofNat 32 (tget 0 s.evc.cnt n) := by simp [wordOf]
  have cfg : ∀ m v w, ((s.latchWord m v).answerRead w).evcCfg (n + 1) = s.evcCfg (n + 1) := fun _ _ _ => rfl
  unfold State.readCntLow
  simp only [seen, cfg, low]
  split
  · exact ⟨rfl, rfl, rfl, fun _ _ => by simp [State.latchWord, State.answerRead, h]⟩
  · next hc => exact ⟨rfl, rfl, rfl, fun h1 h2 => absurd ⟨h1, h2⟩ hc⟩

/-- R4, R477: the high word of a counter without a latch of its own is the word latched. -/
theorem State.readCntHigh_latched (s : State) {n key : Nat} {w : Word} (h : s.evc.chainLatch = [])
    (hw : tfind s.hif.latch key = some w) : (s.readCntHigh n key).hif.readData = w := by
  simp [State.readCntHigh, h, hw, State.answerRead]

/-- R4: a register of one word whose read does nothing else answers its value. -/
theorem State.readBar0_plain (s : State) {id : RegId} (i j a : Nat) (hl : id.latched = 1) (h1 : id ≠ .evcCnt)
    (h2 : id ≠ .ringCopy) (h3 : id ≠ .mscReinit0) (h4 : id ≠ .mscReinit1) (h5 : id ≠ .tmuSrcStat) :
    s.readBar0 id i j a = s.answerRead (s.readReg id i j) := by
  unfold State.readBar0
  split
  · exact absurd rfl h1
  · exact absurd rfl h3
  · exact absurd rfl h4
  · exact absurd rfl h5
  · exact absurd rfl h2
  · exact if_pos hl

/-! ### Access errors (R389, R390) -/

theorem put_low_toNat {a : Nat} (h : a < 2 ^ 32) : (put a 0).toNat = a := by
  simpa [put] using h

/-- R390: HIF_ERR_ADDR names the word accessed. -/
theorem State.accessErr_hifErrAddr (s : State) (f off bit : Nat) :
    (s.accessErr f false off bit).reg .hifErrAddr = put off 0 := by
  simp [State.accessErr, putB]

/-- R389: HIF_ERR after an access error. -/
theorem State.accessErr_hifErr (s : State) (f : Nat) (bar2 : Bool) (off bit : Nat) :
    (s.accessErr f bar2 off bit).reg .hifErr = (s.reg .hifErr &&& 0x7F) ||| put 1 bit ||| put f 8 := by
  rw [State.accessErr, State.reg_setReg_other (s.err f bit) (id' := .hifErr) (id := .hifErrAddr) _ (by decide)]
  exact State.reg_setReg s .hifErr 0 0 _

theorem put_one_getLsbD {b : Nat} (h : b < 32) : (put 1 b).getLsbD b = true := by
  rw [put, BitVec.getLsbD_ofNat, Nat.one_mul, Nat.testBit_two_pow_self]
  simpa using h

/-- R389: the error bit is set in HIF_ERR. -/
theorem State.accessErr_hifErr_bit (s : State) (f : Nat) (bar2 : Bool) (off : Nat) {bit : Nat} (h : bit < 32) :
    ((s.accessErr f bar2 off bit).reg .hifErr).getLsbD bit = true := by
  rw [State.accessErr_hifErr, BitVec.getLsbD_or, BitVec.getLsbD_or, put_one_getLsbD h]
  simp

/-- R389: the error bit is set in the function's HIF_FN_ERR. -/
theorem State.accessErr_fnErr_bit (s : State) (f : Nat) (bar2 : Bool) (off : Nat) {bit : Nat} (h : bit < 32) :
    (tget 0 (s.accessErr f bar2 off bit).hif.fnErr f).getLsbD bit = true := by
  have : tget 0 (s.accessErr f bar2 off bit).hif.fnErr f = tget 0 s.hif.fnErr f ||| put 1 bit := tget_tset_same _ _ _ _
  rw [this, BitVec.getLsbD_or, put_one_getLsbD h, Bool.or_true]

theorem fld_bit (w : Word) (lo : Nat) (h : w.getLsbD lo = true) : fld w lo 1 = 1 := by
  have := Nat.testBit_eq_decide_div_mod_eq (x := w.toNat) (i := lo)
  simp_all [fld, BitVec.getLsbD]

end Sys2Proof.Machine
end
section
/-! ### Reads that latch, reads that clear, and forbidden reads (R4, R7, R390) -/

namespace Sys2Proof.Machine

/-- R4, R521: a read of a word of the time. -/
theorem exec_lowWordReadLatch_tbNow {s : State} {j : Nat} (hr : s.pins.inReset = false) (hj : j < 3) :
    exec (.lowWordReadLatch 0 false (0x90_0000 + 4 * j)) s = .next (s.readBar0 .tbNow 0 j (0x90_0000 + 4 * j)) :=
  exec_lowWordReadLatch_reg hr (by omega) (by omega) (bar0Target_tbNow _ hj) (by decide)

/-- R4, R476: a read of a word of a counter. -/
theorem exec_lowWordReadLatch_evcCnt {s : State} {n j : Nat} (hr : s.pins.inReset = false) (hn : n < 4096) (hj : j < 2) :
    exec (.lowWordReadLatch 0 false (0x70_0000 + 8 * n + 4 * j)) s
      = .next (s.readBar0 .evcCnt n j (0x70_0000 + 8 * n + 4 * j)) :=
  exec_lowWordReadLatch_reg hr (by omega) (by omega) (bar0Target_evcCnt _ hn hj) (by decide)

theorem bar2Target_ringLost {r : Nat} (hr : r < 8) : bar2Target (0x1020 + 64 * r) = .ring r 8 := by
  simp only [bar2Target]
  (repeat rw [if_neg (by omega)])
  rw [if_pos (by omega), if_pos (by omega)]
  congr 1 <;> omega

theorem bar2Target_window (i : Nat) : bar2Target (0x2000 + 8 * i) = .window i 0 := by
  simp only [bar2Target]
  (repeat rw [if_neg (by omega)])
  rw [if_pos (by omega)]
  congr 1 <;> omega

/-- R7: a read of a ring's LOST answers the count and clears it. -/
theorem exec_readClear_ringLost {s : State} {f r : Nat} (hr : s.pins.inReset = false) (hf : s.fnExists f = true) (h8 : r < 8) :
    exec (.readClear f true (0x1020 + 64 * r)) s
      = .next ((s.answerRead (s.ring f r).lost).setRing f r { s.ring f r with lost := 0 }) := by
  simp [exec, execReadClear, State.clears, State.hostRead, State.target, word_aligned (show (0x1020 + 64 * r) % 4 = 0 by omega),
    State.reaches_bar2 hr hf (show 0x1020 + 64 * r < 0x4000 by omega), State.readBar2, bar2Target_ringLost h8]

/-- R2, R389: a read of an absent unit answers 0 and is reported. -/
theorem exec_forbiddenRegisterRead_absent {s : State} {a : Nat} {id : Option RegId} (hr : s.pins.inReset = false)
    (h4 : a % 4 = 0) (ha : a < 0x200_0000) (h : bar0Target s.variant a = .absent id) :
    exec (.forbiddenRegisterRead 0 false a) s = .next ((s.accessErr 0 false a 0).answerRead 0) := by
  simp [exec, execForbiddenRegisterRead, State.forbidden, State.hostRead, State.target, word_aligned h4,
    State.reaches_bar0 hr ha, h]

/-- R478: a read of a counter that the function may not see answers 0 and is reported. -/
theorem exec_forbiddenRegisterRead_window {s : State} {f i n : Nat} (hr : s.pins.inReset = false) (hf : s.fnExists f = true)
    (hi : i < 1024) (slot : s.windowCnt f i = some n) (denied : s.mayRead f n = false) :
    exec (.forbiddenRegisterRead f true (0x2000 + 8 * i)) s
      = .next ((s.accessErr f true (0x2000 + 8 * i) 3).answerRead 0) := by
  simp [exec, execForbiddenRegisterRead, State.forbidden, State.hostRead, State.target,
    word_aligned (show (0x2000 + 8 * i) % 4 = 0 by omega), State.reaches_bar2 hr hf (show 0x2000 + 8 * i < 0x4000 by omega),
    State.readBar2, bar2Target_window i, slot, denied]

/-- R390: HIF_ERR_ADDR names the word of BAR0 whose access failed. -/
theorem State.accessErr_hifErrAddr_field (s : State) (f bit : Nat) {a : Nat} (ha : a < 0x200_0000) :
    (s.accessErr f false a bit).field .hifErrAddr 0 0 25 = a := by
  have : a % 2 ^ 25 = a := Nat.mod_eq_of_lt ha
  simp only [State.field, State.accessErr_hifErrAddr, fld, put_low_toNat (show a < 2 ^ 32 by omega)]
  omega

/-- R4, R521: reading word 0 of the time answers it and latches words 1 and 2, which later reads answer. -/
theorem timeRead_latches {s : State} (hr : s.pins.inReset = false) :
    ∃ t, exec (.lowWordReadLatch 0 false 0x90_0000) s = .next t ∧ t.hif.readData = s.tbNow 0
      ∧ ∀ u : State, u.pins.inReset = false → u.hif.latch = t.hif.latch →
        (∃ x, exec (.lowWordReadLatch 0 false 0x90_0004) u = .next x ∧ x.hif.readData = s.tbNow 1)
        ∧ (∃ x, exec (.lowWordReadLatch 0 false 0x90_0008) u = .next x ∧ x.hif.readData = s.tbNow 2) := by
  obtain ⟨hd, hl⟩ := s.readBar0_tbNow_low 0x90_0000
  refine ⟨_, exec_lowWordReadLatch_tbNow (j := 0) hr (by decide), hd, fun u hu same => ?_⟩
  have latch := same.trans hl
  refine ⟨⟨_, exec_lowWordReadLatch_tbNow (j := 1) hu (by decide), ?_⟩, _,
    exec_lowWordReadLatch_tbNow (j := 2) hu (by decide), ?_⟩
  · refine State.readBar0_tbNow_high u (by decide) ?_
    rw [latch, tfind_tput_other _ _ (by decide)]; exact tfind_tput_same _ _ _
  · exact State.readBar0_tbNow_high u (by decide) (by rw [latch]; exact tfind_tput_same _ _ _)

/-- R4, R476, R477: reading word 0 of a counter answers it and latches word 1, and a chained successor whole. -/
theorem counterRead_latches {s : State} {n : Nat} (hr : s.pins.inReset = false) (hn : n < 4096) (unlatched : s.evc.chainLatch = []) :
    ∃ t, exec (.lowWordReadLatch 0 false (0x70_0000 + 8 * n)) s = .next t
      ∧ t.hif.readData = BitVec.ofNat 32 (tget 0 s.evc.cnt n)
      ∧ (n + 1 < 4096 → (s.evcCfg (n + 1)).chain = true → t.evc.chainLatch = [(n + 1, tget 0 s.evc.cnt (n + 1))])
      ∧ t.evc.cnt = s.evc.cnt
      ∧ ∀ u : State, u.pins.inReset = false → u.hif.latch = t.hif.latch → u.evc.chainLatch = [] →
        ∃ x, exec (.lowWordReadLatch 0 false (0x70_0004 + 8 * n)) u = .next x
          ∧ x.hif.readData = BitVec.ofNat 32 (tget 0 s.evc.cnt n / 2 ^ 32) := by
  obtain ⟨hd, hl, hc, hch⟩ := s.readCntLow_unlatched n (0x70_0000 + 8 * n) unlatched
  refine ⟨_, exec_lowWordReadLatch_evcCnt (j := 0) hr hn (by decide), hd, hch, hc, fun u hu same none => ?_⟩
  have high : wordOf (tget 0 s.evc.cnt n) 1 = BitVec.ofNat 32 (tget 0 s.evc.cnt n / 2 ^ 32) := rfl
  rw [show 0x70_0004 + 8 * n = 0x70_0000 + 8 * n + 4 * 1 by omega, ← high]
  refine ⟨_, exec_lowWordReadLatch_evcCnt hu hn (by decide), State.readCntHigh_latched u none ?_⟩
  rw [same]
  exact (congrArg (tfind · _) hl).trans (tfind_tput_same _ _ _)

/-- Settles O59, a clause of the statement at a time: each kind of read is `exec` of its command (`exec_lowWordReadLatch_reg`,
`exec_readClear_…`, `exec_forbiddenRegisterRead_…`), and what it answers and latches is a fact about the state it leaves. -/
theorem registerReads : Obligations.RegisterReads := by
  intro s hr
  refine ⟨timeRead_latches hr, fun n => counterRead_latches hr, ?_, ?_, ?_, ?_, ?_⟩
  · intro a r i j h4 ha h hl h1 h2 h3 h4' h5
    rw [exec_lowWordReadLatch_reg hr h4 ha h h5, s.readBar0_plain i j a hl h1 h2 h3 h4' h5]
    rfl
  · intro src hsrc
    refine ⟨_, exec_readClear_srcStat hr (by omega) (by omega) (bar0Target_tmuSrcStat _ hsrc) rfl, rfl, ?_, ?_, rfl⟩
    · exact State.tsrc_setTsrc _ _ _
    · exact fun x hx => State.tsrc_setTsrc_other _ _ hx
  · exact fun f r h8 hf => ⟨_, exec_readClear_ringLost hr hf h8, rfl, State.ring_setRing _ _ _ _⟩
  · intro a id h4 ha h
    exact ⟨exec_forbiddenRegisterRead_absent hr h4 ha h, fld_bit _ _ (s.accessErr_hifErr_bit 0 false a (by decide)),
      s.accessErr_hifErrAddr_field 0 0 ha⟩
  · intro f i n hf hi slot denied
    refine ⟨_, exec_forbiddenRegisterRead_window hr hf hi slot denied, rfl, ?_, ?_⟩
    · exact s.accessErr_fnErr_bit f true (0x2000 + 8 * i) (by decide)
    · simp [State.answerRead]

end Sys2Proof.Machine
end

section
/-! SUPPORT. What a write of a whole word, of a part of a word, and of the words that take effect together do. -/

namespace Sys2Proof.Machine

/-! ### Rows of the map -/

theorem locate_mem {a i j : Nat} {r : RegRow} (h : locate a = some (r, i, j)) : r ∈ regRowsAt a := by
  obtain ⟨x, hx, hm⟩ := List.exists_of_findSome?_eq_some h
  obtain ⟨ij, -, he⟩ := Option.map_eq_some_iff.1 hm
  cases he
  exact hx

/-- R514: every row of the map. -/
def regRows : List RegRow :=
  regRowsCap ++ regRowsHif ++ regRowsPmc ++ regRowsSec ++ regRowsEvc ++ regRowsLne ++ regRowsWov ++ regRowsSch ++ regRowsMsc
    ++ regRowsShu ++ regRowsCie

theorem regRowsAt_subset (a : Nat) : regRowsAt a ⊆ regRows := by
  intro r h
  unfold regRowsAt at h
  simp only [regRows, List.mem_append]
  (repeat' split at h) <;> simp_all

/-- R7: what software writes of a register whose defined bits are all RW is what it reads back. -/
theorem RegRow.rw_whole {r : RegRow} (h : r ∈ regRows) (hid : r.id = .hifFnCfg ∨ r.id = .lmtLaneEven ∨ r.id = .lmtGrpEven
    ∨ r.id = .mscScrub ∨ r.id = .atPnWarn ∨ r.id = .ftDomQuota ∨ r.id = .pmcLtol) : r.defined = r.rw := by
  have all : ∀ r ∈ regRows, (r.id = .hifFnCfg ∨ r.id = .lmtLaneEven ∨ r.id = .lmtGrpEven ∨ r.id = .mscScrub
      ∨ r.id = .atPnWarn ∨ r.id = .ftDomQuota ∨ r.id = .pmcLtol) → r.defined = r.rw := by decide +kernel
  exact all r h hid

theorem and_of_and_not_eq_zero {v m : Word} (h : v &&& ~~~m = 0) : v &&& m = v := by
  ext k hk
  have hb := congrArg (fun w : Word => w[k]) h
  simp at hb ⊢
  exact hb

/-! ### Writes of a whole word -/

theorem exec_regWrite_word (s : State) (a : Nat) (v : Word) (h4 : a % 4 = 0) :
    exec (.regWrite 0 false a 15 v) s = .next (s.hostWrite 0 false a v) := by
  simp [exec, execRegWrite, h4]

/-- R5: a write of a present register outside INVALID and SCRAP. -/
theorem State.hostWrite_reg {s : State} {a i j : Nat} {r : RegRow} (v : Word) (hr : s.pins.inReset = false)
    (hl : s.lcShut = false) (ha : a < 0x200_0000) (h : bar0Target s.variant a = .reg r i j) :
    s.hostWrite 0 false a v = s.writeReg r i j a v := by
  simp [State.hostWrite, State.reaches_bar0 hr ha, State.target, h, hl]

/-- R2: a write to a unit that the variant lacks. -/
theorem State.hostWrite_absentBlock {s : State} {a : Nat} (v : Word) (hr : s.pins.inReset = false) (ha : a < 0x200_0000)
    (h : bar0Target s.variant a = .absent none) : s.hostWrite 0 false a v = s.accessErr 0 false a 0 := by
  simp [State.hostWrite, State.reaches_bar0 hr ha, State.target, h, State.writeAbsent]

/-- R516: the CAP block is read only, whatever an offset of it holds. -/
theorem State.hostWrite_cap {s : State} {a : Nat} (v : Word) (hr : s.pins.inReset = false) (hl : s.lcShut = false)
    (ha : a < 0x10_0000) : s.hostWrite 0 false a v = s.accessErr 0 false a 2 := by
  have present : ∀ r ∈ regRowsCap, ∀ i, r.id.present s.variant i = true ∧ r.id ≠ .ftDomQuota := by
    simp [regRowsCap, RegId.present]
  have reach := State.reaches_bar0 hr (show a < 0x200_0000 by omega)
  cases hloc : locate a with
  | none =>
    simp [State.hostWrite, reach, State.target, bar0Target, blockAbsent_low s.variant (show a < 0xB0_0000 by omega), hloc, hl]
  | some found =>
    obtain ⟨r, i, j⟩ := found
    have mem : r ∈ regRowsCap := by simpa [regRowsAt, ha] using locate_mem hloc
    obtain ⟨here, quota⟩ := present r mem i
    rw [State.hostWrite_reg v hr hl (by omega) (bar0Target_of_locate _ hloc (by omega) quota here)]
    simp [State.writeReg, ha]

/-- R5: a write that sets a reserved bit. -/
theorem State.writeReg_reserved {s : State} {r : RegRow} {i j a : Nat} {v : Word} (ha : 0x10_0000 ≤ a)
    (h1 : r.id ≠ .ringCopy) (h2 : r.id ≠ .bbxWindow) (h : v &&& ~~~r.definedAt j ≠ 0) :
    s.writeReg r i j a v = (s.accessErr 0 false a 2).blockReject r.id i := by
  rw [State.writeReg, if_neg (Nat.not_lt.2 ha), if_neg h1, if_neg h2, if_pos (Or.inl h), State.reservedWrite]

/-- R5, R520: a write that sets no reserved bit takes the register's own effect when its name has neither reserved
encodings nor fields that name units. -/
theorem State.writeReg_apply {s : State} {r : RegRow} {i j a : Nat} {v : Word} (ha : 0x10_0000 ≤ a)
    (hv : v &&& ~~~r.definedAt j = 0) (h1 : r.id ≠ .ringCopy) (h2 : r.id ≠ .bbxWindow)
    (h3 : r.id.reservedCode v = false) (h4 : s.namesAbsent r.id v = false) : s.writeReg r i j a v = s.applyWrite r i j a v := by
  simp [State.writeReg, Nat.not_lt.2 ha, h1, h2, hv, h3, h4]

/-! ### Writes of a part of a word (R4) -/

/-- R4: a write that does not select the whole word of a register. -/
theorem State.partialWrite_reg {s : State} {a i j : Nat} {r : RegRow} (hr : s.pins.inReset = false) (ha : a < 0x200_0000)
    (h : bar0Target s.variant a = .reg r i j) : s.partialWrite 0 false a = s.accessErr 0 false a 1 := by
  simp [State.partialWrite, State.reaches_bar0 hr ha, State.target, h]

/-- R2, R4: one to an absent unit. -/
theorem State.partialWrite_absent {s : State} {a : Nat} {id : Option RegId} (hr : s.pins.inReset = false)
    (ha : a < 0x200_0000) (h : bar0Target s.variant a = .absent id) :
    s.partialWrite 0 false a = (s.accessErr 0 false a 1).accessErr 0 false a 0 := by
  simp [State.partialWrite, State.reaches_bar0 hr ha, State.target, h]

theorem exec_regWrite_part (s : State) {addr : Nat} {be : BitVec 4} (v : Word) (h : addr % 4 ≠ 0 ∨ be ≠ 15) :
    exec (.regWrite 0 false addr be v) s = .next (if addr / 4 * 4 = lastWord addr be then s.partialWrite 0 false (addr / 4 * 4)
      else (s.partialWrite 0 false (addr / 4 * 4)).partialWrite 0 false (lastWord addr be)) := by
  have part : ¬ (addr % 4 = 0 ∧ be = 15) := by tauto
  simp only [exec, execRegWrite, if_neg part]

theorem lastWord_le (addr : Nat) (be : BitVec 4) : lastWord addr be ≤ addr + 3 := by
  unfold lastWord
  dsimp only
  split_ifs <;> omega

/-! ### Held words (R4) -/

theorem tfind_filter_listed {α : Type} (t : Tbl α) {k : Nat} {keys : List Nat} (h : k ∈ keys) :
    tfind (t.filter (fun e => !keys.contains e.1)) k = none := by
  induction t with
  | nil => rfl
  | cons e t ih =>
    by_cases he : e.1 ∈ keys
    · simpa [he] using ih
    · have : e.1 ≠ k := fun x => he (x ▸ h)
      simpa [he, tfind, this] using ih

/-- R4: a word given up is held no more. -/
theorem State.unhold_held (s : State) {k : Nat} {keys : List Nat} (h : k ∈ keys) : tfind (s.unhold keys).hif.held k = none :=
  tfind_filter_listed _ h

theorem State.heldOr_some {s : State} {k : Nat} {w : Word} (v : Word) (h : tfind s.hif.held k = some w) :
    s.heldOr k v = w := by
  simp [State.heldOr, h]

theorem State.heldOr_none {s : State} {k : Nat} (v : Word) (h : tfind s.hif.held k = none) : s.heldOr k v = v := by
  simp [State.heldOr, h]

theorem evcCfg_setCfg (s : State) (n : Nat) (c : EvcCfg) (m : Nat) :
    State.evcCfg { s with evc := { s.evc with cfg := tset (evcCfgReset n) s.evc.cfg n c } } m
      = if m = n then c else s.evcCfg m := by
  split
  · next h => subst h; exact tget_tset_same _ _ _ _
  · next h => exact tget_tset_other _ _ _ _ h

end Sys2Proof.Machine
end

section
/-! SUPPORT. Registers that hold what is written to them, plainly or when their block's check passes, and the registers whose
words take effect together. -/

namespace Sys2Proof.Machine

/-! ### Plain and range-checked registers (R5, R7) -/

/-- Registers without a reserved encoding and without a field that names a unit. -/
def plainIds : List RegId :=
  [.hifFnCfg, .lmtLaneEven, .lmtGrpEven, .mscScrub, .atPnWarn, .ftDomQuota, .pmcLtol, .hifCmdWdog, .shuBudget, .cieKat,
    .cieBurst, .lksCap, .mscTimeout, .mscPoisonCfg, .atDrain, .schAdmSlots, .schAdmCells, .schPBurst, .schQBurst, .schPolCbs,
    .schPolPbs, .schPolCir, .schPolPir, .schQQuantum, .schPRate, .evcCnt, .evcCfg3, .cvuCtl]

theorem plainIds_open : ∀ id ∈ plainIds, id ≠ .ringCopy ∧ id ≠ .bbxWindow ∧ (∀ v, id.reservedCode v = false)
    ∧ ∀ (s : State) v, s.namesAbsent id v = false := by
  simp only [plainIds, List.forall_mem_cons]
  simp [RegId.reservedCode, State.namesAbsent]

/-- R5, R7: a write that sets no reserved bit of such a register takes the register's own effect. -/
theorem State.hostWrite_plain {s : State} {r : RegRow} {i j a : Nat} {v : Word} (hr : s.pins.inReset = false)
    (hl : s.lcShut = false) (ha : 0x10_0000 ≤ a) (ha' : a < 0x200_0000) (h : bar0Target s.variant a = .reg r i j)
    (hv : v &&& ~~~r.definedAt j = 0) (hid : r.id ∈ plainIds) : s.hostWrite 0 false a v = s.applyWrite r i j a v := by
  obtain ⟨h1, h2, h3, h5⟩ := plainIds_open r.id hid
  rw [State.hostWrite_reg v hr hl ha' h, State.writeReg_apply ha hv h1 h2 (h3 v) (h5 s v)]

/-- R5, R7: a register whose defined bits are all RW holds the value written. -/
theorem State.applyWrite_whole {s : State} {r : RegRow} {a i j : Nat} {v : Word} (hr : r ∈ regRows)
    (hv : v &&& ~~~r.definedAt j = 0) (hid : r.id = .hifFnCfg ∨ r.id = .lmtLaneEven ∨ r.id = .lmtGrpEven
      ∨ r.id = .mscScrub ∨ r.id = .atPnWarn ∨ r.id = .ftDomQuota ∨ r.id = .pmcLtol) :
    s.applyWrite r i j a v = s.setReg r.id i j v := by
  have whole := RegRow.rw_whole hr hid
  have defined : r.definedAt j = r.defined := by
    rcases hid with h | h | h | h | h | h | h <;> simp only [RegRow.definedAt, h] <;> exact BitVec.and_allOnes
  have kept : v &&& r.rw = v := and_of_and_not_eq_zero (by rw [← whole, ← defined]; exact hv)
  have taken : s.applyWrite r i j a v = s.setRw r i j v := by
    rcases hid with h | h | h | h | h | h | h <;> simp only [State.applyWrite, h]
  rw [taken, State.setRw, kept]

/-- R5, R389: the registers whose range check answers RSVD. -/
theorem State.applyWrite_orRsvd {s : State} {r : RegRow} {a : Nat} {v : Word} {ok : Bool}
    (hid : (r.id = .hifCmdWdog ∨ r.id = .shuBudget ∨ r.id = .cieKat ∨ r.id = .cieBurst) ∧ ok = (v != 0)
      ∨ r.id = .lksCap ∧ ok = decide (1 ≤ v.toNat ∧ v.toNat ≤ 48)) :
    r.id ∈ plainIds ∧ s.applyWrite r 0 0 a v = if ok then s.setReg r.id 0 0 (v &&& r.rw) else s.accessErr 0 false a 2 := by
  rcases hid with ⟨h | h | h | h, hok⟩ | ⟨h, hok⟩ <;>
    exact ⟨by simp [plainIds, h], by simp only [State.applyWrite, State.orRsvd, State.setRw, h, hok]⟩

/-- R5: the registers of a single unit whose range check answers with the block's REJECT. -/
theorem State.applyWrite_checked {s : State} {r : RegRow} {a : Nat} {v : Word} {ok : Bool}
    (hid : r.id = .mscTimeout ∧ ok = decide (100 ≤ v.toNat)
      ∨ r.id = .mscPoisonCfg ∧ ok = decide (3 ≤ v.toNat ∧ v.toNat ≤ 29) ∨ r.id = .atDrain ∧ ok = (v != 0)
      ∨ r.id = .schAdmSlots ∧ ok = decide (v.toNat ≤ 65536) ∨ r.id = .schAdmCells ∧ ok = decide (v.toNat ≤ 229376)) :
    r.id ∈ plainIds ∧ s.applyWrite r 0 0 a v = if ok then s.setReg r.id 0 0 (v &&& r.rw) else s.blockReject r.id 0 := by
  rcases hid with ⟨h, hok⟩ | ⟨h, hok⟩ | ⟨h, hok⟩ | ⟨h, hok⟩ | ⟨h, hok⟩ <;>
    exact ⟨by simp [plainIds, h], by simp only [State.applyWrite, State.checked, State.setRw, h, hok]⟩

/-- R285 to R298: the shapers' and policers' registers whose range check answers with SCH_STAT.REJECT. -/
theorem State.applyWrite_shaper {s : State} {r : RegRow} {a i : Nat} {v : Word} {ok : Bool}
    (hid : (r.id = .schPBurst ∨ r.id = .schQBurst ∨ r.id = .schPolCbs ∨ r.id = .schPolPbs) ∧ ok = decide (64 ≤ v.toNat)
      ∨ (r.id = .schPolCir ∨ r.id = .schPolPir) ∧ ok = decide (v.toNat ≤ 3200000)
      ∨ r.id = .schQQuantum ∧ ok = decide (64 ≤ v.toNat ∧ v.toNat ≤ 1000000)
      ∨ r.id = .schPRate ∧ ok = decide (v.toNat % 2 ^ 22 ≤ 3200000)) :
    r.id ∈ plainIds ∧ s.applyWrite r i 0 a v = if ok then s.setReg r.id i 0 (v &&& r.rw) else s.blockReject r.id i := by
  rcases hid with ⟨h | h | h | h, hok⟩ | ⟨h | h, hok⟩ | ⟨h, hok⟩ | ⟨h, hok⟩ <;>
    exact ⟨by simp [plainIds, h],
      by simp only [State.applyWrite, State.checked, State.setRw, h, hok, fld, Nat.pow_zero, Nat.div_one]⟩

/-! ### Words that take effect together (R476, R481, R487) -/

theorem and_not_eq_zero_of_lt {v m : Word} (k : Nat) (h : v.toNat < 2 ^ k) (hm : m.toNat = 2 ^ k - 1) : v &&& ~~~m = 0 := by
  ext b hb
  have hv : v[b] = true → b < k := fun hb' => by
    by_contra hk
    have := Nat.testBit_lt_two_pow (lt_of_lt_of_le h (Nat.pow_le_pow_right (by decide) (Nat.not_lt.1 hk)))
    rw [BitVec.getElem_eq_testBit_toNat] at hb'
    simp_all
  have hmb : b < k → m[b] = true := fun hk => by
    rw [BitVec.getElem_eq_testBit_toNat, hm, Nat.testBit_two_pow_sub_one]
    simpa using hk
  cases hvb : v[b] with
  | false => simp [hvb]
  | true => simp [hmb (hv hvb)]

/-- R476: word 0 of a counter written is held. -/
theorem exec_evcCntWrite_low {s : State} {n : Nat} (v : Word) (hr : s.pins.inReset = false) (hl : s.lcShut = false)
    (hn : n < 4096) : exec (.evcCntWrite n false v) s = .next (s.hold (0x70_0000 + 8 * n) v) := by
  have taken := State.hostWrite_plain (v := v) hr hl (by omega) (by omega) (bar0Target_evcCnt s.variant hn (j := 0) (by decide))
    (and_not_eq_zero_of_lt 32 v.isLt rfl) (by decide)
  simp only [exec, execEvcCntWrite, if_neg (Nat.not_le.2 hn)]
  exact congrArg _ taken

/-- R476: word 1 of a counter written: both words take effect together. -/
theorem exec_evcCntWrite_high {s : State} {n : Nat} {v : Word} (hr : s.pins.inReset = false) (hl : s.lcShut = false)
    (hn : n < 4096) (hv : v.toNat < 65536) :
    exec (.evcCntWrite n true v) s = .next (s.cntCommit n (0x70_0000 + 8 * n + 4) v) := by
  have taken := State.hostWrite_plain (v := v) hr hl (by omega) (by omega) (bar0Target_evcCnt s.variant hn (j := 1) (by decide))
    (and_not_eq_zero_of_lt 16 hv rfl) (by decide)
  simp only [exec, execEvcCntWrite, if_neg (Nat.not_le.2 hn)]
  exact congrArg _ taken

/-- R475, R481: word 3 of a counter's configuration written. -/
theorem exec_evcCfgCommit {s : State} {n : Nat} {v : Word} (hr : s.pins.inReset = false) (hl : s.lcShut = false)
    (hn : n < 4096) (hv : v.toNat < 2 ^ 25) :
    exec (.evcCfgCommit n v) s = .next (s.cfgCommit n (0x71_000C + 16 * n) v) := by
  have taken := State.hostWrite_plain (v := v) hr hl (by omega) (by omega) (bar0Target_evcCfg3 s.variant hn)
    (and_not_eq_zero_of_lt 25 hv rfl) (by decide)
  simp only [exec, execEvcCfgCommit, if_neg (Nat.not_le.2 hn)]
  exact congrArg _ taken

/-- R487: CVU_CTL written. -/
theorem exec_cvuCtlCommit {s : State} {p : Nat} {v : Word} (hr : s.pins.inReset = false) (hl : s.lcShut = false)
    (hp : p < 16) (hv : v.toNat < 16) :
    exec (.cvuCtlCommit p v) s = .next (s.cvuCommit p (0x80_000C + 16 * p) v) := by
  have taken := State.hostWrite_plain (v := v) hr hl (by omega) (by omega) (bar0Target_cvuCtl s.variant hp)
    (and_not_eq_zero_of_lt 4 hv rfl) (by decide)
  simp only [exec, execCvuCtlCommit, if_neg (Nat.not_le.2 hp)]
  exact congrArg _ taken

/-- R476: the count after its high word is written: the held low word, or the present one, below it. -/
theorem State.cntCommit_cnt (s : State) (n a : Nat) (v : Word) :
    tget 0 (s.cntCommit n a v).evc.cnt n
      = (s.heldOr (a - 4) (wordOf (tget 0 s.evc.cnt n) 0)).toNat + 2 ^ 32 * v.toNat := tget_tset_same _ _ _ _

theorem State.cntCommit_cnt_other (s : State) {n m : Nat} (a : Nat) (v : Word) (h : m ≠ n) :
    tget 0 (s.cntCommit n a v).evc.cnt m = tget 0 s.evc.cnt m := tget_tset_other _ _ _ _ h

theorem State.cntCommit_held (s : State) (n a : Nat) (v : Word) : tfind (s.cntCommit n a v).hif.held (a - 4) = none :=
  s.unhold_held (by simp)

/-- R481: the configuration that the four words of a counter's registers spell. -/
def evcCfgOf (lo hi cls v : Word) : EvcCfg where
  lo := fld lo 0 24
  hi := fld hi 0 24
  cls := cls.setWidth 8
  src := fld v 0 8
  chain := v.getLsbD 8
  sat := v.getLsbD 9
  irq := v.getLsbD 10
  priv := v.extractLsb' 11 2
  dom := fld v 13 6
  master := v.extractLsb' 19 6

/-- R475, R481: the held words of a configuration that pass the checks take effect together. -/
theorem State.cfgCommit_taken {s : State} {n a : Nat} {lo hi cls v : Word} (h0 : tfind s.hif.held (a - 12) = some lo)
    (h1 : tfind s.hif.held (a - 8) = some hi) (h2 : tfind s.hif.held (a - 4) = some cls)
    (src : srcOk (fld v 0 8) = true) (range : fld lo 0 24 ≤ fld hi 0 24) (chain : v.getLsbD 8 = false ∨ n ≠ 0) :
    ∃ h, s.cfgCommit n a v = { s with hif := h, evc := { s.evc with cfg := tset (evcCfgReset n) s.evc.cfg n (evcCfgOf lo hi cls v) } } := by
  have hc : ¬ (fld hi 0 24 < fld lo 0 24 ∨ (v.getLsbD 8 = true ∧ n = 0)) := by
    rintro (h | ⟨h, h'⟩)
    · omega
    · rcases chain with hf | hn
      · rw [h] at hf; cases hf
      · exact hn h'
  unfold State.cfgCommit
  simp only [State.heldOr_some _ h0, State.heldOr_some _ h1, State.heldOr_some _ h2, src, Bool.not_true, Bool.false_eq_true,
    if_false, if_neg hc]
  exact ⟨_, rfl⟩

theorem State.blockReject_evcCfg3 (s : State) (n : Nat) : s.blockReject .evcCfg3 n = s.setRegBit .evcStat 0 := rfl

theorem State.setRegBit_getLsbD (s : State) (id : RegId) {b : Nat} (h : b < 32) :
    ((s.setRegBit id b).reg id).getLsbD b = true := by
  rw [State.setRegBit, State.reg_setReg, BitVec.getLsbD_or, put_one_getLsbD h, Bool.or_true]

/-- R475: a configuration that fails a check changes no counter and sets EVC_STAT.REJECT. -/
theorem State.cfgCommit_rejected {s : State} {n a : Nat} {lo hi v : Word} (h0 : tfind s.hif.held (a - 12) = some lo)
    (h1 : tfind s.hif.held (a - 8) = some hi)
    (bad : srcOk (fld v 0 8) = false ∨ fld hi 0 24 < fld lo 0 24 ∨ (v.getLsbD 8 = true ∧ n = 0)) :
    (s.cfgCommit n a v).evc = s.evc ∧ ((s.cfgCommit n a v).reg .evcStat).getLsbD 0 = true := by
  unfold State.cfgCommit
  simp only [State.heldOr_some _ h0, State.heldOr_some _ h1]
  cases hs : srcOk (fld v 0 8) with
  | false =>
    simp only [Bool.not_false, if_true, State.reservedWrite, State.blockReject_evcCfg3]
    exact ⟨by simp [State.unhold], State.setRegBit_getLsbD _ _ (by decide)⟩
  | true =>
    rw [hs] at bad
    simp only [Bool.not_true, Bool.false_eq_true, if_false, if_pos (bad.resolve_left (by decide)), State.blockReject_evcCfg3]
    exact ⟨by simp [State.unhold], State.setRegBit_getLsbD _ _ (by decide)⟩

/-- R487: the width that WIDTH spells. -/
theorem cvuWidth_eq (v : Word) : cvuWidth (fld v 0 2) = 8 * [0, 1, 2, 4].getD (v.toNat % 4) 0 := by
  have hlt : v.toNat % 4 < 4 := Nat.mod_lt _ (by decide)
  simp only [cvuWidth, fld, Nat.pow_zero, Nat.div_one, show 2 ^ 2 = 4 from rfl]
  generalize v.toNat % 4 = c at hlt
  interval_cases c <;> rfl

/-- R487: a held profile that passes the checks changes whole. -/
theorem State.cvuCommit_taken {s : State} {p a : Nat} {poly init xor v : Word} (h0 : tfind s.hif.held (a - 12) = some poly)
    (h1 : tfind s.hif.held (a - 8) = some init) (h2 : tfind s.hif.held (a - 4) = some xor)
    (ok : ¬ (p = 0 ∨ cvuWidth (fld v 0 2) = 0 ∨ 2 ^ cvuWidth (fld v 0 2) ≤ poly.toNat ∨ 2 ^ cvuWidth (fld v 0 2) ≤ init.toNat
      ∨ 2 ^ cvuWidth (fld v 0 2) ≤ xor.toNat ∨ poly.getLsbD 0 = false)) :
    s.cvuCommit p a v = ((((s.unhold [a - 12, a - 8, a - 4]).setReg .cvuPoly p 0 poly).setReg .cvuInit p 0 init).setReg
      .cvuXor p 0 xor).setReg .cvuCtl p 0 v := by
  unfold State.cvuCommit
  simp only [State.heldOr_some _ h0, State.heldOr_some _ h1, State.heldOr_some _ h2, if_neg ok]

/-- R487: one that fails a check is rejected. -/
theorem State.cvuCommit_rejected {s : State} {p a : Nat} {poly init xor v : Word} (h0 : tfind s.hif.held (a - 12) = some poly)
    (h1 : tfind s.hif.held (a - 8) = some init) (h2 : tfind s.hif.held (a - 4) = some xor)
    (bad : p = 0 ∨ cvuWidth (fld v 0 2) = 0 ∨ 2 ^ cvuWidth (fld v 0 2) ≤ poly.toNat ∨ 2 ^ cvuWidth (fld v 0 2) ≤ init.toNat
      ∨ 2 ^ cvuWidth (fld v 0 2) ≤ xor.toNat ∨ poly.getLsbD 0 = false) :
    s.cvuCommit p a v = (s.unhold [a - 12, a - 8, a - 4]).accessErr 0 false a 2 := by
  unfold State.cvuCommit
  simp only [State.heldOr_some _ h0, State.heldOr_some _ h1, State.heldOr_some _ h2, if_pos bad]

/-- R389, R390: an access error changes no register but HIF_ERR and HIF_ERR_ADDR. -/
theorem State.accessErr_reg_other (s : State) (f : Nat) (bar2 : Bool) (off bit : Nat) {id : RegId} {i j : Nat}
    (h1 : id.offset i j ≠ RegId.hifErr.offset) (h2 : id.offset i j ≠ RegId.hifErrAddr.offset) :
    (s.accessErr f bar2 off bit).reg id i j = s.reg id i j := by
  rw [State.accessErr, State.reg_setReg_other _ _ h2]
  exact State.reg_setReg_other s _ h1

end Sys2Proof.Machine
end

section
namespace Sys2Proof.Machine

/-- R487: the four registers of a profile after a held profile is taken, and those of the others. -/
theorem cvuRegs_taken (s : State) (p : Nat) (poly init xor v : Word) {t : State}
    (h : t = (((s.setReg .cvuPoly p 0 poly).setReg .cvuInit p 0 init).setReg .cvuXor p 0 xor).setReg .cvuCtl p 0 v) :
    t.reg .cvuPoly p = poly ∧ t.reg .cvuInit p = init ∧ t.reg .cvuXor p = xor ∧ t.reg .cvuCtl p = v
      ∧ ∀ q, q ≠ p → t.reg .cvuPoly q = s.reg .cvuPoly q ∧ t.reg .cvuCtl q = s.reg .cvuCtl q := by
  subst h
  have apart : ∀ (u : State) (id id' : RegId) (i i' : Nat) (w : Word), id'.offset i' 0 ≠ id.offset i 0 →
      (u.setReg id i 0 w).reg id' i' 0 = u.reg id' i' 0 := fun u id id' i i' w h => u.reg_setReg_other w h
  refine ⟨?_, ?_, ?_, State.reg_setReg _ _ _ _ _, fun q hq => ⟨?_, ?_⟩⟩
  · rw [apart _ _ _ _ _ _ (by simp only [RegId.offset]; omega), apart _ _ _ _ _ _ (by simp only [RegId.offset]; omega),
      apart _ _ _ _ _ _ (by simp only [RegId.offset]; omega), State.reg_setReg]
  · rw [apart _ _ _ _ _ _ (by simp only [RegId.offset]; omega), apart _ _ _ _ _ _ (by simp only [RegId.offset]; omega),
      State.reg_setReg]
  · rw [apart _ _ _ _ _ _ (by simp only [RegId.offset]; omega), State.reg_setReg]
  all_goals
    iterate 4 rw [apart _ _ _ _ _ _ (by simp only [RegId.offset]; omega)]

/-! ### Words that take effect together, by their commands -/

/-- R475, R481: a configuration whose held words pass the checks takes effect whole. -/
theorem exec_evcCfgCommit_taken {s : State} {n : Nat} {lo hi cls v : Word} (hr : s.pins.inReset = false) (hl : s.lcShut = false)
    (hn : n < 4096) (hv : v.toNat < 2 ^ 25) (h0 : tfind s.hif.held (0x71_0000 + 16 * n) = some lo)
    (h1 : tfind s.hif.held (0x71_0004 + 16 * n) = some hi) (h2 : tfind s.hif.held (0x71_0008 + 16 * n) = some cls)
    (src : srcOk (fld v 0 8) = true) (range : fld lo 0 24 ≤ fld hi 0 24) (chain : v.getLsbD 8 = false ∨ n ≠ 0) :
    ∃ h, exec (.evcCfgCommit n v) s
      = .next { s with hif := h, evc := { s.evc with cfg := tset (evcCfgReset n) s.evc.cfg n (evcCfgOf lo hi cls v) } } := by
  rw [show 0x71_0000 + 16 * n = 0x71_000C + 16 * n - 12 by omega] at h0
  rw [show 0x71_0004 + 16 * n = 0x71_000C + 16 * n - 8 by omega] at h1
  rw [show 0x71_0008 + 16 * n = 0x71_000C + 16 * n - 4 by omega] at h2
  obtain ⟨h, taken⟩ := State.cfgCommit_taken h0 h1 h2 src range chain
  exact ⟨h, (exec_evcCfgCommit hr hl hn hv).trans (congrArg _ taken)⟩

/-- R475: one that fails a check is rejected. -/
theorem exec_evcCfgCommit_rejected {s : State} {n : Nat} {lo hi v : Word} (hr : s.pins.inReset = false) (hl : s.lcShut = false)
    (hn : n < 4096) (hv : v.toNat < 2 ^ 25) (h0 : tfind s.hif.held (0x71_0000 + 16 * n) = some lo)
    (h1 : tfind s.hif.held (0x71_0004 + 16 * n) = some hi)
    (bad : srcOk (fld v 0 8) = false ∨ fld hi 0 24 < fld lo 0 24 ∨ (v.getLsbD 8 = true ∧ n = 0)) :
    ∃ t, exec (.evcCfgCommit n v) s = .next t ∧ t.evc = s.evc ∧ (t.reg .evcStat).getLsbD 0 = true := by
  rw [show 0x71_0000 + 16 * n = 0x71_000C + 16 * n - 12 by omega] at h0
  rw [show 0x71_0004 + 16 * n = 0x71_000C + 16 * n - 8 by omega] at h1
  exact ⟨_, exec_evcCfgCommit hr hl hn hv, State.cfgCommit_rejected h0 h1 bad⟩

/-- R487: a profile whose held words pass the checks changes whole. -/
theorem exec_cvuCtlCommit_taken {s : State} {p : Nat} {poly init xor v : Word} (hr : s.pins.inReset = false)
    (hl : s.lcShut = false) (hp : p < 16) (hv : v.toNat < 16) (h0 : tfind s.hif.held (0x80_0000 + 16 * p) = some poly)
    (h1 : tfind s.hif.held (0x80_0004 + 16 * p) = some init) (h2 : tfind s.hif.held (0x80_0008 + 16 * p) = some xor)
    (ok : ¬ (p = 0 ∨ cvuWidth (fld v 0 2) = 0 ∨ 2 ^ cvuWidth (fld v 0 2) ≤ poly.toNat ∨ 2 ^ cvuWidth (fld v 0 2) ≤ init.toNat
      ∨ 2 ^ cvuWidth (fld v 0 2) ≤ xor.toNat ∨ poly.getLsbD 0 = false)) :
    ∃ t, exec (.cvuCtlCommit p v) s = .next t ∧ t.reg .cvuPoly p = poly ∧ t.reg .cvuInit p = init
      ∧ t.reg .cvuXor p = xor ∧ t.reg .cvuCtl p = v
      ∧ ∀ q, q ≠ p → t.reg .cvuPoly q = s.reg .cvuPoly q ∧ t.reg .cvuCtl q = s.reg .cvuCtl q := by
  rw [show 0x80_0000 + 16 * p = 0x80_000C + 16 * p - 12 by omega] at h0
  rw [show 0x80_0004 + 16 * p = 0x80_000C + 16 * p - 8 by omega] at h1
  rw [show 0x80_0008 + 16 * p = 0x80_000C + 16 * p - 4 by omega] at h2
  exact ⟨_, (exec_cvuCtlCommit hr hl hp hv).trans (congrArg _ (State.cvuCommit_taken h0 h1 h2 ok)),
    cvuRegs_taken (s.unhold _) p poly init xor v rfl⟩

/-- R487: one that fails a check is rejected, and the profile stays as it was. -/
theorem exec_cvuCtlCommit_rejected {s : State} {p : Nat} {poly init xor v : Word} (hr : s.pins.inReset = false)
    (hl : s.lcShut = false) (hp : p < 16) (hv : v.toNat < 16) (h0 : tfind s.hif.held (0x80_0000 + 16 * p) = some poly)
    (h1 : tfind s.hif.held (0x80_0004 + 16 * p) = some init) (h2 : tfind s.hif.held (0x80_0008 + 16 * p) = some xor)
    (bad : p = 0 ∨ cvuWidth (fld v 0 2) = 0 ∨ 2 ^ cvuWidth (fld v 0 2) ≤ poly.toNat ∨ 2 ^ cvuWidth (fld v 0 2) ≤ init.toNat
      ∨ 2 ^ cvuWidth (fld v 0 2) ≤ xor.toNat ∨ poly.getLsbD 0 = false) :
    ∃ t, exec (.cvuCtlCommit p v) s = .next t ∧ t.reg .cvuPoly p = s.reg .cvuPoly p ∧ t.reg .cvuCtl p = s.reg .cvuCtl p
      ∧ (t.reg .hifErr).getLsbD 2 = true := by
  rw [show 0x80_0000 + 16 * p = 0x80_000C + 16 * p - 12 by omega] at h0
  rw [show 0x80_0004 + 16 * p = 0x80_000C + 16 * p - 8 by omega] at h1
  rw [show 0x80_0008 + 16 * p = 0x80_000C + 16 * p - 4 by omega] at h2
  refine ⟨_, (exec_cvuCtlCommit hr hl hp hv).trans (congrArg _ (State.cvuCommit_rejected h0 h1 h2 bad)), ?_, ?_, ?_⟩
  · exact State.accessErr_reg_other _ _ _ _ _ (by simp only [RegId.offset]; omega) (by simp only [RegId.offset]; omega)
  · exact State.accessErr_reg_other _ _ _ _ _ (by simp only [RegId.offset]; omega) (by simp only [RegId.offset]; omega)
  · exact State.accessErr_hifErr_bit _ 0 false _ (by decide)

/-- Settles O60, a clause of the statement at a time: a write of a whole register goes through `State.hostWrite_plain` to the
register's own effect (`State.applyWrite_whole`, `_orRsvd`, `_checked`, `_shaper`), one of part of a word through
`exec_regWrite_part`, and the words that take effect together through the `_taken` and `_rejected` lemmas of their commands. -/
theorem registerWrites : Obligations.RegisterWrites := by
  intro s v hr hl
  refine ⟨?_, ?_, ?_, ?_, ?_, ?_⟩
  · intro a r i j h4 ha ha' h
    have word := exec_regWrite_word s a v h4
    have plain : v &&& ~~~r.definedAt j = 0 → r.id ∈ plainIds → s.hostWrite 0 false a v = s.applyWrite r i j a v :=
      State.hostWrite_plain hr hl ha ha' h
    refine ⟨fun hv h1 h2 => ?_, fun hv hid => ⟨?_, State.reg_setReg s _ _ _ _⟩, ?_, ?_, ?_⟩
    · rw [word, State.hostWrite_reg v hr hl ha' h, State.writeReg_reserved ha h1 h2 hv]
    · have listed : r.id ∈ plainIds := by rcases hid with h | h | h | h | h | h | h <;> simp [plainIds, h]
      rw [word, plain hv listed, State.applyWrite_whole (regRowsAt_subset a (locate_mem (locate_of_bar0Target h))) hv hid]
    · rintro hv rfl rfl ok hid
      obtain ⟨listed, taken⟩ := State.applyWrite_orRsvd (s := s) (a := a) hid
      rw [word, plain hv listed, taken]
    · rintro hv rfl rfl ok hid
      obtain ⟨listed, taken⟩ := State.applyWrite_checked (s := s) (a := a) hid
      rw [word, plain hv listed, taken]
    · rintro hv rfl ok hid
      obtain ⟨listed, taken⟩ := State.applyWrite_shaper (s := s) (a := a) (i := i) hid
      rw [word, plain hv listed, taken]
  · rintro addr be a b u haddr hpart rfl rfl
    have last := lastWord_le addr be
    refine ⟨fun r i j r' i' j' h h' hu => ?_, fun id same h hu => ?_⟩
    · subst hu
      rw [exec_regWrite_part s v hpart, State.partialWrite_reg hr (by omega) h,
        State.partialWrite_reg (by simpa using hr) (by omega) (by simpa using h')]
    · subst hu
      rw [exec_regWrite_part s v hpart, if_pos same, State.partialWrite_absent hr (by omega) h]
  · intro a h4 ha
    rw [exec_regWrite_word s a v h4, State.hostWrite_cap v hr hl ha]
  · intro a h4 ha h
    rw [exec_regWrite_word s a v h4, State.hostWrite_absentBlock v hr ha h]
  · intro n hn
    refine ⟨exec_evcCntWrite_low v hr hl hn, fun hv => ⟨_, exec_evcCntWrite_high hr hl hn hv, ?_⟩, ?_⟩
    · have cnt := s.cntCommit_cnt n (0x70_0000 + 8 * n + 4) v
      have gone := s.cntCommit_held n (0x70_0000 + 8 * n + 4) v
      rw [Nat.add_sub_cancel] at cnt gone
      refine ⟨fun low hlow => ?_, fun hnone => ?_, fun m hm => s.cntCommit_cnt_other _ v hm, gone⟩
      · rw [cnt, State.heldOr_some _ hlow]
      · rw [cnt, State.heldOr_none _ hnone]
        simp [wordOf]
    · intro lo hi cls hlo hhi hcls hv
      have f24 : ∀ w : Word, fld w 0 24 = w.toNat % 2 ^ 24 := fun w => by simp [fld]
      have f8 : fld v 0 8 = v.toNat % 256 := by simp [fld]
      rw [← f8, ← f24, ← f24]
      refine ⟨fun src range chain => ?_, exec_evcCfgCommit_rejected hr hl hn hv hlo hhi⟩
      obtain ⟨hif, ht⟩ := exec_evcCfgCommit_taken hr hl hn hv hlo hhi hcls src range chain
      have cfg := fun m => evcCfg_setCfg { s with hif := hif } n (evcCfgOf lo hi cls v) m
      have own := (cfg n).trans (if_pos rfl)
      have others : ∀ m, m ≠ n → _ := fun m hm => (cfg m).trans (if_neg hm)
      refine ⟨_, ht, ?_, ?_, ?_, ?_, ?_, ?_, ?_, ?_, ?_, ?_, others, rfl⟩ <;>
        refine (congrArg _ own).trans ?_ <;> simp [evcCfgOf, fld]
  · rintro p w poly init xor hp hp16 hpoly hinit hxor hv hw
    obtain rfl : cvuWidth (fld v 0 2) = w := (cvuWidth_eq v).trans hw.symm
    refine ⟨fun w0 wp wi wx odd => ?_, fun bad => ?_⟩
    · refine exec_cvuCtlCommit_taken hr hl hp16 hv hpoly hinit hxor ?_
      rw [odd]
      simp only [Bool.true_eq_false, or_false]
      omega
    · exact exec_cvuCtlCommit_rejected hr hl hp16 hv hpoly hinit hxor (Or.inr bad)

end Sys2Proof.Machine
end

section
/-! SUPPORT. The course of a frame on its port: what the selection's debit, the start of a frame, the framer's item and the end of a
pick change and leave as it was. -/

namespace Sys2Proof.Machine

variable (s : State)

/-! ### Queues (R267, R269) -/

@[simp] theorem State.leaveRing_queue (q y : Nat) : (s.leaveRing q).queue y = s.queue y := rfl

theorem State.setFifo_sch (q : Nat) (l : List QItem) :
    ∃ qs ps, s.setFifo q l = { s with sch := { s.sch with queues := qs, ports := ps } } := by
  unfold State.setFifo
  dsimp only
  split <;> exact ⟨_, _, rfl⟩

theorem State.setFifo_fifo (q : Nat) (l : List QItem) : ((s.setFifo q l).queue q).fifo = l := by
  unfold State.setFifo
  dsimp only
  split
  · next h => simpa using (List.isEmpty_iff.1 h).symm
  · simp

theorem State.setFifo_queue_other {q y : Nat} (l : List QItem) (h : y ≠ q) : (s.setFifo q l).queue y = s.queue y := by
  unfold State.setFifo
  dsimp only
  split
  · exact s.queue_setQueue_other _ h
  · exact s.queue_setQueue_other _ h

/-- R267, R271: a head taken: lengths debited, the queue shortened, and out of its ring when its shaper now holds it. -/
theorem State.takeHead_cases (p q : Nat) (i : QItem) (rest : List QItem) :
    ∃ (Q : Queue) (P : Port) (u : State), u = ((s.setQueue q Q).setPort p P).setFifo q rest
      ∧ (s.takeHead p q i rest = (u.setQueue q { u.queue q with inTurn := false }).leaveRing q
        ∨ s.takeHead p q i rest = u) := by
  unfold State.takeHead
  exact ⟨_, _, _, rfl, ite_eq_or_eq _ _ _⟩

theorem State.takeHead_sch (p q : Nat) (i : QItem) (rest : List QItem) :
    ∃ qs ps, s.takeHead p q i rest = { s with sch := { s.sch with queues := qs, ports := ps } } := by
  obtain ⟨Q, P, u, hu, h⟩ := s.takeHead_cases p q i rest
  obtain ⟨qs, ps, hf⟩ := ((s.setQueue q Q).setPort p P).setFifo_sch q rest
  rw [hf] at hu
  rcases h with h | h <;> exact ⟨_, _, h.trans (by rw [hu]; rfl)⟩

theorem State.takeHead_fifo (p q : Nat) (i : QItem) (rest : List QItem) :
    ((s.takeHead p q i rest).queue q).fifo = rest := by
  obtain ⟨Q, P, u, hu, h⟩ := s.takeHead_cases p q i rest
  have taken : (u.queue q).fifo = rest := by rw [hu]; exact State.setFifo_fifo _ q rest
  rcases h with h | h
  · rw [h, State.leaveRing_queue, State.queue_setQueue]; exact taken
  · rw [h]; exact taken

theorem State.takeHead_queue_other {p q y : Nat} (i : QItem) (rest : List QItem) (hy : y ≠ q) :
    (s.takeHead p q i rest).queue y = s.queue y := by
  obtain ⟨Q, P, u, hu, h⟩ := s.takeHead_cases p q i rest
  have same : u.queue y = s.queue y := by
    rw [hu, State.setFifo_queue_other _ _ hy]; exact s.queue_setQueue_other Q hy
  rcases h with h | h
  · rw [h, State.leaveRing_queue, State.queue_setQueue_other _ _ hy, same]
  · rw [h, same]

theorem State.takeNext_some {p q : Nat} {ok : State → QItem → Bool} {r : State} {i : QItem} {rest : List QItem}
    (h : s.selectQueue p ok [7, 6, 5, 4, 3, 2, 1, 0] = (some q, r)) (hf : (r.queue q).fifo = i :: rest) :
    s.takeNext p ok = (some (q, i), r.takeHead p q i rest) := by
  simp only [State.takeNext, h, hf]

/-! ### A frame on a port (R177, R267, R282) -/

/-- R282: a delay sample changes only the histograms. -/
theorem State.sampleDelay_hists (q since : Nat) :
    ∃ hs, s.sampleDelay q since = { s with sch := { s.sch with hists := hs } } := by
  unfold State.sampleDelay
  refine List.foldlRecOn (motive := fun t : State => ∃ hs, t = { s with sch := { s.sch with hists := hs } }) _ _ ⟨s.sch.hists, rfl⟩ ?_
  rintro _ ⟨hs, rfl⟩ h -
  dsimp only
  split
  · split <;> exact ⟨_, rfl⟩
  · exact ⟨_, rfl⟩

/-- R177, R202: a frame that its port sends at once, of at most MAXLEN, its verdict known. -/
theorem State.transmit_whole {p : Nat} (q : Nat) {i : QItem}
    (fits : 32 ≤ p → (s.itemBytes p i).length ≤ s.field .tagPortCfg (p - 32) 16 14) (known : s.cutPending i = false) :
    ∃ hs x, s.transmit p q i = State.setPort { s with sch := { s.sch with hists := hs } } p { s.port p with tx := some x }
      ∧ x.pick = (match (generalizing := false) i with | .pick n => some n | _ => none) ∧ x.bytes = s.itemBytes p i ∧ x.cut = false
      ∧ x.poison = false := by
  have short : ¬ (32 ≤ p ∧ s.field .tagPortCfg (p - 32) 16 14 < (s.itemBytes p i).length) :=
    fun ⟨h, h'⟩ => absurd (fits h) (Nat.not_le.2 h')
  obtain ⟨hs, hd⟩ := s.sampleDelay_hists q (s.itemSince i)
  unfold State.transmit
  simp only [if_neg short, known]
  cases i with
  | pick n =>
    cases hn : s.pick n <;> simp only [Option.bind_some, hn, Bool.false_eq_true, if_false] <;>
      exact ⟨hs, _, congrArg (fun t => State.setPort t p _) hd, rfl, rfl, rfl, rfl⟩
  | held f => exact ⟨hs, _, congrArg (fun t => State.setPort t p _) hd, rfl, rfl, rfl, rfl⟩
  | spilled f m x o => exact ⟨hs, _, congrArg (fun t => State.setPort t p _) hd, rfl, rfl, rfl, rfl⟩

/-- R177: a frame whose verdict is still to come starts cut-through. -/
theorem State.transmit_cut {p : Nat} (q : Nat) {n : Nat} {k : Pick} (clear : p < 32) (hk : s.pick n = some k)
    (pending : s.cutPending (.pick n) = true) :
    ∃ hs x, s.transmit p q (.pick n) = State.setPort (s.setPick n { k with cutStarted := true }
        |> fun u => { u with sch := { u.sch with hists := hs } }) p { s.port p with tx := some x }
      ∧ x.pick = some n ∧ x.bytes = k.sent p ∧ x.cut = true ∧ x.poison = false := by
  obtain ⟨hs, hd⟩ := (s.setPick n { k with cutStarted := true }).sampleDelay_hists q (s.itemSince (.pick n))
  refine ⟨hs, { pick := some n, bytes := s.itemBytes p (.pick n), cut := true, poison := false
                fcsAt := (s.txTimes p (s.itemBytes p (.pick n)).length).1
                ends := (s.txTimes p (s.itemBytes p (.pick n)).length).2 }, ?_, rfl, by simp [State.itemBytes, hk], rfl, rfl⟩
  simp only [← hd]
  unfold State.transmit
  simp [hk, pending, Nat.not_le.2 clear]

/-! ### The framer (R221 to R225) -/

/-- R160, R169: a sealer with masks and a seed young enough draws none. -/
theorem State.seedSealer_quiet {g : Nat} (h : 16384 < (s.group g).maskBlocks)
    (h' : s.tb.elapsed < (s.group g).maskAt + 100000) : s.seedSealer g = s := by
  unfold State.seedSealer
  exact if_pos (Or.inr ⟨h, by simpa using h'⟩)

theorem State.seedSealer_queue (g y : Nat) : (s.seedSealer g).queue y = s.queue y := by
  unfold State.seedSealer
  dsimp only
  split <;> rfl

theorem State.discard_queue (i : QItem) (src : Src) (n y : Nat) : (s.discard i src n).queue y = s.queue y := by
  cases i with
  | pick p =>
    simp only [State.discard]
    split <;> simp [State.queue]
  | held f => simp [State.discard, State.occurFrame, State.queue]
  | spilled f m x o => simp [State.discard, State.occurFrame, State.queue]

theorem State.sampleDelay_queue (q n y : Nat) : (s.sampleDelay q n).queue y = s.queue y := by
  obtain ⟨hs, h⟩ := s.sampleDelay_hists q n
  rw [h]; rfl

theorem State.itemSent_queue (i : QItem) (y : Nat) : (s.itemSent i).queue y = s.queue y := by
  cases i <;> simp [State.itemSent, State.queue]

/-- R224: the framer changes no queue. -/
theorem State.placeItem_queue (g n y : Nat) : (s.placeItem g n).queue y = s.queue y := by
  have seed := s.seedSealer_queue g y
  have fill : ∀ (c : Prop) [Decidable c] (G : Group),
      (if c then s.seedSealer g else (s.seedSealer g).setGroup g G).queue y = s.queue y :=
    fun c _ G => by split <;> simp [seed]
  unfold State.placeItem
  dsimp only
  split
  · exact seed
  · split
    · exact fill _ _
    · split
      · rw [State.discard_queue, State.queue_setGroup, seed]
      · split
        · exact fill _ _
        · split
          · exact fill _ _
          · split
            · exact seed
            · rw [State.itemSent_queue, State.queue_setGroup, State.sampleDelay_queue, seed]

theorem State.startWoven_queue (g q : Nat) (i : QItem) (y : Nat) : (s.startWoven g q i).queue y = s.queue y := by
  unfold State.startWoven
  dsimp only
  split <;> simp only [State.placeItem_queue, State.queue_setGroup]

/-- R277: what the framer holds ready does not change which frames fit a port's window. -/
theorem State.fitsWindow_setGroup {g : Nat} {G : Group} (hG : G.mapInForce = (s.group g).mapInForce) (p n : Nat)
    (w : Option Nat) : (s.setGroup g G).fitsWindow p n w = s.fitsWindow p n w := by
  have map : ∀ x, ((s.setGroup g G).group x).mapInForce = (s.group x).mapInForce := fun x => by
    by_cases hx : x = g
    · rw [hx, State.group_setGroup, hG]
    · rw [State.group_setGroup_other _ _ hx]
  have time : (s.setGroup g G).portTime p n = s.portTime p n := by
    have kind : (s.setGroup g G).portKind p = s.portKind p := rfl
    have mode : (s.setGroup g G).portMode p = s.portMode p := rfl
    cases h : s.portKind p <;> simp only [State.portTime, kind, mode, h, map]
  simp only [State.fitsWindow, time]

/-- R224, R277: a frame that a group's framer holds ready, accepts and has room and masks for goes into the cloth behind its
header. -/
theorem State.placeItem_ready {g n : Nat} {G : Group} {i : QItem} {b : Bool} {assoc : BitVec 24} {kn : BitVec 2} {pn : DWord}
    {frame : Bytes} (hG : s.group g = G) (hi : G.ready = some i) (hb : G.sealing = some b) (free : s.held = false)
    (masks : 16384 < G.maskBlocks) (young : s.tb.elapsed < G.maskAt + 100000) (fits : s.readyFits g i = true)
    (accepted : s.wovenItem i = some (assoc, kn, pn, frame)) (room : Nat)
    (hroom : room = 16 * frameBytes (dataMembers G.mapInForce).length - G.placed)
    (gap : ¬ (24 + frame.length < room ∧ room < 48 + frame.length))
    (lastBefore : ¬ (G.ckDone = false ∧ G.announced = 8 ∧ room < 24 + frame.length)) :
    s.placeItem g n = ((s.sampleDelay G.readyQ (s.itemSince i)).setGroup g ({ G with ready := none }.place
      (hdrContent 1 kn.toNat frame.length assoc.toNat pn.toNat) frame (G.ck (if b then 1 else 0)))).itemSent i := by
  subst hG
  have gap' : ¬ (24 + frame.length < room ∧ room - (24 + frame.length) < 24) := by omega
  have last' : ¬ ((!(s.group g).ckDone && (s.group g).announced == 8) = true ∧ room < 24 + frame.length) := by
    simpa using fun h1 h2 => Nat.not_lt.1 fun h3 => lastBefore ⟨h1, h2, h3⟩
  have enough : ¬ (s.group g).maskBlocks < sealBlocks 0 := by simp only [sealBlocks]; omega
  unfold State.placeItem
  simp only [s.seedSealer_quiet masks young, hb, free, hi, Option.filter, fits, accepted, ← hroom, if_neg gap', if_neg last', if_neg enough,
    Bool.false_eq_true, if_false, if_true]

/-! ### The end of a pick (R31, R124) -/

theorem State.giveRef_tab (k : Pick) : ∃ tb, (s.giveRef k).1 = { s with tab := tb } := by
  unfold State.giveRef
  (repeat' split) <;> exact ⟨_, rfl⟩

/-- R31: a pick's jobs cancelled and its slot reference given back. -/
theorem State.withdraw_parts (p : Nat) (k : Pick) : ∃ c d r tb, ((s.cancelJobs p).giveRef k).1
    = { s with cie := c, kcu := { s.kcu with draws := d, requests := r }, tab := tb } := by
  obtain ⟨c, d, r, hc⟩ := s.cancelJobs_cie p
  obtain ⟨tb, ht⟩ := (s.cancelJobs p).giveRef_tab k
  exact ⟨c, d, r, tb, by rw [ht, hc]⟩

/-- R31, R106: the end of a pick frees its slot, unless copies of it are still to be delivered. -/
theorem State.endPick_cases {p : Nat} (n : Nat) {k : Pick} (h : s.pick p = some k) :
    ∃ c d r tb, s.endPick p n = State.delPick { s with cie := c, kcu := { s.kcu with draws := d, requests := r }, tab := tb } p
      ∨ k.mirrors ≠ [] ∧ ∃ k', s.endPick p n
        = State.setPick { s with cie := c, kcu := { s.kcu with draws := d, requests := r }, tab := tb } p k' := by
  unfold State.endPick
  simp only [h]
  generalize hx : State.giveRef (s.cancelJobs p) _ = x
  obtain ⟨c, d, r, tb, hu⟩ := s.withdraw_parts p _
  rw [hx] at hu
  refine ⟨c, d, r, tb, ?_⟩
  rw [← hu]
  by_cases hm : k.mirrors = []
  · exact Or.inl (if_pos (by simp [hm]))
  · exact (ite_eq_or_eq _ _ _).imp id fun he => ⟨hm, x.2, he⟩

/-- R31: what the end of a pick changes: the picks, the engines with the DRBG's counts, and the slot references. -/
theorem State.endPick_parts (p n : Nat) : ∃ ps c d r tb, s.endPick p n
    = { s with beam := { s.beam with picks := ps }, cie := c, kcu := { s.kcu with draws := d, requests := r }, tab := tb } := by
  cases h : s.pick p with
  | none => exact ⟨s.beam.picks, s.cie, s.kcu.draws, s.kcu.requests, s.tab, by simp [State.endPick, h]⟩
  | some k =>
    obtain ⟨c, d, r, tb, he | ⟨-, k', he⟩⟩ := s.endPick_cases n h
    · exact ⟨_, c, d, r, tb, he⟩
    · exact ⟨_, c, d, r, tb, he⟩

theorem State.endPick_pick_freed {p n : Nat} {k : Pick} (h : s.pick p = some k) (hm : k.mirrors = []) :
    (s.endPick p n).pick p = none := by
  obtain ⟨c, d, r, tb, he | ⟨hne, -⟩⟩ := s.endPick_cases n h
  · rw [he]; exact State.pick_delPick _ p
  · exact absurd hm hne

theorem State.endPick_pick_other {p n m : Nat} (hm : m ≠ p) : (s.endPick p n).pick m = s.pick m := by
  cases h : s.pick p with
  | none => simp [State.endPick, h]
  | some k =>
    obtain ⟨c, d, r, tb, he | ⟨-, k', he⟩⟩ := s.endPick_cases n h
    · rw [he]; exact State.pick_delPick_other _ hm
    · rw [he]; exact State.pick_setPick_other _ k' hm

end Sys2Proof.Machine
end

section
/-! SUPPORT. The commands that carry a frame over its port, for O38. -/

namespace Sys2Proof.Machine

/-- R273: with no refill tick due a debit comes at once. -/
theorem State.refillDue_none {s : State} (h : s.tb.elapsed < s.sch.lastTick + 64) : s.refillDue = s := if_pos h

/-- R267: an Ethernet port that is free takes the head that the selection returns. -/
theorem exec_schedSelect_eth {s r : State} {port q : Nat} {i : QItem} {rest : List QItem} (kind : s.portKind port = .eth)
    (en : s.portEn port = true) (link : (s.port port).link = true) (idle : (s.port port).tx = none) (free : s.held = false)
    (on : s.sliceOn port = true) (tag : s.tagOff port = false) (tick : s.tb.elapsed < s.sch.lastTick + 64)
    (unheld : s.portHeld port = false)
    (sel : s.selectQueue port (fun s i => s.macStarts port i) [7, 6, 5, 4, 3, 2, 1, 0] = (some q, r))
    (head : (r.queue q).fifo = i :: rest) :
    exec (.schedSelect port) s = .next ((r.takeHead port q i rest).transmit port q i) := by
  simp [exec, execSchedSelect, State.refillDue_none tick, kind, en, link, idle, free, on, tag, unheld,
    State.takeNext_some s sel head]

/-- R268: a woven group's framer takes the head that the selection returns. -/
theorem exec_schedSelect_woven {s r : State} {port q g : Nat} {i : QItem} {rest : List QItem}
    (kind : s.portKind port = .woven g) (ready : s.clothReady g = true) (tick : s.tb.elapsed < s.sch.lastTick + 64)
    (free : s.held = false) (on : s.sliceOn port = true) (unheld : s.portHeld port = false)
    (sel : s.selectQueue port (fun s i => s.framerStarts g i) [7, 6, 5, 4, 3, 2, 1, 0] = (some q, r))
    (head : (r.queue q).fifo = i :: rest) :
    exec (.schedSelect port) s = .next ((r.takeHead port q i rest).startWoven g q i) := by
  simp [exec, execSchedSelect, State.refillDue_none tick, kind, ready, free, on, unheld, State.takeNext_some s sel head]

/-- R177: a cut-through frame that the selection of its clear port returns starts. -/
theorem exec_cutThroughStart_selected {s r : State} {port q p : Nat} {rest : List QItem} (kind : s.portKind port = .eth)
    (en : s.portEn port = true) (link : (s.port port).link = true) (idle : (s.port port).tx = none) (free : s.held = false)
    (on : s.sliceOn port = true) (tag : s.tagOff port = false) (tick : s.tb.elapsed < s.sch.lastTick + 64)
    (unheld : s.portHeld port = false)
    (sel : s.selectQueue port (fun s i => s.macStarts port i) [7, 6, 5, 4, 3, 2, 1, 0] = (some q, r))
    (head : (r.queue q).fifo = .pick p :: rest) (pending : (r.takeHead port q (.pick p) rest).cutPending (.pick p) = true) :
    exec (.cutThroughStart port p) s = .next ((r.takeHead port q (.pick p) rest).transmit port q (.pick p)) := by
  have mac : s.macReady port = true := by simp [State.macReady, kind, en, link, idle, free, on, tag, unheld]
  simp [exec, execCutThroughStart, State.refillDue_none tick, mac, State.takeNext_some s sel head, pending]

/-- R267: what an Ethernet port that takes a frame's head sends. -/
theorem portSends_eth {r : State} {port q : Nat} {i : QItem} {rest : List QItem} (known : r.cutPending i = false)
    (fits : 32 ≤ port → (r.itemBytes port i).length ≤ r.field .tagPortCfg (port - 32) 16 14) {t u : State}
    (hu : u = r.takeHead port q i rest) (ht : t = u.transmit port q i) :
    ∃ x, (t.queue q).fifo = rest ∧ (t.port port).tx = some x ∧ x.bytes = r.itemBytes port i ∧ x.cut = false
      ∧ x.poison = false ∧ x.pick = (match (generalizing := false) i with | .pick n => some n | _ => none)
      ∧ (∀ y, y ≠ q → t.queue y = r.queue y) ∧ t.beam = r.beam ∧ t.out = r.out := by
  obtain ⟨qs, ps, hs⟩ := r.takeHead_sch port q i rest
  have fifo := r.takeHead_fifo port q i rest
  have others := fun y (hy : y ≠ q) => r.takeHead_queue_other (p := port) i rest hy
  rw [← hu] at hs fifo others
  have bytes : u.itemBytes port i = r.itemBytes port i := by rw [hs]; rfl
  have maxlen : u.field .tagPortCfg (port - 32) 16 14 = r.field .tagPortCfg (port - 32) 16 14 := by rw [hs]; rfl
  have known' : u.cutPending i = false := by rw [← known, hs]; rfl
  obtain ⟨hi, x, he, hpick, hbytes, hcut, hpoison⟩ := u.transmit_whole q (by rwa [bytes, maxlen]) known'
  have tx : (t.port port).tx = some x := by rw [ht, he, State.port_setPort]
  refine ⟨x, ?_, tx, hbytes.trans bytes, hcut, hpoison, hpick, fun y hy => ?_, ?_, ?_⟩
  · rw [ht, he]; exact fifo
  · rw [ht, he]; exact others y hy
  · rw [ht, he, hs]; rfl
  · rw [ht, he, hs]; rfl

/-- R224, R268: a sealed woven frame that the framer selected goes into the cloth behind its header. -/
theorem portSends_woven {u : State} {g q : Nat} {i : QItem} {G : Group} {b : Bool} {assoc : BitVec 24} {kn : BitVec 2} {pn : DWord}
    {frame : Bytes} {room : Nat} (hG : G = u.group g) (hb : G.sealing = some b) (free : u.held = false)
    (masks : 16384 < G.maskBlocks) (young : u.tb.elapsed < G.maskAt + 100000)
    (accepted : u.wovenItem i = some (assoc, kn, pn, frame))
    (fits : u.fitsWindow (u.groupPort g) (u.chargedLen (u.groupPort g) i) (u.openWindow (u.groupPort g) (u.qClass q)) = true)
    (hroom : room = 16 * frameBytes (dataMembers G.mapInForce).length - G.placed)
    (gap : ¬ (24 + frame.length < room ∧ room < 48 + frame.length))
    (lastBefore : ¬ (G.ckDone = false ∧ G.announced = 8 ∧ room < 24 + frame.length)) :
    (u.startWoven g q i).group g = { G with ready := none, readyQ := q }.place
      (hdrContent 1 kn.toNat frame.length assoc.toNat pn.toNat) frame (G.ck (if b then 1 else 0)) := by
  subst hG
  have window : (u.setGroup g { u.group g with ready := some i, readyQ := q }).readyFits g i = true := by
    have map : Group.mapInForce { u.group g with ready := some i, readyQ := q } = (u.group g).mapInForce := rfl
    rw [← fits, ← State.fitsWindow_setGroup u map, State.readyFits, State.group_setGroup]
    rfl
  have placed := State.placeItem_ready (u.setGroup g { u.group g with ready := some i, readyQ := q }) (n := 232)
    (u.group_setGroup g _) rfl hb free masks young window accepted room hroom gap lastBefore
  have own : ∀ (v : State) (H : Group), (((v.setGroup g H).itemSent i).group g) = H := fun v H => by
    cases i <;> simp [State.itemSent, State.group, State.setGroup, tget_tset_same]
  unfold State.startWoven
  simp only [placed, own]
  exact own _ _

/-- R177: what a cut-through frame's start leaves. -/
theorem portSends_cut {r : State} {port q p : Nat} {rest : List QItem} {k : Pick} {c : Cipher} (clear : port < 32)
    (hk : r.pick p = some k) (hc : k.cipher = some c) (isOpen : c.isOpen = true) (cut : c.cut = true) (running : c.phase ≠ .done)
    {u : State} (hu : u = r.takeHead port q (.pick p) rest) :
    u.cutPending (.pick p) = true ∧ ∃ y, (u.transmit port q (.pick p)).pick p = some { k with cutStarted := true }
      ∧ ((u.transmit port q (.pick p)).port port).tx = some y ∧ y.pick = some p ∧ y.bytes = k.sent port ∧ y.cut = true
      ∧ y.poison = false ∧ ((u.transmit port q (.pick p)).queue q).fifo = rest ∧ (u.transmit port q (.pick p)).out = r.out := by
  obtain ⟨qs, ps, hs⟩ := r.takeHead_sch port q (.pick p) rest
  have fifo := r.takeHead_fifo port q (.pick p) rest
  rw [← hu] at hs fifo
  have hk' : u.pick p = some k := by rw [hs]; exact hk
  have pending : u.cutPending (.pick p) = true := by simp [State.cutPending, hk', hc, isOpen, cut, running]
  obtain ⟨hi, y, he, hpick, hbytes, hcut, hpoison⟩ := u.transmit_cut q clear hk' pending
  refine ⟨pending, y, ?_, ?_, hpick, hbytes, hcut, hpoison, ?_, ?_⟩
  · rw [he]; exact State.pick_setPick u p _
  · rw [he, State.port_setPort]
  · rw [he]; exact fifo
  · rw [he, hs]; rfl

/-- R95: a cut-through record changes no pick and no port. -/
theorem State.cutRecord_reads (s : State) (k : Pick) (poisoned : Bool) (port : Nat) :
    (s.cutRecord k poisoned port).beam = s.beam ∧ (s.cutRecord k poisoned port).sch = s.sch := by
  unfold State.cutRecord
  (repeat' split) <;> simp

/-- R95, R178: at the FCS a frame with an OK verdict goes on as a whole frame. -/
theorem exec_cutFcsReached_ok {s : State} {port p : Nat} {x : Tx} {k : Pick} {c : Cipher} (tx : (s.port port).tx = some x)
    (hk : s.pick p = some k) (hc : k.cipher = some c) (hx : x.pick = some p) (cut : x.cut = true)
    (started : k.cutStarted = true) (due : x.fcsAt ≤ s.tb.elapsed) (ok : c.phase = .done) (good : k.cutFailed = false) :
    exec (.cutFcsReached port) s = .next (s.setPort port { s.port port with tx := some { x with cut := false } }) := by
  simp [exec, execCutFcsReached, tx, hk, hc, hx, cut, started, Nat.not_lt.2 due, ok, good]

/-- R95, R178: a frame whose verdict failed or has not come is poisoned and its pick ends. -/
theorem exec_cutFcsReached_bad {s : State} {port p : Nat} {x : Tx} {k : Pick} {c : Cipher} (tx : (s.port port).tx = some x)
    (hk : s.pick p = some k) (hc : k.cipher = some c) (hx : x.pick = some p) (cut : x.cut = true)
    (started : k.cutStarted = true) (due : x.fcsAt ≤ s.tb.elapsed) (bad : c.phase ≠ .done ∨ k.cutFailed = true)
    (alone : k.mirrors = []) : ∃ t, exec (.cutFcsReached port) s = .next t
      ∧ (t.port port).tx = some { x with cut := false, poison := true, pick := none } ∧ t.pick p = none := by
  have failed : ((c.phase == .done) && !k.cutFailed) = false := by
    rcases bad with h | h <;> simp [h]
  have counted : ∃ u : State, u.pick p = s.pick p ∧ exec (.cutFcsReached port) s = .next
      ((u.setPort port { u.port port with tx := some { x with cut := false, poison := true, pick := none } }).endPick p 0) := by
    obtain ⟨hbeam, -⟩ := (s.occurPick k .cutPoison port).cutRecord_reads k true port
    refine ⟨if c.phase == .done then (s.occurPick k .cutPoison port).cutRecord k true port
      else ((s.occurPick k .cutPoison port).cutRecord k true port).occurPick k .cutLate port, ?_, ?_⟩
    · split <;> simp [State.pick, hbeam]
    · simp only [exec, execCutFcsReached, tx, hx, hk, hc, failed, Bool.false_eq_true, if_false]
      rw [if_neg (by simp [cut, started, Nat.not_lt.2 due])]
  obtain ⟨u, hu, he⟩ := counted
  refine ⟨_, he, ?_, State.endPick_pick_freed _ (k := k) (by rw [State.pick_setPort, hu, hk]) alone⟩
  have kept : ∀ v : State, (v.endPick p 0).port port = v.port port := fun v => by simp [State.port]
  rw [kept, State.port_setPort]

/-- R10, R124: the end of a frame on its port. -/
theorem exec_frameTxEnd {s : State} {port : Nat} {x : Tx} (tx : (s.port port).tx = some x) (whole : x.cut = false)
    (due : x.ends ≤ s.tb.elapsed) {u : State} (hu : u = State.setPort { s with out := s.out ++ [.frame port x.bytes
      (if x.poison then (fcs x.bytes).map (fun b => ~~~b) else fcs x.bytes)] } port { s.port port with tx := none }) :
    exec (.frameTxEnd port) s = .next (match x.pick with
      | some p => u.endPick p 0
      | none => u) := by
  subst hu
  simp only [exec, execFrameTxEnd, tx]
  rw [if_neg (by simp [whole, Nat.not_lt.2 due])]
  rfl

/-- Settles O38, a clause of the statement at a time: the `exec_…` lemma says what the command does in that case, and the
`portSends_…` lemma or the facts about the end of a pick say what the state it leaves holds. -/
theorem portSendsFrame : Obligations.PortSendsFrame := by
  intro s port p
  refine ⟨?_, ?_, ?_, ?_, ?_⟩
  · intro r q i rest kind en link idle free on tag tick unheld sel head _ known _ fits hregs htb hvar
    have here : r.field .tagPortCfg (port - 32) 16 14 = s.field .tagPortCfg (port - 32) 16 14 := by
      simp only [State.field, State.reg, hregs, hvar]
    obtain ⟨x, h⟩ := portSends_eth (q := q) (rest := rest) known (by rwa [here]) rfl rfl
    exact ⟨_, x, exec_schedSelect_eth kind en link idle free on tag tick unheld sel head, h⟩
  · intro r q i rest g G u kind ready tick free on unheld sel head hu hG
    refine ⟨_, exec_schedSelect_woven kind ready tick free on unheld sel head, ?_, ?_⟩
    · rw [State.startWoven_queue]; exact r.takeHead_fifo port q i rest
    · intro b assoc kn pn frame room hb hfree masks young accepted fits hroom gap lastBefore
      rw [← hu]
      exact portSends_woven hG hb hfree masks young accepted fits hroom gap lastBefore
  · intro r q rest k c kind en link idle free on tag tick unheld sel head hk hc isOpen cut running clear
    obtain ⟨pending, y, h⟩ := portSends_cut (q := q) (rest := rest) clear hk hc isOpen cut running rfl
    exact ⟨_, y, exec_cutThroughStart_selected kind en link idle free on tag tick unheld sel head pending, h⟩
  · intro x k c tx hk hc hx cut started due
    exact ⟨exec_cutFcsReached_ok tx hk hc hx cut started due, exec_cutFcsReached_bad tx hk hc hx cut started due⟩
  · intro x tx whole due
    refine ⟨_, exec_frameTxEnd tx whole due rfl, ?_⟩
    cases hx : x.pick with
    | none => exact ⟨by rw [State.port_setPort], rfl, fun n k h => by simp at h, fun _ _ => rfl, rfl⟩
    | some n =>
      dsimp only
      generalize hu : State.setPort _ port _ = u
      obtain ⟨ps, c, d, r, tb, he⟩ := u.endPick_parts n 0
      refine ⟨?_, ?_, fun m k hm hk hmir => ?_, fun m hm => ?_, ?_⟩
      · rw [he, ← hu]; exact congrArg Port.tx (State.port_setPort _ _ _)
      · rw [he, ← hu]; rfl
      · cases hm
        exact State.endPick_pick_freed u (by rw [← hu]; exact hk) hmir
      · rw [State.endPick_pick_other u (fun h => hm (congrArg some h.symm)), ← hu]; rfl
      · rw [he, ← hu]; rfl

end Sys2Proof.Machine
end

section
/-! The frame of the queue of waiting commands (`Obligations.ExecKeepsQueue`): one rule `State.f_pending` for each function `f` of
the model that answers a state, in the order of the model, each proved from the rules of the functions it calls. `simp` carries
`pending` through conditionals and folds by the rules at the head of this part. Rules that hold by computation are proved `by rfl`, not by
the term `rfl`: `dsimp` would take those, and `simp` then cannot discharge the side condition of `foldl_pending`. -/

namespace Sys2Proof.Machine

@[simp] theorem pending_ite (p : Prop) [Decidable p] (s t : State) :
    (if p then s else t).pending = if p then s.pending else t.pending := apply_ite State.pending p s t

@[simp] theorem foldl_pending {α : Type} (f : State → α → State) (l : List α) (s : State)
    (h : ∀ t x, (f t x).pending = t.pending) : (l.foldl f s).pending = s.pending :=
  List.foldlRecOn (motive := fun t : State => t.pending = s.pending) l f rfl fun t ht x _ => (h t x).trans ht

@[simp] theorem pending_fst_ite {α : Type} (p : Prop) [Decidable p] (x y : State × α) :
    (if p then x else y).1.pending = if p then x.1.pending else y.1.pending := apply_ite (fun z => z.1.pending) p x y

@[simp] theorem pending_snd_ite {α : Type} (p : Prop) [Decidable p] (x y : α × State) :
    (if p then x else y).2.pending = if p then x.2.pending else y.2.pending := apply_ite (fun z => z.2.pending) p x y

/-- What an instruction's effect leaves has q as the queue of waiting commands. -/
def Act.Keeps (q : List Instr) : Act → Prop
  | .stall t => t.pending = q
  | .trap _ => True
  | .go t _ => t.pending = q
  | .free t => t.pending = q

@[simp] theorem Act.keeps_stall (q : List Instr) (t : State) : (Act.stall t).Keeps q ↔ t.pending = q := Iff.rfl

@[simp] theorem Act.keeps_trap (q : List Instr) (t : Trap) : (Act.trap t).Keeps q := trivial

@[simp] theorem Act.keeps_go (q : List Instr) (t : State) (pc : Nat) : (Act.go t pc).Keeps q ↔ t.pending = q := Iff.rfl

@[simp] theorem Act.keeps_free (q : List Instr) (t : State) : (Act.free t).Keeps q ↔ t.pending = q := Iff.rfl

@[simp] theorem Act.keeps_ite (q : List Instr) (p : Prop) [Decidable p] (x y : Act) :
    (if p then x else y).Keeps q ↔ if p then x.Keeps q else y.Keeps q := by
  split <;> rfl

/-- A state that a command's check answers has q as the queue of waiting commands. -/
def OkKeeps (q : List Instr) (x : Except HStat State) : Prop := ∀ t, x = .ok t → t.pending = q

@[simp] theorem okKeeps_error (q : List Instr) (st : HStat) : OkKeeps q (.error st) := by simp [OkKeeps]

@[simp] theorem okKeeps_ok (q : List Instr) (t : State) : OkKeeps q (.ok t) ↔ t.pending = q := by simp [OkKeeps]

@[simp] theorem okKeeps_ite (q : List Instr) (p : Prop) [Decidable p] (x y : Except HStat State) :
    OkKeeps q (if p then x else y) ↔ if p then OkKeeps q x else OkKeeps q y := by
  split <;> rfl

/-- A command answers a next state, in which the commands that wait are those of s. -/
def KeepsQueue (s : State) (o : Host.Outcome State Fault Refusal) : Prop := ∃ t, o = .next t ∧ t.pending = s.pending

@[simp] theorem keepsQueue_next (s t : State) : KeepsQueue s (.next t) ↔ t.pending = s.pending := by
  simp [KeepsQueue]

variable (s : State)

/-! ### The shared operations -/

@[simp] theorem State.completeStop_pending (f r : Nat) (st : HStat) (code : BitVec 3) :
    (s.completeStop f r st code).pending = s.pending := by
  simp [State.completeStop]

@[simp] theorem State.draw_pending : s.draw.2.pending = s.pending := by rfl

@[simp] theorem State.freeNo_pending : s.freeNo.2.pending = s.pending := by rfl

@[simp] theorem State.freeBits_pending : s.freeBits.2.pending = s.pending := by rfl

@[simp] theorem State.freeBytes_pending (n : Nat) : (s.freeBytes n).2.pending = s.pending := by
  induction n generalizing s with
  | zero => rfl
  | succ n ih => simp [State.freeBytes, ih]

/-! ### Instruction issue -/

@[simp] theorem State.drawSeeds_pending (n : Nat) : (s.drawSeeds n).pending = s.pending := by
  induction n generalizing s with
  | zero => rfl
  | succ n ih => simp [State.drawSeeds, ih]

@[simp] theorem State.takeMask_pending (p n : Nat) : (s.takeMask p n).1.pending = s.pending := by
  simp only [State.takeMask]
  split
  · simp
  · split
    · rfl
    · exact (State.setPair_pending _ _ _).trans (s.drawSeeds_pending _)

@[simp] theorem State.spendMask_pending (j : Job) : (s.spendMask j).pending = s.pending := by
  simp only [State.spendMask]
  split <;> simp

@[simp] theorem State.dropByT32_pending (p reason : Nat) : (s.dropByT32 p reason).pending = s.pending := by
  unfold State.dropByT32
  split <;> simp

@[simp] theorem State.issue_pending (b : Nat) (w : Word) (post : Bool) (regs : List Reg) (eff : State → Bobbin → Pick → Act)
    (h : ∀ t B k, (eff t B k).Keeps t.pending) : (s.issue b w post regs eff).pending = s.pending := by
  unfold State.issue
  cases hk : s.bobPick b with
  | none => rfl
  | some k =>
    simp only [pending_ite]
    have hact : (if (!post && k.disp != 0) = true then Act.trap .illegal
        else eff (s.setBob b { s.bob b with tbNs := none }) (s.bob b) k).Keeps s.pending := by
      have := h (s.setBob b { s.bob b with tbNs := none }) (s.bob b) k
      split <;> simp_all
    generalize (if (!post && k.disp != 0) = true then Act.trap .illegal
        else eff (s.setBob b { s.bob b with tbNs := none }) (s.bob b) k) = act at hact ⊢
    cases act <;> simp_all

@[simp] theorem State.issueReg_pending (b : Nat) (w : Word) (d : Reg) (srcs : List Reg) (f : Bobbin → DWord) :
    (s.issueReg b w d srcs f).pending = s.pending :=
  s.issue_pending _ _ _ _ _ fun _ _ _ => rfl

@[simp] theorem goAsync_keeps (q : List Instr) (b : Nat) (B : Bobbin) (d : Reg) (op : AsyncOp) :
    (goAsync s b B d op).Keeps q ↔ s.pending = q := by
  simp [goAsync]

/-! ### Register operations -/

@[simp] theorem State.alu2_pending (b func : Nat) (d a c : Reg) (f : DWord → DWord → DWord) :
    (s.alu2 b func d a c f).pending = s.pending := by
  simp [State.alu2]

@[simp] theorem State.alu1_pending (b func : Nat) (d a c : Reg) (f : DWord → DWord) :
    (s.alu1 b func d a c f).pending = s.pending := by
  simp [State.alu1]

@[simp] theorem State.aluI_pending (b op : Nat) (d a : Reg) (imm : BitVec 16) (f : DWord → DWord) :
    (s.aluI b op d a imm f).pending = s.pending := by
  simp [State.aluI]

@[simp] theorem State.bitField_pending (b op : Nat) (d a : Reg) (imm : BitVec 16) (f : Bobbin → DWord) :
    (s.bitField b op d a imm f).pending = s.pending :=
  s.issue_pending _ _ _ _ _ fun t B k => by simp

theorem execAdd_keepsQueue (b : Nat) (d a c : Reg) : KeepsQueue s (execAdd b d a c s) := by simp [execAdd]

theorem execSub_keepsQueue (b : Nat) (d a c : Reg) : KeepsQueue s (execSub b d a c s) := by simp [execSub]

theorem execBitAnd_keepsQueue (b : Nat) (d a c : Reg) : KeepsQueue s (execBitAnd b d a c s) := by simp [execBitAnd]

theorem execBitOr_keepsQueue (b : Nat) (d a c : Reg) : KeepsQueue s (execBitOr b d a c s) := by simp [execBitOr]

theorem execBitXor_keepsQueue (b : Nat) (d a c : Reg) : KeepsQueue s (execBitXor b d a c s) := by simp [execBitXor]

theorem execShl_keepsQueue (b : Nat) (d a c : Reg) : KeepsQueue s (execShl b d a c s) := by simp [execShl]

theorem execShr_keepsQueue (b : Nat) (d a c : Reg) : KeepsQueue s (execShr b d a c s) := by simp [execShr]

theorem execSar_keepsQueue (b : Nat) (d a c : Reg) : KeepsQueue s (execSar b d a c s) := by simp [execSar]

theorem execMul_keepsQueue (b : Nat) (d a c : Reg) : KeepsQueue s (execMul b d a c s) := by simp [execMul]

theorem execMulhu_keepsQueue (b : Nat) (d a c : Reg) : KeepsQueue s (execMulhu b d a c s) := by simp [execMulhu]

theorem execMinS_keepsQueue (b : Nat) (d a c : Reg) : KeepsQueue s (execMinS b d a c s) := by simp [execMinS]

theorem execMaxS_keepsQueue (b : Nat) (d a c : Reg) : KeepsQueue s (execMaxS b d a c s) := by simp [execMaxS]

theorem execMinU_keepsQueue (b : Nat) (d a c : Reg) : KeepsQueue s (execMinU b d a c s) := by simp [execMinU]

theorem execMaxU_keepsQueue (b : Nat) (d a c : Reg) : KeepsQueue s (execMaxU b d a c s) := by simp [execMaxU]

theorem execPopc_keepsQueue (b : Nat) (d a c : Reg) : KeepsQueue s (execPopc b d a c s) := by simp [execPopc]

theorem execClz_keepsQueue (b : Nat) (d a c : Reg) : KeepsQueue s (execClz b d a c s) := by simp [execClz]

theorem execBswap16_keepsQueue (b : Nat) (d a c : Reg) : KeepsQueue s (execBswap16 b d a c s) := by simp [execBswap16]

theorem execBswap32_keepsQueue (b : Nat) (d a c : Reg) : KeepsQueue s (execBswap32 b d a c s) := by simp [execBswap32]

theorem execBswap64_keepsQueue (b : Nat) (d a c : Reg) : KeepsQueue s (execBswap64 b d a c s) := by simp [execBswap64]

theorem execAddi_keepsQueue (b : Nat) (d a : Reg) (imm : BitVec 16) : KeepsQueue s (execAddi b d a imm s) := by simp [execAddi]

theorem execAndi_keepsQueue (b : Nat) (d a : Reg) (imm : BitVec 16) : KeepsQueue s (execAndi b d a imm s) := by simp [execAndi]

theorem execOri_keepsQueue (b : Nat) (d a : Reg) (imm : BitVec 16) : KeepsQueue s (execOri b d a imm s) := by simp [execOri]

theorem execXori_keepsQueue (b : Nat) (d a : Reg) (imm : BitVec 16) : KeepsQueue s (execXori b d a imm s) := by simp [execXori]

theorem execLi_keepsQueue (b : Nat) (d a : Reg) (imm : BitVec 16) : KeepsQueue s (execLi b d a imm s) := by simp [execLi]

theorem execLis_keepsQueue (b : Nat) (d a : Reg) (imm : BitVec 16) : KeepsQueue s (execLis b d a imm s) := by simp [execLis]

theorem execExtF_keepsQueue (b : Nat) (d a : Reg) (imm : BitVec 16) : KeepsQueue s (execExtF b d a imm s) := by simp [execExtF]

theorem execDepF_keepsQueue (b : Nat) (d a : Reg) (imm : BitVec 16) : KeepsQueue s (execDepF b d a imm s) := by simp [execDepF]

/-! ### Tables -/

@[simp] theorem State.askWake_pending (d : Nat) (why : WakeWhy) : (s.askWake d why).pending = s.pending := by
  simp [State.askWake]

@[simp] theorem State.useChannel_pending (ch : Nat) : (s.useChannel ch).pending = s.pending := by simp [State.useChannel]

@[simp] theorem State.useChannels_pending (chs : List Nat) : (s.useChannels chs).pending = s.pending := by
  simp [State.useChannels]

@[simp] theorem State.suspectHit_pending (line : Nat) (buffer : optParam Bool false) :
    (s.suspectHit line buffer).pending = s.pending := by
  simp [State.suspectHit]

@[simp] theorem State.fetched_pending (ch : Nat) (buffer : Bool) (line : Nat) :
    (s.fetched ch buffer line).pending = s.pending := by rfl

@[simp] theorem State.answered_pending (buffer : Bool) (lines : List Nat) : (s.answered buffer lines).pending = s.pending := by
  simp [State.answered]

@[simp] theorem State.memFault_pending (b pc : Nat) : (s.memFault b pc).pending = s.pending := by simp [State.memFault]

/-! ### Frame window, pick record and scratch -/

theorem execLdw_keepsQueue (b : Nat) (d a : Reg) (size : BitVec 2) (sub : BitVec 4) (off : BitVec 10) :
    KeepsQueue s (execLdw b d a size sub off s) := by
  simp [execLdw]

@[simp] theorem writeCells_keeps (b : Nat) (B : Bobbin) (k : Pick) (lo hi : Int) (f : Pick → Pick) :
    (writeCells s b B k lo hi f).Keeps s.pending := by
  simp [writeCells]

theorem execStw_keepsQueue (b : Nat) (d a : Reg) (size : BitVec 2) (sub : BitVec 4) (off : BitVec 10) :
    KeepsQueue s (execStw b d a size sub off s) := by
  simp [execStw]

theorem execWedit_keepsQueue (b : Nat) (d a : Reg) (size : BitVec 2) (sub : BitVec 4) (off : BitVec 10) :
    KeepsQueue s (execWedit b d a size sub off s) := by
  simp [execWedit]

theorem execLdp_keepsQueue (b : Nat) (d a : Reg) (size : BitVec 2) (sub : BitVec 4) (off : BitVec 10) :
    KeepsQueue s (execLdp b d a size sub off s) := by
  simp [execLdp]

theorem execStp_keepsQueue (b : Nat) (d a : Reg) (size : BitVec 2) (sub : BitVec 4) (off : BitVec 10) :
    KeepsQueue s (execStp b d a size sub off s) := by
  simp [execStp]

theorem execLds_keepsQueue (b : Nat) (d a : Reg) (size : BitVec 2) (sub : BitVec 4) (off : BitVec 10) :
    KeepsQueue s (execLds b d a size sub off s) := by
  simp [execLds]

@[simp] theorem State.scratchWrite_pending (c addr : Nat) (bs : Bytes) :
    (s.scratchWrite c addr bs).pending = s.pending := by rfl

theorem execSts_keepsQueue (b : Nat) (d a : Reg) (size : BitVec 2) (sub : BitVec 4) (off : BitVec 10) :
    KeepsQueue s (execSts b d a size sub off s) := by
  simp [execSts]

theorem execFaddS_keepsQueue (b : Nat) (d a : Reg) (size : BitVec 2) (sub : BitVec 4) (off : BitVec 10) :
    KeepsQueue s (execFaddS b d a size sub off s) := by
  simp [execFaddS]

theorem execFence_keepsQueue (b : Nat) (d a c : Reg) (imm : BitVec 6) : KeepsQueue s (execFence b d a c imm s) := by
  simp [execFence]

theorem execLdsDone_keepsQueue (b : Nat) (d : Reg) : KeepsQueue s (execLdsDone b d s) := by
  simp only [execLdsDone, keepsQueue_next]
  split <;> simp

theorem execFaddSDone_keepsQueue (b : Nat) (d : Reg) : KeepsQueue s (execFaddSDone b d s) := by
  simp only [execFaddSDone, keepsQueue_next]
  split <;> simp

/-! ### Unit instructions -/

theorem execLookFt_keepsQueue (b : Nat) (d a c : Reg) (imm : BitVec 6) : KeepsQueue s (execLookFt b d a c imm s) := by
  simp [execLookFt]

theorem execLookMt_keepsQueue (b : Nat) (d a c : Reg) (imm : BitVec 6) : KeepsQueue s (execLookMt b d a c imm s) := by
  simp [execLookMt]

theorem execLookAt_keepsQueue (b : Nat) (d a c : Reg) (imm : BitVec 6) : KeepsQueue s (execLookAt b d a c imm s) := by
  simp [execLookAt]

@[simp] theorem State.issuePn_pending (b usub : Nat) (d a c : Reg) (imm : BitVec 6) (op : AsyncOp) :
    (s.issuePn b usub d a c imm op).pending = s.pending :=
  s.issue_pending _ _ _ _ _ fun t B k => by simp

theorem execPnNext_keepsQueue (b : Nat) (d a c : Reg) (imm : BitVec 6) : KeepsQueue s (execPnNext b d a c imm s) := by
  simp [execPnNext]

theorem execPnPeek_keepsQueue (b : Nat) (d a c : Reg) (imm : BitVec 6) : KeepsQueue s (execPnPeek b d a c imm s) := by
  simp [execPnPeek]

theorem execOrdDom_keepsQueue (b : Nat) (d a c : Reg) (imm : BitVec 6) : KeepsQueue s (execOrdDom b d a c imm s) := by
  simp [execOrdDom]

theorem execOrdRel_keepsQueue (b : Nat) (d a c : Reg) (imm : BitVec 6) : KeepsQueue s (execOrdRel b d a c imm s) := by
  simp [execOrdRel]

@[simp] theorem State.submitCipher_pending (p : Nat) (k : Pick) (c : Cipher) :
    (s.submitCipher p k c).pending = s.pending := by rfl

theorem execSealFrame_keepsQueue (b : Nat) (d a c : Reg) (imm : BitVec 6) : KeepsQueue s (execSealFrame b d a c imm s) := by
  simp only [execSealFrame, keepsQueue_next]
  refine s.issue_pending _ _ _ _ _ fun t B k => ?_
  (repeat' split) <;> simp

theorem execOpenFrame_keepsQueue (b : Nat) (d a c : Reg) (imm : BitVec 6) : KeepsQueue s (execOpenFrame b d a c imm s) := by
  simp only [execOpenFrame, keepsQueue_next]
  refine s.issue_pending _ _ _ _ _ fun t B k => ?_
  (repeat' split) <;> simp

theorem execCrcRun_keepsQueue (b : Nat) (d a c : Reg) (imm : BitVec 6) : KeepsQueue s (execCrcRun b d a c imm s) := by
  simp [execCrcRun]

theorem execCrcChk_keepsQueue (b : Nat) (d a c : Reg) (imm : BitVec 6) : KeepsQueue s (execCrcChk b d a c imm s) := by
  simp [execCrcChk]

theorem execCrcGet_keepsQueue (b : Nat) (d a c : Reg) (imm : BitVec 6) : KeepsQueue s (execCrcGet b d a c imm s) := by
  simp [execCrcGet]

theorem execCrcSet_keepsQueue (b : Nat) (d a c : Reg) (imm : BitVec 6) : KeepsQueue s (execCrcSet b d a c imm s) := by
  simp [execCrcSet]

theorem execTb_keepsQueue (b : Nat) (d a c : Reg) (imm : BitVec 6) : KeepsQueue s (execTb b d a c imm s) := by simp [execTb]

/-! ### Dispositions -/

@[simp] theorem State.disposePick_pending (b : Nat) (f : Pick → Pick) : (s.disposePick b f).pending = s.pending := by
  unfold State.disposePick
  (repeat' split) <;> simp

theorem execEnq_keepsQueue (b : Nat) (d a c : Reg) (imm : BitVec 6) : KeepsQueue s (execEnq b d a c imm s) := by simp [execEnq]

theorem execDropPick_keepsQueue (b : Nat) (d a c : Reg) (imm : BitVec 6) : KeepsQueue s (execDropPick b d a c imm s) := by
  simp only [execDropPick, keepsQueue_next]
  refine s.issue_pending _ _ _ _ _ fun t B k => ?_
  split
  · simp
  · split <;> simp

theorem execPunt_keepsQueue (b : Nat) (d a c : Reg) (imm : BitVec 6) : KeepsQueue s (execPunt b d a c imm s) := by
  simp [execPunt]

theorem execFwd_keepsQueue (b : Nat) (d a c : Reg) (imm : BitVec 6) : KeepsQueue s (execFwd b d a c imm s) := by simp [execFwd]

theorem execMirror_keepsQueue (b : Nat) (d a c : Reg) (imm : BitVec 6) : KeepsQueue s (execMirror b d a c imm s) := by
  simp [execMirror]

/-! ### The stores -/

@[simp] theorem State.useLines_pending (buffer : Bool) (lines : List Nat) : (s.useLines buffer lines).pending = s.pending := by
  simp [State.useLines]

@[simp] theorem State.askTable_pending (lines : List Nat) : (s.askTable lines).pending = s.pending := by simp [State.askTable]

@[simp] theorem State.clockEnd_pending : s.clockEnd.pending = s.pending := by simp [State.clockEnd]

@[simp] theorem State.tick_pending (ch : Nat) : (s.tick ch).2.pending = s.pending := by rfl

@[simp] theorem State.writeNodes_pending (buffer b : Bool) (path : List PathObs) :
    (s.writeNodes buffer b path).pending = s.pending := by
  simp [State.writeNodes]

@[simp] theorem State.storeCopy_pending (buffer b : Bool) (mki draw line : Nat) (plain : Bytes) (path : List PathObs) :
    (s.storeCopy buffer b mki draw line plain path).pending = s.pending := by
  simp [State.storeCopy]

@[simp] theorem State.storeLine_pending (buffer : Bool) (mki draw line : Nat) (plain : Bytes) (path : List PathObs) :
    (s.storeLine buffer mki draw line plain path).pending = s.pending := by
  simp [State.storeLine]

@[simp] theorem State.tryStore_pending (buffer : Bool) (mki draw line : Nat) (plain : Bytes) (path : List PathObs) :
    (s.tryStore buffer mki draw line plain path).pending = s.pending := by
  simp [State.tryStore]

@[simp] theorem State.writeTable_pending (lines : List Nat) : (s.writeTable lines).pending = s.pending := by
  simp only [State.writeTable]
  split
  · rfl
  · simp

@[simp] theorem State.writeAssoc_pending (i : Nat) : (s.writeAssoc i).pending = s.pending := by simp [State.writeAssoc]

@[simp] theorem State.setFlows_pending (l : List Flow) : (s.setFlows l).pending = s.pending := by simp [State.setFlows]

@[simp] theorem State.ownStore_pending (buffer : Bool) (mki draw line : Nat) (plain : Bytes) :
    (s.ownStore buffer mki draw line plain).pending = s.pending := by
  simp [State.ownStore]

@[simp] theorem State.writeBytes_pending (buffer : Bool) (mki draw first : Nat) (bs : Bytes) :
    (s.writeBytes buffer mki draw first bs).pending = s.pending := by
  simp [State.writeBytes]

@[simp] theorem State.freshen_pending (buffer b : Bool) (first count : Nat) :
    (s.freshen buffer b first count).pending = s.pending := by
  simp [State.freshen]

@[simp] theorem State.copyOver_pending (bad : Bool) (first count : Nat) : (s.copyOver bad first count).pending = s.pending := by
  simp only [State.copyOver]
  split <;> simp

/-! ### Queues -/

@[simp] theorem State.joinRing_pending (q : Nat) : (s.joinRing q).pending = s.pending := by simp [State.joinRing]

@[simp] theorem State.leaveRing_pending (q : Nat) : (s.leaveRing q).pending = s.pending := by rfl

@[simp] theorem State.setFifo_pending (q : Nat) (l : List QItem) : (s.setFifo q l).pending = s.pending := by
  simp [State.setFifo]

@[simp] theorem State.pushQueue_pending (q : Nat) (i : QItem) : (s.pushQueue q i).pending = s.pending := by
  simp [State.pushQueue]

@[simp] theorem State.unqueue_pending (q p : Nat) : (s.unqueue q p).pending = s.pending := by simp [State.unqueue]

@[simp] theorem State.occurFrame_pending (f : QFrame) (src : Src) (index : Nat) :
    (s.occurFrame f src index).pending = s.pending := by
  simp [State.occurFrame]

@[simp] theorem State.spillPlace.fresh_pending : (State.spillPlace.fresh s).2.pending = s.pending := by
  simp only [State.spillPlace.fresh]
  split <;> simp

@[simp] theorem State.spillPlace_pending (q k n : Nat) : (s.spillPlace q k n).2.pending = s.pending := by
  simp only [State.spillPlace]
  split
  · split <;> simp
  · simp

@[simp] theorem State.writeSpill_pending (k x o : Nat) (frame : Bytes) : (s.writeSpill k x o frame).pending = s.pending := by
  unfold State.writeSpill
  split <;> simp

@[simp] theorem State.admitQueue_pending (q : Nat) (i : QItem) (count : State → Src → Nat → State) (gone : State → State)
    (frame : QFrame) (hc : ∀ t x n, (count t x n).pending = t.pending) (hg : ∀ t, (gone t).pending = t.pending) :
    (s.admitQueue q i count gone frame).pending = s.pending := by
  have hp := s.spillPlace_pending q (s.field .schQMap q 11 8) ((frame.frame.length + 63) / 64)
  simp only [State.admitQueue]
  (repeat' split) <;> simp_all

/-! ### Results of the unit instructions -/

@[simp] theorem State.deliver_pending (b : Nat) (B : Bobbin) (d : Reg) (v : DWord) :
    (s.deliver b B d v).pending = s.pending := by rfl

@[simp] theorem State.lookBank_pending (flow : Bool) (keys : List Nat) : (s.lookBank flow keys).pending = s.pending :=
  foldl_pending _ _ _ fun t _ => t.touchDom_pending _

theorem execLookFtDone_keepsQueue (b : Nat) (d : Reg) : KeepsQueue s (execLookFtDone b d s) := by
  simp only [execLookFtDone, keepsQueue_next]
  (repeat' split) <;> simp

theorem execLookMtDone_keepsQueue (b : Nat) (d : Reg) : KeepsQueue s (execLookMtDone b d s) := by
  simp only [execLookMtDone, keepsQueue_next]
  (repeat' split) <;> simp

@[simp] theorem State.moveRef_pending (k : Pick) (dest : Option (BitVec 24 × Bool)) :
    (s.moveRef k dest).pending = s.pending := by
  unfold State.moveRef
  (repeat' split) <;> simp

theorem execLookAtDone_keepsQueue (b : Nat) (d : Reg) : KeepsQueue s (execLookAtDone b d s) := by
  simp only [execLookAtDone, keepsQueue_next]
  (repeat' split) <;> simp

@[simp] theorem State.domainMix_pending (k : Pick) : (s.domainMix k).pending = s.pending := by simp [State.domainMix]

@[simp] theorem State.pnWarn_pending (k : Pick) (pn : DWord) : (s.pnWarn k pn).pending = s.pending := by simp [State.pnWarn]

@[simp] theorem State.servePn_pending (p : Nat) (k : Pick) : (s.servePn p k).1.pending = s.pending := by simp [State.servePn]

theorem execPnNextServe_keepsQueue (b : Nat) (d : Reg) : KeepsQueue s (execPnNextServe b d s) := by
  simp only [execPnNextServe, keepsQueue_next]
  (repeat' split) <;> simp

theorem execPnPeekServe_keepsQueue (b : Nat) (d : Reg) : KeepsQueue s (execPnPeekServe b d s) := by
  simp only [execPnPeekServe, keepsQueue_next]
  (repeat' split) <;> simp

@[simp] theorem State.nextSeq_pending (dom : Nat) : (s.nextSeq dom).2.pending = s.pending := by rfl

theorem execOrdDomGrant_keepsQueue (b : Nat) (d : Reg) : KeepsQueue s (execOrdDomGrant b d s) := by
  simp only [execOrdDomGrant, keepsQueue_next]
  (repeat' split) <;> simp

@[simp] theorem State.cipherResult_pending (p : Nat) (c : Cipher) (v : DWord) : (s.cipherResult p c v).pending = s.pending := by
  simp [State.cipherResult]

@[simp] theorem State.cutRecord_pending (k : Pick) (poisoned : Bool) (port : Nat) :
    (s.cutRecord k poisoned port).pending = s.pending := by
  unfold State.cutRecord
  split <;> simp

@[simp] theorem State.cutDiscard_pending (p : Nat) (k : Pick) : (s.cutDiscard p k).pending = s.pending := by
  simp [State.cutDiscard]

@[simp] theorem State.settle_pending (p : Nat) : (s.settle p).pending = s.pending := by
  unfold State.settle
  split <;> simp

@[simp] theorem State.openFails_pending (p : Nat) (k : Pick) (c : Cipher) (st : UStat) :
    (s.openFails p k c st).pending = s.pending := by
  simp [State.openFails]

theorem execOpenServe_keepsQueue (p : Nat) : KeepsQueue s (execOpenServe p s) := by
  simp only [execOpenServe, keepsQueue_next]
  (repeat' split) <;> simp

@[simp] theorem State.raiseLowest_pending (k : Pick) (c : Cipher) : (s.raiseLowest k c).pending = s.pending := by
  simp [State.raiseLowest]

theorem execOpenVerdictCommit_keepsQueue (p : Nat) : KeepsQueue s (execOpenVerdictCommit p s) := by
  simp only [execOpenVerdictCommit, keepsQueue_next]
  (repeat' split) <;> simp

theorem execSealDone_keepsQueue (p : Nat) : KeepsQueue s (execSealDone p s) := by
  simp only [execSealDone, keepsQueue_next]
  (repeat' split) <;> simp

theorem execCrcGetDone_keepsQueue (b : Nat) (d : Reg) : KeepsQueue s (execCrcGetDone b d s) := by
  simp only [execCrcGetDone, keepsQueue_next]
  split <;> simp

/-! ### The cascade -/

@[simp] theorem State.weftQueue_pending (n : Nat) (f : WFrame) : (s.weftQueue n f).pending = s.pending := by rfl

@[simp] theorem State.occurWeft_pending (f : WFrame) (src : Src) (index : Nat) :
    (s.occurWeft f src index).pending = s.pending := by
  unfold State.occurWeft
  split <;> simp

@[simp] theorem State.releaseFwd_pending (p : Nat) (k : Pick) : (s.releaseFwd p k).pending = s.pending := by
  unfold State.releaseFwd
  (repeat' split) <;> simp

/-! ### Arrival and dispatch of picks -/

@[simp] theorem State.pushOut_pending (p : Nat) : (s.pushOut p).pending = s.pending := by
  unfold State.pushOut
  split <;> simp

theorem State.admission_pending (cls : BitVec 3) (len : Nat) : ∀ t, s.admission cls len = some t → t.pending = s.pending := by
  intro t h
  simp only [State.admission] at h
  split at h
  · split at h
    · cases h; rfl
    · cases h
  · obtain ⟨l, -, rfl⟩ := Option.map_eq_some_iff.mp h
    simp

@[simp] theorem State.createPick_pending (k : Pick) : (s.createPick k).pending = s.pending := by rfl

@[simp] theorem State.refuse_pending (k : Pick) : (s.refuse k).pending = s.pending := by simp [State.refuse]

@[simp] theorem State.arrive_pending (k : Pick) : (s.arrive k).pending = s.pending := by
  unfold State.arrive
  split
  · rename_i t h
    simp [s.admission_pending _ _ t h]
  · simp

theorem execFrameReceive_keepsQueue (port : Nat) (frame : Bytes) : KeepsQueue s (execFrameReceive port frame s) := by
  simp [execFrameReceive]

theorem execPickDispatch_keepsQueue (b : Nat) : KeepsQueue s (execPickDispatch b s) := by
  simp only [execPickDispatch, keepsQueue_next]
  (repeat' split) <;> simp

theorem State.tryPunt_pending (x : PuntRec) : ∀ t, s.tryPunt x = some t → t.pending = s.pending := by
  simp only [State.tryPunt]
  (repeat' split) <;> simp

@[simp] theorem State.drainPunt_pending (dom n : Nat) : (s.drainPunt dom n).pending = s.pending := by
  induction n generalizing s with
  | zero => rfl
  | succ n ih =>
    unfold State.drainPunt
    split
    · rfl
    · rename_i x hx
      split
      · rfl
      · rename_i t ht
        simp [ih, s.tryPunt_pending _ t ht]

@[simp] theorem State.servePunt_pending (dom : Nat) : (s.servePunt dom).pending = s.pending := by simp [State.servePunt]

@[simp] theorem State.writePunt_pending (x : PuntRec) : (s.writePunt x).pending = s.pending := by simp [State.writePunt]

@[simp] theorem State.deliverMirror_pending (k : Pick) (m : Mirror) : (State.deliverMirror k s m).pending = s.pending := by
  simp [State.deliverMirror]

@[simp] theorem State.deliverMirrors_pending (k : Pick) : (s.deliverMirrors k).pending = s.pending := by
  simp [State.deliverMirrors]

theorem execPickRelease_keepsQueue (p : Nat) : KeepsQueue s (execPickRelease p s) := by
  simp only [execPickRelease, keepsQueue_next]
  split <;> simp

theorem execPuntMirrorRelease_keepsQueue (p : Nat) : KeepsQueue s (execPuntMirrorRelease p s) := by
  simp only [execPuntMirrorRelease, keepsQueue_next]
  (repeat' split) <;> simp

theorem execCellWaitEnd_keepsQueue (p : Nat) : KeepsQueue s (execCellWaitEnd p s) := by
  simp only [execCellWaitEnd, keepsQueue_next]
  (repeat' split) <;> simp

/-! ### Sheds -/

@[simp] theorem State.placeShed_pending (p : Nat) : (s.placeShed p).pending = s.pending := by rfl

/-! ### The scheduler -/

@[simp] theorem State.rejoin_pending (q : Nat) : (s.rejoin q).pending = s.pending := by simp [State.rejoin]

@[simp] theorem State.refillQueues_pending (n : Nat) : (s.refillQueues n).pending = s.pending := by simp [State.refillQueues]

@[simp] theorem State.refillPorts_pending (n : Nat) : (s.refillPorts n).pending = s.pending := by simp [State.refillPorts]

@[simp] theorem State.refillPolicers_pending (n : Nat) : (s.refillPolicers n).pending = s.pending := by
  simp [State.refillPolicers]

@[simp] theorem State.refillBy_pending (n : Nat) : (s.refillBy n).pending = s.pending := by simp [State.refillBy]

theorem execRefillTick_keepsQueue : KeepsQueue s (execRefillTick s) := by simp [execRefillTick]

@[simp] theorem State.refillDue_pending : s.refillDue.pending = s.pending := by simp [State.refillDue]

theorem execPol_keepsQueue (b : Nat) (d a c : Reg) (imm : BitVec 6) : KeepsQueue s (execPol b d a c imm s) := by simp [execPol]

@[simp] theorem State.discard_pending (i : QItem) (src : Src) (index : Nat) : (s.discard i src index).pending = s.pending := by
  unfold State.discard
  (repeat' split) <;> simp

@[simp] theorem State.closedWait_pending (p : Nat) (i : QItem) : (State.closedWait p s i).1.pending = s.pending := by
  unfold State.closedWait
  (repeat' split) <;> simp

@[simp] theorem State.closedQueue_pending (p q : Nat) : (s.closedQueue p q).pending = s.pending := by
  simp only [State.closedQueue, State.setQueue_pending]
  exact List.foldlRecOn (motive := fun r : State × List QItem => r.1.pending = s.pending) _ _ rfl
    fun r h i _ => (State.closedWait_pending _ _ _).trans h

@[simp] theorem State.dropNeverFit_pending (p q : Nat) (longest : Option Nat) (n : Nat) :
    (s.dropNeverFit p q longest n).pending = s.pending := by
  induction n generalizing s with
  | zero => rfl
  | succ n ih =>
    unfold State.dropNeverFit
    split <;> simp [ih]

@[simp] theorem State.judgeClass_pending (p c : Nat) : (s.judgeClass p c).pending = s.pending := by
  simp only [State.judgeClass]
  split <;> simp

@[simp] theorem State.drr_pending (p c : Nat) (w : Option Nat) (ok : State → QItem → Bool) (skip : List Nat) (n : Nat) :
    (s.drr p c w ok skip n).2.pending = s.pending := by
  induction n generalizing s skip with
  | zero => rfl
  | succ n ih =>
    simp only [State.drr]
    (repeat' split) <;> simp [ih]

@[simp] theorem State.selectQueue_pending (p : Nat) (ok : State → QItem → Bool) (cs : List Nat) :
    (s.selectQueue p ok cs).2.pending = s.pending := by
  induction cs generalizing s with
  | nil => rfl
  | cons c cs ih =>
    simp only [State.selectQueue]
    split
    · simp [ih]
    · split <;> simp [ih]

@[simp] theorem State.takeHead_pending (p q : Nat) (i : QItem) (rest : List QItem) :
    (s.takeHead p q i rest).pending = s.pending := by
  simp [State.takeHead]

@[simp] theorem State.takeNext_pending (p : Nat) (ok : State → QItem → Bool) : (s.takeNext p ok).2.pending = s.pending := by
  simp only [State.takeNext]
  (repeat' split) <;> simp

@[simp] theorem State.setHist_pending (h : Nat) (x : Hist) : (s.setHist h x).pending = s.pending := by rfl

@[simp] theorem State.sampleDelay_pending (q since : Nat) : (s.sampleDelay q since).pending = s.pending := by
  simp [State.sampleDelay]

theorem execHistDepthSample_keepsQueue (h : Nat) : KeepsQueue s (execHistDepthSample h s) := by simp [execHistDepthSample]

theorem execSchHistSnapDone_keepsQueue (h : Nat) : KeepsQueue s (execSchHistSnapDone h s) := by simp [execSchHistSnapDone]

@[simp] theorem State.transmit_pending (p q : Nat) (i : QItem) : (s.transmit p q i).pending = s.pending := by
  unfold State.transmit
  extract_lets bytes id t cut s'
  have h : s'.pending = s.pending := by
    unfold s'
    split <;> simp
  split <;> simp [h]

@[simp] theorem State.flushTagOff_pending (p : Nat) : (s.flushTagOff p).pending = s.pending := by simp [State.flushTagOff]

theorem execCutThroughStart_keepsQueue (port p : Nat) : KeepsQueue s (execCutThroughStart port p s) := by
  simp only [execCutThroughStart, keepsQueue_next]
  (repeat' split) <;> simp

theorem execCutFcsReached_keepsQueue (port : Nat) : KeepsQueue s (execCutFcsReached port s) := by
  simp only [execCutFcsReached, keepsQueue_next]
  split
  · rfl
  · split
    · rfl
    · split
      · rfl
      · split
        · rfl
        · split
          · simp
          · split <;> simp

theorem execFrameTxEnd_keepsQueue (port : Nat) : KeepsQueue s (execFrameTxEnd port s) := by
  simp only [execFrameTxEnd, keepsQueue_next]
  (repeat' split) <;> simp

theorem execSpillReturn_keepsQueue (q : Nat) (intact : Bool) : KeepsQueue s (execSpillReturn q intact s) := by
  simp only [execSpillReturn, keepsQueue_next]
  split
  · split
    · simp
    · split
      · simp
      · split
        · simp
        · simp
  · rfl

theorem execShedEntryAdvance_keepsQueue (port : Nat) : KeepsQueue s (execShedEntryAdvance port s) := by
  simp [execShedEntryAdvance]

@[simp] theorem State.switchBank_pending (port : Nat) : (s.switchBank port).pending = s.pending := by
  simp only [State.switchBank]
  split <;> simp

theorem execShedBankSwitch_keepsQueue (port : Nat) : KeepsQueue s (execShedBankSwitch port s) := by
  simp only [execShedBankSwitch, keepsQueue_next]
  split <;> simp

@[simp] theorem State.shedSelect_pending (port : Nat) (sel : Bool) : (s.shedSelect port sel).pending = s.pending := by
  simp only [State.shedSelect]
  (repeat' split) <;> simp

@[simp] theorem State.histSnap_pending (h : Nat) (v : Word) : (s.histSnap h v).pending = s.pending := by simp [State.histSnap]

/-! ### Wakes -/

@[simp] theorem State.quarantineDom_pending (d owed : Nat) : (s.quarantineDom d owed).pending = s.pending := by rfl

@[simp] theorem State.nextStandby_pending : s.nextStandby.pending = s.pending := by
  unfold State.nextStandby
  (repeat' split) <;> simp

/-! ### The cipher engines -/

@[simp] theorem State.setJob_pending (j : Job) : (s.setJob j).pending = s.pending := by rfl

@[simp] theorem State.loadCtx_pending (e : Nat) (j : Job) : (s.loadCtx e j).pending = s.pending := by simp [State.loadCtx]

@[simp] theorem State.drawIv_pending (j : Job) : (s.drawIv j).1.pending = s.pending := by simp [State.drawIv]

@[simp] theorem State.startJob_pending (e : Nat) (j : Job) : (s.startJob e j).pending = s.pending := by simp [State.startJob]

theorem execEngineJobStart_keepsQueue : KeepsQueue s (execEngineJobStart s) := by
  simp only [execEngineJobStart, keepsQueue_next]
  (repeat' split) <;> simp

theorem execJobSuspend_keepsQueue (e : Nat) : KeepsQueue s (execJobSuspend e s) := by simp [execJobSuspend]

@[simp] theorem State.streamPlain_pending (j : Job) (key : Bytes) : (s.streamPlain j key).pending = s.pending := by
  simp [State.streamPlain]

@[simp] theorem State.flushLookaside_pending (f n : Nat) : (s.flushLookaside f n).pending = s.pending := by
  induction n generalizing s with
  | zero => rfl
  | succ n ih =>
    unfold State.flushLookaside
    split
    · rfl
    · split <;> simp [ih]

@[simp] theorem State.lookasideDone_pending (j : Job) (st : HStat) (outp : Bytes) :
    (s.lookasideDone j st outp).pending = s.pending := by
  simp [State.lookasideDone]

@[simp] theorem State.jobResult_pending (j : Job) : (s.jobResult j).pending = s.pending := by
  unfold State.jobResult
  (repeat' split) <;> simp

theorem execEngineJobComplete_keepsQueue (e : Nat) : KeepsQueue s (execEngineJobComplete e s) := by
  simp only [execEngineJobComplete, keepsQueue_next]
  split <;> simp

theorem execMaskStallEnd_keepsQueue (e : Nat) : KeepsQueue s (execMaskStallEnd e s) := by
  simp only [execMaskStallEnd, keepsQueue_next]
  split <;> simp

theorem execMaskExpanderReseed_keepsQueue (pair : Nat) : KeepsQueue s (execMaskExpanderReseed pair s) := by
  simp [execMaskExpanderReseed]

@[simp] theorem State.requeueJobs_pending (e : Nat) : (s.requeueJobs e).pending = s.pending := by simp [State.requeueJobs]

@[simp] theorem State.burst_pending : s.burst.pending = s.pending := by
  unfold State.burst
  split <;> simp

@[simp] theorem State.stopEngine_pending (e fault : Nat) : (s.stopEngine e fault).pending = s.pending := by
  simp [State.stopEngine]

@[simp] theorem State.settlePair_pending (p : Nat) : (s.settlePair p).pending = s.pending := by simp [State.settlePair]

@[simp] theorem State.pairGone_pending (p owed : Nat) : (s.pairGone p owed).pending = s.pending := by simp [State.pairGone]

@[simp] theorem State.retire_pending (e fault : Nat) : (s.retire e fault).pending = s.pending := by simp [State.retire]

theorem execEngineSelfCheckFault_keepsQueue (e : Nat) : KeepsQueue s (execEngineSelfCheckFault e s) := by
  simp [execEngineSelfCheckFault]

@[simp] theorem State.katEnd_pending (e : Nat) (pass : Bool) : (s.katEnd e pass).pending = s.pending := by simp [State.katEnd]

@[simp] theorem State.katBegin_pending (e : Nat) : (s.katBegin e).pending = s.pending := by simp [State.katBegin]

theorem execKatPeriodic_keepsQueue (e : Nat) (pass : Bool) : KeepsQueue s (execKatPeriodic e pass s) := by
  simp [execKatPeriodic]

@[simp] theorem State.retireWrite_pending (off : Nat) (v : Word) : (s.retireWrite off v).pending = s.pending := by
  simp [State.retireWrite]

@[simp] theorem State.profileWrite_pending (pair off : Nat) (v : Word) : (s.profileWrite pair off v).pending = s.pending := by
  simp [State.profileWrite]

@[simp] theorem State.maskOnly_pending : s.maskOnly.pending = s.pending :=
  foldl_pending _ _ _ fun t _ => t.setReg_pending _ _ _ _

@[simp] theorem State.drbgUp_pending : s.drbgUp.pending = s.pending := by rfl

theorem execDrbgStartupTest_keepsQueue (pass : Bool) : KeepsQueue s (execDrbgStartupTest pass s) := by
  simp [execDrbgStartupTest]

theorem execDrbgReseed_keepsQueue (pass : Bool) : KeepsQueue s (execDrbgReseed pass s) := by simp [execDrbgReseed]

theorem execDrbgHealthFail_keepsQueue : KeepsQueue s (execDrbgHealthFail s) := by simp [execDrbgHealthFail]

/-! ### The host rings -/

theorem execDescriptorFetch_keepsQueue (f r : Nat) (desc buf : Bytes) : KeepsQueue s (execDescriptorFetch f r desc buf s) := by
  simp only [execDescriptorFetch, keepsQueue_next]
  (repeat' split) <;> simp

@[simp] theorem State.command_pending (f r : Nat) (want : Fetched → Bool) (run : Fetched → State)
    (h : ∀ e, (run e).pending = s.pending) : (s.command f r want run).pending = s.pending := by
  unfold State.command
  split
  · rfl
  · split
    · rfl
    · split <;> simp [h]

@[simp] theorem State.answer_pending (f r : Nat) (x : Except HStat State) (h : OkKeeps s.pending x) :
    (s.answer f r x).pending = s.pending := by
  cases x with
  | ok t => simpa [State.answer] using h
  | error st => simp [State.answer]

@[simp] theorem State.emptyPage_pending (f : Nat) : (s.emptyPage f).pending = s.pending := by rfl

theorem execHifCmdWatchdogExpiry_keepsQueue (f : Nat) : KeepsQueue s (execHifCmdWatchdogExpiry f s) := by
  simp only [execHifCmdWatchdogExpiry, keepsQueue_next]
  split <;> simp

theorem execHifLateAnswer_keepsQueue (f : Nat) : KeepsQueue s (execHifLateAnswer f s) := by simp [execHifLateAnswer]

@[simp] theorem State.writeFault_pending (f r : Nat) : (s.writeFault f r).pending = s.pending := by
  unfold State.writeFault
  split <;> simp

@[simp] theorem State.flushRing_pending (f r : Nat) : (s.flushRing f r).pending = s.pending := by simp [State.flushRing]

@[simp] theorem State.ringResume_pending (f r : Nat) : (s.ringResume f r).pending = s.pending := by
  simp only [State.ringResume]
  (repeat' split) <;> simp

@[simp] theorem State.tailWrite_pending (f r : Nat) (v : Word) : (s.tailWrite f r v).pending = s.pending := by
  simp [State.tailWrite]

@[simp] theorem State.ringEnable_pending (f r : Nat) (en : Bool) : (s.ringEnable f r en).pending = s.pending := by
  simp [State.ringEnable]

theorem execImodTimerExpiry_keepsQueue (f r : Nat) : KeepsQueue s (execImodTimerExpiry f r s) := by simp [execImodTimerExpiry]

theorem execInject_keepsQueue (f : Nat) : KeepsQueue s (execInject f s) := by
  simp only [execInject, keepsQueue_next]
  refine s.command_pending _ _ _ _ fun e => ?_
  split
  · simp
  · split
    · simp
    · split
      · simp
      · split
        · simp
        · rename_i t h
          simp [s.admission_pending _ _ t h]

theorem execPuntBuf_keepsQueue (f : Nat) : KeepsQueue s (execPuntBuf f s) := by
  simp only [execPuntBuf, keepsQueue_next]
  (repeat' split) <;> simp

/-! ### Association and flow commands -/

@[simp] theorem State.atBusHit_pending (i : Nat) : (s.atBusHit i).pending = s.pending := by
  unfold State.atBusHit
  split <;> simp

@[simp] theorem State.answerAt_pending (f i : Nat) (x : Except HStat State) (h : OkKeeps s.pending x) :
    (s.answerAt f i x).pending = s.pending := by
  cases x with
  | ok t => simp_all [State.answerAt]
  | error st => simp [State.answerAt]

@[simp] theorem State.atCommand_pending (f : Nat) (want : Fetched → Bool) (index : Fetched → Nat) (onPoisoned : Bool)
    (run : Fetched → Nat → AtEntry → Except HStat State) (h : ∀ e i x, OkKeeps s.pending (run e i x)) :
    (s.atCommand f want index onPoisoned run).pending = s.pending := by
  refine s.command_pending _ _ _ _ fun e => ?_
  dsimp only
  split
  · simp
  · split <;> simp [h]

@[simp] theorem State.startDrain_pending (i : Nat) (b : Bool) : (s.startDrain i b).pending = s.pending := by rfl

@[simp] theorem State.dropCtx_pending (i : Nat) (b : Bool) : (s.dropCtx i b).pending = s.pending := by rfl

@[simp] theorem State.destroySlot_pending (i : Nat) (b : Bool) : (s.destroySlot i b).pending = s.pending := by
  simp [State.destroySlot]

@[simp] theorem State.drainAssoc_pending (i : Nat) (b : Bool) : (s.drainAssoc i b).pending = s.pending := by
  simp [State.drainAssoc]

@[simp] theorem State.drainCloth_pending (g slot : Nat) : (s.drainCloth g slot).pending = s.pending := by
  simp [State.drainCloth]

theorem execDrainTimerExpiry_keepsQueue (r : DrainRef) : KeepsQueue s (execDrainTimerExpiry r s) := by
  simp only [execDrainTimerExpiry, keepsQueue_next]
  split <;> simp

theorem execAtInstall_keepsQueue (f : Nat) : KeepsQueue s (execAtInstall f s) := by
  simp only [execAtInstall, keepsQueue_next]
  refine s.command_pending _ _ _ _ fun c => ?_
  split
  · simp
  · split
    · rfl
    · split
      · simp
      · (repeat' split) <;> simp

theorem execAtSlotLoad_keepsQueue (f : Nat) : KeepsQueue s (execAtSlotLoad f s) := by
  simp only [execAtSlotLoad, keepsQueue_next]
  split
  · rfl
  · refine s.atCommand_pending _ _ _ _ _ fun c i x => ?_
    (repeat' split) <;> simp

theorem execAtTxslot_keepsQueue (f : Nat) : KeepsQueue s (execAtTxslot f s) := by simp [execAtTxslot]

theorem execAtSlotRetire_keepsQueue (f : Nat) : KeepsQueue s (execAtSlotRetire f s) := by simp [execAtSlotRetire]

theorem execAtStateSuspend_keepsQueue (f : Nat) : KeepsQueue s (execAtStateSuspend f s) := by simp [execAtStateSuspend]

theorem execAtStateResume_keepsQueue (f : Nat) : KeepsQueue s (execAtStateResume f s) := by simp [execAtStateResume]

theorem execAtStateRemove_keepsQueue (f : Nat) : KeepsQueue s (execAtStateRemove f s) := by simp [execAtStateRemove]

theorem execAtRxPn_keepsQueue (f : Nat) : KeepsQueue s (execAtRxPn f s) := by simp [execAtRxPn]

@[simp] theorem State.atSet_pending (f : Nat) (mine : Nat → Bool) (run : Nat → AtEntry → Except HStat AtEntry) :
    (s.atSet f mine run).pending = s.pending := by
  refine s.atCommand_pending _ _ _ _ _ fun c i x => ?_
  cases run (leAt c.desc 28 4) x with
  | error st => exact okKeeps_error _ st
  | ok x' => exact (okKeeps_ok _ _).mpr (s.setAssoc_pending _ _)

theorem execAtSetCut_keepsQueue (f : Nat) : KeepsQueue s (execAtSetCut f s) := by simp [execAtSetCut]

theorem execAtSetCutEvent_keepsQueue (f : Nat) : KeepsQueue s (execAtSetCutEvent f s) := by simp [execAtSetCutEvent]

theorem execAtSetReplay_keepsQueue (f : Nat) : KeepsQueue s (execAtSetReplay f s) := by simp [execAtSetReplay]

theorem execAtSetWindow_keepsQueue (f : Nat) : KeepsQueue s (execAtSetWindow f s) := by simp [execAtSetWindow]

theorem execAtSetPolicer_keepsQueue (f : Nat) : KeepsQueue s (execAtSetPolicer f s) := by simp [execAtSetPolicer]

theorem execAtSetQbase_keepsQueue (f : Nat) : KeepsQueue s (execAtSetQbase f s) := by simp [execAtSetQbase]

theorem execAtSetK_keepsQueue (f : Nat) : KeepsQueue s (execAtSetK f s) := by simp [execAtSetK]

theorem execAtSetSuite_keepsQueue (f : Nat) : KeepsQueue s (execAtSetSuite f s) := by simp [execAtSetSuite]

theorem execAtSetMode_keepsQueue (f : Nat) : KeepsQueue s (execAtSetMode f s) := by simp [execAtSetMode]

theorem execAtSetDomain_keepsQueue (f : Nat) : KeepsQueue s (execAtSetDomain f s) := by simp [execAtSetDomain]

theorem execAtRead_keepsQueue (f : Nat) : KeepsQueue s (execAtRead f s) := by
  simp only [execAtRead, keepsQueue_next]
  refine s.command_pending _ _ _ _ fun c => ?_
  split
  · rfl
  · split <;> simp

@[simp] theorem State.putFlows_pending (l : List Flow) : (s.putFlows l).2.pending = s.pending := by
  unfold State.putFlows
  split <;> simp

@[simp] theorem State.putFlows_okKeeps (q : List Instr) (l : List Flow) (h : s.pending = q) :
    OkKeeps q (s.putFlows l).1 := by
  unfold State.putFlows
  split
  · simp
  · split <;> simp [h]

@[simp] theorem State.insertFlow_pending (f : Nat) (b : Bytes) : (s.insertFlow f b).2.pending = s.pending := by
  simp only [State.insertFlow]
  (repeat' split) <;> simp

@[simp] theorem State.insertFlow_okKeeps (f : Nat) (b : Bytes) : OkKeeps s.pending (s.insertFlow f b).1 := by
  simp only [State.insertFlow]
  (repeat' split) <;> simp

@[simp] theorem State.ftCommand_pending (f op : Nat) (key : Fetched → BitVec 6 × DWord × DWord) (run : Fetched → State)
    (h : ∀ e, (run e).pending = s.pending) : (s.ftCommand f op key run).pending = s.pending := by
  refine s.command_pending _ _ _ _ fun e => ?_
  dsimp only
  split
  · simp
  · split <;> simp [h]

@[simp] theorem State.flowDone_pending (f : Nat) (l : List Flow) (fin : State → State) (h : ∀ t, (fin t).pending = t.pending) :
    (s.flowDone f l fin).pending = s.pending := by
  have ht := s.putFlows_pending l
  have hok := s.putFlows_okKeeps _ l rfl
  unfold State.flowDone
  split <;> simp_all

theorem execFtInsert_keepsQueue (f : Nat) : KeepsQueue s (execFtInsert f s) := by
  simp only [execFtInsert, keepsQueue_next]
  refine s.ftCommand_pending _ _ _ _ fun e => ?_
  have ht := s.insertFlow_pending f e.buf
  have hok := s.insertFlow_okKeeps f e.buf
  split <;> simp_all

theorem execFtReplace_keepsQueue (f : Nat) : KeepsQueue s (execFtReplace f s) := by
  simp only [execFtReplace, keepsQueue_next]
  refine s.ftCommand_pending _ _ _ _ fun e => ?_
  split
  · simp
  · split <;> simp

theorem execFtDelete_keepsQueue (f : Nat) : KeepsQueue s (execFtDelete f s) := by
  simp only [execFtDelete, keepsQueue_next]
  refine s.ftCommand_pending _ _ _ _ fun e => ?_
  split
  · simp
  · split <;> simp

theorem execFtRead_keepsQueue (f : Nat) : KeepsQueue s (execFtRead f s) := by
  simp only [execFtRead, keepsQueue_next]
  refine s.ftCommand_pending _ _ _ _ fun e => ?_
  split
  · simp
  · split <;> simp

@[simp] theorem State.useBks_pending (k : Nat) : (s.useBks k).pending = s.pending := by
  simp only [State.useBks]
  split <;> simp

theorem State.bulkRecord_ok_pending (f : Nat) (key hdr r : Bytes) :
    ∀ t, s.bulkRecord f key hdr r = .ok t → t.pending = s.pending := by
  simp only [State.bulkRecord]
  (repeat' split) <;> simp

theorem State.bulkRecord_error_pending (f : Nat) (key hdr r : Bytes) :
    ∀ i t, s.bulkRecord f key hdr r = .error (i, t) → t.pending = s.pending := by
  simp only [State.bulkRecord]
  (repeat' split) <;> simp

@[simp] theorem bulkAssocs_pending (f : Nat) (key hdr b : Bytes) (n : Nat) (acc : BulkSum) :
    (bulkAssocs f key hdr b n acc).s.pending = acc.s.pending := by
  induction n generalizing b acc with
  | zero => rfl
  | succ n ih =>
    unfold bulkAssocs
    split
    · rename_i t h
      exact acc.s.bulkRecord_error_pending f key hdr _ none t h
    · rename_i t h
      simpa [ih] using acc.s.bulkRecord_ok_pending f key hdr _ t h
    · simp [ih]

@[simp] theorem bulkFlows_pending (f : Nat) (b : Bytes) (n j : Nat) (acc : BulkSum) :
    (bulkFlows f b n j acc).s.pending = acc.s.pending := by
  induction n generalizing b j acc with
  | zero => rfl
  | succ n ih =>
    unfold bulkFlows
    extract_lets r x res
    have hres : res.2.pending = acc.s.pending := by
      unfold res
      split <;> simp
    have hok : OkKeeps acc.s.pending res.1 := by
      unfold res
      split <;> simp
    clear_value res
    split <;> simp_all

@[simp] theorem BulkSum.finish_pending (a : BulkSum) (f : Nat) : (a.finish f).pending = a.s.pending := by
  simp [BulkSum.finish]

@[simp] theorem State.askBulk_pending : s.askBulk.pending = s.pending := by simp [State.askBulk]

theorem execAtBulkLoad_keepsQueue (f : Nat) : KeepsQueue s (execAtBulkLoad f s) := by
  simp only [execAtBulkLoad, keepsQueue_next]
  refine s.command_pending _ _ _ _ fun e => ?_
  (repeat' split) <;> simp

theorem execAtBulkLoadFlows_keepsQueue (f : Nat) : KeepsQueue s (execAtBulkLoadFlows f s) := by simp [execAtBulkLoadFlows]

@[simp] theorem State.bulkPart_pending (f : Nat) (b : Bytes) : (s.bulkPart f b).pending = s.pending := by
  simp only [State.bulkPart]
  (repeat' split) <;> simp

theorem execDmaFault_keepsQueue (f r : Nat) (k : DmaKind) : KeepsQueue s (execDmaFault f r k s) := by
  simp only [execDmaFault, keepsQueue_next]
  (repeat' split) <;> simp

/-! ### Cards -/

theorem execCardStage_keepsQueue (f : Nat) : KeepsQueue s (execCardStage f s) := by simp [execCardStage]

@[simp] theorem State.writeStage_pending (img : Bytes) : (s.writeStage img).pending = s.pending := by
  unfold State.writeStage
  split <;> simp

@[simp] theorem State.stageEnd_pending (img : Bytes) (c : Nat) : (s.stageEnd img c).pending = s.pending := by
  simp [State.stageEnd]

theorem execCardStageDone_keepsQueue : KeepsQueue s (execCardStageDone s) := by
  simp only [execCardStageDone, keepsQueue_next]
  split <;> simp

@[simp] theorem State.stageRefused_pending : s.stageRefused.pending = s.pending := by rfl

@[simp] theorem State.promote_pending : s.promote.pending = s.pending := by
  unfold State.promote
  split <;> simp

@[simp] theorem State.discardNext_pending : s.discardNext.pending = s.pending := by
  unfold State.discardNext
  split <;> simp

@[simp] theorem State.stageWrite_pending (v : Word) : (s.stageWrite v).pending = s.pending := by simp [State.stageWrite]

@[simp] theorem State.wakeForGen_pending : s.wakeForGen.pending = s.pending := by
  refine foldl_pending _ _ _ fun t e => ?_
  dsimp only
  split
  · rfl
  · split <;> simp

@[simp] theorem State.cardCtlWrite_pending (c : Nat) (v : Word) : (s.cardCtlWrite c v).pending = s.pending := by
  simp [State.cardCtlWrite]

theorem execClusterDrained_keepsQueue (c : Nat) : KeepsQueue s (execClusterDrained c s) := by simp [execClusterDrained]

@[simp] theorem State.loadRead_pending (gen : BitVec 16) : (s.loadRead gen).pending = s.pending := by
  simp only [State.loadRead]
  split <;> simp

@[simp] theorem State.loadBad_pending (c : Nat) (code : BitVec 3) : (s.loadBad c code).pending = s.pending := by
  simp [State.loadBad]

theorem execCardLoadDone_keepsQueue (c : Nat) (res : LoadResult) : KeepsQueue s (execCardLoadDone c res s) := by
  simp only [execCardLoadDone, keepsQueue_next]
  (repeat' split) <;> simp

@[simp] theorem State.restartPick_pending (p : Nat) : (s.restartPick p).pending = s.pending := by
  simp only [State.restartPick]
  split <;> simp

@[simp] theorem State.restartCluster_pending (c : Nat) : (s.restartCluster c).pending = s.pending := by
  refine foldl_pending _ _ _ fun t e => ?_
  split <;> simp

@[simp] theorem State.cluGone_pending (c owed : Nat) : (s.cluGone c owed).pending = s.pending := by simp [State.cluGone]

theorem execClusterQuarantine_keepsQueue (c : Nat) : KeepsQueue s (execClusterQuarantine c s) := by simp [execClusterQuarantine]

/-! ### The black box -/

@[simp] theorem State.writeRecord_pending (q : BbxReq) : (s.writeRecord q).pending = s.pending := by rfl

@[simp] theorem State.writeNext_pending : s.writeNext.pending = s.pending := by
  simp only [State.writeNext]
  (repeat' split) <;> simp

@[simp] theorem State.tearRecord_pending : s.tearRecord.pending = s.pending := by
  unfold State.tearRecord
  split <;> simp

theorem execBbxRecordWrite_keepsQueue : KeepsQueue s (execBbxRecordWrite s) := by simp [execBbxRecordWrite]

/-! ### Control transfer and the card loads -/

@[simp] theorem State.branch_pending (b op : Nat) (a c : Reg) (off : BitVec 16) (p : DWord → DWord → Bool) :
    (s.branch b op a c off p).pending = s.pending :=
  s.issue_pending _ _ _ _ _ fun _ _ _ => rfl

theorem execBeq_keepsQueue (b : Nat) (a c : Reg) (off : BitVec 16) : KeepsQueue s (execBeq b a c off s) := by simp [execBeq]

theorem execBne_keepsQueue (b : Nat) (a c : Reg) (off : BitVec 16) : KeepsQueue s (execBne b a c off s) := by simp [execBne]

theorem execBlt_keepsQueue (b : Nat) (a c : Reg) (off : BitVec 16) : KeepsQueue s (execBlt b a c off s) := by simp [execBlt]

theorem execBge_keepsQueue (b : Nat) (a c : Reg) (off : BitVec 16) : KeepsQueue s (execBge b a c off s) := by simp [execBge]

theorem execBltu_keepsQueue (b : Nat) (a c : Reg) (off : BitVec 16) : KeepsQueue s (execBltu b a c off s) := by simp [execBltu]

theorem execBgeu_keepsQueue (b : Nat) (a c : Reg) (off : BitVec 16) : KeepsQueue s (execBgeu b a c off s) := by simp [execBgeu]

theorem execJal_keepsQueue (b : Nat) (d : Reg) (off : BitVec 21) : KeepsQueue s (execJal b d off s) := by simp [execJal]

theorem execJr_keepsQueue (b : Nat) (d a c : Reg) : KeepsQueue s (execJr b d a c s) := by simp [execJr]

@[simp] theorem State.progCount_pending (k : Pick) (n amount : Nat) : (s.progCount k n amount).pending = s.pending := by
  simp [State.progCount]

theorem execEvcInc_keepsQueue (b : Nat) (d a c : Reg) (imm : BitVec 6) : KeepsQueue s (execEvcInc b d a c imm s) := by
  simp [execEvcInc]

theorem execEvcAdd_keepsQueue (b : Nat) (d a c : Reg) (imm : BitVec 6) : KeepsQueue s (execEvcAdd b d a c imm s) := by
  simp [execEvcAdd]

theorem execWaitSb_keepsQueue (b : Nat) (d a c : Reg) (imm : BitVec 6) : KeepsQueue s (execWaitSb b d a c imm s) := by
  simp [execWaitSb]

theorem execTrapProg_keepsQueue (b : Nat) (d a c : Reg) (imm : BitVec 6) : KeepsQueue s (execTrapProg b d a c imm s) := by
  simp [execTrapProg]

theorem execHalt_keepsQueue (b : Nat) (d a c : Reg) (imm : BitVec 6) : KeepsQueue s (execHalt b d a c imm s) := by
  simp [execHalt]

theorem execIllegalFetch_keepsQueue (b : Nat) : KeepsQueue s (execIllegalFetch b s) := by
  simp only [execIllegalFetch, keepsQueue_next]
  (repeat' split) <;> simp

/-! ### The woven transport -/

@[simp] theorem State.seedSealer_pending (g : Nat) : (s.seedSealer g).pending = s.pending := by simp [State.seedSealer]

@[simp] theorem State.itemSent_pending (i : QItem) : (s.itemSent i).pending = s.pending := by
  unfold State.itemSent
  split <;> simp

@[simp] theorem State.placeItem_pending (g fill : Nat) : (s.placeItem g fill).pending = s.pending := by
  simp only [State.placeItem]
  (repeat' split) <;> simp

theorem execClothItemSend_keepsQueue (g fill : Nat) : KeepsQueue s (execClothItemSend g fill s) := by simp [execClothItemSend]

@[simp] theorem State.startWoven_pending (g q : Nat) (i : QItem) : (s.startWoven g q i).pending = s.pending := by
  simp [State.startWoven]

theorem execSchedSelect_keepsQueue (port : Nat) : KeepsQueue s (execSchedSelect port s) := by
  simp only [execSchedSelect, keepsQueue_next]
  (repeat' split) <;> simp

theorem State.openFrame_pending (g : Nat) : ∀ t, s.openFrame g = some t → t.pending = s.pending := by
  simp only [State.openFrame]
  (repeat' split) <;> simp

@[simp] theorem State.memberFrame_pending (g m : Nat) : (s.memberFrame g m).2.2.pending = s.pending := by
  unfold State.memberFrame
  dsimp only
  (repeat' split) <;> simp only [State.freeBits_pending]

@[simp] theorem State.closeFrame_pending (g : Nat) : (s.closeFrame g).pending = s.pending := by simp [State.closeFrame]

theorem execLaneFrameSend_keepsQueue (l : Nat) : KeepsQueue s (execLaneFrameSend l s) := by
  simp only [execLaneFrameSend, keepsQueue_next]
  split
  · rfl
  · rename_i g hg
    split
    · simp
    · split
      · simp
      · rename_i t h
        have ht : t.pending = s.pending := by
          split at h
          · simpa using State.openFrame_pending _ g t h
          · cases h
            simp
        simp [ht]

theorem execKeymarkSend_keepsQueue (g : Nat) : KeepsQueue s (execKeymarkSend g s) := by
  simp only [execKeymarkSend, keepsQueue_next]
  split <;> simp

@[simp] theorem State.wovReject_pending : s.wovReject.pending = s.pending := by rfl

@[simp] theorem State.ckTxWrite_pending (g : Nat) (v : Word) : (s.ckTxWrite g v).pending = s.pending := by
  simp [State.ckTxWrite]

@[simp] theorem State.txMapWrite_pending (g : Nat) (v : Word) : (s.txMapWrite g v).pending = s.pending := by
  simp only [State.txMapWrite]
  (repeat' split) <;> simp

theorem execMemberAnnounce_keepsQueue (g : Nat) : KeepsQueue s (execMemberAnnounce g s) := by
  simp only [execMemberAnnounce, keepsQueue_next]
  split <;> simp

theorem execMapTakeEffect_keepsQueue (g : Nat) : KeepsQueue s (execMapTakeEffect g s) := by
  simp only [execMapTakeEffect, keepsQueue_next]
  split <;> simp

@[simp] theorem State.autoRemove_pending (g m : Nat) : (s.autoRemove g m).pending = s.pending := by simp [State.autoRemove]

@[simp] theorem State.rxCfgWrite_pending (g : Nat) (v : Word) : (s.rxCfgWrite g v).pending = s.pending := by
  simp [State.rxCfgWrite]

theorem execHeaderSealerKatFail_keepsQueue (g : Nat) : KeepsQueue s (execHeaderSealerKatFail g s) := by
  simp [execHeaderSealerKatFail]

/-! ### Defects -/

@[simp] theorem State.setEnt_pending (k : Nat) (x : Entity) : (s.setEnt k x).pending = s.pending := by rfl

@[simp] theorem State.block_pending (k sec : Nat) (errored : Bool) (bip : Nat) :
    (s.block k sec errored bip).pending = s.pending := by rfl

@[simp] theorem State.hurt_pending (k : Nat) : (s.hurt k).pending = s.pending := by rfl

@[simp] theorem State.hurtIn_pending (k sec : Nat) : (s.hurtIn k sec).pending = s.pending := by simp [State.hurtIn]

@[simp] theorem State.blind_pending (k : Nat) : (s.blind k).pending = s.pending := by rfl

@[simp] theorem State.markLane_pending (l : Nat) : (s.markLane l).pending = s.pending := by simp [State.markLane]

@[simp] theorem State.markGroup_pending (g : Nat) : (s.markGroup g).pending = s.pending := by simp [State.markGroup]

@[simp] theorem State.setLaneDef_pending (l : Nat) (d : BitVec 9) : (s.setLaneDef l d).pending = s.pending := by
  simp [State.setLaneDef]

@[simp] theorem State.memberRecord_pending (g l : Nat) : (s.memberRecord g l).pending = s.pending := by
  simp [State.memberRecord]

@[simp] theorem State.evalLane_pending (l : Nat) (frame : Bool) (srdi : Option Bool) :
    (s.evalLane l frame srdi).pending = s.pending := by
  unfold State.evalLane
  split <;> simp

@[simp] theorem State.setGrpDef_pending (g : Nat) (d : BitVec 8) : (s.setGrpDef g d).pending = s.pending := by
  simp [State.setGrpDef]

@[simp] theorem State.evalGroup_pending (g : Nat) (lane label : Bool) (rdi : Option Bool) :
    (s.evalGroup g lane label rdi).pending = s.pending := by
  simp [State.evalGroup]

@[simp] theorem State.endSecond_pending (k sec : Nat) (on ev : Bool) (code what : Nat) :
    (s.endSecond k sec on ev code what).pending = s.pending := by
  simp only [State.endSecond]
  (repeat' split) <;> simp

theorem execPmSecondEnd_keepsQueue : KeepsQueue s (execPmSecondEnd s) := by simp [execPmSecondEnd]

@[simp] theorem State.lmtSnap_pending (v : Word) : (s.lmtSnap v).pending = s.pending := by simp [State.lmtSnap]

theorem execLmtSnapshotDone_keepsQueue : KeepsQueue s (execLmtSnapshotDone s) := by simp [execLmtSnapshotDone]

/-! ### The cloth -/

@[simp] theorem State.measure_pending (g l m : Nat) : (s.measure g l m).pending = s.pending := by
  unfold State.measure
  split <;> simp

@[simp] theorem State.sectionBlock_pending (l : Nat) (w1 : Option RxWord) : (s.sectionBlock l w1).pending = s.pending := by
  simp only [State.sectionBlock]
  split <;> simp

@[simp] theorem State.reiOf_pending (k : Nat) (b : Byte) : (s.reiOf k b).2.pending = s.pending := by simp [State.reiOf]

@[simp] theorem State.sectionFar_pending (l sec : Nat) (w1 : RxWord) (near : Bool) :
    (s.sectionFar l sec w1 near).pending = s.pending := by
  simp [State.sectionFar]

@[simp] theorem State.lstat_pending (g : Nat) (b : Byte) : (s.lstat g b).pending = s.pending := by simp [State.lstat]

@[simp] theorem State.writeDeskew_pending (g l m : Nat) (f : List RxWord) : (s.writeDeskew g l m f).pending = s.pending := by
  simp only [State.writeDeskew]
  split <;> simp

@[simp] theorem State.laneFrame_pending (g l sec : Nat) (f : List RxWord) : (s.laneFrame g l sec f).pending = s.pending := by
  simp [State.laneFrame]

@[simp] theorem State.laneFrames_pending (g l sec n : Nat) : (s.laneFrames g l sec n).pending = s.pending := by
  induction n generalizing s with
  | zero => rfl
  | succ n ih =>
    simp only [State.laneFrames]
    split <;> simp [ih]

theorem execLaneFrameReceive_keepsQueue (l : Nat) (ws : List RxWord) : KeepsQueue s (execLaneFrameReceive l ws s) := by
  simp only [execLaneFrameReceive, keepsQueue_next]
  (repeat' split) <;> simp

@[simp] theorem State.dropCloth_pending (g : Nat) : (s.dropCloth g).pending = s.pending := by simp [State.dropCloth]

@[simp] theorem State.keyByte_pending (g : Nat) (b : Byte) : (s.keyByte g b).pending = s.pending := by simp [State.keyByte]

@[simp] theorem State.setRxMap_pending (g : Nat) (map : Word) : (s.setRxMap g map).pending = s.pending := by
  simp [State.setRxMap]

@[simp] theorem State.settlePath_pending (g : Nat) : (s.settlePath g).pending = s.pending := by
  simp only [State.settlePath]
  split <;> simp

@[simp] theorem State.pathBlock_pending (g : Nat) (poh : Option Byte) : (s.pathBlock g poh).pending = s.pending := by
  simp [State.pathBlock]

@[simp] theorem State.ptrCheck_pending (g : Nat) : (s.ptrCheck g).pending = s.pending := by
  simp only [State.ptrCheck]
  split <;> simp

@[simp] theorem State.marker_pending (g : Nat) (bip : Option Byte) : (s.marker g bip).pending = s.pending := by
  simp only [State.marker, State.setGroup_pending]
  split <;> simp

@[simp] theorem State.pathOverhead_pending (g p : Nat) (b : Byte) : (s.pathOverhead g p b).pending = s.pending := by
  simp only [State.pathOverhead]
  (repeat' split) <;> simp

@[simp] theorem State.showErased_pending (g m w : Nat) : (s.showErased g m w).pending = s.pending := by simp [State.showErased]

@[simp] theorem State.dropStored_pending (g m : Nat) : (s.dropStored g m).pending = s.pending :=
  foldl_pending _ _ _ fun t _ => t.setLane_pending _ _

@[simp] theorem State.releaseRow_pending (g m w : Nat) (data : List (BitVec 64 × Bool)) (binder : Option (BitVec 64 × Bool)) :
    (s.releaseRow g m w data binder).pending = s.pending := by
  simp [State.releaseRow]

@[simp] theorem State.pathOff_pending (g : Nat) : (s.pathOff g).pending = s.pending := by simp [State.pathOff]

@[simp] theorem State.rowHead_pending (g m : Nat) : (s.rowHead g m).pending = s.pending := by
  simp only [State.rowHead]
  split <;> simp

@[simp] theorem State.clothPick_pending (g : Nat) (h body : Bytes) : (s.clothPick g h body).pending = s.pending := by
  simp [State.clothPick]

theorem State.clothItem_pending (g : Nat) : ∀ t, s.clothItem g = some t → t.pending = s.pending := by
  simp only [State.clothItem]
  (repeat' split) <;> simp

theorem execClothItemReceive_keepsQueue (g : Nat) : KeepsQueue s (execClothItemReceive g s) := by
  simp only [execClothItemReceive, keepsQueue_next]
  cases h : s.clothItem g with
  | none => rfl
  | some t => exact s.clothItem_pending g t h

@[simp] theorem State.releaseNext_pending (g m w : Nat) : (s.releaseNext g m w).pending = s.pending := by
  simp [State.releaseNext]

theorem execRowRelease_keepsQueue (g : Nat) : KeepsQueue s (execRowRelease g s) := by
  simp only [execRowRelease, keepsQueue_next]
  (repeat' split) <;> simp

theorem execRowWaitExpiry_keepsQueue (g m : Nat) : KeepsQueue s (execRowWaitExpiry g m s) := by
  simp only [execRowWaitExpiry, keepsQueue_next]
  (repeat' split) <;> simp

theorem execResyncAtMarker_keepsQueue (g : Nat) : KeepsQueue s (execResyncAtMarker g s) := by
  simp only [execResyncAtMarker, keepsQueue_next]
  (repeat' split) <;> simp

@[simp] theorem State.grpCfgWrite_pending (g off : Nat) (v : Word) : (s.grpCfgWrite g off v).pending = s.pending := by
  simp [State.grpCfgWrite]

@[simp] theorem State.grpLanesWrite_pending (g : Nat) (v : Word) : (s.grpLanesWrite g v).pending = s.pending := by
  simp [State.grpLanesWrite]

/-! ### DRAM -/

@[simp] theorem State.enterRecovery_pending (cause : BitVec 4) : (s.enterRecovery cause).pending = s.pending := by
  simp [State.enterRecovery]

@[simp] theorem State.listSuspect_pending (buffer : Bool) (level index : Nat) :
    (s.listSuspect buffer level index).pending = s.pending := by
  simp [State.listSuspect]

@[simp] theorem State.integrity_pending (buffer : Bool) (level index : Nat) :
    (s.integrity buffer level index).pending = s.pending := by
  simp [State.integrity]

@[simp] theorem State.poisonTable_pending (first count : Nat) : (s.poisonTable first count).pending = s.pending := by rfl

@[simp] theorem State.dropSpilled_pending (hit : Nat → Bool) : (s.dropSpilled hit).pending = s.pending := by
  simp [State.dropSpilled]

@[simp] theorem State.loseDeskew_pending (g : Nat) (hit : Nat → Bool) : (s.loseDeskew g hit).pending = s.pending := by
  simp only [State.loseDeskew]
  split
  · rfl
  · exact foldl_pending _ _ _ fun t _ => t.setLane_pending _ _

@[simp] theorem State.loseBuffer_pending (hit : Nat → Bool) : (s.loseBuffer hit).pending = s.pending := by
  simp [State.loseBuffer]

@[simp] theorem State.loseRange_pending (buffer : Bool) (first count : Nat) :
    (s.loseRange buffer first count).pending = s.pending := by
  simp [State.loseRange]

@[simp] theorem State.poison_pending (buffer : Bool) (level index : Nat) :
    (s.poison buffer level index).pending = s.pending := by
  simp [State.poison]

@[simp] theorem State.checkPath_pending (buffer b : Bool) (ce : Src) (l : List PathObs) :
    (s.checkPath buffer b ce l).1.pending = s.pending := by
  induction l generalizing s with
  | nil => rfl
  | cons o os ih =>
    unfold State.checkPath
    split
    · rfl
    · split
      · rfl
      · simp [ih]

@[simp] theorem State.verify_pending (read buffer b : Bool) (line : Nat) (ce : Src) (path : List PathObs) :
    (s.verify read buffer b line ce path).1.pending = s.pending := by
  simp only [State.verify]
  (repeat' split) <;> simp

@[simp] theorem State.useLine_pending (buffer : Bool) (line : Nat) (copies : List Bool) :
    (s.useLine buffer line copies).pending = s.pending := by
  simp [State.useLine]

@[simp] theorem State.faultLoads_pending (line : Nat) : (s.faultLoads line).pending = s.pending := by
  simp only [State.faultLoads]
  split <;> simp

@[simp] theorem State.faultRequests_pending (buffer : Bool) (line : Nat) :
    (s.faultRequests buffer line).pending = s.pending := by
  simp only [State.faultRequests, pending_ite, State.loseBuffer_pending, State.faultLoads_pending]
  rw [foldl_pending _ _ _ fun t f => by simp, foldl_pending _ _ _ fun t e => by split <;> simp, ite_self]

theorem execDramRead_keepsQueue (buffer : Bool) (line : Nat) (path : List PathObs) :
    KeepsQueue s (execDramRead buffer line path s) := by
  simp [execDramRead]

@[simp] theorem State.putLine_pending (buffer : Bool) (mki d line : Nat) (plain : Bytes) (path : List PathObs) :
    (s.putLine buffer mki d line plain path).1.pending = s.pending := by
  simp [State.putLine]

@[simp] theorem State.verifyWrite_pending (buffer : Bool) (line : Nat) (path : List PathObs) :
    (s.verifyWrite buffer line path).1.pending = s.pending := by
  simp [State.verifyWrite]

theorem execDramLineWrite_keepsQueue (buffer : Bool) (mki line : Nat) (data : Bytes) (path : List PathObs) :
    KeepsQueue s (execDramLineWrite buffer mki line data path s) := by
  simp only [execDramLineWrite, keepsQueue_next]
  split <;> simp

@[simp] theorem State.mergeLine_pending (buffer : Bool) (mki d line off : Nat) (data : Bytes) (path : List PathObs) :
    (s.mergeLine buffer mki d line off data path).1.pending = s.pending := by
  simp [State.mergeLine]

theorem execDramPartialWrite_keepsQueue (buffer : Bool) (mki line off : Nat) (data : Bytes) (path : List PathObs) :
    KeepsQueue s (execDramPartialWrite buffer mki line off data path s) := by
  simp only [execDramPartialWrite, keepsQueue_next]
  split <;> simp

theorem execCacheWriteback_keepsQueue (idx : BitVec 24) (path : List PathObs) :
    KeepsQueue s (execCacheWriteback idx path s) := by
  simp only [execCacheWriteback, keepsQueue_next]
  split <;> simp

@[simp] theorem State.writeBackBank_pending (d : Nat) : (s.writeBackBank d).pending = s.pending := by
  simp only [State.writeBackBank]
  split <;> simp

theorem execPatrolScrubRead_keepsQueue (buffer : Bool) (line : Nat) (path : List PathObs) :
    KeepsQueue s (execPatrolScrubRead buffer line path s) := by
  simp [execPatrolScrubRead]

theorem execRerootDone_keepsQueue (buffer : Bool) (first count : Nat) : KeepsQueue s (execRerootDone buffer first count s) := by
  simp [execRerootDone]

@[simp] theorem State.reinitWrite_pending (v : Word) : (s.reinitWrite v).pending = s.pending := by simp [State.reinitWrite]

@[simp] theorem State.failStack_pending (st ch : Nat) : (s.failStack st ch).pending = s.pending := by simp [State.failStack]

theorem execStackFail_keepsQueue (st ch : Nat) : KeepsQueue s (execStackFail st ch s) := by simp [execStackFail]

theorem execDramFetchTimeout_keepsQueue (ch line : Nat) : KeepsQueue s (execDramFetchTimeout ch line s) := by
  simp only [execDramFetchTimeout, keepsQueue_next]
  (repeat' split) <;> simp

theorem execDramLateArrival_keepsQueue (ch : Nat) : KeepsQueue s (execDramLateArrival ch s) := by simp [execDramLateArrival]

theorem execMirrorRebuildDone_keepsQueue (st : Nat) : KeepsQueue s (execMirrorRebuildDone st s) := by
  simp [execMirrorRebuildDone]

@[simp] theorem State.mscInitWrite_pending (v : Word) : (s.mscInitWrite v).pending = s.pending := by simp [State.mscInitWrite]

@[simp] theorem State.drawKeys_pending (n : Nat) : (s.drawKeys n).pending = s.pending := by
  induction n generalizing s with
  | zero => rfl
  | succ n ih => simp [State.drawKeys, ih]

theorem execMscInitStart_keepsQueue : KeepsQueue s (execMscInitStart s) := by simp [execMscInitStart]

theorem execMscInitDone_keepsQueue : KeepsQueue s (execMscInitDone s) := by simp [execMscInitDone]

@[simp] theorem State.mkiCtlWrite_pending (v : Word) : (s.mkiCtlWrite v).pending = s.pending := by simp [State.mkiCtlWrite]

theorem execMkiRetired_keepsQueue (k : Nat) : KeepsQueue s (execMkiRetired k s) := by simp [execMkiRetired]

/-! ### Memory lines -/

@[simp] theorem State.updateLink_pending (p : Nat) : (s.updateLink p).pending = s.pending := by simp [State.updateLink]

@[simp] theorem State.evalMember_pending (l : Nat) : (s.evalMember l).pending = s.pending := by
  unfold State.evalMember
  (repeat' split) <;> simp

theorem execLosDetectorChange_keepsQueue (lane : Nat) (los lol : Bool) :
    KeepsQueue s (execLosDetectorChange lane los lol s) := by
  simp [execLosDetectorChange]

@[simp] theorem State.setPcs_pending (lane : Nat) (block fecLost : Bool) :
    (s.setPcs lane block fecLost).pending = s.pending := by
  simp [State.setPcs]

@[simp] theorem State.setBlock_pending (lane : Nat) (locked : Bool) : (s.setBlock lane locked).pending = s.pending := by
  simp [State.setBlock]

theorem execBlockLockChange_keepsQueue (lane : Nat) (locked : Bool) : KeepsQueue s (execBlockLockChange lane locked s) := by
  simp [execBlockLockChange]

theorem execLinkChange_keepsQueue (port : Nat) (up : Bool) : KeepsQueue s (execLinkChange port up s) := by simp [execLinkChange]

theorem execLinkTrainingTimeout_keepsQueue (port : Nat) : KeepsQueue s (execLinkTrainingTimeout port s) := by
  simp [execLinkTrainingTimeout]

theorem execPrbsLockChange_keepsQueue (lane : Nat) (locked : Bool) (errors : Nat) :
    KeepsQueue s (execPrbsLockChange lane locked errors s) := by
  simp [execPrbsLockChange]

@[simp] theorem State.showPrbs_pending (old : State) (lanes : List Nat) : (s.showPrbs old lanes).pending = s.pending := by
  simp [State.showPrbs]

@[simp] theorem State.lneReject_pending : s.lneReject.pending = s.pending := by rfl

@[simp] theorem State.portCfgWrite_pending (p : Nat) (v : Word) : (s.portCfgWrite p v).pending = s.pending := by
  simp [State.portCfgWrite]

@[simp] theorem State.laneCfgWrite_pending (l : Nat) (v : Word) : (s.laneCfgWrite l v).pending = s.pending := by
  simp [State.laneCfgWrite]

/-! ### Weft -/

@[simp] theorem State.sign_pending (d : Nat) (msg : Bytes) : (s.sign d msg).2.pending = s.pending := by rfl

theorem execSidebandMessageError_keepsQueue (n : Nat) (msg : Bytes) : KeepsQueue s (execSidebandMessageError n msg s) := by
  simp [execSidebandMessageError]

@[simp] theorem State.sbSend_pending (n : Nat) (type : Byte) (payload : Bytes) :
    (s.sbSend n type payload).pending = s.pending := by rfl

@[simp] theorem State.sbRequest_pending (n : Nat) (type : Byte) (payload : Bytes) :
    (s.sbRequest n type payload).pending = s.pending := by rfl

theorem execSidebandRetry_keepsQueue (n : Nat) : KeepsQueue s (execSidebandRetry n s) := by
  simp only [execSidebandRetry, keepsQueue_next]
  split <;> simp

theorem execTrainReq_keepsQueue (n : Nat) (payload : Bytes) : KeepsQueue s (execTrainReq n payload s) := by simp [execTrainReq]

@[simp] theorem State.askTaps_pending (n lane : Nat) : (s.askTaps n lane).pending = s.pending := by rfl

theorem execTrainRsp_keepsQueue (n : Nat) (payload : Bytes) : KeepsQueue s (execTrainRsp n payload s) := by simp [execTrainRsp]

@[simp] theorem State.weftEnter_pending (n : Nat) (st : WeftSt) : (s.weftEnter n st).pending = s.pending := by
  simp [State.weftEnter]

@[simp] theorem State.routeWeft_pending (f : WFrame) (lost : State → State) (h : ∀ t, (lost t).pending = t.pending) :
    (s.routeWeft f lost).pending = s.pending := by
  simp only [State.routeWeft]
  split <;> simp [h]

@[simp] theorem State.weftDown_pending (n : Nat) : (s.weftDown n).pending = s.pending := by simp [State.weftDown]

@[simp] theorem State.weftReset_pending (n : Nat) : (s.weftReset n).pending = s.pending := by simp [State.weftReset]

@[simp] theorem State.sendHello_pending (n : Nat) : (s.sendHello n).pending = s.pending := by
  unfold State.sendHello
  split <;> simp

@[simp] theorem State.refuseAgreement_pending (n : Nat) : (s.refuseAgreement n).pending = s.pending := by
  simp [State.refuseAgreement]

@[simp] theorem State.sendShare_pending (n : Nat) : (s.sendShare n).pending = s.pending := by simp [State.sendShare]

theorem execKeyHello_keepsQueue (n : Nat) (payload : Bytes) : KeepsQueue s (execKeyHello n payload s) := by simp [execKeyHello]

theorem execKeyShare_keepsQueue (n : Nat) (payload : Bytes) : KeepsQueue s (execKeyShare n payload s) := by
  simp only [execKeyShare, keepsQueue_next]
  (repeat' split) <;> simp

theorem execKeyFinish_keepsQueue (n : Nat) (payload : Bytes) : KeepsQueue s (execKeyFinish n payload s) := by
  simp only [execKeyFinish, keepsQueue_next]
  split <;> simp

theorem execWeftKeyRetry_keepsQueue (n : Nat) : KeepsQueue s (execWeftKeyRetry n s) := by
  simp only [execWeftKeyRetry, keepsQueue_next]
  split <;> simp

theorem execWeftRekeyTimer_keepsQueue (n : Nat) : KeepsQueue s (execWeftRekeyTimer n s) := by simp [execWeftRekeyTimer]

@[simp] theorem State.trained_pending (n : Nat) : (s.trained n).pending = s.pending := by simp [State.trained]

@[simp] theorem State.setWeftLane_pending (n lane : Nat) (l : WeftLane) : (s.setWeftLane n lane l).pending = s.pending := by
  simp [State.setWeftLane]

theorem execWeftLinkStateChange_keepsQueue (n : Nat) (e : WeftEdge) : KeepsQueue s (execWeftLinkStateChange n e s) := by
  simp only [execWeftLinkStateChange, keepsQueue_next]
  (repeat' split) <;> simp

theorem execTrainDone_keepsQueue (n : Nat) : KeepsQueue s (execTrainDone n s) := by simp [execTrainDone]

theorem execWeftTrainTimeout_keepsQueue (n : Nat) : KeepsQueue s (execWeftTrainTimeout n s) := by simp [execWeftTrainTimeout]

theorem execSidebandStatus_keepsQueue (n : Nat) (payload : Bytes) : KeepsQueue s (execSidebandStatus n payload s) := by
  simp only [execSidebandStatus, keepsQueue_next]
  split <;> simp

@[simp] theorem State.weftEnable_pending (n : Nat) (en : Bool) : (s.weftEnable n en).pending = s.pending := by
  simp [State.weftEnable]

@[simp] theorem State.weftEmit_pending (n dest budget type : Nat) (body : Bytes) :
    (s.weftEmit n dest budget type body).pending = s.pending := by
  simp only [State.weftEmit]
  split <;> simp

@[simp] theorem State.sendCtl_pending (n : Nat) (c : WCtl) : (s.sendCtl n c).pending = s.pending := by
  unfold State.sendCtl
  split <;> simp

@[simp] theorem State.armAck_pending (n : Nat) : (s.armAck n).pending = s.pending := by simp [State.armAck]

@[simp] theorem State.sendAgain_pending (n : Nat) (f : WFrame) : (s.sendAgain n f).pending = s.pending := by
  unfold State.sendAgain
  split <;> simp

@[simp] theorem State.sendFirst_pending (n : Nat) (f : WFrame) : (s.sendFirst n f).pending = s.pending := by
  unfold State.sendFirst
  split <;> simp

theorem execWeftItemSend_keepsQueue (n : Nat) : KeepsQueue s (execWeftItemSend n s) := by
  simp only [execWeftItemSend, keepsQueue_next]
  (repeat' split) <;> simp

@[simp] theorem State.weftCtl_pending (n : Nat) (c : WCtl) : (s.weftCtl n c).pending = s.pending := by rfl

@[simp] theorem State.ackNow_pending (n : Nat) : (s.ackNow n).pending = s.pending := by rfl

theorem State.weftOpen_ok_pending (n type : Nat) (item : Bytes) :
    ∀ t b, s.weftOpen n type item = .ok (t, b) → t.pending = s.pending := by
  simp only [State.weftOpen]
  (repeat' split) <;> simp

theorem State.weftOpen_error_pending (n type : Nat) (item : Bytes) :
    ∀ t, s.weftOpen n type item = .error t → t.pending = s.pending := by
  simp only [State.weftOpen]
  (repeat' split) <;> simp

theorem State.weftFn_ok_pending (n : Nat) (fn : Word) : ∀ t, s.weftFn n fn = .ok t → t.pending = s.pending := by
  simp only [State.weftFn]
  (repeat' split) <;> simp

theorem State.weftFn_error_pending (n : Nat) (fn : Word) : ∀ t, s.weftFn n fn = .error t → t.pending = s.pending := by
  simp only [State.weftFn]
  (repeat' split) <;> simp

@[simp] theorem State.weftDeliver_pending (n : Nat) (b : Bytes) : (s.weftDeliver n b).pending = s.pending := by
  simp [State.weftDeliver]

@[simp] theorem State.weftTransit_pending (n dest budget : Nat) (b : Bytes) :
    (s.weftTransit n dest budget b).pending = s.pending := by
  unfold State.weftTransit
  dsimp only
  split
  · rename_i t h
    simp [s.admission_pending _ _ t h]
  · simp

@[simp] theorem State.inBudget_pending (n : Nat) (item : Bytes) (run : State → State) (h : ∀ t, (run t).pending = t.pending) :
    (s.inBudget n item run).pending = s.pending := by
  simp [State.inBudget, h]

theorem execWeftFrameReceive_keepsQueue (n : Nat) (item : Bytes) : KeepsQueue s (execWeftFrameReceive n item s) := by
  simp only [execWeftFrameReceive, keepsQueue_next]
  split
  · exact s.weftOpen_error_pending _ _ _ _ ‹_›
  · rename_i t b h
    have ht := s.weftOpen_ok_pending _ _ _ t b h
    split
    · exact (t.weftFn_error_pending _ _ _ ‹_›).trans ht
    · rename_i u hu
      refine (u.inBudget_pending _ _ _ fun u => ?_).trans ((t.weftFn_ok_pending _ _ u hu).trans ht)
      simp

theorem execWeftSkipReceive_keepsQueue (n : Nat) (item : Bytes) : KeepsQueue s (execWeftSkipReceive n item s) := by
  simp only [execWeftSkipReceive, keepsQueue_next]
  split
  · exact s.weftOpen_error_pending _ _ _ _ ‹_›
  · rename_i t b h
    have ht := s.weftOpen_ok_pending _ _ _ t b h
    split
    · exact (t.weftFn_error_pending _ _ _ ‹_›).trans ht
    · rename_i u hu
      exact (u.inBudget_pending _ _ _ fun _ => rfl).trans ((t.weftFn_ok_pending _ _ u hu).trans ht)

theorem execWeftAckReceive_keepsQueue (n : Nat) (item : Bytes) : KeepsQueue s (execWeftAckReceive n item s) := by
  simp only [execWeftAckReceive, keepsQueue_next]
  split
  · exact s.weftOpen_error_pending _ _ _ _ ‹_›
  · rename_i t b h
    refine (t.inBudget_pending _ _ _ fun t => ?_).trans (s.weftOpen_ok_pending _ _ _ t b h)
    simp

@[simp] theorem State.resendAll_pending (n : Nat) : (s.resendAll n).pending = s.pending := by rfl

theorem execWeftNakReceive_keepsQueue (n : Nat) (item : Bytes) : KeepsQueue s (execWeftNakReceive n item s) := by
  simp only [execWeftNakReceive, keepsQueue_next]
  split
  · exact s.weftOpen_error_pending _ _ _ _ ‹_›
  · rename_i t b h
    exact (t.inBudget_pending _ _ _ fun t => t.resendAll_pending _).trans (s.weftOpen_ok_pending _ _ _ t b h)

theorem execWeftKeyswitchReceive_keepsQueue (n : Nat) (item : Bytes) : KeepsQueue s (execWeftKeyswitchReceive n item s) := by
  simp only [execWeftKeyswitchReceive, keepsQueue_next]
  split
  · exact s.weftOpen_error_pending _ _ _ _ ‹_›
  · rename_i t b h
    refine (t.inBudget_pending _ _ _ fun t => ?_).trans (s.weftOpen_ok_pending _ _ _ t b h)
    split <;> simp

theorem execWeftTimeReceive_keepsQueue (n : Nat) (item : Bytes) : KeepsQueue s (execWeftTimeReceive n item s) := by
  simp only [execWeftTimeReceive, keepsQueue_next]
  split
  · exact s.weftOpen_error_pending _ _ _ _ ‹_›
  · rename_i t b h
    exact (t.inBudget_pending _ _ _ fun t => t.setWport_pending _ _).trans (s.weftOpen_ok_pending _ _ _ t b h)

theorem execWeftAckTimeout_keepsQueue (n : Nat) : KeepsQueue s (execWeftAckTimeout n s) := by
  simp only [execWeftAckTimeout, keepsQueue_next]
  split <;> simp

theorem execWeftAckSend_keepsQueue (n : Nat) : KeepsQueue s (execWeftAckSend n s) := by simp [execWeftAckSend]

theorem execWeftTimeSend_keepsQueue (n : Nat) : KeepsQueue s (execWeftTimeSend n s) := by simp [execWeftTimeSend]

@[simp] theorem State.wftReject_pending : s.wftReject.pending = s.pending := by rfl

@[simp] theorem State.weftCfgWrite_pending (n : Nat) (v : Word) : (s.weftCfgWrite n v).pending = s.pending := by
  simp [State.weftCfgWrite]

@[simp] theorem State.routeWrite_pending (d : Nat) (v : Word) : (s.routeWrite d v).pending = s.pending := by
  simp [State.routeWrite]

/-! ### Power -/

@[simp] theorem State.enterSleep_pending (d : Nat) (target : PSt) : (s.enterSleep d target).pending = s.pending := by
  unfold State.enterSleep
  split
  · rfl
  · rfl
  · dsimp only
    split
    · simp
    · exact foldl_pending _ _ _ fun t e => by simp
    · rfl

@[simp] theorem State.clearScratch_pending (c : Nat) : (s.clearScratch c).pending = s.pending := by rfl

@[simp] theorem State.unpowered_pending (d : Nat) : (s.unpowered d).pending = s.pending := by
  unfold State.unpowered
  split <;> simp

theorem execDomainSleepEntered_keepsQueue (dom : Nat) : KeepsQueue s (execDomainSleepEntered dom s) := by
  simp only [execDomainSleepEntered, keepsQueue_next]
  split <;> simp

@[simp] theorem State.placeOther_pending (d : Nat) : (s.placeOther d).pending = s.pending := by simp [State.placeOther]

@[simp] theorem State.placeGated_pending (d : Nat) : (s.placeGated d).pending = s.pending := by simp [State.placeGated]

@[simp] theorem State.staleEngines_pending (p : Nat) : (s.staleEngines p).pending = s.pending := by simp [State.staleEngines]

@[simp] theorem State.leavePair_pending (p : Nat) : (s.leavePair p).pending = s.pending := by simp [State.leavePair]

@[simp] theorem State.endRecoveries_pending : s.endRecoveries.pending = s.pending := by simp [State.endRecoveries]

@[simp] theorem State.placeAll_pending : s.placeAll.pending = s.pending := by
  unfold State.placeAll
  extract_lets present s₁ c p wakeC wakeP gone pmc s₂ s₃ s₄ s₅
  have h₁ : s₁.pending = s.pending := foldl_pending _ _ _ fun t d => t.setDom_pending _ _
  have h₃ : s₃.pending = s₁.pending := foldl_pending _ _ s₂ fun t d => by simp
  have h₄ : s₄.pending = s₃.pending := foldl_pending _ _ s₃ fun t g => by split <;> simp
  have h₅ : s₅.pending = s₄.pending := foldl_pending _ _ s₄ fun t d => by simp
  simp [h₅, h₄, h₃, h₁]

@[simp] theorem State.orderWakes_pending (old : List Nat) : (s.orderWakes old).pending = s.pending := by rfl

theorem execPmcDecision_keepsQueue : KeepsQueue s (execPmcDecision s) := by simp [execPmcDecision]

@[simp] theorem State.refillBucket_pending : s.refillBucket.pending = s.pending := by rfl

@[simp] theorem State.missed_pending (d : Nat) (st : PSt) (since : Nat) : (s.missed d st since).pending = s.pending := by
  unfold State.missed
  split <;> simp

@[simp] theorem State.admitWake_pending (d : Nat) : (s.admitWake d).pending = s.pending := by
  simp only [State.admitWake]
  split <;> simp

@[simp] theorem State.admitWakes_pending (ds : List Nat) : (s.admitWakes ds).pending = s.pending := by
  induction ds generalizing s with
  | nil => rfl
  | cons d ds ih => simp [State.admitWakes, ih]

theorem execWakeAdmit_keepsQueue : KeepsQueue s (execWakeAdmit s) := by simp [execWakeAdmit]

@[simp] theorem State.firstWakes_pending : s.firstWakes.pending = s.pending := by simp [State.firstWakes]

@[simp] theorem State.pmcReject_pending : s.pmcReject.pending = s.pending := by rfl

@[simp] theorem State.wakeWrite_pending (v : Word) : (s.wakeWrite v).pending = s.pending := by simp [State.wakeWrite]

@[simp] theorem State.cluUp_pending (c : Nat) (again : Bool) : (s.cluUp c again).pending = s.pending := by simp [State.cluUp]

@[simp] theorem State.shedBack_pending (p : Nat) : (s.shedBack p).pending = s.pending := by
  unfold State.shedBack
  split <;> simp

@[simp] theorem State.sliceUp_pending (k : Nat) : (s.sliceUp k).pending = s.pending := by
  simp only [State.sliceUp]
  rw [foldl_pending _ _ _ fun t p => by simp, foldl_pending _ _ _ fun t q => t.setQueue_pending _ _]

@[simp] theorem State.beginSteps_pending (d : Nat) : (s.beginSteps d).pending = s.pending := by
  simp only [State.beginSteps]
  split
  · simp
  · exact (foldl_pending _ _ _ fun t e => by simp).trans rfl
  · simp
  · simp
  · simp

theorem execDomainPoweredUp_keepsQueue (dom : Nat) : KeepsQueue s (execDomainPoweredUp dom s) := by simp [execDomainPoweredUp]

@[simp] theorem State.bistFaults_pending (d : Nat) : (s.bistFaults d).pending = s.pending := by
  unfold State.bistFaults
  split <;> simp

theorem execBistDone_keepsQueue (dom : Nat) (pass : Bool) : KeepsQueue s (execBistDone dom pass s) := by simp [execBistDone]

@[simp] theorem State.cluFresh_pending (c : Nat) : (s.cluFresh c).pending = s.pending := by simp [State.cluFresh]

@[simp] theorem State.stackBack_pending (st : Nat) : (s.stackBack st).pending = s.pending := by simp [State.stackBack]

theorem execDomainFresh_keepsQueue (dom : Nat) : KeepsQueue s (execDomainFresh dom s) := by
  simp only [execDomainFresh, keepsQueue_next, pending_ite, State.event_keeps, ite_self]
  split
  · rfl
  · split <;> simp

@[simp] theorem State.returnWrite_pending (v : Word) : (s.returnWrite v).pending = s.pending := by simp [State.returnWrite]

@[simp] theorem State.scrReload_pending (v : Word) : (s.scrReload v).pending = s.pending := by simp [State.scrReload]

theorem execScratchCopyDone_keepsQueue (c : Nat) : KeepsQueue s (execScratchCopyDone c s) := by simp [execScratchCopyDone]

theorem execClockFailure_keepsQueue (dom : Nat) : KeepsQueue s (execClockFailure dom s) := by
  simp only [execClockFailure, keepsQueue_next]
  (repeat' split) <;> simp

/-! ### Tamper response -/

@[simp] theorem State.envReading_pending (src : Nat) (a b : ℤ) : (s.envReading src a b).pending = s.pending := by
  simp [State.envReading]

@[simp] theorem State.sampleSource_pending (src : Nat) (a b : ℤ) : (s.sampleSource src a b).pending = s.pending := by
  simp [State.sampleSource]

theorem execTamperSample_keepsQueue (src : Nat) (a b : ℤ) : KeepsQueue s (execTamperSample src a b s) := by
  simp [execTamperSample]

@[simp] theorem State.eraseItem_pending (i : QItem) : (s.eraseItem i).pending = s.pending := by
  unfold State.eraseItem
  split <;> simp

@[simp] theorem State.eraseRecords_pending (gone : List Nat) : (s.eraseRecords gone).pending = s.pending := by
  simp [State.eraseRecords]

@[simp] theorem State.dropErased_pending : s.dropErased.pending = s.pending := by simp [State.dropErased]

@[simp] theorem State.eraseCloth_pending : s.eraseCloth.pending = s.pending := by rfl

@[simp] theorem State.eraseWeft_pending : s.eraseWeft.pending = s.pending := by simp [State.eraseWeft]

@[simp] theorem State.eraseLookaside_pending : s.eraseLookaside.pending = s.pending := by simp [State.eraseLookaside]

@[simp] theorem State.destroyKeys_pending : s.destroyKeys.pending = s.pending := by simp [State.destroyKeys]

@[simp] theorem State.quiesce_pending : s.quiesce.pending = s.pending := by simp [State.quiesce]

@[simp] theorem State.beginErase_pending (cause : Nat) (lock : Bool) : (s.beginErase cause lock).pending = s.pending := by
  simp [State.beginErase]

@[simp] theorem State.requestLock_pending (src : Nat) : (s.requestLock src).pending = s.pending := by simp [State.requestLock]

@[simp] theorem State.carryOut_pending (resp : BitVec 3) (cause lockSrc : Nat) :
    (s.carryOut resp cause lockSrc).pending = s.pending := by
  simp [State.carryOut]

@[simp] theorem State.latchRecord_pending (r : LatchRec) : (s.latchRecord r).pending = s.pending := by simp [State.latchRecord]

@[simp] theorem State.tamperRecord_pending (src : Nat) (resp done : BitVec 3) :
    (s.tamperRecord src resp done).pending = s.pending := by
  simp [State.tamperRecord]

@[simp] theorem State.tamperEvent_pending (src : Nat) (done : BitVec 3) : (s.tamperEvent src done).pending = s.pending := by
  simp [State.tamperEvent]

@[simp] theorem State.decideTamper_pending (a b : RespCode) : (s.decideTamper a b).pending = s.pending := by
  simp [State.decideTamper]

theorem execTamperDecision_keepsQueue (a b : RespCode) : KeepsQueue s (execTamperDecision a b s) := by simp [execTamperDecision]

theorem execEraseReadbackDone_keepsQueue (zeros : Bool) : KeepsQueue s (execEraseReadbackDone zeros s) := by
  simp [execEraseReadbackDone]

@[simp] theorem State.alarmClr_pending (v : Word) : (s.alarmClr v).pending = s.pending := by simp [State.alarmClr]

@[simp] theorem State.holdsAlarm_pending (src : Nat) (v : ℤ) : (s.holdsAlarm src v).2.pending = s.pending := by
  simp [State.holdsAlarm]

@[simp] theorem State.battFire_pending (src : Nat) (a b : Bool) (v : ℤ) : (s.battFire src a b v).pending = s.pending := by
  simp [State.battFire]

theorem execBatterySample_keepsQueue (src : Nat) (a b : ℤ) : KeepsQueue s (execBatterySample src a b s) := by
  simp only [execBatterySample, keepsQueue_next]
  split <;> simp

theorem execVbatRetentionLost_keepsQueue : KeepsQueue s (execVbatRetentionLost s) := by simp [execVbatRetentionLost]

@[simp] theorem State.tmuReject_pending : s.tmuReject.pending = s.pending := by rfl

@[simp] theorem State.srcCfgWrite_pending (src : Nat) (v : Word) : (s.srcCfgWrite src v).pending = s.pending := by
  simp [State.srcCfgWrite]

@[simp] theorem State.meshCfgWrite_pending (m : Nat) (v : Word) : (s.meshCfgWrite m v).pending = s.pending := by
  simp [State.meshCfgWrite]

@[simp] theorem State.envCfgWrite_pending (v : Word) : (s.envCfgWrite v).pending = s.pending := by simp [State.envCfgWrite]

@[simp] theorem State.fuseWrite_pending (v : Word) : (s.fuseWrite v).pending = s.pending := by simp [State.fuseWrite]

theorem execMeshMeasure_keepsQueue (m ohms : Nat) : KeepsQueue s (execMeshMeasure m ohms s) := by simp [execMeshMeasure]

/-! ### Keys -/

theorem execClothKeyLoad_keepsQueue (f : Nat) : KeepsQueue s (execClothKeyLoad f s) := by
  simp only [execClothKeyLoad, keepsQueue_next]
  (repeat' split) <;> simp

theorem execClothKeyRetire_keepsQueue (f : Nat) : KeepsQueue s (execClothKeyRetire f s) := by simp [execClothKeyRetire]

@[simp] theorem State.setLks_pending (n : Nat) (k : LksKey) : (s.setLks n k).pending = s.pending := by rfl

@[simp] theorem State.dropLksCtx_pending (n : Nat) : (s.dropLksCtx n).pending = s.pending := by rfl

theorem execLksKeyLoad_keepsQueue (f : Nat) : KeepsQueue s (execLksKeyLoad f s) := by
  simp only [execLksKeyLoad, keepsQueue_next]
  (repeat' split) <;> simp

theorem execLksKeyDestroy_keepsQueue (f : Nat) : KeepsQueue s (execLksKeyDestroy f s) := by simp [execLksKeyDestroy]

@[simp] theorem State.setSlot_pending (f : Nat) (e : Fetched) : (s.setSlot f e).pending = s.pending := by rfl

@[simp] theorem State.refuseSlot_pending (f : Nat) (e : Fetched) (st : HStat) : (s.refuseSlot f e st).pending = s.pending := by
  simp [State.refuseSlot]

@[simp] theorem State.submitLookaside_pending (f : Nat) (e : Fetched) (kind : JobKind) :
    (s.submitLookaside f e kind).pending = s.pending := by rfl

@[simp] theorem State.lookaside_pending (f op : Nat) (kind : JobKind) (rangeOk : Fetched → Bool) :
    (s.lookaside f op kind rangeOk).pending = s.pending := by
  unfold State.lookaside
  (repeat' split) <;> simp

theorem execXtsEncrypt_keepsQueue (f : Nat) : KeepsQueue s (execXtsEncrypt f s) := by simp [execXtsEncrypt]

theorem execXtsDecrypt_keepsQueue (f : Nat) : KeepsQueue s (execXtsDecrypt f s) := by simp [execXtsDecrypt]

theorem execGcmEncrypt_keepsQueue (f : Nat) : KeepsQueue s (execGcmEncrypt f s) := by simp [execGcmEncrypt]

theorem execGcmDecrypt_keepsQueue (f : Nat) : KeepsQueue s (execGcmDecrypt f s) := by simp [execGcmDecrypt]

theorem execBksStore_keepsQueue (f : Nat) : KeepsQueue s (execBksStore f s) := by
  simp only [execBksStore, keepsQueue_next]
  (repeat' split) <;> simp

theorem execBksDestroy_keepsQueue (f : Nat) : KeepsQueue s (execBksDestroy f s) := by simp [execBksDestroy]

theorem execBksStatus_keepsQueue (f : Nat) : KeepsQueue s (execBksStatus f s) := by simp [execBksStatus]

@[simp] theorem State.zeroize_pending (resp : BitVec 3) : (s.zeroize resp).pending = s.pending := by simp [State.zeroize]

theorem execZeroizeErase_keepsQueue (f : Nat) : KeepsQueue s (execZeroizeErase f s) := by simp [execZeroizeErase]

theorem execZeroizeEraseLock_keepsQueue (f : Nat) : KeepsQueue s (execZeroizeEraseLock f s) := by simp [execZeroizeEraseLock]

theorem execIdCertRead_keepsQueue (f : Nat) : KeepsQueue s (execIdCertRead f s) := by
  simp only [execIdCertRead, keepsQueue_next]
  split <;> simp

theorem execCascadeCertLoad_keepsQueue (f : Nat) : KeepsQueue s (execCascadeCertLoad f s) := by
  simp only [execCascadeCertLoad, keepsQueue_next]
  split <;> simp

@[simp] theorem State.writeBack_pending (f : Nat) (out : Bytes) : (s.writeBack f out).pending = s.pending := by
  unfold State.writeBack
  split <;> simp

theorem execAttest_keepsQueue (f : Nat) : KeepsQueue s (execAttest f s) := by
  simp only [execAttest, keepsQueue_next]
  split <;> simp

theorem execBbxSeal_keepsQueue (f : Nat) : KeepsQueue s (execBbxSeal f s) := by
  simp only [execBbxSeal, keepsQueue_next]
  refine s.command_pending _ _ _ _ fun c => ?_
  split
  · simp
  · simp only [State.writeBack_pending, State.record_keeps, State.sign_pending]

@[simp] theorem State.kpCommit_pending (f off : Nat) (v : Word) : (s.kpCommit f off v).pending = s.pending := by
  simp [State.kpCommit]

@[simp] theorem State.kpCtlWrite_pending (f off : Nat) (v : Word) : (s.kpCtlWrite f off v).pending = s.pending := by
  simp [State.kpCtlWrite]

theorem execKpUnwrapDone_keepsQueue (f : Nat) : KeepsQueue s (execKpUnwrapDone f s) := by
  simp only [execKpUnwrapDone, keepsQueue_next]
  (repeat' split) <;> simp

/-! ### Lifecycle -/

@[simp] theorem State.decodeLc_pending (agree : Bool) : (s.decodeLc agree).pending = s.pending := by simp [State.decodeLc]

@[simp] theorem State.setOtp_pending (code : Nat) (b : Bytes) : (s.setOtp code b).pending = s.pending := by rfl

@[simp] theorem State.readOtp_pending (reads : List (Nat × Bytes)) : (s.readOtp reads).pending = s.pending := by rfl

theorem execLcOtpWrite_keepsQueue (f : Nat) : KeepsQueue s (execLcOtpWrite f s) := by simp [execLcOtpWrite]

theorem execLcOtpRead_keepsQueue (f : Nat) : KeepsQueue s (execLcOtpRead f s) := by simp [execLcOtpRead]

@[simp] theorem State.unsealBks_pending (fails : List Nat) : (s.unsealBks fails).pending = s.pending := by
  simp [State.unsealBks]

@[simp] theorem State.decrementStarts_pending : s.decrementStarts.pending = s.pending := by rfl

@[simp] theorem State.regenerate_pending (o : StartObs) : (s.regenerate o).pending = s.pending := by simp [State.regenerate]

@[simp] theorem State.closeScrap_pending : s.closeScrap.pending = s.pending := by
  unfold State.closeScrap
  split <;> simp only [State.setOtp_pending]

@[simp] theorem State.startKcu_pending (o : StartObs) : (s.startKcu o).pending = s.pending := by simp [State.startKcu]

@[simp] theorem State.prepareLc_pending (dst : Nat) : (s.prepareLc dst).pending = s.pending := by simp [State.prepareLc]

@[simp] theorem State.programBits_pending (bits : List (Nat × Nat)) : (s.programBits bits).pending = s.pending := by rfl

@[simp] theorem State.programStages_pending (dst : Nat) : (s.programStages dst).pending = s.pending := by rfl

@[simp] theorem State.transition_pending (dst a : Nat) (o : StartObs) : (s.transition dst a o).pending = s.pending := by
  simp [State.transition]

@[simp] theorem State.spendToken_pending : s.spendToken.pending = s.pending := by
  unfold State.spendToken
  split <;> simp

theorem execShuavoChallenge_keepsQueue (f : Nat) : KeepsQueue s (execShuavoChallenge f s) := by simp [execShuavoChallenge]

theorem execShuavoChallengeExpiry_keepsQueue : KeepsQueue s (execShuavoChallengeExpiry s) := by
  simp only [execShuavoChallengeExpiry, keepsQueue_next]
  split <;> simp

@[simp] theorem State.unlockDebug_pending (scope : Nat) : (s.unlockDebug scope).pending = s.pending := by
  simp [State.unlockDebug]

@[simp] theorem State.unlock_pending (scope a : Nat) : (s.unlock scope a).pending = s.pending := by simp [State.unlock]

@[simp] theorem State.failedResponse_pending : s.failedResponse.pending = s.pending := by rfl

theorem execShuavoResponse_keepsQueue (f : Nat) : KeepsQueue s (execShuavoResponse f s) := by simp [execShuavoResponse]

/-! ### Resets -/

@[simp] theorem State.settleFuse_pending : s.settleFuse.pending = s.pending := by simp [State.settleFuse]

@[simp] theorem State.cleared_pending (soft off : Bool) : (s.cleared soft off).pending = s.pending := by rfl

@[simp] theorem State.settleAlarms_pending : s.settleAlarms.pending = s.pending := by simp [State.settleAlarms]

@[simp] theorem State.drainBox_pending : s.drainBox.pending = s.pending := by simp [State.drainBox]

@[simp] theorem State.readFuses_pending (second : Word) : (s.readFuses second).pending = s.pending := by simp [State.readFuses]

@[simp] theorem State.start_pending (kind : Nat) (o : StartObs) : (s.start kind o).pending = s.pending := by simp [State.start]

@[simp] theorem State.startDecode_pending (kind : Nat) (o : StartObs) : (s.startDecode kind o).pending = s.pending := by
  simp [State.startDecode]

@[simp] theorem State.commitLatch_pending : s.commitLatch.pending = s.pending := by simp [State.commitLatch]

@[simp] theorem State.cutCommit_pending (n : Nat) (late : Bool) : (s.cutCommit n late).pending = s.pending := by
  simp [State.cutCommit]

@[simp] theorem State.cutBox_pending : s.cutBox.pending = s.pending := by simp [State.cutBox]

theorem execLatchCommit_keepsQueue : KeepsQueue s (execLatchCommit s) := by
  simp only [execLatchCommit, keepsQueue_next]
  (repeat' split) <;> simp

@[simp] theorem State.samplePins_pending (o : StartObs) : (s.samplePins o).pending = s.pending := by rfl

theorem execPowerOnReset_keepsQueue (o : StartObs) : KeepsQueue s (execPowerOnReset o s) := by simp [execPowerOnReset]

theorem execPerst_keepsQueue (o : StartObs) : KeepsQueue s (execPerst o s) := by simp [execPerst]

theorem execSoftReset_keepsQueue (o : StartObs) : KeepsQueue s (execSoftReset o s) := by simp [execSoftReset]

@[simp] theorem State.powerOff_pending : s.powerOff.pending = s.pending := by simp [State.powerOff]

@[simp] theorem State.cutTransition_pending (dst n : Nat) : (s.cutTransition dst n).pending = s.pending := by
  simp [State.cutTransition]

theorem execLcTransition_keepsQueue (f : Nat) (o : LcObs) : KeepsQueue s (execLcTransition f o s) := by
  simp only [execLcTransition, keepsQueue_next]
  split <;> simp

theorem execPwrgoodFall_keepsQueue : KeepsQueue s (execPwrgoodFall s) := by simp [execPwrgoodFall]

theorem execRailOutOfRange_keepsQueue (rail : Nat) : KeepsQueue s (execRailOutOfRange rail s) := by simp [execRailOutOfRange]

@[simp] theorem State.stopLookaside_pending (f : Nat) : (s.stopLookaside f).pending = s.pending := by simp [State.stopLookaside]

theorem execFunctionLevelReset_keepsQueue (f : Nat) : KeepsQueue s (execFunctionLevelReset f s) := by
  simp [execFunctionLevelReset]

@[simp] theorem State.seesPulse_pending (code : Nat) : (s.seesPulse code).2.pending = s.pending := by rfl

theorem execPfwAssert_keepsQueue : KeepsQueue s (execPfwAssert s) := by simp [execPfwAssert]

theorem execPfwDeassert_keepsQueue : KeepsQueue s (execPfwDeassert s) := by simp [execPfwDeassert]

theorem execPpsInEdge_keepsQueue : KeepsQueue s (execPpsInEdge s) := by simp [execPpsInEdge]

theorem execPpsOutPulse_keepsQueue : KeepsQueue s (execPpsOutPulse s) := by simp [execPpsOutPulse]

@[simp] theorem State.tbReject_pending : s.tbReject.pending = s.pending := by rfl

@[simp] theorem State.setTime_pending (w0 w1 v : Word) : (s.setTime w0 w1 v).pending = s.pending := by simp [State.setTime]

@[simp] theorem State.smbAnswer_pending (code : Byte) (block : Bool) (bytes : Bytes) :
    (s.smbAnswer code block bytes).pending = s.pending := by rfl

theorem execSmbIdent_keepsQueue : KeepsQueue s (execSmbIdent s) := by simp [execSmbIdent]

theorem execSmbStatus_keepsQueue : KeepsQueue s (execSmbStatus s) := by simp [execSmbStatus]

theorem execSmbTemp_keepsQueue : KeepsQueue s (execSmbTemp s) := by simp [execSmbTemp]

theorem execSmbVbat_keepsQueue : KeepsQueue s (execSmbVbat s) := by simp [execSmbVbat]

theorem execSmbBbx_keepsQueue : KeepsQueue s (execSmbBbx s) := by simp [execSmbBbx]

theorem execSmbPfw_keepsQueue : KeepsQueue s (execSmbPfw s) := by simp [execSmbPfw]

theorem execSmbWriteRefused_keepsQueue (code : Byte) (write : Bool) : KeepsQueue s (execSmbWriteRefused code write s) := by
  simp [execSmbWriteRefused]

/-! ### Register reads -/

@[simp] theorem State.answerRead_pending (v : Word) : (s.answerRead v).pending = s.pending := by rfl

@[simp] theorem State.latchWord_pending (key : Nat) (v : Word) : (s.latchWord key v).pending = s.pending := by rfl

@[simp] theorem State.readCntLow_pending (n key : Nat) : (s.readCntLow n key).pending = s.pending := by simp [State.readCntLow]

@[simp] theorem State.readCntHigh_pending (n key : Nat) : (s.readCntHigh n key).pending = s.pending := by
  unfold State.readCntHigh
  split <;> simp

@[simp] theorem State.readBar0_pending (id : RegId) (i j a : Nat) : (s.readBar0 id i j a).pending = s.pending := by
  unfold State.readBar0
  split <;> simp

@[simp] theorem State.readBar2_pending (f a : Nat) : (s.readBar2 f a).pending = s.pending := by
  unfold State.readBar2
  (repeat' split) <;> simp

@[simp] theorem State.hostRead_pending (f : Nat) (bar2 : Bool) (addr : Nat) : (s.hostRead f bar2 addr).pending = s.pending := by
  simp only [State.hostRead]
  (repeat' split) <;> simp

theorem execLowWordReadLatch_keepsQueue (f : Nat) (bar2 : Bool) (addr : Nat) :
    KeepsQueue s (execLowWordReadLatch f bar2 addr s) := by
  simp [execLowWordReadLatch]

theorem execReadClear_keepsQueue (f : Nat) (bar2 : Bool) (addr : Nat) : KeepsQueue s (execReadClear f bar2 addr s) := by
  simp [execReadClear]

theorem execForbiddenRegisterRead_keepsQueue (f : Nat) (bar2 : Bool) (addr : Nat) :
    KeepsQueue s (execForbiddenRegisterRead f bar2 addr s) := by
  simp [execForbiddenRegisterRead]

/-! ### Register writes -/

@[simp] theorem State.blockReject_pending (id : RegId) (i : Nat) : (s.blockReject id i).pending = s.pending := by
  unfold State.blockReject
  cases id <;> simp

@[simp] theorem State.reservedWrite_pending (id : RegId) (i a : Nat) : (s.reservedWrite id i a).pending = s.pending := by
  simp [State.reservedWrite]

@[simp] theorem State.absentWrite_pending (id : RegId) (i a : Nat) : (s.absentWrite id i a).pending = s.pending := by
  simp [State.absentWrite]

@[simp] theorem State.hold_pending (key : Nat) (v : Word) : (s.hold key v).pending = s.pending := by rfl

@[simp] theorem State.unhold_pending (keys : List Nat) : (s.unhold keys).pending = s.pending := by rfl

@[simp] theorem State.setRw_pending (r : RegRow) (i j : Nat) (v : Word) : (s.setRw r i j v).pending = s.pending := by rfl

@[simp] theorem State.clearBits_pending (id : RegId) (i : Nat) (v mask : Word) :
    (s.clearBits id i v mask).pending = s.pending := by rfl

@[simp] theorem State.checked_pending (r : RegRow) (i j : Nat) (v : Word) (ok : Bool) :
    (s.checked r i j v ok).pending = s.pending := by
  simp [State.checked]

@[simp] theorem State.orRsvd_pending (r : RegRow) (i a : Nat) (v : Word) (ok : Bool) :
    (s.orRsvd r i a v ok).pending = s.pending := by
  simp [State.orRsvd]

@[simp] theorem State.modeWrite_pending (a : Nat) (v : Word) : (s.modeWrite a v).pending = s.pending := by
  simp [State.modeWrite]

@[simp] theorem State.cntCommit_pending (n a : Nat) (v : Word) : (s.cntCommit n a v).pending = s.pending := by rfl

@[simp] theorem State.cfgCommit_pending (n a : Nat) (v : Word) : (s.cfgCommit n a v).pending = s.pending := by
  simp [State.cfgCommit]

@[simp] theorem State.ovfClear_pending (w : Nat) (v : Word) : (s.ovfClear w v).pending = s.pending := by rfl

@[simp] theorem State.cvuCommit_pending (p a : Nat) (v : Word) : (s.cvuCommit p a v).pending = s.pending := by
  simp [State.cvuCommit]

@[simp] theorem State.qMapWrite_pending (q : Nat) (v : Word) : (s.qMapWrite q v).pending = s.pending := by
  simp [State.qMapWrite]

@[simp] theorem State.shedCntWrite_pending (p : Nat) (v : Word) : (s.shedCntWrite p v).pending = s.pending := by
  simp [State.shedCntWrite]

@[simp] theorem State.shedBaseWrite_pending (id : RegId) (b : Bool) (p j a : Nat) (v : Word) :
    (s.shedBaseWrite id b p j a v).pending = s.pending := by
  simp [State.shedBaseWrite]

@[simp] theorem State.shedEntWrite_pending (p j : Nat) (v : Word) : (s.shedEntWrite p j v).pending = s.pending := by
  simp [State.shedEntWrite]

@[simp] theorem State.histCfgWrite_pending (h : Nat) (v : Word) : (s.histCfgWrite h v).pending = s.pending := by
  simp [State.histCfgWrite]

@[simp] theorem State.mtWrite_pending (i j : Nat) (v : Word) : (s.mtWrite i j v).pending = s.pending := by simp [State.mtWrite]

@[simp] theorem State.tagWrite_pending (i : Nat) (v : Word) : (s.tagWrite i v).pending = s.pending := by simp [State.tagWrite]

@[simp] theorem State.lanesWrite_pending (g : Nat) (v : Word) : (s.lanesWrite g v).pending = s.pending := by
  simp [State.lanesWrite]

@[simp] theorem State.grpWrite_pending (g off : Nat) (v : Word) : (s.grpWrite g off v).pending = s.pending := by
  simp [State.grpWrite]

@[simp] theorem State.rxWrite_pending (g : Nat) (v : Word) : (s.rxWrite g v).pending = s.pending := by simp [State.rxWrite]

@[simp] theorem State.mirrorWrite_pending (v : Word) : (s.mirrorWrite v).pending = s.pending := by simp [State.mirrorWrite]

@[simp] theorem State.hostScratch_pending (c j : Nat) (v : Word) : (s.hostScratch c j v).pending = s.pending := by
  simp [State.hostScratch]

@[simp] theorem State.policyWrite_pending (v : Word) : (s.policyWrite v).pending = s.pending := by simp [State.policyWrite]

@[simp] theorem State.cieRetireWrite_pending (a : Nat) (v : Word) : (s.cieRetireWrite a v).pending = s.pending := by
  simp [State.cieRetireWrite]

@[simp] theorem State.devIdWrite_pending (v : Word) : (s.devIdWrite v).pending = s.pending := by simp [State.devIdWrite]

@[simp] theorem State.applyWrite_pending (r : RegRow) (i j a : Nat) (v : Word) :
    (s.applyWrite r i j a v).pending = s.pending := by
  unfold State.applyWrite
  generalize r.id = id
  cases id <;> simp

@[simp] theorem State.writeReg_pending (r : RegRow) (i j a : Nat) (v : Word) : (s.writeReg r i j a v).pending = s.pending := by
  simp [State.writeReg]

@[simp] theorem State.ringCfgWrite_pending (f r a : Nat) (v : Word) : (s.ringCfgWrite f r a v).pending = s.pending := by
  simp [State.ringCfgWrite]

@[simp] theorem State.ringWrite_pending (f r k a : Nat) (v : Word) : (s.ringWrite f r k a v).pending = s.pending := by
  unfold State.ringWrite
  split <;> simp

@[simp] theorem State.maskWrite_pending (f vec : Nat) (masked : Bool) : (s.maskWrite f vec masked).pending = s.pending := by
  simp [State.maskWrite]

@[simp] theorem State.writeBar2_pending (f a : Nat) (v : Word) : (s.writeBar2 f a v).pending = s.pending := by
  unfold State.writeBar2
  split <;> simp

@[simp] theorem State.writeAbsent_pending (id : Option RegId) (a : Nat) : (s.writeAbsent id a).pending = s.pending := by
  simp [State.writeAbsent]

@[simp] theorem State.hostWrite_pending (f : Nat) (bar2 : Bool) (a : Nat) (v : Word) :
    (s.hostWrite f bar2 a v).pending = s.pending := by
  unfold State.hostWrite
  (repeat' split) <;> simp

@[simp] theorem State.partialWrite_pending (f : Nat) (bar2 : Bool) (a : Nat) :
    (s.partialWrite f bar2 a).pending = s.pending := by
  simp only [State.partialWrite]
  (repeat' split) <;> simp

theorem execRegWrite_keepsQueue (f : Nat) (bar2 : Bool) (addr : Nat) (be : BitVec 4) (v : Word) :
    KeepsQueue s (execRegWrite f bar2 addr be v s) := by
  simp [execRegWrite]

theorem execSchShedCtlSel_keepsQueue (port : Nat) (v : Word) : KeepsQueue s (execSchShedCtlSel port v s) := by
  simp [execSchShedCtlSel]

theorem execSchHistSnap_keepsQueue (h : Nat) (v : Word) : KeepsQueue s (execSchHistSnap h v s) := by simp [execSchHistSnap]

theorem execCieRetire_keepsQueue (v : Word) : KeepsQueue s (execCieRetire v s) := by simp [execCieRetire]

theorem execCieProfileWrite_keepsQueue (pair : Nat) (v : Word) : KeepsQueue s (execCieProfileWrite pair v s) := by
  simp [execCieProfileWrite]

theorem execLksCapWrite_keepsQueue (v : Word) : KeepsQueue s (execLksCapWrite v s) := by simp [execLksCapWrite]

theorem execKpCommit_keepsQueue (f : Nat) (v : Word) : KeepsQueue s (execKpCommit f v s) := by simp [execKpCommit]

theorem execKpClear_keepsQueue (f : Nat) (v : Word) : KeepsQueue s (execKpClear f v s) := by simp [execKpClear]

theorem execHifRingTailWrite_keepsQueue (f r : Nat) (v : Word) : KeepsQueue s (execHifRingTailWrite f r v s) := by
  simp [execHifRingTailWrite]

theorem execHifRingEnable_keepsQueue (f r : Nat) (v : Word) : KeepsQueue s (execHifRingEnable f r v s) := by
  simp [execHifRingEnable]

theorem execHifRingResume_keepsQueue (f r : Nat) (v : Word) : KeepsQueue s (execHifRingResume f r v s) := by
  simp [execHifRingResume]

theorem execHifModeWrite_keepsQueue (v : Word) : KeepsQueue s (execHifModeWrite v s) := by simp [execHifModeWrite]

theorem execShuCardCtlWrite_keepsQueue (c : Nat) (v : Word) : KeepsQueue s (execShuCardCtlWrite c v s) := by
  simp [execShuCardCtlWrite]

theorem execShuStagePromote_keepsQueue (v : Word) : KeepsQueue s (execShuStagePromote v s) := by simp [execShuStagePromote]

theorem execShuStageDiscard_keepsQueue (v : Word) : KeepsQueue s (execShuStageDiscard v s) := by simp [execShuStageDiscard]

theorem execWovCkTxSlotWrite_keepsQueue (g : Nat) (v : Word) : KeepsQueue s (execWovCkTxSlotWrite g v s) := by
  simp [execWovCkTxSlotWrite]

theorem execWovTxMapWrite_keepsQueue (g : Nat) (v : Word) : KeepsQueue s (execWovTxMapWrite g v s) := by
  simp [execWovTxMapWrite]

theorem execWovGrpCfgWrite_keepsQueue (g : Nat) (v : Word) : KeepsQueue s (execWovGrpCfgWrite g v s) := by
  simp [execWovGrpCfgWrite]

theorem execLmtSnapshot_keepsQueue (v : Word) : KeepsQueue s (execLmtSnapshot v s) := by simp [execLmtSnapshot]

theorem execPrbsClr_keepsQueue (lane : Nat) (v : Word) : KeepsQueue s (execPrbsClr lane v s) := by simp [execPrbsClr]

theorem execMscInitGo_keepsQueue (v : Word) : KeepsQueue s (execMscInitGo v s) := by simp [execMscInitGo]

theorem execMscLineReinit_keepsQueue (v : Word) : KeepsQueue s (execMscLineReinit v s) := by simp [execMscLineReinit]

theorem execMkiRetire_keepsQueue (v : Word) : KeepsQueue s (execMkiRetire v s) := by simp [execMkiRetire]

theorem execPmcReturn_keepsQueue (v : Word) : KeepsQueue s (execPmcReturn v s) := by simp [execPmcReturn]

theorem execPmcScrReload_keepsQueue (v : Word) : KeepsQueue s (execPmcScrReload v s) := by simp [execPmcScrReload]

theorem execPmcWakeSeal_keepsQueue (v : Word) : KeepsQueue s (execPmcWakeSeal v s) := by simp [execPmcWakeSeal]

theorem execTmuAlarmClr_keepsQueue (v : Word) : KeepsQueue s (execTmuAlarmClr v s) := by simp [execTmuAlarmClr]

theorem execTmuFuseProgram_keepsQueue (v : Word) : KeepsQueue s (execTmuFuseProgram v s) := by simp [execTmuFuseProgram]

theorem execTbSet_keepsQueue (v : Word) : KeepsQueue s (execTbSet v s) := by simp [execTbSet]

theorem execEvcCntWrite_keepsQueue (n : Nat) (high : Bool) (v : Word) : KeepsQueue s (execEvcCntWrite n high v s) := by
  simp [execEvcCntWrite]

theorem execEvcCfgCommit_keepsQueue (n : Nat) (v : Word) : KeepsQueue s (execEvcCfgCommit n v s) := by simp [execEvcCfgCommit]

theorem execCvuCtlCommit_keepsQueue (p : Nat) (v : Word) : KeepsQueue s (execCvuCtlCommit p v s) := by simp [execCvuCtlCommit]

/-! ### The dispatch -/

/-- A command keeps the queue, each by the rule of its own function. -/
theorem exec_keepsQueue : (c : Instr) → KeepsQueue s (exec c s)
  | .add b d a c => execAdd_keepsQueue s b d a c
  | .sub b d a c => execSub_keepsQueue s b d a c
  | .bitAnd b d a c => execBitAnd_keepsQueue s b d a c
  | .bitOr b d a c => execBitOr_keepsQueue s b d a c
  | .bitXor b d a c => execBitXor_keepsQueue s b d a c
  | .shl b d a c => execShl_keepsQueue s b d a c
  | .shr b d a c => execShr_keepsQueue s b d a c
  | .sar b d a c => execSar_keepsQueue s b d a c
  | .mul b d a c => execMul_keepsQueue s b d a c
  | .mulhu b d a c => execMulhu_keepsQueue s b d a c
  | .minS b d a c => execMinS_keepsQueue s b d a c
  | .maxS b d a c => execMaxS_keepsQueue s b d a c
  | .minU b d a c => execMinU_keepsQueue s b d a c
  | .maxU b d a c => execMaxU_keepsQueue s b d a c
  | .popc b d a c => execPopc_keepsQueue s b d a c
  | .clz b d a c => execClz_keepsQueue s b d a c
  | .bswap16 b d a c => execBswap16_keepsQueue s b d a c
  | .bswap32 b d a c => execBswap32_keepsQueue s b d a c
  | .bswap64 b d a c => execBswap64_keepsQueue s b d a c
  | .addi b d a imm => execAddi_keepsQueue s b d a imm
  | .andi b d a imm => execAndi_keepsQueue s b d a imm
  | .ori b d a imm => execOri_keepsQueue s b d a imm
  | .xori b d a imm => execXori_keepsQueue s b d a imm
  | .li b d a imm => execLi_keepsQueue s b d a imm
  | .lis b d a imm => execLis_keepsQueue s b d a imm
  | .extF b d a imm => execExtF_keepsQueue s b d a imm
  | .depF b d a imm => execDepF_keepsQueue s b d a imm
  | .beq b a c off => execBeq_keepsQueue s b a c off
  | .bne b a c off => execBne_keepsQueue s b a c off
  | .blt b a c off => execBlt_keepsQueue s b a c off
  | .bge b a c off => execBge_keepsQueue s b a c off
  | .bltu b a c off => execBltu_keepsQueue s b a c off
  | .bgeu b a c off => execBgeu_keepsQueue s b a c off
  | .jal b d off => execJal_keepsQueue s b d off
  | .jr b d a c => execJr_keepsQueue s b d a c
  | .ldw b d a size sub off => execLdw_keepsQueue s b d a size sub off
  | .stw b d a size sub off => execStw_keepsQueue s b d a size sub off
  | .wedit b d a size sub off => execWedit_keepsQueue s b d a size sub off
  | .ldp b d a size sub off => execLdp_keepsQueue s b d a size sub off
  | .stp b d a size sub off => execStp_keepsQueue s b d a size sub off
  | .lds b d a size sub off => execLds_keepsQueue s b d a size sub off
  | .sts b d a size sub off => execSts_keepsQueue s b d a size sub off
  | .faddS b d a size sub off => execFaddS_keepsQueue s b d a size sub off
  | .fence b d a c imm => execFence_keepsQueue s b d a c imm
  | .lookFt b d a c imm => execLookFt_keepsQueue s b d a c imm
  | .lookMt b d a c imm => execLookMt_keepsQueue s b d a c imm
  | .lookAt b d a c imm => execLookAt_keepsQueue s b d a c imm
  | .pnNext b d a c imm => execPnNext_keepsQueue s b d a c imm
  | .pnPeek b d a c imm => execPnPeek_keepsQueue s b d a c imm
  | .ordDom b d a c imm => execOrdDom_keepsQueue s b d a c imm
  | .ordRel b d a c imm => execOrdRel_keepsQueue s b d a c imm
  | .sealFrame b d a c imm => execSealFrame_keepsQueue s b d a c imm
  | .openFrame b d a c imm => execOpenFrame_keepsQueue s b d a c imm
  | .crcRun b d a c imm => execCrcRun_keepsQueue s b d a c imm
  | .crcChk b d a c imm => execCrcChk_keepsQueue s b d a c imm
  | .crcGet b d a c imm => execCrcGet_keepsQueue s b d a c imm
  | .crcSet b d a c imm => execCrcSet_keepsQueue s b d a c imm
  | .pol b d a c imm => execPol_keepsQueue s b d a c imm
  | .tb b d a c imm => execTb_keepsQueue s b d a c imm
  | .enq b d a c imm => execEnq_keepsQueue s b d a c imm
  | .dropPick b d a c imm => execDropPick_keepsQueue s b d a c imm
  | .punt b d a c imm => execPunt_keepsQueue s b d a c imm
  | .fwd b d a c imm => execFwd_keepsQueue s b d a c imm
  | .mirror b d a c imm => execMirror_keepsQueue s b d a c imm
  | .evcInc b d a c imm => execEvcInc_keepsQueue s b d a c imm
  | .evcAdd b d a c imm => execEvcAdd_keepsQueue s b d a c imm
  | .waitSb b d a c imm => execWaitSb_keepsQueue s b d a c imm
  | .trapProg b d a c imm => execTrapProg_keepsQueue s b d a c imm
  | .halt b d a c imm => execHalt_keepsQueue s b d a c imm
  | .lookFtDone b d => execLookFtDone_keepsQueue s b d
  | .lookMtDone b d => execLookMtDone_keepsQueue s b d
  | .lookAtDone b d => execLookAtDone_keepsQueue s b d
  | .pnNextServe b d => execPnNextServe_keepsQueue s b d
  | .pnPeekServe b d => execPnPeekServe_keepsQueue s b d
  | .ordDomGrant b d => execOrdDomGrant_keepsQueue s b d
  | .openServe p => execOpenServe_keepsQueue s p
  | .openVerdictCommit p => execOpenVerdictCommit_keepsQueue s p
  | .sealDone p => execSealDone_keepsQueue s p
  | .crcGetDone b d => execCrcGetDone_keepsQueue s b d
  | .ldsDone b d => execLdsDone_keepsQueue s b d
  | .faddSDone b d => execFaddSDone_keepsQueue s b d
  | .frameReceive port frame => execFrameReceive_keepsQueue s port frame
  | .pickDispatch b => execPickDispatch_keepsQueue s b
  | .pickRelease p => execPickRelease_keepsQueue s p
  | .puntMirrorRelease p => execPuntMirrorRelease_keepsQueue s p
  | .spillReturn q intact => execSpillReturn_keepsQueue s q intact
  | .schedSelect port => execSchedSelect_keepsQueue s port
  | .cutThroughStart port p => execCutThroughStart_keepsQueue s port p
  | .cutFcsReached port => execCutFcsReached_keepsQueue s port
  | .frameTxEnd port => execFrameTxEnd_keepsQueue s port
  | .cellWaitEnd p => execCellWaitEnd_keepsQueue s p
  | .refillTick => execRefillTick_keepsQueue s
  | .shedEntryAdvance port => execShedEntryAdvance_keepsQueue s port
  | .shedBankSwitch port => execShedBankSwitch_keepsQueue s port
  | .schShedCtlSel port v => execSchShedCtlSel_keepsQueue s port v
  | .histDepthSample h => execHistDepthSample_keepsQueue s h
  | .schHistSnap h v => execSchHistSnap_keepsQueue s h v
  | .schHistSnapDone h => execSchHistSnapDone_keepsQueue s h
  | .engineJobStart => execEngineJobStart_keepsQueue s
  | .jobSuspend e => execJobSuspend_keepsQueue s e
  | .engineJobComplete e => execEngineJobComplete_keepsQueue s e
  | .maskStallEnd e => execMaskStallEnd_keepsQueue s e
  | .maskExpanderReseed pair => execMaskExpanderReseed_keepsQueue s pair
  | .engineSelfCheckFault e => execEngineSelfCheckFault_keepsQueue s e
  | .katPeriodic e pass => execKatPeriodic_keepsQueue s e pass
  | .cieRetire v => execCieRetire_keepsQueue s v
  | .cieProfileWrite pair v => execCieProfileWrite_keepsQueue s pair v
  | .lksCapWrite v => execLksCapWrite_keepsQueue s v
  | .drbgStartupTest pass => execDrbgStartupTest_keepsQueue s pass
  | .drbgReseed pass => execDrbgReseed_keepsQueue s pass
  | .drbgHealthFail => execDrbgHealthFail_keepsQueue s
  | .drainTimerExpiry r => execDrainTimerExpiry_keepsQueue s r
  | .atInstall f => execAtInstall_keepsQueue s f
  | .atSlotLoad f => execAtSlotLoad_keepsQueue s f
  | .atTxslot f => execAtTxslot_keepsQueue s f
  | .atSlotRetire f => execAtSlotRetire_keepsQueue s f
  | .atStateSuspend f => execAtStateSuspend_keepsQueue s f
  | .atStateResume f => execAtStateResume_keepsQueue s f
  | .atStateRemove f => execAtStateRemove_keepsQueue s f
  | .atRxPn f => execAtRxPn_keepsQueue s f
  | .atSetCut f => execAtSetCut_keepsQueue s f
  | .atSetCutEvent f => execAtSetCutEvent_keepsQueue s f
  | .atSetReplay f => execAtSetReplay_keepsQueue s f
  | .atSetWindow f => execAtSetWindow_keepsQueue s f
  | .atSetPolicer f => execAtSetPolicer_keepsQueue s f
  | .atSetQbase f => execAtSetQbase_keepsQueue s f
  | .atSetK f => execAtSetK_keepsQueue s f
  | .atSetSuite f => execAtSetSuite_keepsQueue s f
  | .atSetMode f => execAtSetMode_keepsQueue s f
  | .atSetDomain f => execAtSetDomain_keepsQueue s f
  | .atRead f => execAtRead_keepsQueue s f
  | .atBulkLoad f => execAtBulkLoad_keepsQueue s f
  | .atBulkLoadFlows f => execAtBulkLoadFlows_keepsQueue s f
  | .ftInsert f => execFtInsert_keepsQueue s f
  | .ftReplace f => execFtReplace_keepsQueue s f
  | .ftDelete f => execFtDelete_keepsQueue s f
  | .ftRead f => execFtRead_keepsQueue s f
  | .clothKeyLoad f => execClothKeyLoad_keepsQueue s f
  | .clothKeyRetire f => execClothKeyRetire_keepsQueue s f
  | .cardStage f => execCardStage_keepsQueue s f
  | .cardStageDone => execCardStageDone_keepsQueue s
  | .lksKeyLoad f => execLksKeyLoad_keepsQueue s f
  | .lksKeyDestroy f => execLksKeyDestroy_keepsQueue s f
  | .xtsEncrypt f => execXtsEncrypt_keepsQueue s f
  | .xtsDecrypt f => execXtsDecrypt_keepsQueue s f
  | .gcmEncrypt f => execGcmEncrypt_keepsQueue s f
  | .gcmDecrypt f => execGcmDecrypt_keepsQueue s f
  | .inject f => execInject_keepsQueue s f
  | .puntBuf f => execPuntBuf_keepsQueue s f
  | .bksStore f => execBksStore_keepsQueue s f
  | .bksDestroy f => execBksDestroy_keepsQueue s f
  | .bksStatus f => execBksStatus_keepsQueue s f
  | .zeroizeErase f => execZeroizeErase_keepsQueue s f
  | .zeroizeEraseLock f => execZeroizeEraseLock_keepsQueue s f
  | .idCertRead f => execIdCertRead_keepsQueue s f
  | .cascadeCertLoad f => execCascadeCertLoad_keepsQueue s f
  | .attest f => execAttest_keepsQueue s f
  | .lcTransition f o => execLcTransition_keepsQueue s f o
  | .shuavoChallenge f => execShuavoChallenge_keepsQueue s f
  | .shuavoResponse f => execShuavoResponse_keepsQueue s f
  | .lcOtpWrite f => execLcOtpWrite_keepsQueue s f
  | .lcOtpRead f => execLcOtpRead_keepsQueue s f
  | .bbxSeal f => execBbxSeal_keepsQueue s f
  | .kpCommit f v => execKpCommit_keepsQueue s f v
  | .kpUnwrapDone f => execKpUnwrapDone_keepsQueue s f
  | .kpClear f v => execKpClear_keepsQueue s f v
  | .hifRingTailWrite f r v => execHifRingTailWrite_keepsQueue s f r v
  | .hifRingEnable f r v => execHifRingEnable_keepsQueue s f r v
  | .hifRingResume f r v => execHifRingResume_keepsQueue s f r v
  | .descriptorFetch f r desc buf => execDescriptorFetch_keepsQueue s f r desc buf
  | .dmaFault f r k => execDmaFault_keepsQueue s f r k
  | .hifCmdWatchdogExpiry f => execHifCmdWatchdogExpiry_keepsQueue s f
  | .hifLateAnswer f => execHifLateAnswer_keepsQueue s f
  | .imodTimerExpiry f r => execImodTimerExpiry_keepsQueue s f r
  | .functionLevelReset f => execFunctionLevelReset_keepsQueue s f
  | .hifModeWrite v => execHifModeWrite_keepsQueue s v
  | .shuCardCtlWrite c v => execShuCardCtlWrite_keepsQueue s c v
  | .clusterDrained c => execClusterDrained_keepsQueue s c
  | .cardLoadDone c res => execCardLoadDone_keepsQueue s c res
  | .shuStagePromote v => execShuStagePromote_keepsQueue s v
  | .shuStageDiscard v => execShuStageDiscard_keepsQueue s v
  | .clusterQuarantine c => execClusterQuarantine_keepsQueue s c
  | .clockFailure dom => execClockFailure_keepsQueue s dom
  | .laneFrameSend l => execLaneFrameSend_keepsQueue s l
  | .clothItemSend g fill => execClothItemSend_keepsQueue s g fill
  | .laneFrameReceive l ws => execLaneFrameReceive_keepsQueue s l ws
  | .rowRelease g => execRowRelease_keepsQueue s g
  | .rowWaitExpiry g m => execRowWaitExpiry_keepsQueue s g m
  | .clothItemReceive g => execClothItemReceive_keepsQueue s g
  | .resyncAtMarker g => execResyncAtMarker_keepsQueue s g
  | .wovCkTxSlotWrite g v => execWovCkTxSlotWrite_keepsQueue s g v
  | .keymarkSend g => execKeymarkSend_keepsQueue s g
  | .wovTxMapWrite g v => execWovTxMapWrite_keepsQueue s g v
  | .memberAnnounce g => execMemberAnnounce_keepsQueue s g
  | .mapTakeEffect g => execMapTakeEffect_keepsQueue s g
  | .wovGrpCfgWrite g v => execWovGrpCfgWrite_keepsQueue s g v
  | .headerSealerKatFail g => execHeaderSealerKatFail_keepsQueue s g
  | .pmSecondEnd => execPmSecondEnd_keepsQueue s
  | .lmtSnapshot v => execLmtSnapshot_keepsQueue s v
  | .lmtSnapshotDone => execLmtSnapshotDone_keepsQueue s
  | .losDetectorChange lane los lol => execLosDetectorChange_keepsQueue s lane los lol
  | .linkChange port up => execLinkChange_keepsQueue s port up
  | .linkTrainingTimeout port => execLinkTrainingTimeout_keepsQueue s port
  | .prbsClr lane v => execPrbsClr_keepsQueue s lane v
  | .weftLinkStateChange n e => execWeftLinkStateChange_keepsQueue s n e
  | .trainReq n payload => execTrainReq_keepsQueue s n payload
  | .trainRsp n payload => execTrainRsp_keepsQueue s n payload
  | .trainDone n => execTrainDone_keepsQueue s n
  | .keyHello n payload => execKeyHello_keepsQueue s n payload
  | .keyShare n payload => execKeyShare_keepsQueue s n payload
  | .keyFinish n payload => execKeyFinish_keepsQueue s n payload
  | .sidebandStatus n payload => execSidebandStatus_keepsQueue s n payload
  | .sidebandRetry n => execSidebandRetry_keepsQueue s n
  | .weftTrainTimeout n => execWeftTrainTimeout_keepsQueue s n
  | .weftKeyRetry n => execWeftKeyRetry_keepsQueue s n
  | .weftRekeyTimer n => execWeftRekeyTimer_keepsQueue s n
  | .weftItemSend n => execWeftItemSend_keepsQueue s n
  | .weftFrameReceive n item => execWeftFrameReceive_keepsQueue s n item
  | .weftSkipReceive n item => execWeftSkipReceive_keepsQueue s n item
  | .weftAckReceive n item => execWeftAckReceive_keepsQueue s n item
  | .weftNakReceive n item => execWeftNakReceive_keepsQueue s n item
  | .weftKeyswitchReceive n item => execWeftKeyswitchReceive_keepsQueue s n item
  | .weftTimeReceive n item => execWeftTimeReceive_keepsQueue s n item
  | .weftAckTimeout n => execWeftAckTimeout_keepsQueue s n
  | .weftAckSend n => execWeftAckSend_keepsQueue s n
  | .weftTimeSend n => execWeftTimeSend_keepsQueue s n
  | .dramRead buffer line path => execDramRead_keepsQueue s buffer line path
  | .rerootDone buffer first count => execRerootDone_keepsQueue s buffer first count
  | .dramLineWrite buffer mki line data path => execDramLineWrite_keepsQueue s buffer mki line data path
  | .dramPartialWrite buffer mki line off data path => execDramPartialWrite_keepsQueue s buffer mki line off data path
  | .cacheWriteback idx path => execCacheWriteback_keepsQueue s idx path
  | .dramFetchTimeout ch line => execDramFetchTimeout_keepsQueue s ch line
  | .dramLateArrival ch => execDramLateArrival_keepsQueue s ch
  | .patrolScrubRead buffer line path => execPatrolScrubRead_keepsQueue s buffer line path
  | .stackFail st ch => execStackFail_keepsQueue s st ch
  | .mirrorRebuildDone st => execMirrorRebuildDone_keepsQueue s st
  | .mscInitGo v => execMscInitGo_keepsQueue s v
  | .mscInitStart => execMscInitStart_keepsQueue s
  | .mscInitDone => execMscInitDone_keepsQueue s
  | .mscLineReinit v => execMscLineReinit_keepsQueue s v
  | .mkiRetire v => execMkiRetire_keepsQueue s v
  | .mkiRetired k => execMkiRetired_keepsQueue s k
  | .pmcDecision => execPmcDecision_keepsQueue s
  | .wakeAdmit => execWakeAdmit_keepsQueue s
  | .domainSleepEntered dom => execDomainSleepEntered_keepsQueue s dom
  | .domainPoweredUp dom => execDomainPoweredUp_keepsQueue s dom
  | .domainFresh dom => execDomainFresh_keepsQueue s dom
  | .pmcReturn v => execPmcReturn_keepsQueue s v
  | .bistDone dom pass => execBistDone_keepsQueue s dom pass
  | .pmcScrReload v => execPmcScrReload_keepsQueue s v
  | .scratchCopyDone c => execScratchCopyDone_keepsQueue s c
  | .pmcWakeSeal v => execPmcWakeSeal_keepsQueue s v
  | .tamperSample src a b => execTamperSample_keepsQueue s src a b
  | .tamperDecision a b => execTamperDecision_keepsQueue s a b
  | .eraseReadbackDone zeros => execEraseReadbackDone_keepsQueue s zeros
  | .batterySample src a b => execBatterySample_keepsQueue s src a b
  | .latchCommit => execLatchCommit_keepsQueue s
  | .tmuAlarmClr v => execTmuAlarmClr_keepsQueue s v
  | .tmuFuseProgram v => execTmuFuseProgram_keepsQueue s v
  | .meshMeasure m ohms => execMeshMeasure_keepsQueue s m ohms
  | .bbxRecordWrite => execBbxRecordWrite_keepsQueue s
  | .powerOnReset o => execPowerOnReset_keepsQueue s o
  | .perst o => execPerst_keepsQueue s o
  | .softReset o => execSoftReset_keepsQueue s o
  | .pwrgoodFall => execPwrgoodFall_keepsQueue s
  | .railOutOfRange rail => execRailOutOfRange_keepsQueue s rail
  | .pfwAssert => execPfwAssert_keepsQueue s
  | .pfwDeassert => execPfwDeassert_keepsQueue s
  | .ppsInEdge => execPpsInEdge_keepsQueue s
  | .ppsOutPulse => execPpsOutPulse_keepsQueue s
  | .tbSet v => execTbSet_keepsQueue s v
  | .evcCntWrite n high v => execEvcCntWrite_keepsQueue s n high v
  | .evcCfgCommit n v => execEvcCfgCommit_keepsQueue s n v
  | .cvuCtlCommit p v => execCvuCtlCommit_keepsQueue s p v
  | .lowWordReadLatch f bar2 addr => execLowWordReadLatch_keepsQueue s f bar2 addr
  | .readClear f bar2 addr => execReadClear_keepsQueue s f bar2 addr
  | .regWrite f bar2 addr be v => execRegWrite_keepsQueue s f bar2 addr be v
  | .smbIdent => execSmbIdent_keepsQueue s
  | .smbStatus => execSmbStatus_keepsQueue s
  | .smbTemp => execSmbTemp_keepsQueue s
  | .smbVbat => execSmbVbat_keepsQueue s
  | .smbBbx => execSmbBbx_keepsQueue s
  | .smbPfw => execSmbPfw_keepsQueue s
  | .smbWriteRefused code write => execSmbWriteRefused_keepsQueue s code write
  | .forbiddenRegisterRead f bar2 addr => execForbiddenRegisterRead_keepsQueue s f bar2 addr
  | .illegalFetch b => execIllegalFetch_keepsQueue s b
  | .blockLockChange lane locked => execBlockLockChange_keepsQueue s lane locked
  | .prbsLockChange lane locked errors => execPrbsLockChange_keepsQueue s lane locked errors
  | .sidebandMessageError n msg => execSidebandMessageError_keepsQueue s n msg
  | .shuavoChallengeExpiry => execShuavoChallengeExpiry_keepsQueue s
  | .vbatRetentionLost => execVbatRetentionLost_keepsQueue s

/-- Settles O2: each command of the dispatch answers a next state that keeps the queue, by the rule of its function
(`exec_keepsQueue`), and these rest on the rules of the functions that it calls. -/
theorem execKeepsQueue : Obligations.ExecKeepsQueue := fun c s => exec_keepsQueue s c

end Sys2Proof.Machine
end

section
/-! SUPPORT. An instruction that its bobbin's slot issues for a running pick: what `State.issue` leaves of its effect. -/

namespace Sys2Proof.Machine

/-! ### A key set twice -/

theorem tput_tput_same {α : Type} (t : Tbl α) (k : Nat) (v w : α) : tput (tput t k v) k w = tput t k w := by
  induction t with
  | nil => simp [tput]
  | cons e t ih =>
    obtain ⟨k', v'⟩ := e
    by_cases h : k' < k
    · simp [tput, h, ih]
    · by_cases h' : k' = k <;> simp [tput, h, h']

theorem tdel_tput_same {α : Type} (t : Tbl α) (k : Nat) (v : α) : tdel (tput t k v) k = tdel t k := by
  induction t with
  | nil => simp [tput, tdel]
  | cons e t ih =>
    obtain ⟨k', v'⟩ := e
    simp only [tdel] at ih
    by_cases h : k' < k
    · simp [tput, tdel, h, ih, List.filter_cons]
    · by_cases h' : k' = k <;> simp [tput, tdel, h, h']

theorem tset_tset_same {α : Type} [DecidableEq α] {d v : α} (t : Tbl α) (k : Nat) (w : α) (h : v ≠ d) :
    tset d (tset d t k v) k w = tset d t k w := by
  simp only [tset, if_neg h, tput_tput_same, tdel_tput_same]

theorem State.setBob_setBob (s : State) (b : Nat) {x : Bobbin} (y : Bobbin) (h : x ≠ {}) :
    (s.setBob b x).setBob b y = s.setBob b y := by
  simp only [State.setBob, tset_tset_same _ _ _ h]

theorem State.advance_setBob (s : State) (b pc : Nat) {x : Bobbin} (h : x ≠ {}) :
    (s.setBob b x).advance b pc = s.setBob b { x with pc := pc, count := x.count + 1 } := by
  rw [State.advance, State.bob_setBob, State.setBob_setBob _ _ _ h]

theorem State.updPick_of_pick {s : State} {b p : Nat} {k : Pick} (f : Pick → Pick) (hb : (s.bob b).pick = some p)
    (hk : s.pick p = some k) : s.updPick b f = s.setPick p (f k) := by
  simp only [State.updPick, hb, hk]

theorem Bobbin.ne_reset_of_pick {B : Bobbin} {p : Nat} (h : B.pick = some p) : B ≠ {} := by
  rintro rfl
  simp at h

/-! ### Issue (R43 to R48, R69, R101) -/

theorem State.mayIssueRun_iff (s : State) (b : Nat) (w : Word) (regs : List Reg) (p : Nat) (k : Pick) :
    s.mayIssueRun b w regs p k = true ↔ (s.bob b).left = none ∧ (s.bob b).pick = some p ∧ s.pick p = some k ∧ k.disp = 0
      ∧ s.fetchWord b = some w ∧ k.cellWait = false ∧ regs.any (s.bob b).busy = false
      ∧ (s.bob b).count < s.budget (s.bob b) := by
  constructor
  · intro h
    simp only [State.mayIssueRun, State.mayIssue, Bool.and_eq_true, decide_eq_true_eq, Bool.not_eq_true'] at h
    obtain ⟨⟨left, pick, hk, disp⟩, ⟨⟨⟨-, word⟩, cell⟩, free⟩, budget⟩ := h
    exact ⟨left, pick, hk, disp, word, by simpa [left] using cell, free, budget⟩
  · rintro ⟨left, pick, hk, disp, word, cell, free, budget⟩
    simp [State.mayIssueRun, State.mayIssue, State.bobPick, left, pick, hk, disp, word, cell, free, budget]

/-- R43 to R48: a slot that issues its instruction. -/
theorem State.issue_go {s t : State} {b p pc : Nat} {w : Word} {regs : List Reg} {k : Pick} {post : Bool}
    {eff : State → Bobbin → Pick → Act} (h : s.mayIssueRun b w regs p k = true)
    (he : eff (s.setBob b { s.bob b with tbNs := none }) (s.bob b) k = .go t pc) :
    s.issue b w post regs eff = t.advance b pc := by
  obtain ⟨left, pick, hk, disp, word, cell, free, budget⟩ := (s.mayIssueRun_iff b w regs p k).1 h
  have held : s.bobPick b = some k := by simp [State.bobPick, left, pick, hk]
  simp [State.issue, held, word, cell, free, disp, Nat.not_le.2 budget, he]

/-- R67: a slot whose instruction traps. -/
theorem State.issue_trap {s : State} {b p : Nat} {w : Word} {regs : List Reg} {k : Pick} {post : Bool} {tr : Trap}
    {eff : State → Bobbin → Pick → Act} (h : s.mayIssueRun b w regs p k = true)
    (he : eff (s.setBob b { s.bob b with tbNs := none }) (s.bob b) k = .trap tr) :
    s.issue b w post regs eff = s.trapAt b tr (s.bob b).pc w := by
  obtain ⟨left, pick, hk, disp, word, cell, free, budget⟩ := (s.mayIssueRun_iff b w regs p k).1 h
  have held : s.bobPick b = some k := by simp [State.bobPick, left, pick, hk]
  simp [State.issue, held, word, cell, free, disp, Nat.not_le.2 budget, he]

end Sys2Proof.Machine
end

section
/-! SUPPORT. The end of a pick by its program (R30, R50, R101 to R106), for O30 and O31. -/

namespace Sys2Proof.Machine

variable (s : State)

/-- R139: a slot reference given back, or kept for a cipher operation, changes the count of references and that of the record. -/
theorem State.giveRef_refs (k : Pick) : ∃ refs ref,
    s.giveRef k = ({ s with tab := { s.tab with refs := refs } }, { k with refHeld := ref }) := by
  unfold State.giveRef
  (repeat' split) <;> exact ⟨_, _, rfl⟩

/-- R30, R101: a disposition: the record as `f` makes it ends the pick and stays with the bobbin. -/
theorem State.disposePick_ends {s : State} {b p : Nat} {k : Pick} (f : Pick → Pick) (hb : (s.bob b).pick = some p)
    (hk : s.pick p = some k) : ∃ refs ref done,
      done = { f k with st := .ended, ordWait := false, endFrame := some k.frame, refHeld := ref }
      ∧ s.disposePick b f = (State.setPick { s with tab := { s.tab with refs := refs } } p done).setBob b
          { s.bob b with pick := none, left := some done, pend := (s.bob b).pend.filter (fun o => o.op.isScratch) } := by
  obtain ⟨refs, ref, h⟩ := s.giveRef_refs { f k with st := .ended, ordWait := false, endFrame := some k.frame }
  refine ⟨refs, ref, _, rfl, ?_⟩
  simp only [State.disposePick, hb, hk, h]
  rfl

/-- R101: an instruction of a running pick whose effect is a disposition. -/
theorem exec_disposes {c : Instr} {s : State} {b p : Nat} {w : Word} {regs : List Reg} {k : Pick}
    {eff : State → Bobbin → Pick → Act} (f : Pick → Pick) (hx : exec c s = .next (s.issue b w false regs eff))
    (h : s.mayIssueRun b w regs p k = true)
    (he : eff (s.setBob b { s.bob b with tbNs := none }) (s.bob b) k
      = .go ((s.setBob b { s.bob b with tbNs := none }).disposePick b f) ((s.bob b).pc + 1)) :
    ∃ t done, exec c s = .next t
      ∧ done = { f k with st := .ended, ordWait := false, endFrame := some k.frame, refHeld := done.refHeld }
      ∧ t.pick p = some done ∧ t.bob b = Claims.ended (s.bob b) done
      ∧ t = { s with shu := { s.shu with bobs := t.shu.bobs }, beam := { s.beam with picks := t.beam.picks },
                     tab := { s.tab with refs := t.tab.refs } } := by
  obtain ⟨-, pick, hk, -⟩ := (s.mayIssueRun_iff b w regs p k).1 h
  obtain ⟨refs, ref, done, hd, hs⟩ := State.disposePick_ends (s := s.setBob b { s.bob b with tbNs := none }) f
    (by rw [State.bob_setBob]; exact pick) hk
  rw [State.bob_setBob] at hs
  refine ⟨_, done, hx.trans (congrArg _ (State.issue_go h he)), by rw [hd], ?_, ?_, ?_⟩
  · rw [hs]; exact State.pick_setPick _ p done
  · rw [hs, State.advance, State.bob_setBob, State.bob_setBob]; rfl
  · rw [hs]; rfl

/-- Settles O30, an instruction at a time: ENQ, PUNT and FWD by `exec_disposes`, each with the record it makes; MIRROR
changes the record where it stands. -/
theorem dispositionEndsPick : Obligations.DispositionEndsPick := by
  rintro s b p d a c imm k x y rfl rfl
  refine ⟨?_, ?_, ?_, ?_⟩
  · intro h sb small noLook looked opened short
    refine exec_disposes (fun k' => { k' with
      queue := (if imm.getLsbD 0 then ((s.bob b).rd a).extractLsb' 0 14 else k.queue)
        + (if imm.getLsbD 1 then (k.snap.map (fun sn => sn.entry.qbase)).getD 0 else 0), disp := 1 }) rfl h ?_
    have queue : ∀ x z : BitVec 14, (if imm.getLsbD 1 then x + z else x) = x + (if imm.getLsbD 1 then z else 0) := by
      intro x z
      split <;> simp
    have wait : ((s.bob b).sb ≠ 0 || (imm.getLsbD 1 && (s.bob b).pends AsyncOp.isLookAt)) = false := by
      cases h1 : imm.getLsbD 1 <;> simp [sb, noLook, h1]
    have legal : (4 ≤ imm.toNat || (imm.getLsbD 1 && !k.lookedUp) || k.openFailed) = false := by
      cases h1 : imm.getLsbD 1 <;> simp [small, opened, looked, h1]
    simp only [wait, legal, if_neg (Nat.not_lt.2 short), queue, Bool.false_eq_true, if_false]
    rfl
  · intro h sb
    exact exec_disposes (fun k' => { k' with
      disp := 3, left := true, puntTo := some (((s.bob b).rd a).setWidth 8, imm.toNat) }) rfl h (if_neg (not_not.2 sb))
  · intro h sb vec budget opened present short
    refine exec_disposes (fun k' => { k' with
      disp := 4, fwdTo := some (((s.bob b).rd a).setWidth 16, imm.toNat, ((s.bob b).rd c).toNat % 2 ^ 16) }) rfl h ?_
    have legal : ¬ (16 ≤ imm.toNat ∨ (imm.toNat ≠ 3 ∧ imm.toNat < 6) ∨ (c ≠ 0 ∧ ((s.bob b).rd c).toNat % 2 ^ 16 = 0)
        ∨ k.openFailed = true) := by
      simp only [opened, Bool.false_eq_true, or_false]
      rintro (h | h | ⟨h, h'⟩)
      · omega
      · omega
      · exact budget.elim h fun hb => hb h'
    have weft : ¬ s.variant.weftPorts = 0 := by omega
    exact (if_neg (not_not.2 sb)).trans ((if_neg legal).trans ((if_neg weft).trans (if_neg (Nat.not_lt.2 short))))
  · intro h small room
    obtain ⟨-, pick, hk, -⟩ := (s.mayIssueRun_iff ..).1 h
    have legal : ¬ (4 ≤ imm.toNat ∨ 2 ≤ k.mirrorCount) := by omega
    have held : ({ s.bob b with tbNs := none } : Bobbin).pick = some p := pick
    refine congrArg _ ((State.issue_go h (if_neg legal)).trans ?_)
    rw [State.updPick_of_pick (s := s.setBob b { s.bob b with tbNs := none }) _ (by rw [State.bob_setBob]; exact held) hk]
    exact State.advance_setBob (s.setPick p _) b _ (Bobbin.ne_reset_of_pick held)

end Sys2Proof.Machine
end

section
/-! SUPPORT. What it changes to take a pick out of service (R31, R50, R139, R169), for O31 and O40. -/

namespace Sys2Proof.Machine

variable (s : State)

/-! ### Mask randomness (R169) -/

/-- R169: randomness taken from an expander changes the pair and the DRBG's counts. -/
theorem State.takeMask_pairs (p n : Nat) : ∃ ps d r, (s.takeMask p n).1
    = { s with cie := { s.cie with pairs := ps }, kcu := { s.kcu with draws := d, requests := r } } := by
  unfold State.takeMask
  dsimp only
  split
  · exact ⟨_, _, _, rfl⟩
  · split
    · exact ⟨_, _, _, rfl⟩
    · obtain ⟨d, r, h⟩ := s.drawSeeds_kcu ((n - (s.pair p).blocks + 65535) / 65536)
      exact ⟨_, d, r, by rw [h]; rfl⟩

/-- R169: so does what an unfinished job has used. -/
theorem State.spendMask_pairs (j : Job) : ∃ ps d r, s.spendMask j
    = { s with cie := { s.cie with pairs := ps }, kcu := { s.kcu with draws := d, requests := r } } := by
  have spend : ∀ e n, ∃ ps d r, (if j.constant then s else (s.takeMask e n).1)
      = { s with cie := { s.cie with pairs := ps }, kcu := { s.kcu with draws := d, requests := r } } := by
    intro e n
    split
    · exact ⟨_, _, _, rfl⟩
    · exact s.takeMask_pairs e n
  unfold State.spendMask
  cases j.st with
  | queued => exact ⟨_, _, _, rfl⟩
  | running e => exact spend _ _
  | suspended e => exact spend _ _
  | doomed e => exact spend _ _

theorem State.foldl_spendMask_pairs (l : List Job) : ∃ ps d r, l.foldl State.spendMask s
    = { s with cie := { s.cie with pairs := ps }, kcu := { s.kcu with draws := d, requests := r } } := by
  induction l generalizing s with
  | nil => exact ⟨_, _, _, rfl⟩
  | cons j l ih =>
    obtain ⟨ps, d, r, h⟩ := s.spendMask_pairs j
    obtain ⟨ps', d', r', h'⟩ := ih (s.spendMask j)
    exact ⟨ps', d', r', by rw [List.foldl_cons, h', h]⟩

/-! ### A pick's jobs (R50, R161) -/

/-- R161: an engine that resumes a suspended job changes whose work no job is. -/
theorem resumeOn_pick {e : Nat} {jobs : List Job} {x : Option Nat} (h : ∀ j ∈ jobs, j.pick ≠ x) :
    ∀ j ∈ resumeOn e jobs, j.pick ≠ x := by
  have map : ∀ a : Job, ∀ j ∈ jobs.map (fun j => if j.id = a.id then { j with st := .running e } else j), j.pick ≠ x := by
    intro a j hj
    obtain ⟨i, hi, rfl⟩ := List.mem_map.1 hj
    split <;> exact h i hi
  unfold resumeOn
  dsimp only
  (repeat' split)
  · exact h
  · exact h
  · exact map _

/-- R50: a pick's jobs cancelled: no job works for it any more. -/
theorem State.cancelJobs_jobs (p : Nat) : ∃ js ps d r, s.cancelJobs p
      = { s with cie := { s.cie with jobs := js, pairs := ps }, kcu := { s.kcu with draws := d, requests := r } }
    ∧ ∀ j ∈ js, j.pick ≠ some p := by
  obtain ⟨ps, d, r, h⟩ := s.foldl_spendMask_pairs (s.cie.jobs.filter (fun j => j.pick == some p))
  unfold State.cancelJobs
  simp only [h]
  refine ⟨_, ps, d, r, rfl, ?_⟩
  refine List.foldlRecOn (motive := fun js : List Job => ∀ j ∈ js, j.pick ≠ some p) _ _ ?_ fun js hjs e _ => resumeOn_pick hjs
  intro j hj
  simpa using (List.mem_filter.1 hj).2

/-! ### The end of a pick (R31, R106) -/

/-- R31: the record of a pick taken out of service with a reason, holding the slot reference `ref`. -/
def Pick.outOfService (k : Pick) (reason : Nat) (ref : Option (BitVec 24 × Bool)) : Pick :=
  { k with
    disp := 2, reason := BitVec.ofNat 8 reason, left := true, cipher := none, ordWait := false, cellWait := false
    puntTo := none, fwdTo := none, st := .ended, endFrame := some (k.endFrame.getD k.frame)
    mirrors := if reason = 2 ∨ reason = 5 then [] else k.mirrors, refHeld := ref }

/-- R31, R50, R139: what the end of a pick changes, and what it leaves in the pick's slot. -/
theorem State.endPick_leaves {s : State} {p : Nat} {k : Pick} (n : Nat) (h : s.pick p = some k) :
    ∃ js ps d r refs ref u, u = { s with cie := { s.cie with jobs := js, pairs := ps }
                                         kcu := { s.kcu with draws := d, requests := r }
                                         tab := { s.tab with refs := refs } }
      ∧ (∀ j ∈ js, j.pick ≠ some p)
      ∧ s.endPick p n = if (k.outOfService n ref).mirrors.isEmpty then u.delPick p else u.setPick p (k.outOfService n ref) := by
  obtain ⟨js, ps, d, r, hc, hjs⟩ := s.cancelJobs_jobs p
  obtain ⟨refs, ref, hg⟩ := (s.cancelJobs p).giveRef_refs (k.outOfService n k.refHeld)
  have ends : s.endPick p n = if (k.outOfService n ref).mirrors.isEmpty
      then ((s.cancelJobs p).giveRef (k.outOfService n k.refHeld)).1.delPick p
      else ((s.cancelJobs p).giveRef (k.outOfService n k.refHeld)).1.setPick p
        ((s.cancelJobs p).giveRef (k.outOfService n k.refHeld)).2 := by
    unfold State.endPick
    simp only [h]
    rfl
  refine ⟨js, ps, d, r, refs, ref, _, rfl, hjs, ?_⟩
  rw [ends, hg, hc]
  rfl

/-- R471: an occurrence about a pick changes the counters, and through their ends the rings. -/
theorem State.occurPick_parts (k : Pick) (x : Src) (i : Nat) :
    ∃ e h o, s.occurPick k x i = { s with evc := e, hif := h, out := o } := by
  have keeps := s.occurPick_keeps k x i
  generalize s.occurPick k x i = t at keeps
  refine ⟨t.evc, t.hif, t.out, ?_⟩
  cases t
  simp_all

end Sys2Proof.Machine
end

section
/-! SUPPORT. `drop` (R103), for O31. -/

namespace Sys2Proof.Machine

/-- R31, R103: what a drop changes, and what it leaves in the pick's slot. -/
theorem State.dropPick_leaves {s : State} {p : Nat} {k : Pick} (n : Nat) (h : s.pick p = some k) :
    ∃ js ps d r refs ref e hi o u, u = { s with cie := { s.cie with jobs := js, pairs := ps }
                                                kcu := { s.kcu with draws := d, requests := r }
                                                tab := { s.tab with refs := refs }, evc := e, hif := hi, out := o }
      ∧ (∀ j ∈ js, j.pick ≠ some p)
      ∧ s.dropPick p n = if (k.outOfService n ref).mirrors.isEmpty then u.delPick p else u.setPick p (k.outOfService n ref) := by
  obtain ⟨e, hi, o, ho⟩ := s.occurPick_parts k .dropReason n
  have held : (s.occurPick k .dropReason n).pick p = some k := by rw [ho]; exact h
  obtain ⟨js, ps, d, r, refs, ref, u, hu, hjs, hend⟩ := State.endPick_leaves n held
  rw [ho] at hu
  refine ⟨js, ps, d, r, refs, ref, e, hi, o, u, hu, hjs, ?_⟩
  rw [← hend]
  simp only [State.dropPick, h]

/-- R85: operations that land change no bobbin. -/
theorem State.bob_landFadds (s : State) (b x : Nat) : (s.landFadds b).bob x = s.bob x := rfl

/-- R31: a slot that holds a record or none, by whether mirror copies wait, and the others. -/
theorem State.pick_delPick_or_setPick {s t : State} {p : Nat} {k : Pick}
    (h : t = if k.mirrors.isEmpty then s.delPick p else s.setPick p k) :
    (k.mirrors = [] → t.pick p = none) ∧ (k.mirrors ≠ [] → t.pick p = some k) ∧ ∀ q, q ≠ p → t.pick q = s.pick q := by
  cases hm : k.mirrors with
  | nil =>
    rw [hm] at h
    subst h
    exact ⟨fun _ => s.pick_delPick p, fun h => absurd rfl h, fun q hq => s.pick_delPick_other hq⟩
  | cons m ms =>
    rw [hm] at h
    subst h
    exact ⟨nofun, fun _ => s.pick_setPick p k, fun q hq => s.pick_setPick_other k hq⟩

/-- Settles O31: a reason of the program's drops the pick (`State.issue_go`, `State.dropPick_leaves`) once the bobbin's pending
operations are given up; any other traps. -/
theorem dropEndsPick : Obligations.DropEndsPick := by
  intro s b p d a c imm k r h hr
  have given : programReason r = true ↔ (r = 3 ∨ r = 7 ∨ r = 8 ∨ 64 ≤ r) := by simp [programReason, or_assoc]
  refine ⟨fun ok => ?_, fun bad => ?_⟩
  · obtain ⟨-, pick, hk, -⟩ := (s.mayIssueRun_iff ..).1 h
    generalize hB : ({ s.bob b with pick := none, left := some { k with disp := 2, reason := BitVec.ofNat 8 r }, sb := 0
                                    pend := [], fenced := false, tbNs := none } : Bobbin) = B
    generalize hv : ((s.setBob b { s.bob b with tbNs := none }).landFadds b).setBob b B = v
    have issued : exec (.dropPick b d a c imm) s = .next ((v.dropPick p r).advance b ((s.bob b).pc + 1)) := by
      refine congrArg _ (State.issue_go h ?_)
      subst hv hB hr
      refine (if_neg (by rw [given.2 ok]; decide)).trans ?_
      simp only [State.bob_landFadds, State.bob_setBob, pick]
    obtain ⟨sh, hs⟩ : ∃ sh, v = { s with shu := sh } := ⟨_, hv.symm⟩
    have same : ∀ q, v.pick q = s.pick q := fun q => by rw [hs]; rfl
    obtain ⟨js, ps, dr, rq, refs, ref, e, hi, o, u, hu, hjs, hd⟩ := State.dropPick_leaves r ((same p).trans hk)
    have copies : (k.outOfService r ref).mirrors = k.mirrors := if_neg (by omega)
    obtain ⟨freed, kept, others⟩ := State.pick_delPick_or_setPick hd
    rw [copies] at freed kept
    have bob : (v.dropPick p r).bob b = B := by rw [(v.dropPick_reads p r b 0 .hifMode).1, ← hv, State.bob_setBob]
    refine ⟨_, issued, freed, fun copy => ⟨_, kept copy, rfl, ?_, rfl, rfl, copies, rfl⟩, fun q hq => ?_, ?_, ?_, ?_⟩
    · simp only [Pick.outOfService, BitVec.toNat_ofNat]
      omega
    · exact (others q hq).trans (by rw [hu]; exact same q)
    · rw [State.advance, State.setBob_cie, hd]
      split <;> simpa [hu] using hjs
    · rw [State.advance, State.bob_setBob, bob, ← hB]
      rfl
    · rw [State.advance, hd, hu, hs]
      split <;> rfl
  · refine congrArg _ (State.issue_trap h ?_)
    have refused : programReason r = false := by rw [← given] at bad; simpa using bad
    subst hr
    exact if_pos (by rw [refused]; rfl)

end Sys2Proof.Machine
end

section
/-! SUPPORT. The receipt of a frame at a port (R11, R12, R335), for O35. -/

namespace Sys2Proof.Machine

/-- R12, R28, R55: the record of a pick that begins with a number of its ingress domain. -/
def Pick.begun (k : Pick) (seq : Word) (born : Nat) (arrival : DWord) : Pick :=
  { k with
    seq := seq, orig := k.frame, defCls := k.cls, init := (k.assoc, k.kn, k.pn, k.u0, k.u1, k.u2)
    born := born, arrival := arrival, cells := cellsFor k.frame.length, st := .waiting }

/-- R12: a created pick stands in the lowest free slot, and nothing but the beam store changes. -/
theorem State.createPick_begun (s : State) (k : Pick) {p : Nat} (hp : p = firstFree s.beam.picks 0) :
    (s.createPick k).pick p = some (k.begun (tget 0 s.beam.seqs k.odom.toNat) s.beam.born s.now64)
      ∧ (∀ q, q ≠ p → (s.createPick k).pick q = s.pick q)
      ∧ s.createPick k = { s with beam := (s.createPick k).beam } := by
  subst hp
  exact ⟨tfind_tput_same _ _ _, fun q hq => tfind_tput_other _ _ hq, rfl⟩

/-- R28: the creation takes one number of the pick's ingress domain. -/
theorem State.createPick_seqs (s : State) (k : Pick) (x : Nat) : tget 0 (s.createPick k).beam.seqs x
    = tget 0 s.beam.seqs x + (if x = k.odom.toNat then 1 else 0) := by
  by_cases h : x = k.odom.toNat
  · subst h
    rw [if_pos rfl]
    exact tget_tset_same _ _ _ _
  · rw [if_neg h]
    exact (tget_tset_other _ _ _ _ h).trans (BitVec.add_zero _).symm

/-- R280: a frame below class 7 that the beam store has room for becomes a pick. -/
theorem State.arrive_fits {s : State} {k : Pick} (hc : k.cls ≠ 7)
    (fits : s.fits (cellsFor k.frame.length) (s.field .schAdmSlots 0 0 17) (s.field .schAdmCells 0 0 19) = true) :
    s.arrive k = s.createPick k := by
  simp only [State.arrive, State.admission, if_pos hc, if_pos fits]

/-- Settles O35: the checks of R335 in their order, then the pick that `State.createPick` makes. -/
theorem frameBecomesPick : Obligations.FrameBecomesPick := by
  rintro s port frame body p kind en link rfl hp
  have takes : ¬ (s.portKind port ≠ .eth ∨ s.portEn port = false ∨ (s.port port).link = false) := by simp [kind, en, link]
  refine ⟨fun long bad => ?_, fun long good => ?_⟩
  · exact congrArg _ ((if_neg takes).trans (if_pos (Or.inr bad)))
  have sound : ¬ (frame.length < 4 ∨ fcs (frame.take (frame.length - 4)) ≠ frame.drop (frame.length - 4)) := by
    simp [good, long]
  refine ⟨fun runt => ?_, fun whole giant => ?_, fun whole fits => ⟨fun ctl => ?_, fun data tag free cls room => ?_⟩⟩
  · exact congrArg _ ((if_neg takes).trans ((if_neg sound).trans (if_pos runt)))
  · exact congrArg _ ((if_neg takes).trans ((if_neg sound).trans ((if_neg (Nat.not_lt.2 whole)).trans (if_pos giant))))
  · exact congrArg _ ((if_neg takes).trans ((if_neg sound).trans ((if_neg (Nat.not_lt.2 whole)).trans
      ((if_neg (Nat.not_lt.2 fits)).trans (if_pos ctl)))))
  · generalize hk : ({ src := BitVec.ofNat 4 (if 32 ≤ port then 1 else 0), odom := BitVec.ofNat 12 port
                       port := BitVec.ofNat 8 port, cls := s.defClass port, frame := frame.take (frame.length - 4)
                       vec := if 32 ≤ port then 1 else 0 } : Pick) = k
    have arrived : exec (.frameReceive port frame) s = .next (s.createPick k) := by
      refine congrArg _ ((if_neg takes).trans ((if_neg sound).trans ((if_neg (Nat.not_lt.2 whole)).trans
        ((if_neg (Nat.not_lt.2 fits)).trans ((if_neg data).trans ((if_neg (by simp [tag])).trans
        ((if_neg (by simp [free])).trans ?_)))))))
      rw [← State.arrive_fits (k := k) (by rw [← hk]; exact cls) (by rw [← hk]; exact room), ← hk]
    have odom : k.odom.toNat = port % 4096 := by rw [← hk]; exact BitVec.toNat_ofNat ..
    obtain ⟨made, others, rest⟩ := s.createPick_begun k hp
    have seqs := s.createPick_seqs k
    rw [odom] at made seqs
    refine ⟨_, _, arrived, made, rfl, ?_, ?_, rfl, odom, ?_, ?_, ?_, ?_, ?_, ?_, ?_, rfl, seqs, others, rest⟩ <;> subst hk
    exacts [rfl, rfl, BitVec.toNat_ofNat .., apply_ite (BitVec.ofNat 4) _ 1 0, rfl, rfl, rfl, rfl, rfl]

end Sys2Proof.Machine
end

section
/-! SUPPORT. The retirement of an engine (R21, R42, R175, R176), for O40. -/

namespace Sys2Proof.Machine

variable (s : State)

/-! ### Reports and records -/

theorem State.occur_parts (x : Src) (i n : Nat) : ∃ e h o, s.occur x i n = { s with evc := e, hif := h, out := o } := by
  have keeps := s.occur_keeps x i n
  generalize s.occur x i n = t at keeps
  refine ⟨t.evc, t.hif, t.out, ?_⟩
  cases t
  simp_all

theorem State.event_parts (d : Nat) (u : EvUnit) (c w0 w1 w2 w3 : Nat) :
    ∃ h o, s.event d u c w0 w1 w2 w3 = { s with hif := h, out := o } := by
  have keeps := s.event_keeps d u c w0 w1 w2 w3
  generalize s.event d u c w0 w1 w2 w3 = t at keeps
  refine ⟨t.hif, t.out, ?_⟩
  cases t
  simp_all

theorem State.faultRec_parts (back : Bool) (u : EvUnit) (k i c : Nat) :
    ∃ b, s.faultRec back u k i c = { s with bbx := b } := by
  unfold State.faultRec State.record
  split <;> exact ⟨_, rfl⟩

theorem State.fire_parts (x : Nat) : ∃ tm, s.fire x = { s with tmu := tm } := by
  unfold State.fire
  split <;> exact ⟨_, rfl⟩

/-- R176: a retirement's instant, and at most a tamper source. -/
theorem State.burst_parts : ∃ tm, s.burst = { s with cie := { s.cie with lastRetire := some s.tb.elapsed }, tmu := tm } := by
  unfold State.burst
  dsimp only
  split
  · exact ⟨_, rfl⟩
  · split
    · exact State.fire_parts _ 13
    · exact ⟨_, rfl⟩

/-! ### The pair and the standby (R174, R457, R463) -/

/-- R174: settling a pair changes engines, but none that has not passed its test. -/
theorem State.settlePair_parts (p : Nat) : ∃ es, s.settlePair p = { s with cie := { s.cie with engines := es } }
    ∧ ∀ e, (s.engine e).passed = false → (s.settlePair p).engine e = s.engine e := by
  unfold State.settlePair
  dsimp only
  split
  · refine List.foldlRecOn (motive := fun t : State => ∃ es, t = { s with cie := { s.cie with engines := es } }
      ∧ ∀ e, (s.engine e).passed = false → t.engine e = s.engine e) _ _ ⟨_, rfl, fun _ _ => rfl⟩ ?_
    rintro t ⟨es, ht, same⟩ x -
    split
    · next passed =>
      refine ⟨_, by rw [ht]; rfl, fun e he => ?_⟩
      have other : e ≠ x := by
        rintro rfl
        rw [same e he, he] at passed
        cases passed
      rw [State.engine_setEngine_other _ _ other, same e he]
    · exact ⟨es, ht, same⟩
  · exact ⟨_, rfl, fun _ _ => rfl⟩

theorem State.pairGone_parts (p owed : Nat) :
    ∃ ps pm, s.pairGone p owed = { s with cie := { s.cie with pairs := ps }, pmc := pm } := by
  unfold State.pairGone
  split <;> exact ⟨_, _, rfl⟩

theorem State.askWake_parts (d : Nat) (why : WakeWhy) : ∃ pm, s.askWake d why = { s with pmc := pm } := by
  unfold State.askWake
  dsimp only
  split <;> exact ⟨_, rfl⟩

theorem State.nextStandby_parts : ∃ pm, s.nextStandby = { s with pmc := pm } := by
  unfold State.nextStandby
  split
  · exact ⟨_, rfl⟩
  · split
    · exact ⟨_, rfl⟩
    · obtain ⟨pm, h⟩ := State.askWake_parts { s with pmc := { s.pmc with standby := some _ } } _ .sleep
      exact ⟨pm, h⟩

/-! ### Retirement (R175) -/

/-- R175: the jobs that a retirement of engine e leaves. -/
def State.requeued (e : Nat) : List Job :=
  (s.cie.jobs.filter (fun j => !(j.holds e && s.cutUnderway j))).map (fun j =>
    if j.holds e then { j with st := .queued, stalled := false, paid := 0, late := true } else j)

theorem State.requeueJobs_parts (e : Nat) : ∃ ps d r, s.requeueJobs e
    = { s with cie := { s.cie with pairs := ps, jobs := s.requeued e }, kcu := { s.kcu with draws := d, requests := r } } := by
  obtain ⟨ps, d, r, h⟩ := s.foldl_spendMask_pairs (s.cie.jobs.filter (fun j => j.holds e))
  refine ⟨ps, d, r, ?_⟩
  unfold State.requeueJobs
  rw [h]
  rfl

theorem State.stopEngine_parts (e fault : Nat) : ∃ es ps d r, s.stopEngine e fault
      = { s with cie := { s.cie with engines := es, pairs := ps, jobs := s.requeued e }
                 kcu := { s.kcu with draws := d, requests := r } }
    ∧ (s.stopEngine e fault).engine e = { s.engine e with
        st := .quarantined, passed := false, fault := BitVec.ofNat 3 fault, retires := satTo 255 ((s.engine e).retires + 1) } := by
  obtain ⟨ps, d, r, hq⟩ := s.requeueJobs_parts e
  unfold State.stopEngine
  rw [hq]
  exact ⟨_, ps, d, r, rfl, State.engine_setEngine _ _ _⟩

/-- What the reports and the power of a retirement leave alone: the work of the engines, and of engine e itself. -/
structure SameWork (e : Nat) (s t : State) : Prop where
  beam : t.beam = s.beam
  tab : t.tab = s.tab
  tb : t.tb = s.tb
  regs : t.regs = s.regs
  jobs : t.cie.jobs = s.cie.jobs
  recovering : t.cie.recovering = s.cie.recovering
  lastRetire : t.cie.lastRetire = s.cie.lastRetire
  engine : t.engine e = s.engine e

theorem SameWork.trans {e : Nat} {s t u : State} (h : SameWork e s t) (k : SameWork e t u) : SameWork e s u :=
  ⟨k.beam.trans h.beam, k.tab.trans h.tab, k.tb.trans h.tb, k.regs.trans h.regs, k.jobs.trans h.jobs,
    k.recovering.trans h.recovering, k.lastRetire.trans h.lastRetire, k.engine.trans h.engine⟩

theorem sameWork_occur (e : Nat) (x : Src) (i n : Nat) : SameWork e s (s.occur x i n) := by
  obtain ⟨_, _, _, h⟩ := s.occur_parts x i n
  rw [h]
  exact ⟨rfl, rfl, rfl, rfl, rfl, rfl, rfl, rfl⟩

theorem sameWork_event (e d : Nat) (u : EvUnit) (c w0 w1 w2 w3 : Nat) : SameWork e s (s.event d u c w0 w1 w2 w3) := by
  obtain ⟨_, _, h⟩ := s.event_parts d u c w0 w1 w2 w3
  rw [h]
  exact ⟨rfl, rfl, rfl, rfl, rfl, rfl, rfl, rfl⟩

theorem sameWork_faultRec (e : Nat) (back : Bool) (u : EvUnit) (k i c : Nat) : SameWork e s (s.faultRec back u k i c) := by
  obtain ⟨_, h⟩ := s.faultRec_parts back u k i c
  rw [h]
  exact ⟨rfl, rfl, rfl, rfl, rfl, rfl, rfl, rfl⟩

theorem sameWork_settlePair {e : Nat} (p : Nat) (h : (s.engine e).passed = false) : SameWork e s (s.settlePair p) := by
  obtain ⟨_, parts, same⟩ := s.settlePair_parts p
  have engine := same e h
  rw [parts] at engine ⊢
  exact ⟨rfl, rfl, rfl, rfl, rfl, rfl, rfl, engine⟩

theorem sameWork_pairGone (e p owed : Nat) : SameWork e s (s.pairGone p owed) := by
  obtain ⟨_, _, h⟩ := s.pairGone_parts p owed
  rw [h]
  exact ⟨rfl, rfl, rfl, rfl, rfl, rfl, rfl, rfl⟩

theorem sameWork_nextStandby (e : Nat) : SameWork e s s.nextStandby := by
  obtain ⟨_, h⟩ := s.nextStandby_parts
  rw [h]
  exact ⟨rfl, rfl, rfl, rfl, rfl, rfl, rfl, rfl⟩

theorem satTo_eq_min (ceil v : Nat) : satTo ceil v = min ceil v := by
  unfold satTo
  split <;> omega

/-- R175: a retirement does what `Claims.Retired` says, and no register changes. -/
theorem State.retire_retired (e fault : Nat) :
    Claims.Retired s (s.retire e fault) e fault ∧ (s.retire e fault).regs = s.regs := by
  obtain ⟨_, _, _, _, stop, engine⟩ := s.stopEngine_parts e fault
  have told : SameWork e (s.stopEngine e fault) ((((s.stopEngine e fault).occur .engineRetired e).event 0 .cie 1 e fault).faultRec
      false .cie 1 e fault) :=
    ((sameWork_occur _ e _ _ _).trans (sameWork_event _ e _ _ _ _ _ _ _)).trans (sameWork_faultRec _ e _ _ _ _ _)
  unfold State.retire
  dsimp only
  generalize (((s.stopEngine e fault).occur .engineRetired e).event 0 .cie 1 e fault).faultRec false .cie 1 e fault = u at told
  obtain ⟨_, burst⟩ := State.burst_parts { u with cie := { u.cie with recovering := u.cie.recovering ++ [(e, fault)] } }
  rw [burst]
  generalize hv : ({ u with
    cie := { u.cie with recovering := u.cie.recovering ++ [(e, fault)], lastRetire := some u.tb.elapsed }
    tmu := _ } : State) = v
  have passed : (v.engine e).passed = false := by rw [← hv]; exact (congrArg Engine.passed (told.engine.trans engine))
  have power : SameWork e v ((v.settlePair (e / 2)).pairGone (e / 2) 0).nextStandby :=
    ((sameWork_settlePair v _ passed).trans (sameWork_pairGone _ e _ _)).trans (sameWork_nextStandby _ e)
  generalize ((v.settlePair (e / 2)).pairGone (e / 2) 0).nextStandby = t at power
  have same : t.engine e = { s.engine e with
      st := .quarantined, passed := false, fault := BitVec.ofNat 3 fault, retires := satTo 255 ((s.engine e).retires + 1) } := by
    rw [power.engine, ← engine, ← told.engine, ← hv]
    rfl
  obtain ⟨hbeam, htab, htb, hregs, hjobs, hrec, hlast, -⟩ := told
  subst hv
  refine ⟨⟨by rw [same], by rw [same], by rw [same]; exact satTo_eq_min _ _, ?_, ?_, ?_, ?_, ?_⟩, ?_⟩
  · rw [power.jobs]; exact hjobs.trans (by rw [stop]; rfl)
  · rw [power.recovering]; exact List.mem_append_right _ (List.mem_singleton_self _)
  · rw [power.lastRetire]; exact congrArg (fun b : Tb => some b.elapsed) (htb.trans (by rw [stop]))
  · rw [power.beam]; exact hbeam.trans (by rw [stop])
  · rw [power.tab]; exact htab.trans (by rw [stop])
  · rw [power.regs]; exact hregs.trans (by rw [stop])

/-! ### Registers of the cipher engines (R185, R188, R190) -/

theorem regRowsAt_cie {off : Nat} (h : 0x180_0000 ≤ off) : regRowsAt off = regRowsCie := by
  simp only [regRowsAt]
  (repeat rw [if_neg (by omega)])

theorem locate_cieRetire : locate 0x180_0008 = some (regRowsCie[2], 0, 0) := by
  refine locate_of_getElem 2 (by decide) (regRowsAt_cie (by omega)) ?_ ?_
  · simp only [regRowsCie, List.take, List.forall_mem_cons]
    (repeat refine ⟨RegRow.index_none _ (by decide) (by simp only; omega), ?_⟩)
    simp
  · exact RegRow.index_at _ (by decide) (by decide) (by decide) (by decide) rfl

theorem locate_cieProfile {p : Nat} (hp : p < 24) : locate (0x180_0100 + 4 * p) = some (regRowsCie[5], p, 0) := by
  refine locate_of_getElem 5 (by decide) (regRowsAt_cie (by omega)) ?_ ?_
  · simp only [regRowsCie, List.take, List.forall_mem_cons]
    (repeat refine ⟨RegRow.index_none _ (by decide) (by simp only; omega), ?_⟩)
    simp
  · exact RegRow.index_at _ hp (by decide) (by decide) (by decide) (show _ = 0x180_0100 + (4 * p + 4 * 0) by omega)

theorem locate_lksCap : locate 0x188_0000 = some (regRowsCie[7], 0, 0) := by
  refine locate_of_getElem 7 (by decide) (regRowsAt_cie (by omega)) ?_ ?_
  · simp only [regRowsCie, List.take, List.forall_mem_cons]
    (repeat refine ⟨RegRow.index_none _ (by decide) (by simp only; omega), ?_⟩)
    simp
  · exact RegRow.index_at _ (by decide) (by decide) (by decide) (by decide) rfl

/-- R514: a register at an offset of a present block. -/
theorem bar0Target_of_present {v : Variant} {a i j : Nat} {r : RegRow} (h : locate a = some (r, i, j))
    (block : blockAbsent v a = false) (quota : r.id ≠ .ftDomQuota) (here : r.id.present v i = true) :
    bar0Target v a = .reg r i j := by
  simp [bar0Target, block, h, quota, here]

/-- R2: the blocks of the engines are in every variant, but for the lookaside's. -/
theorem blockAbsent_cie (v : Variant) {a : Nat} (h : 0x180_0000 ≤ a) (h' : a < 0x188_0000) : blockAbsent v a = false := by
  simp only [blockAbsent]
  (repeat rw [if_neg (by omega)])

theorem Variant.engines_le (v : Variant) : v.engines ≤ 48 := by cases v <;> decide

variable {s}

/-- R185: GO retires a present engine that is not quarantined. -/
theorem exec_cieRetire {v : Word} {e : Nat} (hr : s.pins.inReset = false) (hl : s.lcShut = false)
    (hv : v &&& 0x7FFF_FFC0 = 0) (go : v.getLsbD 31 = true) (he : e = v.toNat % 64) (here : e < s.variant.engines)
    (working : (s.engine e).st ≠ .quarantined) : exec (.cieRetire v) s = .next (s.retire e 5) := by
  have field : fld v 0 6 = e := by simp [fld, he]
  have target : bar0Target s.variant 0x180_0008 = .reg regRowsCie[2] 0 0 :=
    bar0Target_of_present locate_cieRetire (blockAbsent_cie _ (by omega) (by omega)) (by decide) rfl
  rw [exec, execCieRetire, State.hostWrite_reg v hr hl (by omega) target,
    State.writeReg_apply (by omega) hv (by decide) (by decide) rfl rfl]
  show Host.Outcome.next (s.cieRetireWrite 0x180_0008 v) = _
  simp [State.cieRetireWrite, State.retireWrite, field, go, here, working, Nat.not_le.2 here]

/-- R172, R188: a profile that the policy lets a pair take. -/
theorem exec_cieProfileWrite {p : Nat} {v : Word} (hr : s.pins.inReset = false) (hl : s.lcShut = false)
    (hp : 2 * p < s.variant.engines) (hv : v = 0 ∨ v = 1) :
    exec (.cieProfileWrite p v) s = .next (if v.getLsbD 0 && (s.reg .ciePolicy).getLsbD 0
      then s.accessErr 0 false (0x180_0100 + 4 * p) 2 else s.setReg .cieProfile p 0 v) := by
  have hp24 : p < 24 := by have := s.variant.engines_le; omega
  have bit : v &&& 1 = v ∧ v &&& ~~~regRowsCie[5].definedAt 0 = 0 := by rcases hv with rfl | rfl <;> decide
  have target : bar0Target s.variant (0x180_0100 + 4 * p) = .reg regRowsCie[5] p 0 :=
    bar0Target_of_present (locate_cieProfile hp24) (blockAbsent_cie _ (by omega) (by omega)) (by decide)
      (show decide (2 * p < s.variant.engines) = true by simpa using hp)
  rw [exec, execCieProfileWrite, if_neg (Nat.not_le.2 hp24), State.hostWrite_reg v hr hl (by omega) target,
    State.writeReg_apply (by omega) bit.2 (by decide) (by decide) rfl rfl]
  show Host.Outcome.next (s.profileWrite p _ v) = _
  rw [State.profileWrite, bit.1]

/-- R182, R190: the lookaside's cap takes 1 to 48. -/
theorem exec_lksCapWrite {v : Word} (hr : s.pins.inReset = false) (hl : s.lcShut = false) (variant : s.variant = .tv32f)
    (hv : v.toNat < 64) : exec (.lksCapWrite v) s = .next (if 1 ≤ v.toNat ∧ v.toNat ≤ 48
      then s.setReg .lksCap 0 0 v else s.accessErr 0 false 0x188_0000 2) := by
  have target : bar0Target s.variant 0x188_0000 = .reg regRowsCie[7] 0 0 :=
    bar0Target_of_present locate_lksCap (by rw [variant]; decide) (by decide) rfl
  have bits : v &&& ~~~(0x3F : Word) = 0 := and_not_eq_zero_of_lt 6 hv (by decide)
  obtain ⟨plain, write⟩ := State.applyWrite_orRsvd (s := s) (r := regRowsCie[7]) (a := 0x188_0000) (v := v)
    (.inr ⟨rfl, rfl⟩)
  rw [exec, execLksCapWrite, State.hostWrite_plain hr hl (by omega) (by omega) target bits plain, write,
    show v &&& regRowsCie[7].rw = v from and_of_and_not_eq_zero bits]
  show Host.Outcome.next (if decide (1 ≤ v.toNat ∧ v.toNat ≤ 48) then s.setReg .lksCap 0 0 v else _) = _
  simp only [decide_eq_true_eq]

/-! ### Known-answer tests (R174) -/

/-- R174: the periodic test of an idle engine begins. -/
theorem exec_katPeriodic_begins {e : Nat} (pass : Bool) (here : e < s.variant.engines) (ready : s.kcu.drbg = 2)
    (fresh : (s.engine e).st = .fresh) (other : (s.engine (partner e)).inTest = false)
    (idle : s.cie.jobs.any (fun j => j.holds e) = false)
    (due : (s.engine e).lastKat + 100000 * s.field .cieKat 0 0 16 ≤ s.tb.elapsed) :
    exec (.katPeriodic e pass) s = .next (s.katBegin e) := by
  have rests : (s.engine e).inTest = false := by simp [Engine.inTest, fresh]
  rw [exec, execKatPeriodic]
  simp [ready, fresh, other, rests, idle, due, State.cieHold, Nat.not_le.2 here]

/-- R169, R174: a test that begins takes masks of the pair's expander. -/
theorem State.katBegin_parts (s : State) (e : Nat) : ∃ ps d r, s.katBegin e
    = ({ s with cie := { s.cie with pairs := ps }, kcu := { s.kcu with draws := d, requests := r } }).setEngine e
        { s.engine e with st := .testing } := by
  unfold State.katBegin
  split
  · exact ⟨s.cie.pairs, s.kcu.draws, s.kcu.requests, rfl⟩
  · obtain ⟨ps, d, r, h⟩ := s.takeMask_pairs (e / 2) Config.katBlocks
    exact ⟨ps, d, r, by rw [h]; rfl⟩

/-- R174: the test that an engine runs ends with its result. -/
theorem exec_katPeriodic_ends {e : Nat} (pass : Bool) (here : e < s.variant.engines) (test : (s.engine e).inTest = true) :
    exec (.katPeriodic e pass) s = .next (s.katEnd e pass) := by
  rw [exec, execKatPeriodic]
  simp [test, Nat.not_le.2 here]

/-- R175: a report before a retirement changes nothing of what the retirement does. -/
theorem Claims.Retired.of_occur {t : State} {e fault : Nat} {x : Src} {i n : Nat}
    (h : Claims.Retired (s.occur x i n) t e fault) : Claims.Retired s t e fault := by
  obtain ⟨_, _, _, report⟩ := s.occur_parts x i n
  rw [report] at h
  exact h

/-! ### The mask expander and the DRBG (R169, R399) -/

/-- R169: an awake pair with masks draws one seed. -/
theorem exec_maskExpanderReseed {p : Nat} {old : Bool} (here : 2 * p < s.variant.engines) (ready : s.kcu.drbg = 2)
    (awake : (s.dom (24 + p)).st.awake = true) (masked : s.profileOf p = false)
    (age : old = decide ((s.pair p).seededAt + 100000 ≤ s.tb.elapsed)) (due : (s.pair p).blocks ≤ 16384 ∨ old = true) :
    exec (.maskExpanderReseed p) s = .next (s.draw.2.setPair p { s.pair p with
      blocks := if old then 65536 else (s.pair p).blocks + 65536, seededAt := s.tb.elapsed }) := by
  rw [exec, execMaskExpanderReseed]
  have seeds : ¬ (16384 < (s.pair p).blocks ∧ old = false) := by
    rintro ⟨full, young⟩
    rcases due with low | aged
    · omega
    · simp [aged] at young
  simp [State.cieHold, State.drawSeeds, ready, awake, masked, ← age, seeds, Nat.not_le.2 here]

/-- R399: the start-up test of a DRBG, at once or 1 ms after the last. -/
theorem exec_drbgStartupTest (pass : Bool) (untested : s.kcu.drbg = 1)
    (due : s.kcu.testedAt = 0 ∨ s.kcu.testedAt + 1000000 ≤ s.tb.elapsed + 1) :
    exec (.drbgStartupTest pass) s = .next (if pass then
        { s with kcu := { s.kcu with drbg := 2, testedAt := s.tb.elapsed + 1, requests := 1, draws := s.kcu.draws + 1 }
                 tab := { s.tab with secret := s.kcu.draws } }
      else { s with kcu := { s.kcu with drbg := 1, testedAt := s.tb.elapsed + 1, requests := 0 } }) := by
  have runs : ¬ (s.kcu.drbg ≠ 1 ∨ (s.kcu.testedAt ≠ 0 ∧ s.tb.elapsed + 1 < s.kcu.testedAt + 1000000)) := by
    rintro (other | ⟨tested, early⟩)
    · exact other untested
    · omega
  rw [exec, execDrbgStartupTest, if_neg runs]
  cases pass <;> rfl

/-- R399: a reseed of a DRBG, after 2^20 requests or in HOLD. -/
theorem exec_drbgReseed (pass : Bool) (due : (s.kcu.drbg = 2 ∧ 2 ^ 20 ≤ s.kcu.requests)
      ∨ (s.kcu.drbg = 3 ∧ s.kcu.testedAt + 1000000 ≤ s.tb.elapsed + 1)) :
    exec (.drbgReseed pass) s = .next { s with kcu := { s.kcu with
      drbg := if pass then 2 else 3, testedAt := s.tb.elapsed + 1, requests := if pass then 0 else s.kcu.requests } } := by
  rw [exec, execDrbgReseed]
  refine congrArg Host.Outcome.next (if_pos ?_)
  rcases due with ⟨ready, spent⟩ | ⟨hold, later⟩
  · rw [ready, decide_eq_true spent]; rfl
  · rw [hold, decide_eq_true later]; rfl

/-- Settles O40: what a retirement does is proved once (`State.retire_retired`) for its three causes, the three registers go
through the register map, and each test and draw is a case of its command. -/
theorem engineUpkeep : Obligations.EngineUpkeep := by
  unfold Obligations.EngineUpkeep
  intro s
  refine ⟨?fault, ?begins, ?ends, ?retire, ?profile, ?cap, ?seed, ?startup, ?reseed, ?health⟩
  case fault =>
    intro e here working
    refine ⟨_, ?_, (s.retire_retired e 1).1⟩
    rw [exec, execEngineSelfCheckFault]
    rcases working with h | h <;> simp [here, h]
  case begins =>
    intro e pass here ready fresh other idle due
    obtain ⟨ps, d, r, begins⟩ := s.katBegin_parts e
    refine ⟨_, exec_katPeriodic_begins pass here ready fresh other idle due, ?_⟩
    rw [begins]
    exact ⟨State.engine_setEngine _ _ _, fun x hx => State.engine_setEngine_other _ _ hx, rfl⟩
  case ends =>
    intro e here test
    refine ⟨fun settled => ?_, _, exec_katPeriodic_ends false here test, ?_⟩
    · rw [exec_katPeriodic_ends true here test]
      simp [State.katEnd, settled]
    · exact Claims.Retired.of_occur ((s.occur .katFail e).retire_retired e 2).1
  case retire =>
    intro v e hr hl hv go he here working
    exact ⟨_, exec_cieRetire hr hl hv go he here working, s.retire_retired e 5⟩
  case profile =>
    intro p v hr hl hp hv
    rw [exec_cieProfileWrite hr hl hp hv]
    refine ⟨fun free => ?_, fun one policy => ?_⟩
    · rcases free with rfl | lenient
      · rfl
      · rw [lenient, Bool.and_false]; rfl
    · rw [one, policy]; rfl
  case cap =>
    intro v hr hl variant hv
    rw [exec_lksCapWrite hr hl variant hv]
    refine ⟨fun inside => by rw [if_pos inside], fun outside => ?_⟩
    rw [if_neg]
    rcases outside with rfl | high
    · decide
    · omega
  case seed =>
    intro p old here ready awake masked age due
    exact exec_maskExpanderReseed here ready awake masked age due
  case startup => exact fun pass untested due => exec_drbgStartupTest pass untested due
  case reseed => exact fun pass due => exec_drbgReseed pass due
  case health =>
    intro ready
    rw [exec, execDrbgHealthFail, if_pos ready]

end Sys2Proof.Machine
end

section
/-! O37, the release of an ended pick. The words hold of picks that are listed under rising slots; the statement asks it of every
state. Where the list is out of order, `setPick` lists the released pick a second time in front, the cells in use seem to grow,
and the queue spills although it did not before the release. -/

namespace Sys2Proof.Machine

/-! ### A queue that spills into a channel that is not on (R281) -/

@[simp] theorem State.joinRing_free (s : State) (q : Nat) : (s.joinRing q).free = s.free := by
  unfold State.joinRing
  dsimp only
  split <;> rfl

@[simp] theorem State.pushQueue_free (s : State) (q : Nat) (i : QItem) : (s.pushQueue q i).free = s.free := by
  unfold State.pushQueue
  dsimp only
  split <;> simp

theorem freeFrom_of_good {bad : Nat → Bool} (good : ∀ e, bad e = false) (total start fuel : Nat) :
    freeFrom bad total start (fuel + 1) = some (start % total) := by
  simp [freeFrom, good]

/-- R281: with no extent in use, no stack failed and nothing re-rooted, the first extent drawn is taken. -/
theorem State.spillPlace_fresh_of_clean (s : State) (extents : 0 < s.variant.extents)
    (used : s.usedExtents = []) (stks : s.msc.stks = []) (roots : s.msc.rerooting = []) :
    ∃ e, State.spillPlace.fresh s = (some (e, 0), s.freeNo.2) := by
  obtain ⟨n, hn⟩ := Nat.exists_eq_succ_of_ne_zero extents.ne'
  refine ⟨Config.spillExtent s.freeNo.1 % s.variant.extents, ?_⟩
  unfold State.spillPlace.fresh
  dsimp only
  rw [hn, Nat.succ_eq_add_one, freeFrom_of_good]
  intro e
  simp [used, stks, roots, State.extentRerooted, tget]

/-- R461: a DRAM channel that has not powered up is not woken by its use. -/
theorem State.useChannel_of_off {s : State} {ch : Nat} (off : s.dom (64 + ch) = {}) : s.useChannel ch = s := by
  simp [State.useChannel, off, PSt.deep]

/-- R281: a frame that spills into a channel that is not on stays in the beam store, but its extent has been drawn. -/
theorem State.admitQueue_of_channel_off (s : State) (q : Nat) (i : QItem) (count : State → Src → Nat → State)
    (gone : State → State) (frame : QFrame) (kind : s.portKind (s.qPort q) ≠ .none)
    (tag : s.portKind (s.qPort q) = .eth → s.tagOff (s.qPort q) = false) (en : (s.reg .schQMap q).getLsbD 9 = true)
    (room : s.depth q + s.shapedLen (s.qPort q) i ≤ s.field .schQMap q 19 12 * 16384) (spills : s.spills q = true)
    (fifo : (s.queue q).fifo = []) (extents : 0 < s.variant.extents)
    (used : s.usedExtents = []) (stks : s.msc.stks = []) (roots : s.msc.rerooting = []) (off : s.pmc.doms = []) :
    s.admitQueue q i count gone frame = s.freeNo.2.pushQueue q i := by
  obtain ⟨e, he⟩ := s.spillPlace_fresh_of_clean extents used stks roots
  have doms : ∀ d, s.freeNo.2.dom d = {} := fun d => by simp [State.freeNo, State.dom, off, tget]
  have place : ∀ k n, s.spillPlace q k n = (some (e, 0), s.freeNo.2) := fun k n => by
    simp [State.spillPlace, fifo, he]
  have channel : ∀ ch, s.freeNo.2.chanOn ch = false := fun ch => by simp [State.chanOn, doms]
  have untouched : ∀ ch, s.freeNo.2.useChannel ch = s.freeNo.2 := fun ch => State.useChannel_of_off (doms _)
  unfold State.admitQueue
  simp only [kind, en, spills, place, channel, untouched, if_false, Bool.not_true, Bool.false_eq_true, if_true,
    not_lt.mpr room]
  split
  · next port => rw [tag port.1] at port; cases port.2
  · rfl

/-- R30, R281: an ended pick without copies that no lower pick holds is offered to its queue. -/
theorem exec_pickRelease_queued {s : State} {p : Nat} {k k' : Pick} (hk : s.pick p = some k) (copies : k.mirrors = [])
    (ended : k.st = .ended) (disp : k.disp = 1) (held : s.held = false) (may : s.mayRelease k = true)
    (lower : s.lowerHolds p k Pick.holdsRel = false)
    (hk' : k' = { k with left := true, st := .queued, queuedAt := s.tb.elapsed }) :
    exec (.pickRelease p) s = .next ((s.setPick p k').admitQueue k'.queue.toNat (.pick p) (fun s => s.occurPick k')
      (fun s => s.endPick p 0) (k'.asFrame k'.frame false s.tb.elapsed)) := by
  subst hk'
  rw [exec, execPickRelease, hk]
  simp [copies, ended, disp, held, may, lower, State.deliverMirrors]

/-! ### A table of picks out of order -/

/-- A pick of 200,000 cells that has ended for queue 0. -/
def bulkyPick : Pick := { disp := 1, st := .ended, cells := 200000 }

/-- A card in service whose queue 0, on port 0, may spill. Its picks are listed in falling order of their slots. -/
def fallingPicks : State :=
  { regs := [(0xA0_0100, 0x3F00_0102), (0xE0_400C, 0x0200_0600)], beam := { picks := [(5, {}), (3, bulkyPick)] }
    msc := { done := true, mkis := [(0, { st := .active })] }, hif := { mode := 1 }, kcu := { lc := 3 } }

/-- Pick 3 of `fallingPicks` as it leaves. -/
def bulkyLeft : Pick := { bulkyPick with left := true, st := .queued, queuedAt := fallingPicks.tb.elapsed }

/-- R281: that admission draws an extent for the spill. -/
theorem fallingPicks_admit_free (count : State → Src → Nat → State) (gone : State → State) (frame : QFrame) :
    ((fallingPicks.setPick 3 bulkyLeft).admitQueue 0 (.pick 3) count gone frame).free = fallingPicks.free + 1 := by
  rw [State.admitQueue_of_channel_off _ _ _ _ _ _ (by decide) (fun _ => by decide) (by decide) (by decide) (by decide)
    rfl (by decide) rfl rfl rfl rfl, State.pushQueue_free]
  rfl

/-- Refutes O37: the statement is asked of every state, and in one whose picks are not listed by rising slot the release of
a pick spills a queue that did not spill before, so a number of the model is drawn that the statement keeps. -/
theorem not_pickReleased : ¬ Obligations.PickReleased := by
  unfold Obligations.PickReleased
  rintro ⟨releases, -⟩
  have hk : fallingPicks.pick 3 = some bulkyPick := rfl
  obtain ⟨enqueues, -⟩ := releases fallingPicks 3 bulkyPick bulkyLeft hk rfl rfl rfl
  have held : fallingPicks.held = false := by decide
  have lower : fallingPicks.lowerHolds 3 bulkyPick Pick.holdsRel = false := by decide
  obtain ⟨t, ht, -, -, -, rest⟩ := enqueues _ 0 rfl held rfl lower rfl rfl (by decide) (fun _ => by decide)
    (by decide) (by decide) (by decide)
  have kept : t.free = fallingPicks.free := by rw [rest]
  rw [exec_pickRelease_queued hk rfl rfl rfl held rfl lower rfl] at ht
  have drawn := fallingPicks_admit_free (fun s => s.occurPick bulkyLeft) (fun s => s.endPick 3 0)
    (bulkyLeft.asFrame bulkyLeft.frame false fallingPicks.tb.elapsed)
  rw [← Host.Outcome.next.inj ht] at kept
  exact absurd (drawn.symm.trans kept) (by simp)

end Sys2Proof.Machine
end

section
/-! SUPPORT. Instructions whose slot issues them for a running pick and that go on at a next word (R43 to R47, R69), for O22. -/

namespace Sys2Proof.Machine

variable {s : State} {b p : Nat} {w : Word} {regs : List Reg} {k : Pick} {post : Bool} {eff : State → Bobbin → Pick → Act}

/-- R69: an instruction that changes nothing but its bobbin's course. -/
theorem State.issue_goes {pc : Nat} (h : s.mayIssueRun b w regs p k = true)
    (he : eff (s.setBob b { s.bob b with tbNs := none }) (s.bob b) k
      = .go (s.setBob b { s.bob b with tbNs := none }) pc) :
    s.issue b w post regs eff = s.setBob b ((s.bob b).goes pc) := by
  obtain ⟨-, pick, -⟩ := (s.mayIssueRun_iff ..).1 h
  have held : ({ s.bob b with tbNs := none } : Bobbin).pick = some p := pick
  exact (State.issue_go h he).trans (State.advance_setBob s b pc (Bobbin.ne_reset_of_pick held))

/-- R55, R69: an instruction that changes the record of its pick. -/
theorem State.issue_updPick {pc : Nat} (f : Pick → Pick) (h : s.mayIssueRun b w regs p k = true)
    (he : eff (s.setBob b { s.bob b with tbNs := none }) (s.bob b) k
      = .go ((s.setBob b { s.bob b with tbNs := none }).updPick b f) pc) :
    s.issue b w post regs eff = (s.setPick p (f k)).setBob b ((s.bob b).goes pc) := by
  obtain ⟨-, pick, hk, -⟩ := (s.mayIssueRun_iff ..).1 h
  have held : ({ s.bob b with tbNs := none } : Bobbin).pick = some p := pick
  rw [State.issue_go h he,
    State.updPick_of_pick (s := s.setBob b { s.bob b with tbNs := none }) f (by rw [State.bob_setBob]; exact held) hk]
  exact State.advance_setBob (s.setPick p (f k)) b pc (Bobbin.ne_reset_of_pick held)

/-- R47: an asynchronous instruction that changes the record of its pick. -/
theorem State.issue_goAsync {d : Reg} {op : AsyncOp} (f : Pick → Pick) (h : s.mayIssueRun b w regs p k = true)
    (he : eff (s.setBob b { s.bob b with tbNs := none }) (s.bob b) k
      = goAsync ((s.setBob b { s.bob b with tbNs := none }).updPick b f) b (s.bob b) d op) :
    s.issue b w post regs eff = (s.setPick p (f k)).setBob b ((s.bob b).goesAsync d op s.tb.elapsed) := by
  obtain ⟨-, pick, hk, -⟩ := (s.mayIssueRun_iff ..).1 h
  have held : ({ s.bob b with tbNs := none } : Bobbin).pick = some p := pick
  have pends : (({ s.bob b with tbNs := none } : Bobbin).pendOn d op s.tb.elapsed).pick = some p := pick
  rw [State.updPick_of_pick (s := s.setBob b { s.bob b with tbNs := none }) f (by rw [State.bob_setBob]; exact held) hk]
    at he
  have bob : ((s.setBob b { s.bob b with tbNs := none }).setPick p (f k)).bob b = { s.bob b with tbNs := none } :=
    State.bob_setBob ..
  rw [State.issue_go h he, bob]
  refine (State.advance_setBob _ b _ (Bobbin.ne_reset_of_pick pends)).trans ?_
  exact State.setBob_setBob (s.setPick p (f k)) b _ (Bobbin.ne_reset_of_pick held)

/-- R30, R89, R90: a `pn.next` or `pn.peek` that waits for nothing pends with an OK transmit snapshot and no number served,
and otherwise traps. -/
theorem State.issuePn_cases {usub : Nat} {d a c : Reg} {op : AsyncOp}
    (h : s.mayIssueRun b (encU 0x21 d a c usub 0) [d] p k = true) (look : (s.bob b).pends AsyncOp.isLookAt = false)
    (next : (s.bob b).pends AsyncOp.isPnNext = false) (mem : k.memTrap = false) :
    (k.snapOk false = true → k.servedNow.contains k.assoc = false → s.issuePn b usub d a c 0 op
        = (s.setPick p k.issuesPn).setBob b ((s.bob b).goesAsync d op s.tb.elapsed))
    ∧ (k.snapOk false = false ∨ k.servedNow.contains k.assoc = true →
        s.issuePn b usub d a c 0 op = s.trapAt b .illegal (s.bob b).pc (encU 0x21 d a c usub 0)) := by
  refine ⟨fun snap fresh => State.issue_goAsync Pick.issuesPn h ?_, fun illegal => State.issue_trap h ?_⟩
  · simp only [look, next, snap, fresh, mem, ne_eq, not_true_eq_false, Bool.or_self, Bool.not_true, Bool.false_eq_true, if_false]
  · have refused : (!k.snapOk false || k.servedNow.contains k.assoc) = true := by
      rcases illegal with h | h <;> rw [h]
      · rfl
      · exact Bool.or_true _
    simp only [look, next, refused, ne_eq, not_true_eq_false, Bool.or_self, Bool.false_eq_true, if_false, if_true]

/-- Settles O22: PN_NEXT and PN_PEEK by `State.issuePn_cases`, ORD_DOM and ORD_REL by whether the pick has already asked. -/
theorem packetNumberIssue : Obligations.PacketNumberIssue := by
  intro s b p d a c imm k
  have asked : k.ordUsed = true ∨ k.pnIssued = true → (k.ordUsed || k.pnIssued) = true := by
    rintro (h | h) <;> simp [h]
  refine ⟨?_, fun h => ⟨fun used pn => congrArg Host.Outcome.next ?_, fun late => congrArg Host.Outcome.next ?_⟩,
    fun h => ⟨fun used pn => congrArg Host.Outcome.next ?_, fun late => congrArg Host.Outcome.next ?_⟩⟩
  · simp only [List.forall_mem_cons, List.not_mem_nil, false_imp_iff, implies_true, and_true]
    constructor <;> intro h look next mem <;> obtain ⟨ok, bad⟩ := State.issuePn_cases h look next mem
    · exact ⟨fun snap fresh => congrArg Host.Outcome.next (ok snap fresh), fun illegal => congrArg Host.Outcome.next (bad illegal)⟩
    · exact ⟨fun snap fresh => congrArg Host.Outcome.next (ok snap fresh), fun illegal => congrArg Host.Outcome.next (bad illegal)⟩
  · exact State.issue_goAsync (fun k => { k with ordUsed := true, ordWait := true }) h (if_neg (by simp [used, pn]))
  · exact State.issue_trap h (if_pos (asked late))
  · exact State.issue_updPick (fun k => { k with ordPassed := true }) h (if_neg (by simp [used, pn]))
  · exact State.issue_goes h (if_pos (asked late))

end Sys2Proof.Machine
end

section
/-! SUPPORT. What a unit that completes the oldest operation of a bobbin finds, and what it writes to the register (R47, R49), for
O23, O24 and O26. -/

namespace Sys2Proof.Machine

/-! ### The oldest pending operation (R47) -/

theorem takePend_head {B : Bobbin} {o : PendOp} {rest : List PendOp} {want : AsyncOp → Bool} (h : B.pend = o :: rest)
    (hw : want o.op = true) : takePend B o.d want = some (o, { B with pend := rest }) := by
  simp [takePend, h, hw]

/-! ### The register of a completed operation (R46 to R48) -/

theorem Bobbin.rd_finish (B : Bobbin) (d : Reg) (v : DWord) : (B.finish d v).rd d = if d = 0 then 0 else v := by
  by_cases h : d = 0
  · simp [Bobbin.rd, h]
  · simp only [Bobbin.rd, Bobbin.finish, Bobbin.wr, if_neg h, tget_tset_same]

theorem put_one_getLsbD_same (d : Reg) : (put 1 d.toNat).getLsbD d.toNat = true := put_one_getLsbD d.isLt

theorem Bobbin.busy_finish (B : Bobbin) (d : Reg) (v : DWord) : (B.finish d v).busy d = false := by
  simp [Bobbin.busy, Bobbin.finish, put_one_getLsbD_same]

/-! ### Results with a status (R49) -/

theorem withStatus_toNat {v st : Nat} (h : st < 256) : (withStatus v st).toNat = v % 2 ^ 56 + st * 2 ^ 56 := by
  rw [withStatus, BitVec.toNat_ofNat]
  omega

theorem UStat.code_lt (st : UStat) : st.code < 256 := by cases st <;> decide

theorem withStatus_div (v : Nat) (st : UStat) : (withStatus v st.code).toNat / 2 ^ 56 = st.code := by
  rw [withStatus_toNat st.code_lt]
  omega

theorem withFree_div (lo v : Nat) (st : UStat) (f : DWord) : (withFree lo v st f).toNat / 2 ^ 56 = st.code :=
  withStatus_div _ st

theorem withFree_mod {lo : Nat} (v : Nat) (st : UStat) (f : DWord) (h : lo ≤ 56) :
    (withFree lo v st f).toNat % 2 ^ lo = v % 2 ^ lo := by
  have low : 2 ^ 56 = 2 ^ (56 - lo) * 2 ^ lo := by rw [← Nat.pow_add]; congr 1; omega
  rw [withFree, withStatus_toNat st.code_lt, low, ← Nat.mul_assoc, Nat.add_mul_mod_self_right, Nat.mod_mul_left_mod,
    Nat.add_mul_mod_self_right, Nat.mod_mod]

theorem withStatus_ok (pn : DWord) : withStatus (pn.toNat % 2 ^ 56) UStat.ok.code = pn &&& 0x00FF_FFFF_FFFF_FFFF := by
  apply BitVec.eq_of_toNat_eq
  rw [withStatus_toNat (by decide), BitVec.toNat_and]
  exact (Nat.mod_mod _ _).trans (Nat.and_two_pow_sub_one_eq_mod pn.toNat 56).symm

/-! ### ORD_DOM_GRANT (R28, R33, R91) -/

/-- R28: the sequence numbers of the domains after one of them has given its next. -/
theorem State.nextSeq_seqs (s : State) (dom x : Nat) :
    tget 0 (s.nextSeq dom).2.beam.seqs x = tget 0 s.beam.seqs x + (if x = dom then 1 else 0) := by
  by_cases h : x = dom
  · subst h
    rw [if_pos rfl]
    exact tget_tset_same _ _ _ _
  · rw [if_neg h]
    exact (tget_tset_other _ _ _ _ h).trans (BitVec.add_zero _).symm

/-- Settles O24: the pick keeps its number where it stays in its domain, else the new domain gives it one
(`State.nextSeq_seqs`). -/
theorem orderingDomainGranted : Obligations.OrderingDomainGranted := by
  intro s b p d dom pc at_ rest k hpend hb hk moved holds
  obtain ⟨r, hr⟩ : ∃ r, r = if k.ordMoved || dom == k.odom then (k.seq, s) else s.nextSeq dom.toNat := ⟨_, rfl⟩
  generalize hk' : ({ k with seq := r.1, odom := dom, ordMoved := true, ordWait := false, ordPassed := true } : Pick) = k'
  generalize hv : withFree 44 (r.1.toNat + dom.toNat * 2 ^ 32) .ok (Config.freeResult 1 k.orig dom.toNat) = v
  have granted : exec (.ordDomGrant b d) s
      = .next ((r.2.setPick p k').setBob b (({ s.bob b with pend := rest } : Bobbin).finish d v)) := by
    rw [exec, execOrdDomGrant, takePend_head hpend rfl]
    subst hk' hv hr
    simp only [hb, hk, moved, holds, Bool.not_false, Bool.and_false, Bool.false_eq_true, if_false]
    rfl
  have given : r.1 = (if dom = k.odom then k.seq else tget 0 s.beam.seqs dom.toNat)
      ∧ (∀ x, tget 0 r.2.beam.seqs x = tget 0 s.beam.seqs x + (if x = dom.toNat ∧ dom ≠ k.odom then 1 else 0))
      ∧ r.2 = { s with beam := r.2.beam } ∧ r.2.beam.picks = s.beam.picks := by
    subst hr
    by_cases stays : dom = k.odom
    · simp [stays]
    · simp only [moved, stays, beq_iff_eq, Bool.false_or, if_false, ne_eq, not_false_eq_true, and_true]
      exact ⟨rfl, s.nextSeq_seqs dom.toNat, rfl, rfl⟩
  obtain ⟨seq, seqs, rest', picks⟩ := given
  refine ⟨_, r.1, granted, seq, ?_, fun q hq => ?_, seqs, fun hd => ?_, ?_, fun b' hb' => ?_⟩
  · rw [← hk']
    exact State.pick_setPick r.2 p _
  · exact (State.pick_setPick_other r.2 k' hq).trans (congrArg (tfind · q) picks)
  · rw [State.bob_setBob, Bobbin.rd_finish, if_neg hd, ← hv, withFree_div, withFree_mod _ _ _ (by omega)]
    refine ⟨Nat.mod_eq_of_lt ?_, rfl, Bobbin.busy_finish ..⟩
    have := r.1.isLt
    have := dom.isLt
    omega
  · rw [rest']
    rfl
  · rw [State.bob_setBob_other _ _ hb', State.bob_setPick, rest']
    rfl

end Sys2Proof.Machine
end

section
/-! SUPPORT. The reed's service of packet numbers (R30, R40, R89, R90, R142), for O23. -/

namespace Sys2Proof.Machine

variable (s : State)

/-! ### What the service records beside (R32, R143) -/

/-- R32: a request at an association changes its latest domain, and with it at most the counters and rings. -/
theorem State.domainMix_parts (k : Pick) : ∃ ld e h o,
    s.domainMix k = { s with tab := { s.tab with lastDom := ld }, evc := e, hif := h, out := o } := by
  unfold State.domainMix
  dsimp only
  split
  · obtain ⟨e, h, o, ho⟩ := s.occurPick_parts k .pnDomainMix k.odom.toNat
    exact ⟨_, e, h, o, by rw [ho]⟩
  · exact ⟨_, _, _, _, rfl⟩

theorem State.pnWarn_parts (k : Pick) (pn : DWord) : ∃ h o, s.pnWarn k pn = { s with hif := h, out := o } := by
  unfold State.pnWarn
  dsimp only
  split
  · exact s.event_parts ..
  · exact ⟨_, _, rfl⟩

/-- R32, R40: what the reed records of a request before it serves it. -/
theorem State.requested_parts (k : Pick) : ∃ ld e h o,
    (if k.diverges then (s.domainMix k).occurPick k .redispatchDiverge k.assoc.toNat else s.domainMix k)
      = { s with tab := { s.tab with lastDom := ld }, evc := e, hif := h, out := o } := by
  obtain ⟨ld, e, h, o, mix⟩ := s.domainMix_parts k
  split
  · obtain ⟨e', h', o', ho⟩ := (s.domainMix k).occurPick_parts k .redispatchDiverge k.assoc.toNat
    exact ⟨ld, e', h', o', by rw [ho, mix]⟩
  · exact ⟨ld, e, h, o, mix⟩

/-! ### The live counter (R89, R142) -/

/-- R89: the record of a pick that a number of its association has been served to. -/
def Pick.numbered (k : Pick) (pn : DWord) : Pick :=
  { k with
    pnPassed := true, pn := pn, served := (k.assoc, pn) :: k.served.filter (fun e => e.1 != k.assoc)
    servedNow := k.assoc :: k.servedNow }

theorem State.servePn_exhausted {s : State} {k : Pick} {e : AtEntry} (p : Nat) (he : e = s.assoc k.assoc.toNat)
    (h : e.ceiling ≤ (e.slot k.slot).pn.toNat) : s.servePn p k =
      ((s.setAssoc k.assoc.toNat (e.setSlot k.slot { e.slot k.slot with exh := true })).setPick p { k with pnPassed := true },
        withStatus (k.pn.toNat % 2 ^ 56) UStat.exhausted.code) := by
  subst he
  exact if_pos h

theorem State.servePn_served {s : State} {k : Pick} {e : AtEntry} (p : Nat) (he : e = s.assoc k.assoc.toNat)
    (h : (e.slot k.slot).pn.toNat < e.ceiling) : ∃ hi o, s.servePn p k =
      ({ (s.setAssoc k.assoc.toNat (e.setSlot k.slot { e.slot k.slot with pn := (e.slot k.slot).pn + 1 })).setPick p
          (k.numbered (e.slot k.slot).pn) with hif := hi, out := o },
        (e.slot k.slot).pn &&& 0x00FF_FFFF_FFFF_FFFF) := by
  subst he
  obtain ⟨hi, o, warn⟩ := State.pnWarn_parts ((s.setAssoc k.assoc.toNat ((s.assoc k.assoc.toNat).setSlot k.slot
    { (s.assoc k.assoc.toNat).slot k.slot with pn := ((s.assoc k.assoc.toNat).slot k.slot).pn + 1 })).setPick p
      (k.numbered ((s.assoc k.assoc.toNat).slot k.slot).pn)) { k with pnPassed := true } ((s.assoc k.assoc.toNat).slot k.slot).pn
  refine ⟨hi, o, (if_neg (Nat.not_le.2 h)).trans ?_⟩
  rw [← withStatus_ok, ← warn]
  rfl

/-! ### PN_NEXT_SERVE and PN_PEEK_SERVE (R30, R40) -/

/-- A bobbin's oldest operation is a packet-number request that the reed may look at. -/
structure AsksPn (b p : Nat) (o : PendOp) (rest : List PendOp) (k : Pick) : Prop where
  pend : (s.bob b).pend = o :: rest
  asks : o.op.isPn = true
  pick : (s.bob b).pick = some p
  record : s.pick p = some k
  order : k.ordWait = false
  memory : k.memTrap = false

variable {s} {b p : Nat} {o : PendOp} {rest : List PendOp} {k : Pick}

theorem AsksPn.first (h : AsksPn s b p o rest k) : (s.bob b).firstPn = some o := by
  simp [Bobbin.firstPn, h.pend, h.asks]

/-- R30: a request of the other kind that stands behind the oldest one is not served. -/
theorem AsksPn.behind (h : AsksPn s b p o rest k) {d : Reg} {want : AsyncOp → Bool} (other : want o.op = false) {x : PendOp}
    {B : Bobbin} (ht : takePend (s.bob b) d want = some (x, B)) : (s.bob b).firstPn ≠ some x := by
  rw [h.first]
  rintro ⟨rfl⟩
  unfold takePend at ht
  split at ht
  · cases ht
  · next y hy =>
    cases ht
    simpa [other] using List.find?_some hy

/-- R30: so PN_NEXT_SERVE waits for a `pn.peek` before it. -/
theorem AsksPn.next_waits (h : AsksPn s b p o rest k) (d : Reg) (peek : o.op.isPnNext = false) :
    exec (.pnNextServe b d) s = .next s := by
  rw [exec, execPnNextServe]
  cases ht : takePend (s.bob b) d AsyncOp.isPnNext with
  | none => rfl
  | some e => simp only [h.pick, h.record, ne_eq, h.behind peek ht, not_false_eq_true, true_or, if_true]

theorem AsksPn.peek_waits (h : AsksPn s b p o rest k) (d : Reg) (next : o.op.isPnNext = true) :
    exec (.pnPeekServe b d) s = .next s := by
  rw [exec, execPnPeekServe]
  cases ht : takePend (s.bob b) d (fun o => o.isPn && !o.isPnNext) with
  | none => rfl
  | some e =>
    simp only [h.pick, h.record, ne_eq, h.behind (by rw [next, Bool.not_true, Bool.and_false]) ht, not_false_eq_true, true_or,
      if_true]

/-- R40: a restarted pick is given its recorded number. -/
theorem AsksPn.next_recorded (h : AsksPn s b p o rest k) (next : o.op.isPnNext = true) {pn : DWord}
    (hr : k.recorded = some pn) : exec (.pnNextServe b o.d) s =
      .next ((s.setPick p { k with pn := pn, servedNow := k.assoc :: k.servedNow, pnPassed := true }).setBob b
        (({ s.bob b with pend := rest } : Bobbin).finish o.d (pn &&& 0x00FF_FFFF_FFFF_FFFF))) := by
  rw [exec, execPnNextServe, takePend_head h.pend next, ← withStatus_ok]
  simp only [h.pick, h.record, h.first, h.order, h.memory, hr, ne_eq, not_true_eq_false, Bool.false_eq_true, or_self, if_false]
  rfl

theorem AsksPn.next_held (h : AsksPn s b p o rest k) (next : o.op.isPnNext = true) (hr : k.recorded = none)
    (hl : s.lowerHolds p k Pick.holdsPn = true) : exec (.pnNextServe b o.d) s = .next s := by
  rw [exec, execPnNextServe, takePend_head h.pend next]
  simp only [h.pick, h.record, h.first, h.order, h.memory, hr, hl, ne_eq, not_true_eq_false, Bool.false_eq_true, or_self,
    if_false, if_true]

/-- R89: otherwise the live counter serves it. -/
theorem AsksPn.next_live (h : AsksPn s b p o rest k) (next : o.op.isPnNext = true) (hr : k.recorded = none)
    (hl : s.lowerHolds p k Pick.holdsPn = false) : ∃ ld e hi ou t,
      t = { s with tab := { s.tab with lastDom := ld }, evc := e, hif := hi, out := ou }
      ∧ exec (.pnNextServe b o.d) s
        = .next ((t.servePn p k).1.setBob b (({ s.bob b with pend := rest } : Bobbin).finish o.d (t.servePn p k).2)) := by
  obtain ⟨ld, e, hi, ou, parts⟩ := s.requested_parts k
  refine ⟨ld, e, hi, ou, _, rfl, ?_⟩
  rw [exec, execPnNextServe, takePend_head h.pend next]
  simp only [h.pick, h.record, h.first, h.order, h.memory, hr, hl, ne_eq, not_true_eq_false, Bool.false_eq_true, or_self,
    if_false]
  rw [parts]
  rfl

theorem AsksPn.peek_held (h : AsksPn s b p o rest k) (peek : o.op.isPnNext = false)
    (hl : s.lowerHolds p k Pick.holdsPn = true) : exec (.pnPeekServe b o.d) s = .next s := by
  rw [exec, execPnPeekServe, takePend_head h.pend (by rw [h.asks, peek]; rfl)]
  simp only [h.pick, h.record, h.first, h.order, h.memory, hl, ne_eq, not_true_eq_false, Bool.false_eq_true, or_self,
    if_false, if_true]

/-- R90: a `pn.peek` is told the recorded number, the live one, or that the ceiling is met; it changes no association. -/
theorem AsksPn.peek_told (h : AsksPn s b p o rest k) (peek : o.op.isPnNext = false)
    (hl : s.lowerHolds p k Pick.holdsPn = false) : ∃ v, exec (.pnPeekServe b o.d) s
        = .next ((s.setPick p { k with pnPassed := true }).setBob b (({ s.bob b with pend := rest } : Bobbin).finish o.d v))
      ∧ (∀ pn, k.recorded = some pn → v = pn &&& 0x00FF_FFFF_FFFF_FFFF)
      ∧ (k.recorded = none → ((s.assoc k.assoc.toNat).slot k.slot).pn.toNat < (s.assoc k.assoc.toNat).ceiling →
          v = ((s.assoc k.assoc.toNat).slot k.slot).pn &&& 0x00FF_FFFF_FFFF_FFFF)
      ∧ (k.recorded = none → (s.assoc k.assoc.toNat).ceiling ≤ ((s.assoc k.assoc.toNat).slot k.slot).pn.toNat →
          v.toNat / 2 ^ 56 = 2) := by
  have served : exec (.pnPeekServe b o.d) s = .next (match k.recorded with
      | some pn => (s.setPick p { k with pnPassed := true }).deliver b { s.bob b with pend := rest } o.d
          (withStatus (pn.toNat % 2 ^ 56) UStat.ok.code)
      | none =>
        if (s.assoc k.assoc.toNat).ceiling ≤ ((s.assoc k.assoc.toNat).slot k.slot).pn.toNat then
          (s.setPick p { k with pnPassed := true }).deliver b { s.bob b with pend := rest } o.d
            (withFree 0 0 .exhausted (Config.freeResult 0 k.orig 0))
        else (s.setPick p { k with pnPassed := true }).deliver b { s.bob b with pend := rest } o.d
          (withStatus (((s.assoc k.assoc.toNat).slot k.slot).pn.toNat % 2 ^ 56) UStat.ok.code)) := by
    rw [exec, execPnPeekServe, takePend_head h.pend (by rw [h.asks, peek]; rfl)]
    simp only [h.pick, h.record, h.first, h.order, h.memory, hl, ne_eq, not_true_eq_false, Bool.false_eq_true, or_self,
      if_false]
    rfl
  rw [served]
  cases hr : k.recorded with
  | some pn => exact ⟨_, rfl, fun _ h => by cases h; exact withStatus_ok pn, nofun, nofun⟩
  | none =>
    by_cases full : (s.assoc k.assoc.toNat).ceiling ≤ ((s.assoc k.assoc.toNat).slot k.slot).pn.toNat
    · exact ⟨_, congrArg _ (if_pos full), nofun, fun _ room => absurd full (Nat.not_le.2 room), fun _ _ => withFree_div ..⟩
    · exact ⟨_, congrArg _ (if_neg full), nofun, fun _ _ => withStatus_ok _, fun _ h => absurd h full⟩

/-- R46, R49: a result of status EXHAUSTED, as its register shows it. -/
theorem Bobbin.finish_exhausted (B : Bobbin) (d : Reg) {v : DWord} (h : v.toNat / 2 ^ 56 = 2) :
    ((B.finish d v).rd d).toNat / 2 ^ 56 = if d = 0 then 0 else 2 := by
  rw [Bobbin.rd_finish]
  split
  · rfl
  · exact h

/-- Settles O23, a request at a time: a `pn.next` is served by the live counter (`AsksPn.next_live`, below or at the ceiling) or
from the record, a `pn.peek` is told a number, and either is held by a lower pick. -/
theorem packetNumberServed : Obligations.PacketNumberServed := by
  rintro s b p d pc at_ rest k i sl hb hk ord mem rfl rfl
  have asks : ∀ {op}, op.isPn = true → (s.bob b).pend = ⟨d, op, pc, at_⟩ :: rest → AsksPn s b p ⟨d, op, pc, at_⟩ rest k :=
    fun hop h => ⟨h, hop, hb, hk, ord, mem⟩
  refine ⟨fun hp => ⟨fun hl hr => ?_, fun pn hr => (asks rfl hp).next_recorded rfl hr⟩, fun hp hl => ?_, ?_⟩
  · obtain ⟨ld, e, hi, ou, t, ht, served⟩ := (asks rfl hp).next_live rfl hr hl
    have entry : s.assoc k.assoc.toNat = t.assoc k.assoc.toNat := by rw [ht]; rfl
    by_cases full : (s.assoc k.assoc.toNat).ceiling ≤ ((s.assoc k.assoc.toNat).slot k.slot).pn.toNat
    · rw [State.servePn_exhausted p entry full] at served
      refine ⟨_, _, served, ?_, fun j hj => ?_, State.pick_setPick .., fun room => absurd full (Nat.not_le.2 room),
        fun _ => ⟨State.assoc_setAssoc .., rfl, ?_⟩⟩
      · rw [ht]
        rfl
      · exact (State.assoc_setAssoc_other _ _ hj).trans (by rw [ht]; rfl)
      · rw [State.bob_setBob]
        exact Bobbin.finish_exhausted _ d (withStatus_div ..)
    · obtain ⟨hi', ou', live⟩ := State.servePn_served p entry (Nat.not_le.1 full)
      rw [live] at served
      refine ⟨_, k.numbered _, served, ?_, fun j hj => ?_, State.pick_setPick (t.setAssoc ..) p _,
        fun _ => ⟨State.assoc_setAssoc .., rfl, rfl, rfl, rfl, State.bob_setBob ..⟩, fun h => absurd h full⟩
      · rw [ht]
        rfl
      · exact (State.assoc_setAssoc_other t _ hj).trans (by rw [ht]; rfl)
  · obtain ⟨v, told, recorded, live, full⟩ := (asks rfl hp).peek_told rfl hl
    refine ⟨fun pn hr => by rw [told, recorded pn hr], fun hr => ⟨_, told, rfl, State.pick_setPick .., rfl, fun room => ?_,
      fun spent => ?_⟩⟩
    · rw [State.bob_setBob, live hr room]
    · rw [State.bob_setBob]
      exact Bobbin.finish_exhausted _ d (full hr spent)
  · rintro (hp | hp) hl hr
    · exact ⟨(asks rfl hp).next_held rfl hr hl, (asks rfl hp).peek_waits d rfl⟩
    · exact ⟨(asks rfl hp).next_waits d rfl, (asks rfl hp).peek_held rfl hl⟩

end Sys2Proof.Machine
end

section
/-! SUPPORT. The end of a cipher operation for a pick that its bobbin still runs (R93, R94, R144), for O26. -/

namespace Sys2Proof.Machine

variable {s : State} {p : Nat} {k : Pick} {c : Cipher}

/-! ### The pick and its bobbin (R93, R94, R139) -/

/-- R139: only a pick that has ended gives its reference back. -/
theorem State.settle_running (hk : s.pick p = some k) (disp : k.disp = 0) : s.settle p = s := by
  simp only [State.settle, hk, disp, if_true]

/-- R93, R94: the record and the result of a running pick's cipher operation. -/
theorem State.cipherResult_running (v : DWord) (hb : (s.bob c.bob).pick = some p) (disp : k.disp = 0) :
    ((s.setPick p k).cipherResult p c v).settle p
      = (s.setPick p k).setBob c.bob ((s.bob c.bob).finish c.d v) := by
  have told : (s.setPick p k).cipherResult p c v = (s.setPick p k).setBob c.bob ((s.bob c.bob).finish c.d v) :=
    if_pos hb
  rw [told]
  exact State.settle_running (State.pick_setPick s p k) disp

/-- R94: an `open` of a running pick that fails is told so, and its frame stays. -/
theorem State.openFails_running (st : UStat) (hb : (s.bob c.bob).pick = some p) (disp : k.disp = 0) :
    s.openFails p k c st = (s.setPick p { k with cipher := some { c with phase := .done, status := BitVec.ofNat 8 st.code } }).setBob
      c.bob ((s.bob c.bob).finish c.d (withFree 16 k.frame.length st (Config.freeResult 2 k.orig k.frame.length))) := by
  refine (if_neg ?_).trans (State.cipherResult_running _ hb disp)
  simp [disp]

/-- R49: what the register of a completed cipher operation shows. -/
theorem Bobbin.finish_cipher (B : Bobbin) {d : Reg} (hd : d ≠ 0) (n : Nat) (st : UStat) (f : DWord) :
    ((B.finish d (withFree 16 n st f)).rd d).toNat / 2 ^ 56 = st.code
    ∧ ((B.finish d (withFree 16 n st f)).rd d).toNat % 2 ^ 16 = n % 2 ^ 16
    ∧ (B.finish d (withFree 16 n st f)).busy d = false := by
  rw [Bobbin.rd_finish, if_neg hd]
  exact ⟨withFree_div .., withFree_mod _ _ _ (by omega), Bobbin.busy_finish ..⟩

/-! ### The replay state (R94, R144) -/

theorem State.replayed_iff : s.replayed k c = true ↔ k.verified ≠ some (c.assoc, c.pn) ∧ (c.pn = 0
    ∨ c.snap.entry.replay = true ∧ c.pn.toNat < ((s.assoc c.assoc.toNat).slot (c.snap.slot.getD k.slot)).pn.toNat) := by
  simp [State.replayed]

theorem AtEntry.slot_setSlot (e : AtEntry) (b : Bool) (x : Slot) : (e.setSlot b x).slot b = x := by cases b <;> rfl

/-- R94: raising the lowest acceptable number changes the associations, and of those at most the operation's own. -/
theorem State.raiseLowest_parts (s : State) (k : Pick) (c : Cipher) :
    ∃ as, s.raiseLowest k c = { s with tab := { s.tab with assocs := as } }
    ∧ ∀ i, i ≠ c.assoc.toNat → (s.raiseLowest k c).assoc i = s.assoc i := by
  unfold State.raiseLowest
  dsimp only
  split
  · split <;> exact ⟨_, rfl, fun i hi => State.assoc_setAssoc_other _ _ hi⟩
  · exact ⟨_, rfl, fun _ _ => rfl⟩

/-- R144: the lowest acceptable number of a slot that still holds the key it was opened under: never lowered, and raised to
number + 1 − WINDOW where the field holds that. -/
theorem State.raiseLowest_pn {live : Slot} {b : Bool} (hb : b = c.snap.slot.getD k.slot)
    (hl : live = (s.assoc c.assoc.toNat).slot b) (loads : live.loads = (c.snap.entry.slot b).loads) :
    live.pn.toNat ≤ (((s.raiseLowest k c).assoc c.assoc.toNat).slot b).pn.toNat
    ∧ (c.pn.toNat + 1 - c.snap.entry.window.toNat < 2 ^ 64 → (((s.raiseLowest k c).assoc c.assoc.toNat).slot b).pn.toNat
        = max live.pn.toNat (c.pn.toNat + 1 - c.snap.entry.window.toNat)) := by
  subst hb hl
  unfold State.raiseLowest
  dsimp only
  by_cases raises : ((s.assoc c.assoc.toNat).slot (c.snap.slot.getD k.slot)).pn.toNat
      < c.pn.toNat + 1 - c.snap.entry.window.toNat
  · rw [if_pos ⟨loads, raises⟩]
    by_cases fits : c.pn.toNat + 1 - c.snap.entry.window.toNat < 2 ^ 64
    · rw [if_pos fits, State.assoc_setAssoc, AtEntry.slot_setSlot, BitVec.toNat_ofNat, Nat.mod_eq_of_lt fits]
      exact ⟨by omega, fun _ => by omega⟩
    · rw [if_neg fits, State.assoc_setAssoc, AtEntry.slot_setSlot]
      refine ⟨?_, fun h => absurd h fits⟩
      dsimp only
      split <;> omega
  · rw [if_neg (fun h => raises h.2)]
    exact ⟨le_rfl, fun _ => by omega⟩

/-! ### OPEN_SERVE, OPEN_VERDICT_COMMIT and SEAL_DONE (R93, R94) -/

/-- R30, R32, R94: a request that nothing holds is told REPLAY or goes to the engines, with its place in the service order. -/
theorem exec_openServe (hk : s.pick p = some k) (hc : k.cipher = some c) (phase : c.phase = .requested) (ord : k.ordWait = false)
    (mem : k.memTrap = false) (holds : s.lowerHolds p k Pick.holdsPn = false) : ∃ ld e hi ou oo n u,
      u = { s with tab := { s.tab with lastDom := ld, openOrd := oo }, evc := e, hif := hi, out := ou }
      ∧ exec (.openServe p) s = .next (if s.replayed k c
          then u.openFails p { k with pnPassed := true, openPlace := none } { c with ord := n } .replay
          else u.submitCipher p { k with pnPassed := true, openPlace := none } { c with ord := n }) := by
  obtain ⟨ld, e, hi, ou, mix⟩ := s.domainMix_parts { k with assoc := c.assoc }
  refine ⟨ld, e, hi, ou, s.tab.openOrd + 1, (k.placeFor c.assoc).getD s.tab.openOrd, _, rfl, ?_⟩
  rw [exec, execOpenServe]
  simp only [hc, ord, mem] at mix
  simp only [hk, hc, phase, ord, mem, holds, mix, ne_eq, not_true_eq_false, Bool.false_eq_true, or_self, if_false]
  rfl

/-- R94: a request that is not replayed becomes a job of the engines for its pick. -/
theorem State.submitCipher_open (s : State) (p : Nat) (k : Pick) (hopen : c.isOpen = true) : ∃ j k',
    s.submitCipher p k c
      = { s.setPick p k' with cie := { s.cie with jobs := s.cie.jobs ++ [j], next := s.cie.next + 1 } }
    ∧ k'.frame = k.frame ∧ k'.pnPassed = k.pnPassed ∧ j.kind = .opn ∧ j.pick = some p ∧ j.st = .queued ∧ j.level = c.level :=
  ⟨_, _, rfl, rfl, rfl, if_pos hopen, rfl, rfl, rfl⟩

/-- R94: the record of a pick whose frame the plaintext of its `open` has become. -/
def Pick.openedAs (k : Pick) (c : Cipher) (bytes : Bytes) : Pick :=
  { k with
    frame := bytes, opened := true, verified := some (c.assoc, c.pn)
    cipher := some { c with phase := .done, result := none, status := 0 } }

/-- R93: the record of a pick whose frame the output of its `seal` has become. -/
def Pick.sealedAs (k : Pick) (c : Cipher) (bytes : Bytes) : Pick :=
  { k with frame := bytes, cipher := some { c with phase := .done, result := none, status := 0 } }

/-- R94: the verdict of an `open` whose turn has come. -/
theorem exec_openVerdictCommit {ok : Bool} {bytes : Bytes} (hk : s.pick p = some k) (hc : k.cipher = some c) (hopen : c.isOpen = true)
    (phase : c.phase = .engineDone) (result : c.result = some (ok, bytes)) (turn : s.earlierOpen p c = false) :
    exec (.openVerdictCommit p) s = .next (if s.replayed k c then s.openFails p k c .replay
      else if ok then (((s.raiseLowest k c).setPick p (k.openedAs c bytes)).cipherResult p c
        (withFree 16 bytes.length .ok (Config.freeResult 2 k.orig bytes.length))).settle p
      else s.openFails p k c .authFail) := by
  rw [exec, execOpenVerdictCommit]
  simp only [hk, hc, hopen, phase, result, turn, Bool.not_true, ne_eq, not_true_eq_false, Bool.false_eq_true, or_self, if_false,
    Pick.openedAs]
  cases ok <;> rfl

theorem exec_sealDone {ok : Bool} {bytes : Bytes} (hk : s.pick p = some k) (hc : k.cipher = some c) (hseal : c.isOpen = false)
    (phase : c.phase = .engineDone) (result : c.result = some (ok, bytes)) :
    exec (.sealDone p) s = .next (((s.setPick p (k.sealedAs c bytes)).cipherResult p c
      (withStatus (bytes.length % 2 ^ 16) UStat.ok.code)).settle p) := by
  rw [exec, execSealDone]
  simp only [hk, hc, hseal, phase, result, ne_eq, not_true_eq_false, Bool.false_eq_true, or_self, if_false, Pick.sealedAs]

theorem withStatus_length (n : Nat) : withStatus (n % 2 ^ 16) UStat.ok.code = BitVec.ofNat 64 (n % 2 ^ 16) := by
  apply BitVec.eq_of_toNat_eq
  rw [withStatus_toNat (by decide), BitVec.toNat_ofNat, UStat.code]
  omega

/-- Settles O26, a command at a time: whether an `open` is replayed (`State.replayed_iff`) decides what OPEN_SERVE and
OPEN_VERDICT_COMMIT do, and the bobbin is told by `State.openFails_running` or `State.cipherResult_running`. -/
theorem cipherCompletes : Obligations.CipherCompletes := by
  rintro s p k c live hk hc disp hb hd rfl
  refine ⟨fun hopen phase ord mem holds => ?_, fun ok bytes hopen phase result turn fresh => ?_,
    fun ok bytes hopen phase result turn low unverified => ?_, fun ok bytes hseal phase result => ?_⟩
  · obtain ⟨ld, e, hi, ou, oo, n, u, hu, served⟩ := exec_openServe hk hc phase ord mem holds
    have bob : u.bob c.bob = s.bob c.bob := by rw [hu]; rfl
    by_cases replay : s.replayed k c = true
    · obtain ⟨unverified, low⟩ := State.replayed_iff.1 replay
      rw [if_pos replay, State.openFails_running (k := { k with pnPassed := true, openPlace := none }) (c := { c with ord := n })
        .replay (by rw [bob]; exact hb) disp] at served
      obtain ⟨status, -, idle⟩ := Bobbin.finish_cipher (u.bob c.bob) hd k.frame.length .replay
        (Config.freeResult 2 k.orig k.frame.length)
      refine ⟨_, _, served, State.pick_setPick .., rfl, rfl, by rw [hu]; rfl, fun _ _ => ?_, ?_⟩
      · rw [State.bob_setBob]
        exact ⟨status, idle, by rw [hu]; rfl⟩
      · rintro (⟨nonzero, above⟩ | verified)
        · rcases low with zero | ⟨on, below⟩
          · exact absurd zero nonzero
          · rcases above with off | above
            · rw [on] at off
              cases off
            · omega
        · exact absurd verified unverified
    · obtain ⟨j, k', submitted, frame, passed, kind, mine, queued, level⟩ := State.submitCipher_open (c := { c with ord := n }) u p
        { k with pnPassed := true, openPlace := none } hopen
      rw [if_neg replay, submitted] at served
      refine ⟨_, _, served, State.pick_setPick .., passed, frame, by rw [hu]; rfl,
        fun low unverified => absurd (State.replayed_iff.2 ⟨unverified, low⟩) replay, fun _ => ⟨j, ?_, kind, mine, queued, level⟩⟩
      rw [hu]
  · have committed := exec_openVerdictCommit hk hc hopen phase result turn
    have accepted : ¬ s.replayed k c = true := by
      rw [State.replayed_iff]
      rintro ⟨unverified, low⟩
      rcases fresh with ⟨nonzero, above⟩ | verified
      · rcases low with zero | ⟨on, below⟩
        · exact nonzero zero
        · exact absurd (above on) (Nat.not_le.2 below)
      · exact unverified verified
    rw [if_neg accepted] at committed
    cases ok with
    | true =>
      obtain ⟨as, parts, others⟩ := s.raiseLowest_parts k c
      have bob : (s.raiseLowest k c).bob c.bob = s.bob c.bob := by rw [parts]; rfl
      obtain ⟨status, len, idle⟩ := Bobbin.finish_cipher (s.bob c.bob) hd bytes.length .ok
        (Config.freeResult 2 k.orig bytes.length)
      rw [if_pos rfl, State.cipherResult_running (k := k.openedAs c bytes) _ (by rw [bob]; exact hb) disp, bob] at committed
      refine ⟨_, _, committed, State.pick_setPick .., ?_, ?_, ?_, rfl, rfl, others, nofun,
        fun _ loads => State.raiseLowest_pn rfl rfl loads⟩ <;> rw [State.bob_setBob]
      exacts [idle, status, len]
    | false =>
      obtain ⟨status, len, idle⟩ := Bobbin.finish_cipher (s.bob c.bob) hd k.frame.length .authFail
        (Config.freeResult 2 k.orig k.frame.length)
      rw [if_neg Bool.false_ne_true, State.openFails_running .authFail hb disp] at committed
      refine ⟨_, _, committed, State.pick_setPick .., ?_, ?_, ?_, rfl, rfl, fun _ _ => rfl, fun _ => rfl, nofun⟩ <;>
        rw [State.bob_setBob]
      exacts [idle, status, len]
  · have committed := exec_openVerdictCommit hk hc hopen phase result turn
    obtain ⟨status, -, idle⟩ := Bobbin.finish_cipher (s.bob c.bob) hd k.frame.length .replay
      (Config.freeResult 2 k.orig k.frame.length)
    rw [if_pos (State.replayed_iff.2 ⟨unverified, low⟩), State.openFails_running .replay hb disp] at committed
    refine ⟨_, _, committed, State.pick_setPick .., rfl, rfl, ?_, ?_, rfl⟩ <;> rw [State.bob_setBob]
    exacts [status, idle]
  · have done := exec_sealDone hk hc hseal phase result
    rw [State.cipherResult_running (k := k.sealedAs c bytes) _ hb disp, withStatus_length] at done
    exact ⟨_, _, done, State.pick_setPick .., rfl, rfl, State.bob_setBob .., rfl⟩

end Sys2Proof.Machine
end

section
/-! SUPPORT. The dispatch of a pick (R65, R66, R125), for O36. -/

namespace Sys2Proof.Machine

variable {s : State} {b p : Nat} {k : Pick} {card : Card}

/-! ### The entries of a card (R111) -/

theorem State.entry_some {c vec e : Nat} (hc : (s.clu c).card = some card) (he : card.entry[vec]? = some e) (h : e ≠ 0xFFFF) :
    s.entry c vec = some e := by
  simp only [State.entry, hc, he, if_neg h]

theorem State.entry_none {c vec : Nat} (hc : (s.clu c).card = some card)
    (h : card.entry[vec]? = none ∨ card.entry[vec]? = some 0xFFFF) : s.entry c vec = none := by
  rcases h with h | h <;> simp only [State.entry, hc, h, if_true]

/-! ### PICK_DISPATCH (R125) -/

section

variable (held : s.held = false) (gone : s.firstWaiting s.generationGone = none)
  (next : s.firstWaiting (fun x => (s.clusterFor x).isSome) = some (p, k)) (chosen : s.clusterFor k = some (b / 128))
  (free : (s.bob b).pick = none) (left : (s.bob b).left = none)

include held gone next chosen free left

/-- R125: the next pick in dispatch order, for which bobbin b of the chosen cluster is free, starts at its entry there. -/
theorem exec_pickDispatch_starts {e : Nat} (hc : (s.clu (b / 128)).card = some card) (he : s.entry (b / 128) k.vec = some e) :
    exec (.pickDispatch b) s = .next (((s.touchDom (b / 128)).setPick p { k with st := .running, gen := card.gen }).setBob b
      { pick := some p, pc := e }) := by
  rw [exec, execPickDispatch]
  simp only [held, gone, next, clusterOf, chosen, free, left, hc, he, ne_eq, not_true_eq_false, Bool.false_eq_true, or_self,
    if_false]

theorem exec_pickDispatch_noEntry (he : s.entry (b / 128) k.vec = none) :
    exec (.pickDispatch b) s = .next (s.dropPick p 6) := by
  rw [exec, execPickDispatch]
  simp only [held, gone, next, clusterOf, chosen, free, left, he, ne_eq, not_true_eq_false, Bool.false_eq_true, or_self, if_false]

end

/-- R66: every register of a bobbin that starts is 0. -/
theorem Bobbin.rd_start (pc : Nat) (r : Reg) : Bobbin.rd { pick := some p, pc := pc } r = 0 := by
  unfold Bobbin.rd
  split <;> rfl

theorem Bobbin.busy_start (pc : Nat) (r : Reg) : Bobbin.busy { pick := some p, pc := pc } r = false := by
  simp [Bobbin.busy]

/-- Settles O36: by whether the card of the chosen cluster has an entry for the pick's vector. -/
theorem pickDispatched : Obligations.PickDispatched := by
  intro s b p k card held gone next chosen free left hc
  refine ⟨fun e he hne => ?_, fun none => exec_pickDispatch_noEntry held gone next chosen free left (State.entry_none hc none)⟩
  · have dispatched := exec_pickDispatch_starts held gone next chosen free left hc (State.entry_some hc he hne)
    have bob : (((s.touchDom (b / 128)).setPick p { k with st := .running, gen := card.gen }).setBob b
        { pick := some p, pc := e }).bob b = { pick := some p, pc := e } := State.bob_setBob ..
    refine ⟨_, dispatched, bob, fun r => ?_, fun r => ?_, State.pick_setPick .., fun q hq => ?_, fun b' hb' => ?_, rfl⟩
    · rw [bob]
      exact Bobbin.rd_start e r
    · rw [bob]
      exact Bobbin.busy_start e r
    · exact State.pick_setPick_other (s.touchDom (b / 128)) _ hq
    · exact State.bob_setBob_other ((s.touchDom (b / 128)).setPick p _) _ hb'

end Sys2Proof.Machine
end

section
/-! SUPPORT. What an occurrence adds to the event counters depends on the counters alone (R471 to R475), for O34. -/

namespace Sys2Proof.Machine

variable {s t : State}

/-- R475, R482: the end of a counter sets its flag. -/
theorem State.evcEnd_evc (s : State) (n : Nat) :
    (s.evcEnd n).evc = { s.evc with ovf := if s.evc.ovf.contains n then s.evc.ovf else n :: s.evc.ovf } := by
  unfold State.evcEnd
  dsimp only
  split <;> simp

theorem State.evcAdd_evc_congr (h : s.evc = t.evc) (n amount fuel : Nat) :
    (s.evcAdd n amount fuel).evc = (t.evcAdd n amount fuel).evc := by
  induction fuel generalizing s t n amount with
  | zero => exact h
  | succ fuel ih =>
    have carry : ∀ c m a, ((State.evcEnd { s with evc := c } n).evcAdd m a fuel).evc
        = ((State.evcEnd { t with evc := c } n).evcAdd m a fuel).evc :=
      fun c m a => ih (by rw [State.evcEnd_evc, State.evcEnd_evc]) m a
    simp only [State.evcAdd, State.evcCfg, apply_ite State.evc, State.evcEnd_evc, h, carry]

theorem State.occurAll_evc_congr (h : s.evc = t.evc) (src index dom master : Nat) (cls : Option Nat) (amount : Nat)
    (ns : List Nat) : (s.occurAll src index dom master cls amount ns).evc = (t.occurAll src index dom master cls amount ns).evc := by
  induction ns generalizing s t with
  | nil => exact h
  | cons n ns ih =>
    have cfg : s.evcCfg n = t.evcCfg n := by simp only [State.evcCfg, h]
    cases passes : (t.evcCfg n).passes src index dom master cls with
    | false => simpa only [State.occurAll, cfg, passes, Bool.false_eq_true, if_false] using ih h
    | true => simpa only [State.occurAll, cfg, passes, if_true] using ih (State.evcAdd_evc_congr h n amount 4096)

theorem State.occurPick_evc_congr (h : s.evc = t.evc) (k : Pick) (x : Src) (i : Nat) :
    (s.occurPick k x i).evc = (t.occurPick k x i).evc := by
  simp only [State.occurPick, State.occurWith, h]
  exact State.occurAll_evc_congr h ..

end Sys2Proof.Machine
end

section
/-! SUPPORT. What a trap leaves of its bobbin and its pick (R67, R68, R71), for O34. -/

namespace Sys2Proof.Machine

/-! ### Registers written (R46) -/

theorem Bobbin.rd_wr_same (B : Bobbin) {r : Reg} (v : DWord) (h : r ≠ 0) : (B.wr r v).rd r = v := by
  simp only [Bobbin.rd, Bobbin.wr, if_neg h, tget_tset_same]

theorem Bobbin.rd_wr_other (B : Bobbin) {r x : Reg} (v : DWord) (h : x ≠ r) : (B.wr r v).rd x = B.rd x := by
  have key : x.toNat ≠ r.toNat := fun e => h (BitVec.eq_of_toNat_eq e)
  by_cases hr : r = 0
  · simp only [Bobbin.wr, if_pos hr]
  · simp only [Bobbin.rd, Bobbin.wr, if_neg hr, tget_tset_other 0 0 B.g v key]

/-! ### The two ways a trap is taken (R67, R68) -/

variable {s : State} {b p : Nat} {k : Pick} {tr : Trap}

/-- R67, R71: the trap counted, and recorded in its cluster's SHU_TRAP_LAST. -/
def State.trapped (s : State) (b : Nat) (k : Pick) (tr : Trap) (pc : Nat) : State :=
  (s.occurPick k .trap tr.code).setClu (b / 128) { s.clu (b / 128) with
    trapLast := (BitVec.ofNat 4 tr.code, pc % 16384, b / 8 % 16, b % 8, (s.bob b).inHandler) }

/-- R67, R68: the bobbin that enters vector 5 at e. -/
def Bobbin.trapEntry (B : Bobbin) (tr : Trap) (pc : Nat) (w : Word) (e : Nat) : Bobbin :=
  { ((B.wr 1 (BitVec.ofNat 64 tr.code)).wr 2 (BitVec.ofNat 64 pc)).wr 3 (w.setWidth 64) with
    pc := e, inHandler := true, raised := true, tbNs := none }

theorem State.entry_trapped (pc c vec : Nat) : (s.trapped b k tr pc).entry c vec = s.entry c vec := by
  have card : ((s.trapped b k tr pc).clu c).card = (s.clu c).card := by
    by_cases h : c = b / 128
    · subst h
      exact (congrArg Cluster.card (State.clu_setClu ..)).trans rfl
    · refine congrArg Cluster.card ((State.clu_setClu_other _ _ h).trans ?_)
      exact (s.occurPick_reads k .trap tr.code c 0 .hifMode).2.1
  simp only [State.entry, card]

theorem State.trapAt_enters (pc : Nat) (w : Word) {e : Nat} (running : s.bobPick b = some k) (mem : tr ≠ .mem)
    (outside : (s.bob b).inHandler = false) (he : s.entry (b / 128) 5 = some e) :
    s.trapAt b tr pc w = (s.trapped b k tr pc).setBob b ((s.bob b).trapEntry tr pc w e) := by
  have entry : (s.trapped b k tr pc).entry (clusterOf b) 5 = some e := (State.entry_trapped ..).trans he
  have clu : (s.occurPick k .trap tr.code).clu (b / 128) = s.clu (b / 128) :=
    (s.occurPick_reads k .trap tr.code (b / 128) 0 .hifMode).2.1
  simp only [State.trapped, clusterOf] at entry
  simp only [State.trapAt, running, clusterOf, clu, if_neg mem, outside, Bool.false_eq_true, if_false, State.trapped]
  simp only [outside] at entry
  simp only [entry]
  rfl

theorem State.trapAt_drops (pc : Nat) (w : Word) (running : s.bobPick b = some k) (pick : (s.bob b).pick = some p)
    (h : tr = .mem ∨ (s.bob b).inHandler = true ∨ s.entry (b / 128) 5 = none) :
    s.trapAt b tr pc w = (((s.trapped b k tr pc).landFadds b).freeBob b).dropPick p (if tr = .mem then 2 else 1) := by
  have clu : (s.occurPick k .trap tr.code).clu (b / 128) = s.clu (b / 128) :=
    (s.occurPick_reads k .trap tr.code (b / 128) 0 .hifMode).2.1
  have entry : (s.trapped b k tr pc).entry (clusterOf b) 5 = s.entry (b / 128) 5 := State.entry_trapped ..
  simp only [State.trapped, clusterOf] at entry
  simp only [State.trapAt, running, pick, clusterOf, clu, entry, State.trapped]
  by_cases mem : tr = .mem
  · simp only [if_pos mem]
  · simp only [if_neg mem]
    cases inside : (s.bob b).inHandler with
    | true => simp only [if_true]
    | false =>
      rcases h with h | h | h
      · exact absurd h mem
      · rw [inside] at h
        cases h
      · simp only [h, Bool.false_eq_true, if_false]

/-! ### What is left as it was -/

theorem Trap.code_eq (tr : Trap) : tr.code = Claims.trapCode tr := by cases tr <;> rfl

theorem State.trapped_clu (pc : Nat) : ((s.trapped b k tr pc).clu (b / 128)).trapLast
    = (BitVec.ofNat 4 (Claims.trapCode tr), pc % 16384, b / 8 % 16, b % 8, (s.bob b).inHandler) := by
  rw [← Trap.code_eq]
  exact congrArg Cluster.trapLast (State.clu_setClu ..)

theorem State.trapped_reads (pc : Nat) : (∀ x, (s.trapped b k tr pc).bob x = s.bob x)
    ∧ (∀ x, (s.trapped b k tr pc).pick x = s.pick x) ∧ (s.trapped b k tr pc).reg .shuBudget = s.reg .shuBudget
    ∧ (s.trapped b k tr pc).shu.scratch = s.shu.scratch := by
  have reads : ∀ x, (s.occurPick k .trap tr.code).bob x = s.bob x ∧ (s.occurPick k .trap tr.code).pick x = s.pick x := by
    intro x
    obtain ⟨bob, -, pick, -⟩ := s.occurPick_reads k .trap tr.code x 0 .hifMode
    exact ⟨bob, pick⟩
  refine ⟨fun x => (reads x).1, fun x => (reads x).2, ?_, ?_⟩ <;> simp [State.trapped]

/-- R67: the registers, the course and the budget with which the handler starts. -/
theorem Bobbin.trapEntry_reads (B : Bobbin) (pc : Nat) (w : Word) (e : Nat) :
    (B.trapEntry tr pc w e).rd 1 = BitVec.ofNat 64 (Claims.trapCode tr) ∧ (B.trapEntry tr pc w e).rd 2 = BitVec.ofNat 64 pc
    ∧ (B.trapEntry tr pc w e).rd 3 = w.setWidth 64 ∧ (∀ r, 3 < r.toNat → (B.trapEntry tr pc w e).rd r = B.rd r)
    ∧ (B.trapEntry tr pc w e).count = B.count ∧ (B.trapEntry tr pc w e).sb = B.sb := by
  have regs : ∀ r, (B.trapEntry tr pc w e).rd r
      = (((B.wr 1 (BitVec.ofNat 64 tr.code)).wr 2 (BitVec.ofNat 64 pc)).wr 3 (w.setWidth 64)).rd r := fun _ => rfl
  refine ⟨?_, ?_, ?_, fun r hr => ?_, rfl, rfl⟩
  · rw [regs, Bobbin.rd_wr_other _ _ (by decide), Bobbin.rd_wr_other _ _ (by decide), Bobbin.rd_wr_same _ _ (by decide),
      Trap.code_eq]
  · rw [regs, Bobbin.rd_wr_other _ _ (by decide), Bobbin.rd_wr_same _ _ (by decide)]
  · rw [regs, Bobbin.rd_wr_same _ _ (by decide)]
  · have above : ∀ x : Reg, x.toNat ≤ 3 → r ≠ x := by
      rintro x hx rfl
      omega
    rw [regs, Bobbin.rd_wr_other _ _ (above 3 (by decide)), Bobbin.rd_wr_other _ _ (above 2 (by decide)),
      Bobbin.rd_wr_other _ _ (above 1 (by decide))]

/-- R67, R71: a trap outside the handler on a card with an entry 5. -/
theorem State.trapAt_handled {t : State} {pc : Nat} {w : Word} {e : Nat} (running : s.bobPick b = some k) (hk : s.pick p = some k)
    (ht : t = s.trapAt b tr pc w) (mem : tr ≠ .mem) (outside : (s.bob b).inHandler = false) (he : s.entry (b / 128) 5 = some e) :
    t.pick p = some k ∧ (t.bob b).pc = e ∧ (t.bob b).inHandler = true
    ∧ (t.bob b).rd 1 = BitVec.ofNat 64 (Claims.trapCode tr) ∧ (t.bob b).rd 2 = BitVec.ofNat 64 pc
    ∧ (t.bob b).rd 3 = w.setWidth 64 ∧ (∀ r, 3 < r.toNat → (t.bob b).rd r = (s.bob b).rd r)
    ∧ (t.bob b).count = (s.bob b).count ∧ t.budget (t.bob b) = s.field .shuBudget 0 0 16 + 256
    ∧ (t.bob b).sb = (s.bob b).sb ∧ t.shu.scratch = s.shu.scratch := by
  obtain ⟨-, picks, reg, scratch⟩ := s.trapped_reads (b := b) (k := k) (tr := tr) pc
  obtain ⟨code, word, instr, others, count, sb⟩ := Bobbin.trapEntry_reads (tr := tr) (s.bob b) pc w e
  rw [ht, State.trapAt_enters pc w running mem outside he, State.bob_setBob]
  exact ⟨(picks p).trans hk, rfl, rfl, code, word, instr, others, count, congrArg (fun r => fld r 0 16 + 256) reg, sb, scratch⟩

/-- R31, R68: a trap that drops its pick. -/
theorem State.trapAt_dropped {t : State} {pc : Nat} {w : Word} (running : s.bobPick b = some k) (pick : (s.bob b).pick = some p)
    (hk : s.pick p = some k) (ht : t = s.trapAt b tr pc w)
    (h : tr = .mem ∨ (s.bob b).inHandler = true ∨ s.entry (b / 128) 5 = none) :
    t.evc = ((s.occurPick k .trap (Claims.trapCode tr)).occurPick k .dropReason (if tr = .mem then 2 else 1)).evc
    ∧ t.bob b = {} ∧ (k.mirrors = [] → t.pick p = none)
    ∧ (k.mirrors ≠ [] → tr ≠ .mem → ∃ k', t.pick p = some k' ∧ k'.disp = 2 ∧ k'.reason = 1) := by
  obtain ⟨-, picks, -⟩ := s.trapped_reads (b := b) (k := k) (tr := tr) pc
  generalize hv : ((s.trapped b k tr pc).landFadds b).freeBob b = v
  have held : v.pick p = some k := by
    rw [← hv]
    exact (picks p).trans hk
  have dropped := State.trapAt_drops pc w running pick h
  rw [hv, ← ht] at dropped
  obtain ⟨js, ps, d, r, refs, ref, e, hi, o, u, -, -, leaves⟩ := State.dropPick_leaves (if tr = .mem then 2 else 1) held
  obtain ⟨freed, kept, -⟩ := State.pick_delPick_or_setPick leaves
  rw [← dropped] at freed kept
  refine ⟨?_, ?_, fun none => freed ?_, fun copies mem => ?_⟩
  · have counted : t.evc = (v.occurPick k .dropReason (if tr = .mem then 2 else 1)).evc := by
      rw [dropped]
      simp only [State.dropPick, held, State.endPick_keeps]
    rw [counted, ← Trap.code_eq]
    exact State.occurPick_evc_congr (by rw [← hv]; rfl) k _ _
  · rw [dropped, (v.dropPick_reads p _ b 0 .hifMode).1, ← hv]
    exact State.bob_setBob ..
  · show (if _ then [] else k.mirrors) = []
    rw [none, ite_self]
  · rw [if_neg mem] at kept
    exact ⟨_, kept copies, rfl, rfl⟩

/-- R67, R68, R71: in either case the trap is recorded and nothing of the other bobbins and picks changes. -/
theorem State.trapAt_frame {t : State} {pc : Nat} {w : Word} (running : s.bobPick b = some k) (pick : (s.bob b).pick = some p)
    (hk : s.pick p = some k) (ht : t = s.trapAt b tr pc w) : (t.clu (b / 128)).trapLast =
      (BitVec.ofNat 4 (Claims.trapCode tr), pc % 16384, b / 8 % 16, b % 8, (s.bob b).inHandler)
    ∧ (∀ b', b' ≠ b → t.bob b' = s.bob b') ∧ (∀ q, q ≠ p → t.pick q = s.pick q) := by
  rw [← State.trapped_clu pc (k := k), ht]
  obtain ⟨bobs, picks, -⟩ := s.trapped_reads (b := b) (k := k) (tr := tr) pc
  by_cases h : tr = .mem ∨ (s.bob b).inHandler = true ∨ s.entry (b / 128) 5 = none
  · generalize hv : ((s.trapped b k tr pc).landFadds b).freeBob b = v
    have held : v.pick p = some k := by
      rw [← hv]
      exact (picks p).trans hk
    obtain ⟨js, ps, d, r, refs, ref, e, hi, o, u, hu, -, leaves⟩ := State.dropPick_leaves (if tr = .mem then 2 else 1) held
    obtain ⟨-, -, others⟩ := State.pick_delPick_or_setPick leaves
    rw [State.trapAt_drops pc w running pick h, hv]
    refine ⟨?_, fun b' hb' => ?_, fun q hq => ?_⟩
    · rw [(v.dropPick_reads p _ (b / 128) 0 .hifMode).2.1, ← hv]
      rfl
    · rw [(v.dropPick_reads p _ b' 0 .hifMode).1, ← hv]
      exact (State.bob_setBob_other _ _ hb').trans (bobs b')
    · rw [others q hq, hu, ← hv]
      exact picks q
  · obtain ⟨mem, outside, entry⟩ : tr ≠ .mem ∧ (s.bob b).inHandler = false ∧ s.entry (b / 128) 5 ≠ none := by simpa using h
    obtain ⟨e, he⟩ := Option.ne_none_iff_exists'.1 entry
    rw [State.trapAt_enters pc w running mem outside he]
    exact ⟨rfl, fun b' hb' => (State.bob_setBob_other _ _ hb').trans (bobs b'),
      fun q _ => picks q⟩

end Sys2Proof.Machine
end

section
/-! SUPPORT. Where instructions trap: past the budget, and outside the limits of the window (R51, R52, R69, R81, R82), for O34. -/

namespace Sys2Proof.Machine

variable {s : State} {b p : Nat} {k : Pick}

/-! ### The budget (R69) -/

/-- R69: an instruction past the budget of its pick. -/
theorem State.issue_spent {w : Word} {regs : List Reg} {pc : Nat} {t : State} {eff : State → Bobbin → Pick → Act}
    (running : s.bobPick b = some k) (cell : k.cellWait = false) (word : s.fetchWord b = some w)
    (free : ∀ r ∈ regs, (s.bob b).busy r = false) (spent : s.budget (s.bob b) ≤ (s.bob b).count)
    (he : eff (s.setBob b { s.bob b with tbNs := none }) (s.bob b) k = .go t pc) :
    s.issue b w true regs eff = s.trapAt b .budget (s.bob b).pc w := by
  have idle : regs.any (s.bob b).busy = false := by simpa using free
  simp [State.issue, running, cell, word, idle, spent, he]

theorem State.issueReg_spent {w : Word} {d : Reg} {srcs : List Reg} (f : Bobbin → DWord) (running : s.bobPick b = some k)
    (cell : k.cellWait = false) (free : ∀ r ∈ d :: srcs, (s.bob b).busy r = false)
    (spent : s.budget (s.bob b) ≤ (s.bob b).count) (word : s.fetchWord b = some w) :
    s.issueReg b w d srcs f = s.trapAt b .budget (s.bob b).pc w := State.issue_spent running cell word free spent rfl

/-- R77: the two-operand functions are all given by `State.alu2`. -/
theorem exec_aluTwo : ∀ e ∈ Claims.aluTwo, ∃ f, ∀ (b : Nat) (d a c : Reg) (s : State),
    exec (e.2.1 b d a c) s = .next (s.alu2 b e.1 d a c f) := by
  simp only [Claims.aluTwo, List.forall_mem_cons, List.not_mem_nil, false_imp_iff, implies_true, and_true]
  and_intros <;> exact ⟨_, fun _ _ _ _ _ => rfl⟩

theorem exec_aluOne : ∀ e ∈ Claims.aluOne, ∃ f, ∀ (b : Nat) (d a c : Reg) (s : State),
    exec (e.2.1 b d a c) s = .next (s.alu1 b e.1 d a c f) := by
  simp only [Claims.aluOne, List.forall_mem_cons, List.not_mem_nil, false_imp_iff, implies_true, and_true]
  and_intros <;> exact ⟨_, fun _ _ _ _ _ => rfl⟩

/-- R78: an immediate instruction reads, beside d, at most a. -/
theorem exec_immediates : ∀ e ∈ Claims.immediates, ∀ (b : Nat) (d a : Reg) (imm : BitVec 16) (s : State), ∃ srcs f,
    srcs ⊆ [a] ∧ exec (e.2.1 b d a imm) s = .next (s.issueReg b (encI e.1 d a imm) d srcs f) := by
  simp only [Claims.immediates, List.forall_mem_cons, List.not_mem_nil, false_imp_iff, implies_true, and_true]
  and_intros <;> intro b d a imm s
  iterate 4 exact ⟨[a], _, List.Subset.refl _, rfl⟩
  iterate 2 exact ⟨[], _, List.nil_subset _, rfl⟩

theorem exec_branches : ∀ e ∈ Claims.branches, ∃ f, ∀ (b : Nat) (a c : Reg) (imm : BitVec 16) (s : State),
    exec (e.2.1 b a c imm) s = .next (s.branch b e.1 a c imm f) := by
  simp only [Claims.branches, List.forall_mem_cons, List.not_mem_nil, false_imp_iff, implies_true, and_true]
  and_intros <;> exact ⟨_, fun _ _ _ _ _ => rfl⟩

/-! ### The window (R51, R52, R81, R82) -/

variable {d a : Reg} {size : BitVec 2} {sub : BitVec 4} {off : BitVec 10} {e : Int}

theorem subReserved_eq_false (h2 : sub.getLsbD 2 = false) (h3 : sub.getLsbD 3 = false) : subReserved sub = false := by
  rw [subReserved, h2, h3]
  rfl

theorem exec_ldw_outside (h : s.mayIssueRun b (encW 0x18 d a size sub off) [d, a] p k = true) (legal : subReserved sub = false)
    (he : e = effOffset (s.bob b) a off) (outside : e < -64 ∨ 511 < e + (2 ^ size.toNat : Nat) - 1) :
    exec (.ldw b d a size sub off) s = .next (s.trapAt b .window (s.bob b).pc (encW 0x18 d a size sub off)) := by
  subst he
  refine congrArg Host.Outcome.next (State.issue_trap h ?_)
  exact (if_neg (by rw [legal]; decide)).trans (if_pos outside)

theorem exec_stw_outside (h : s.mayIssueRun b (encW 0x19 d a size sub off) [d, a] p k = true) (legal : subReserved sub = false)
    (cipher : k.cipher = none) (opened : k.opened = false) (he : e = effOffset (s.bob b) a off)
    (outside : e < -64 ∨ 511 < e + (2 ^ size.toNat : Nat) - 1 ∨ e < k.woff.toInt
      ∨ k.woff.toInt + k.frame.length < e + (2 ^ size.toNat : Nat)) :
    exec (.stw b d a size sub off) s = .next (s.trapAt b .window (s.bob b).pc (encW 0x19 d a size sub off)) := by
  subst he
  refine congrArg Host.Outcome.next (State.issue_trap h ?_)
  exact (if_neg (by simp [legal, Pick.sealedOff, cipher, opened])).trans (if_pos outside)

section

variable {n : Nat} (h : s.mayIssueRun b (encW 0x1A d a 0 sub off) [d, a] p k = true) (legal : subReserved sub = false)
  (low : sub.getLsbD 1 = false) (cipher : k.cipher = none) (opened : k.opened = false) (he : e = effOffset (s.bob b) a off)
  (hn : n = ((s.bob b).rd d).toNat) (pos : 1 ≤ n) (few : n ≤ 64)

include h legal low cipher opened he hn pos few

/-- R52, R82: a `wedit` whose operands are legal. -/
theorem exec_wedit_outside (outside : if sub.getLsbD 0 then e < k.woff.toInt ∨ k.woff.toInt + k.frame.length < e + n
        ∨ 511 < e + n - 1 ∨ 511 < k.woff.toInt + n ∨ k.frame.length < 14 + n ∨ 16128 + n < k.frame.length
      else e < k.woff.toInt ∨ k.woff.toInt + k.frame.length < e ∨ 512 < e ∨ (511 < e ∧ e < k.woff.toInt + k.frame.length)
        ∨ k.woff.toInt - n < -64 ∨ 16128 < k.frame.length + n ∨ k.frame.length + n < 14) :
    exec (.wedit b d a 0 sub off) s = .next (s.trapAt b .window (s.bob b).pc (encW 0x1A d a 0 sub off)) := by
  subst he hn
  refine congrArg Host.Outcome.next (State.issue_trap h ?_)
  have good : ¬ (subReserved3 sub || (0 : BitVec 2) != 0 || k.sealedOff || ((s.bob b).rd d).toNat == 0
      || decide (64 < ((s.bob b).rd d).toNat)) = true := by
    have nonzero : ((s.bob b).rd d).toNat ≠ 0 := by omega
    have defined : subReserved3 sub = false := by rw [subReserved3, low, legal]; rfl
    simp [defined, Pick.sealedOff, cipher, opened, few, nonzero]
  refine (if_neg good).trans ?_
  cases shrinks : sub.getLsbD 0 with
  | true => exact (if_pos rfl).trans (if_pos (by simpa only [shrinks, if_true] using outside))
  | false => exact (if_neg Bool.false_ne_true).trans (if_pos (by simpa only [shrinks, Bool.false_eq_true, if_false] using outside))

end

/-! ### The claim -/

/-- R63: a pc beyond the card, or a reserved word there. -/
theorem exec_illegalFetch (running : s.bobPick b = some k) :
    (s.fetchWord b = none → exec (.illegalFetch b) s = .next (s.trapAt b .illegal (s.bob b).pc 0))
    ∧ ∀ w, s.fetchWord b = some w → reservedWord w = true →
      exec (.illegalFetch b) s = .next (s.trapAt b .illegal (s.bob b).pc w) := by
  rw [exec, execIllegalFetch]
  refine ⟨fun beyond => ?_, fun w word reserved => ?_⟩
  · simp only [running, beyond]
  · simp only [running, word, reserved, if_true]

/-- Settles O34: what a trap leaves is proved once (`State.trapAt_handled`, `State.trapAt_dropped`, `State.trapAt_frame`); where the
instructions trap follows from `State.issue_spent` past the budget and `State.issue_trap` for the rest. -/
theorem trapTaken : Obligations.TrapTaken := by
  refine ⟨fun s b p d a c imm k h => ?_, fun s b k running => exec_illegalFetch running, fun e he s b d a c k running cell word hd ha
    hc spent => ?_, fun s b d a c imm k running cell free spent => ⟨fun e he word => ?_, fun e he word => ?_, fun e he word => ?_⟩,
    ?_, fun s t b p pc tr w k left pick hk ht => ?_⟩
  · obtain ⟨left, pick, hk, -⟩ := (s.mayIssueRun_iff ..).1 h
    have running : s.bobPick b = some k := by simp [State.bobPick, left, pick, hk]
    obtain ⟨last, others, -⟩ := State.trapAt_frame (tr := .program) (pc := (s.bob b).pc) (w := encU 0x2F d a c 0 imm) running pick
      hk rfl
    refine ⟨_, congrArg Host.Outcome.next (State.issue_trap h rfl), rfl, last, fun e outside he => ?_⟩
    obtain ⟨same, pc, inside, code, word, instr, -⟩ := State.trapAt_handled (tr := .program) (pc := (s.bob b).pc)
      (w := encU 0x2F d a c 0 imm) running hk rfl (by decide) outside he
    exact ⟨same, pc, inside, code, word, instr, others⟩
  · obtain ⟨f, hf⟩ := exec_aluTwo e he
    rw [hf, State.alu2, State.issueReg_spent _ running cell (by simp [hd, ha, hc]) spent word]
  · obtain ⟨f, hf⟩ := exec_aluOne e he
    rw [hf, State.alu1, State.issueReg_spent _ running cell (fun r hr => free r ((List.prefix_append [d, a] [c]).subset hr))
      spent word]
  · obtain ⟨srcs, f, few, hf⟩ := exec_immediates e he b d a imm s
    have used : ∀ r ∈ d :: srcs, (s.bob b).busy r = false := by
      intro r hr
      refine free r ?_
      rcases List.mem_cons.1 hr with rfl | hr
      · simp
      · simp [List.mem_singleton.1 (few hr)]
    rw [hf, State.issueReg_spent _ running cell used spent word]
  · obtain ⟨f, hf⟩ := exec_branches e he
    rw [hf, State.branch, State.issue_spent running cell word (fun r hr => free r (List.mem_cons_of_mem d hr)) spent rfl]
  · rintro s b p d a size sub off k e w n len h2 h3 he rfl rfl
    have legal := subReserved_eq_false h2 h3
    refine ⟨?_, fun h low cipher opened hn pos few => ⟨fun shrinks outside => ?_, fun grows outside => ?_⟩⟩
    · rintro rfl
      exact ⟨fun h outside => exec_ldw_outside h legal he outside,
        fun h cipher opened outside => exec_stw_outside h legal cipher opened he outside⟩
    · exact exec_wedit_outside h legal low cipher opened he hn pos few (by rw [if_pos shrinks]; exact outside)
    · exact exec_wedit_outside h legal low cipher opened he hn pos few (by rw [if_neg (by rw [grows]; decide)]; exact outside)
  · have running : s.bobPick b = some k := by simp [State.bobPick, left, pick, hk]
    obtain ⟨last, bobs, picks⟩ := State.trapAt_frame running pick hk ht
    exact ⟨last, bobs, picks, fun e mem outside he => State.trapAt_handled running hk ht mem outside he,
      State.trapAt_dropped running pick hk ht⟩

end Sys2Proof.Machine
end

section
/-! SUPPORT. Work that no power domain's state records: what the writes of DRAM lines, a lane's defects and the links of ports leave of
the power management (R452 to R460), for O47. -/

namespace Sys2Proof.Machine

@[simp] theorem pmc_ite (p : Prop) [Decidable p] (s t : State) :
    (if p then s else t).pmc = if p then s.pmc else t.pmc := apply_ite State.pmc p s t

@[simp] theorem foldl_pmc {α : Type} (f : State → α → State) (l : List α) (s : State)
    (h : ∀ t x, (f t x).pmc = t.pmc) : (l.foldl f s).pmc = s.pmc :=
  List.foldlRecOn (motive := fun t : State => t.pmc = s.pmc) l f rfl fun t ht x _ => (h t x).trans ht

variable (s : State)

/-! ### Writes of lines (R303, R313) -/

@[simp] theorem State.clockEnd_pmc : s.clockEnd.pmc = s.pmc := by simp [State.clockEnd]

@[simp] theorem State.tick_pmc (ch : Nat) : (s.tick ch).2.pmc = s.pmc := by rfl

@[simp] theorem State.writeNodes_pmc (buffer b : Bool) (path : List PathObs) : (s.writeNodes buffer b path).pmc = s.pmc := by
  simp [State.writeNodes]

@[simp] theorem State.storeCopy_pmc (buffer b : Bool) (mki draw line : Nat) (plain : Bytes) (path : List PathObs) :
    (s.storeCopy buffer b mki draw line plain path).pmc = s.pmc := by
  simp [State.storeCopy]

@[simp] theorem State.storeLine_pmc (buffer : Bool) (mki draw line : Nat) (plain : Bytes) (path : List PathObs) :
    (s.storeLine buffer mki draw line plain path).pmc = s.pmc := by
  simp [State.storeLine]

@[simp] theorem State.tryStore_pmc (buffer : Bool) (mki draw line : Nat) (plain : Bytes) (path : List PathObs) :
    (s.tryStore buffer mki draw line plain path).pmc = s.pmc := by
  simp [State.tryStore]

@[simp] theorem State.ownStore_pmc (buffer : Bool) (mki draw line : Nat) (plain : Bytes) :
    (s.ownStore buffer mki draw line plain).pmc = s.pmc := by
  simp [State.ownStore]

/-! ### Defects of lanes and groups (R249 to R257) -/

@[simp] theorem State.block_pmc (k sec : Nat) (errored : Bool) (bip : Nat) : (s.block k sec errored bip).pmc = s.pmc := by rfl

@[simp] theorem State.hurt_pmc (k : Nat) : (s.hurt k).pmc = s.pmc := by rfl

@[simp] theorem State.blind_pmc (k : Nat) : (s.blind k).pmc = s.pmc := by rfl

@[simp] theorem State.markLane_pmc (l : Nat) : (s.markLane l).pmc = s.pmc := by simp [State.markLane]

@[simp] theorem State.markGroup_pmc (g : Nat) : (s.markGroup g).pmc = s.pmc := by simp [State.markGroup]

@[simp] theorem State.setLaneDef_pmc (l : Nat) (d : BitVec 9) : (s.setLaneDef l d).pmc = s.pmc := by simp [State.setLaneDef]

@[simp] theorem State.memberRecord_pmc (g l : Nat) : (s.memberRecord g l).pmc = s.pmc := by simp [State.memberRecord]

@[simp] theorem State.evalLane_pmc (l : Nat) (frame : Bool) (srdi : Option Bool) : (s.evalLane l frame srdi).pmc = s.pmc := by
  unfold State.evalLane
  split <;> simp

@[simp] theorem State.setGrpDef_pmc (g : Nat) (d : BitVec 8) : (s.setGrpDef g d).pmc = s.pmc := by simp [State.setGrpDef]

@[simp] theorem State.evalGroup_pmc (g : Nat) (lane label : Bool) (rdi : Option Bool) :
    (s.evalGroup g lane label rdi).pmc = s.pmc := by
  simp [State.evalGroup]

@[simp] theorem State.evalMember_pmc (l : Nat) : (s.evalMember l).pmc = s.pmc := by
  unfold State.evalMember
  (repeat' split) <;> simp

/-! ### Lanes and links (R214, R334) -/

@[simp] theorem State.sectionBlock_pmc (l : Nat) (w : Option RxWord) : (s.sectionBlock l w).pmc = s.pmc := by
  simp only [State.sectionBlock]
  split <;> simp

@[simp] theorem State.setPcs_pmc (lane : Nat) (block fecLost : Bool) : (s.setPcs lane block fecLost).pmc = s.pmc := by
  simp [State.setPcs]

@[simp] theorem State.setBlock_pmc (lane : Nat) (locked : Bool) : (s.setBlock lane locked).pmc = s.pmc := by
  simp [State.setBlock]

@[simp] theorem State.updateLink_pmc (p : Nat) : (s.updateLink p).pmc = s.pmc := by simp [State.updateLink]

end Sys2Proof.Machine
end

section
/-! SUPPORT. A power domain that has been quarantined stays as it is (R452 to R463), for O47. -/

namespace Sys2Proof.Machine

variable {s : State} {d : Nat}

theorem State.dom_of_pmc {t : State} (h : t.pmc = s.pmc) (d : Nat) : t.dom d = s.dom d :=
  congrArg (fun p : Pmc => tget ({} : Dom) p.doms d) h

/-! ### Wakes of other domains (R457, R458, R460) -/

theorem State.askWake_dom_other (s : State) {x : Nat} (why : WakeWhy) (h : d ≠ x) : (s.askWake x why).dom d = s.dom d := by
  unfold State.askWake
  dsimp only
  split
  · rfl
  · exact State.dom_setDom_other s _ h

theorem State.touchDom_dom_other (s : State) {x : Nat} (h : d ≠ x) : (s.touchDom x).dom d = s.dom d :=
  State.dom_setDom_other s _ h

/-- R452: no request of a channel reaches a quarantined domain. -/
theorem State.useChannel_dom_gone (ch : Nat) (gone : (s.dom d).ready = .quarantined) : (s.useChannel ch).dom d = s.dom d := by
  unfold State.useChannel
  dsimp only
  split
  · rfl
  · next working =>
    have other : d ≠ 64 + ch := by
      rintro rfl
      exact working gone
    (repeat' split)
    · exact s.askWake_dom_other .sleep other
    · rfl
    · exact s.touchDom_dom_other other
    · rfl

theorem State.foldl_dom_gone {α : Type} {f : State → α → State} (l : List α)
    (step : ∀ t x, (t.dom d).ready = .quarantined → (f t x).dom d = t.dom d) (gone : (s.dom d).ready = .quarantined) :
    (l.foldl f s).dom d = s.dom d :=
  List.foldlRecOn (motive := fun t : State => t.dom d = s.dom d) l f rfl
    fun t ht x _ => (step t x (by rw [ht]; exact gone)).trans ht

theorem State.useLines_dom_gone (buffer : Bool) (lines : List Nat) (gone : (s.dom d).ready = .quarantined) :
    (s.useLines buffer lines).dom d = s.dom d :=
  State.foldl_dom_gone _ (fun _ ch h => State.useChannel_dom_gone ch h) gone

/-- R41: nor does the wake of a cluster for restarted picks. -/
theorem State.wakeForGen_dom_gone (gone : (s.dom d).ready = .quarantined) : s.wakeForGen.dom d = s.dom d := by
  refine State.foldl_dom_gone _ (fun t e gone => ?_) gone
  dsimp only
  split
  · rfl
  · split
    · next c found =>
      refine t.askWake_dom_other .sleep ?_
      rintro rfl
      have awake := List.find?_some found
      simp [gone] at awake
    · rfl

/-- R175: nor does the choice of the next standby pair. -/
theorem State.nextStandby_dom_gone (gone : (s.dom d).ready = .quarantined) : s.nextStandby.dom d = s.dom d := by
  unfold State.nextStandby
  split
  · rfl
  · split
    · rfl
    · next p found =>
      refine State.askWake_dom_other _ .sleep ?_
      rintro rfl
      have awake := List.find?_some found
      simp [gone] at awake

/-! ### The logic of a domain without its supply (R154, R462) -/

theorem State.writeBackBank_dom_gone (x : Nat) (gone : (s.dom d).ready = .quarantined) : (s.writeBackBank x).dom d = s.dom d := by
  unfold State.writeBackBank
  split
  · rfl
  · refine State.foldl_dom_gone _ (fun t l gone => ?_) gone
    split
    · exact State.dom_of_pmc (by simp) d
    · exact (State.dom_of_pmc (State.ownStore_pmc ..) d).trans (State.useLines_dom_gone false [l] gone)

theorem State.unpowered_dom_gone (x : Nat) (gone : (s.dom d).ready = .quarantined) : (s.unpowered x).dom d = s.dom d := by
  unfold State.unpowered
  split
  · rfl
  · rfl
  · exact State.writeBackBank_dom_gone x gone
  · exact State.dom_of_pmc (by simp) d
  · rfl

/-! ### Quarantine (R460, R463) -/

/-- R460, R463: domain d is quarantined and powered down, and no wake of it is queued. -/
structure Dom.IsGone (D : Dom) (d : Nat) : Prop where
  ready : D.ready = .quarantined
  st : D.st = (domKind d).bottom
  wake : D.wake = none

theorem State.quarantineDom_gone (s : State) (d owed : Nat) : ((s.quarantineDom d owed).dom d).IsGone d := by
  have set_ : (s.quarantineDom d owed).dom d = { s.dom d with
      st := (domKind d).bottom, ready := .quarantined, wake := none, bist := false, up := false
      owed := if owed = 0 then (s.dom d).owed else owed } := State.dom_setDom ..
  rw [set_]
  exact ⟨rfl, rfl, rfl⟩

end Sys2Proof.Machine
end

section
/-! SUPPORT. The quarantine of a cluster and the failure of a clock (R27, R126, R175, R463), for O47. -/

namespace Sys2Proof.Machine

variable {s : State}

/-! ### The picks of a failed cluster (R126, R127) -/

theorem State.restartPick_shu (s : State) (p : Nat) : (s.restartPick p).shu = s.shu := by
  unfold State.restartPick
  dsimp only
  split
  · simp
  · split <;> simp

/-- R126: a pick before its third fault returns to WAITING, and no other pick changes. -/
theorem State.restartPick_pick {p : Nat} {k : Pick} (hk : s.pick p = some k) (runs : k.runs < 2) :
    (s.restartPick p).pick p = some k.restart ∧ ∀ q, q ≠ p → (s.restartPick p).pick q = s.pick q := by
  have same : ∀ q, (s.cancelJobs p).pick q = s.pick q := by
    intro q
    obtain ⟨-, -, pick, -⟩ := s.cancelJobs_reads p q 0 .hifMode
    exact pick
  have restarted : s.restartPick p = (s.cancelJobs p).setPick p k.restart := by
    simp only [State.restartPick, same, hk, if_neg (Nat.not_le.2 runs)]
  rw [restarted]
  exact ⟨State.pick_setPick .., fun q hq => (State.pick_setPick_other _ _ hq).trans (same q)⟩

/-- R126: a bobbin of a failed cluster is emptied and its pick restarts. -/
def State.abandon (s : State) (e : Nat × Option Nat) : State :=
  match e.2 with
  | some p => (s.freeBob e.1).restartPick p
  | none => s.freeBob e.1

theorem State.restartCluster_eq (s : State) (c : Nat) : s.restartCluster c
    = ((s.shu.bobs.filter (fun e => clusterOf e.1 == c)).map (fun e => (e.1, e.2.pick))).foldl State.abandon s := rfl

theorem State.abandon_bob (s : State) (e : Nat × Option Nat) (b : Nat) :
    (s.abandon e).bob b = if b = e.1 then {} else s.bob b := by
  have freed : (s.abandon e).bob b = (s.freeBob e.1).bob b := by
    unfold State.abandon
    split
    · exact congrArg (fun h : Shu => tget ({} : Bobbin) h.bobs b) (State.restartPick_shu ..)
    · rfl
  rw [freed]
  split
  · next h =>
    subst h
    exact State.bob_setBob ..
  · next h => exact State.bob_setBob_other _ _ h

theorem State.foldl_abandon_bob (l : List (Nat × Option Nat)) (b : Nat) :
    (l.foldl State.abandon s).bob b = if b ∈ l.map Prod.fst then {} else s.bob b := by
  induction l generalizing s with
  | nil => rfl
  | cons e l ih =>
    rw [List.foldl_cons, ih, State.abandon_bob]
    by_cases here : b = e.1 <;> by_cases later : b ∈ l.map Prod.fst <;> simp [here, later]

theorem tget_of_not_mem {α : Type} (d : α) {t : Tbl α} {k : Nat} (h : k ∉ t.map Prod.fst) : tget d t k = d := by
  induction t with
  | nil => rfl
  | cons e t ih =>
    simp only [List.map_cons, List.mem_cons, not_or] at h
    simp only [tget, if_neg (Ne.symm h.1), ih h.2]

/-- R126: the bobbins of a cluster are emptied, those of the others stay. -/
theorem State.restartCluster_bob (s : State) (c b : Nat) :
    (s.restartCluster c).bob b = if b / 128 = c then {} else s.bob b := by
  have listed : b ∈ ((s.shu.bobs.filter (fun e => clusterOf e.1 == c)).map (fun e => (e.1, e.2.pick))).map Prod.fst
      ↔ b / 128 = c ∧ b ∈ s.shu.bobs.map Prod.fst := by
    simp only [List.map_map, List.mem_map, List.mem_filter, clusterOf, beq_iff_eq, Function.comp_apply]
    constructor
    · rintro ⟨e, ⟨he, hc⟩, rfl⟩
      exact ⟨hc, e, he, rfl⟩
    · rintro ⟨hc, e, he, rfl⟩
      exact ⟨e, ⟨he, hc⟩, rfl⟩
  rw [State.restartCluster_eq, State.foldl_abandon_bob]
  by_cases hc : b / 128 = c
  · by_cases hb : b ∈ s.shu.bobs.map Prod.fst
    · rw [if_pos (listed.2 ⟨hc, hb⟩), if_pos hc]
    · rw [if_neg (fun h => hb (listed.1 h).2), if_pos hc]
      exact tget_of_not_mem {} hb
  · rw [if_neg (fun h => hc (listed.1 h).1), if_neg hc]

/-! ### A cluster that is gone (R119, R463) -/

theorem State.wakeForGen_parts (s : State) : ∃ pm, s.wakeForGen = { s with pmc := pm } := by
  unfold State.wakeForGen
  refine List.foldlRecOn (motive := fun t : State => ∃ pm, t = { s with pmc := pm }) _ _ ⟨s.pmc, rfl⟩ ?_
  rintro t ⟨pm, ht⟩ e -
  dsimp only
  split
  · exact ⟨pm, ht⟩
  · split
    · obtain ⟨pm', h⟩ := t.askWake_parts _ .sleep
      exact ⟨pm', by rw [h, ht]⟩
    · exact ⟨pm, ht⟩

/-- R119, R463: the state of a quarantined cluster. -/
def Cluster.quarantined (k : Cluster) : Cluster :=
  { k with
    st := .quarantined, card := none, scratchDone := false, copying := false, copyOnce := false, cardDone := false
    heldBack := false, returning := false }

/-- R126, R463: the cluster and its domain are gone, and its picks restart. -/
theorem State.cluGone_parts (s : State) (c owed : Nat) : ∃ pm k, s.cluGone c owed
      = { (s.restartCluster c).setClu c k with pmc := pm }
    ∧ k.st = .quarantined ∧ k.card = none ∧ ((s.cluGone c owed).dom c).IsGone c := by
  generalize hu : ((s.restartCluster c).setClu c ((s.restartCluster c).clu c).quarantined).quarantineDom c owed = u
  have gone : s.cluGone c owed = u.wakeForGen := by
    rw [← hu]
    rfl
  have down : (u.dom c).IsGone c := by
    rw [← hu]
    exact State.quarantineDom_gone ..
  obtain ⟨pm, parts⟩ := u.wakeForGen_parts
  refine ⟨pm, ((s.restartCluster c).clu c).quarantined, ?_, rfl, rfl, ?_⟩
  · rw [gone, parts, ← hu]
    rfl
  · rw [gone, State.wakeForGen_dom_gone down.ready]
    exact down

/-- R20, R126: CLUSTER_QUARANTINE of a cluster that serves. -/
theorem exec_clusterQuarantine {c : Nat} (here : c < s.variant.clusters) (serves : (s.clu c).st ≠ .quarantined) :
    ∃ pm bx k, exec (.clusterQuarantine c) s = .next { (s.restartCluster c).setClu c k with pmc := pm, bbx := bx }
    ∧ k.st = .quarantined ∧ k.card = none
    ∧ (State.dom { (s.restartCluster c).setClu c k with pmc := pm, bbx := bx } c).ready = .quarantined := by
  obtain ⟨pm, k, parts, st, card, gone⟩ := s.cluGone_parts c 2
  obtain ⟨bx, record⟩ := (s.cluGone c 2).faultRec_parts false .shu 2 c 0
  refine ⟨pm, bx, k, ?_, st, card, ?_⟩
  · rw [exec, execClusterQuarantine, if_neg (not_or.2 ⟨Nat.not_le.2 here, serves⟩), record, parts]
  · rw [parts] at gone
    exact gone.ready

/-- R126: what becomes of the picks where one bobbin of the cluster runs. -/
theorem State.restartCluster_one {c b p : Nat} {B : Bobbin} {x : Pick}
    (one : s.shu.bobs.filter (fun e => e.1 / 128 == c) = [(b, B)]) (hb : B.pick = some p) (hx : s.pick p = some x)
    (runs : x.runs < 2) :
    (s.restartCluster c).pick p = some x.restart ∧ ∀ q, q ≠ p → (s.restartCluster c).pick q = s.pick q := by
  have alone : s.restartCluster c = (s.freeBob b).restartPick p := by
    rw [State.restartCluster_eq]
    simp only [clusterOf, one, List.map_cons, List.map_nil, List.foldl_cons, List.foldl_nil, State.abandon, hb]
  rw [alone]
  exact State.restartPick_pick (s := s.freeBob b) hx runs

end Sys2Proof.Machine
end

section
/-! SUPPORT. The card registers of the clusters (R115, R118, R120), for O47. -/

namespace Sys2Proof.Machine

theorem Variant.clusters_le (v : Variant) : v.clusters ≤ 24 := by cases v <;> decide

theorem Variant.clusters_pos (v : Variant) : 0 < v.clusters := by cases v <;> decide

/-! ### Places in the register map (R514) -/

theorem regRowsAt_shu {off : Nat} (h : 0x100_0000 ≤ off) (h' : off < 0x160_0000) : regRowsAt off = regRowsShu := by
  simp only [regRowsAt]
  (repeat rw [if_neg (by omega)])
  exact if_pos h'

theorem locate_shuCardCtl {c : Nat} (hc : c < 24) : locate (0x100_0000 + 0x4_0000 * c) = some (regRowsShu[0], c, 0) := by
  refine locate_of_getElem 0 (by decide) (regRowsAt_shu (by omega) (by omega)) (by simp) ?_
  exact RegRow.index_at _ hc (by decide) (by decide) (by decide) (show _ = 0x100_0000 + (0x4_0000 * c + 4 * 0) by omega)

theorem locate_shuStageCtl : locate 0x100_0010 = some (regRowsShu[2], 0, 0) := by
  refine locate_of_getElem 2 (by decide) (regRowsAt_shu (by omega) (by omega)) ?_ ?_
  · simp only [regRowsShu, List.take, List.forall_mem_cons]
    (repeat refine ⟨RegRow.index_none _ (by decide) (by simp only; omega), ?_⟩)
    simp
  · exact RegRow.index_at _ (by decide) (by decide) (by decide) (by decide) rfl

/-- R2: the block of a present cluster is present. -/
theorem blockAbsent_shu {v : Variant} {c o : Nat} (hc : c < v.clusters) (ho : o < 0x4_0000) :
    blockAbsent v (0x100_0000 + 0x4_0000 * c + o) = false := by
  have hc24 := v.clusters_le
  have unit : (0x100_0000 + 0x4_0000 * c + o - 0x100_0000) / 0x4_0000 = c := by omega
  rw [blockAbsent, if_pos (by omega), unit]
  exact decide_eq_false (Nat.not_le.2 hc)

variable {s : State}

/-! ### SHU_CARD_CTL (R118, R120) -/

theorem exec_shuCardCtlWrite {c : Nat} {v : Word} (hc : c < s.variant.clusters) (hr : s.pins.inReset = false)
    (hl : s.lcShut = false) (hv : v.toNat < 2 ^ 17) : exec (.shuCardCtlWrite c v) s = .next (s.cardCtlWrite c v) := by
  have hc24 : c < 24 := Nat.lt_of_lt_of_le hc s.variant.clusters_le
  have target : bar0Target s.variant (0x100_0000 + 0x4_0000 * c) = .reg regRowsShu[0] c 0 :=
    bar0Target_of_present (locate_shuCardCtl hc24) (blockAbsent_shu (o := 0) hc (by omega)) (by decide) rfl
  have bits : v &&& ~~~regRowsShu[0].definedAt 0 = 0 := and_not_eq_zero_of_lt 17 hv (by decide)
  rw [exec, execShuCardCtlWrite, if_neg (Nat.not_le.2 hc24), State.hostWrite_reg v hr hl (by omega) target,
    State.writeReg_apply (by omega) bits (by decide) (by decide) rfl rfl]
  rfl

/-- R118: the cluster with the fields of an accepted write. -/
def Cluster.named (k : Cluster) (v : Word) : Cluster :=
  { k with ctlGen := v.setWidth 16, hold := v.getLsbD 16, heldBack := k.heldBack && v.getLsbD 16 }

/-- R118: the cluster's card has a generation. -/
def Cluster.holds (k : Cluster) (gen : BitVec 16) : Bool := k.card.any (fun x => x.gen == gen)

theorem State.cardCtlWrite_reject {c : Nat} {v : Word} (h : s.staged (v.setWidth 16) = none) :
    s.cardCtlWrite c v = s.setClu c { s.clu c with reject := true } := by
  simp [State.cardCtlWrite, h]

/-- R118, R120: what a write that names a staged card does. -/
theorem State.cardCtlWrite_staged {c : Nat} {v : Word} (h : s.staged (v.setWidth 16) ≠ none) : s.cardCtlWrite c v
    = s.setClu c (
      if ((s.clu c).st = .fresh ∨ (s.clu c).st = .held) ∧ (s.clu c).holds (v.setWidth 16) = false then
        { (s.clu c).named v with st := .draining }
      else if (s.clu c).st = .held ∧ v.getLsbD 16 = false then { (s.clu c).named v with st := .fresh }
      else if (s.clu c).st = .none ∧ s.cluAwake c = true then
        { (s.clu c).named v with st := .loading, loadGen := v.setWidth 16, retried := false }
      else (s.clu c).named v) := by
  have some_ : (s.staged (v.setWidth 16)).isNone = false := Option.isNone_eq_false_iff.2 (Option.isSome_iff_ne_none.2 h)
  unfold State.cardCtlWrite
  simp only [some_, Bool.false_eq_true, if_false, Bool.and_eq_true, Bool.or_eq_true, beq_iff_eq, Bool.not_eq_true', Cluster.holds]
  split_ifs <;> rfl

/-! ### SHU_STAGE_CTL (R115) -/

theorem hostWrite_stageCtl {v : Word} (hr : s.pins.inReset = false) (hl : s.lcShut = false) (hv : v.toNat < 4) :
    s.hostWrite 0 false 0x100_0010 v = s.stageWrite v := by
  have target : bar0Target s.variant 0x100_0010 = .reg regRowsShu[2] 0 0 :=
    bar0Target_of_present locate_shuStageCtl (blockAbsent_shu (c := 0) (o := 16) s.variant.clusters_pos (by omega)) (by decide) rfl
  have bits : v &&& ~~~regRowsShu[2].definedAt 0 = 0 := and_not_eq_zero_of_lt 2 hv (by decide)
  rw [State.hostWrite_reg v hr hl (by omega) target, State.writeReg_apply (by omega) bits (by decide) (by decide) rfl rfl]
  rfl

theorem exec_shuStagePromote {v : Word} (hr : s.pins.inReset = false) (hl : s.lcShut = false) (hv : v.toNat < 4) :
    exec (.shuStagePromote v) s = .next s.promote := by
  have small : (v ||| 1).toNat < 4 := by
    rw [BitVec.toNat_or]
    exact Nat.or_lt_two_pow (n := 2) hv (by decide)
  rw [exec, execShuStagePromote, hostWrite_stageCtl hr hl small, State.stageWrite, if_pos (by simp)]

theorem exec_shuStageDiscard {v : Word} (hr : s.pins.inReset = false) (hl : s.lcShut = false) (hv : v.toNat < 4)
    (alone : v.getLsbD 0 = false) : exec (.shuStageDiscard v) s = .next s.discardNext := by
  have small : (v ||| 2).toNat < 4 := by
    rw [BitVec.toNat_or]
    exact Nat.or_lt_two_pow (n := 2) hv (by decide)
  rw [exec, execShuStageDiscard, hostWrite_stageCtl hr hl small, State.stageWrite,
    if_neg (by simpa using alone), if_pos (by simp)]

theorem State.promote_eq {n : Card} (h : s.shu.next = some n) : s.promote
    = if s.allName n.gen then
        { s with shu := { s.shu with
          cur := some n, next := none, curSecond := !s.shu.curSecond, curLost := s.shu.nextLost, nextLost := false } }
      else s.stageRefused := by
  rw [State.promote, h]

theorem State.discardNext_eq {n : Card} (h : s.shu.next = some n) : s.discardNext
    = if s.someName n.gen then s.stageRefused else { s with shu := { s.shu with next := none } } := by
  rw [State.discardNext, h]

end Sys2Proof.Machine
end

section
/-! SUPPORT. The load of a card from its staging area (R120, R300, R309), for O47. -/

namespace Sys2Proof.Machine

variable (s : State)

theorem State.askWake_shu (d : Nat) (why : WakeWhy) : (s.askWake d why).shu = s.shu := by
  obtain ⟨_, h⟩ := s.askWake_parts d why
  rw [h]

theorem State.useChannel_shu (ch : Nat) : (s.useChannel ch).shu = s.shu := by
  unfold State.useChannel
  dsimp only
  (repeat' split)
  · rfl
  · exact s.askWake_shu _ .sleep
  · rfl
  · exact s.touchDom_shu _
  · rfl

theorem State.useLines_shu (buffer : Bool) (lines : List Nat) : (s.useLines buffer lines).shu = s.shu :=
  List.foldlRecOn (motive := fun t : State => t.shu = s.shu) _ State.useChannel rfl
    fun t ht ch _ => (t.useChannel_shu ch).trans ht

theorem State.suspectHit_shu (line : Nat) (buffer : Bool) : (s.suspectHit line buffer).shu = s.shu := by
  unfold State.suspectHit
  split
  · rfl
  · obtain ⟨_, _, _, h⟩ := s.occur_parts .mscSuspectHit (s.lineChannel buffer line s.msc.serveB) 1
    rw [h]

theorem State.answered_shu (buffer : Bool) (lines : List Nat) : (s.answered buffer lines).shu = s.shu :=
  List.foldlRecOn (motive := fun t : State => t.shu = s.shu) _ _ rfl fun _ ht _ _ => ht

/-- R300: reading the lines of a staged card changes no cluster and no card. -/
theorem State.loadRead_shu (gen : BitVec 16) : (s.loadRead gen).shu = s.shu := by
  unfold State.loadRead
  dsimp only
  split
  · exact (State.suspectHit_shu _ _ _).trans (s.useLines_shu ..)
  · exact (State.answered_shu _ _ _).trans (s.useLines_shu ..)

/-- R120: what the end of a load of cluster c's card does, once its lines are read and `found` is what the copy met. -/
def State.loadEnds (s : State) (c : Nat) (found : LoadResult) : State :=
  match found with
  | .crc => s.loadBad c 1
  | .integrity => s.loadBad c 3
  | .good =>
    if (s.clu c).loadGen ≠ (s.clu c).ctlGen then s.setClu c { s.clu c with loadGen := (s.clu c).ctlGen }
    else match s.staged (s.clu c).loadGen with
      | none => s.loadBad c 3
      | some card =>
        if (s.clu c).returning then
          s.setClu c { s.clu c with card := some card, st := .stale, cardDone := true, heldBack := (s.clu c).hold }
        else s.setClu c { s.clu c with card := some card, st := if (s.clu c).hold then .held else .fresh }

/-- R300: the state in which a load ends: on a variant with DRAM the card's lines have been read. -/
def State.afterLoad (s : State) (gen : BitVec 16) : State := if s.variant = .tv16e then s else s.loadRead gen

theorem State.afterLoad_shu (gen : BitVec 16) : (s.afterLoad gen).shu = s.shu := by
  unfold State.afterLoad
  split
  · rfl
  · exact s.loadRead_shu gen

variable {s} {c : Nat}

/-- R452, R461: a load waits for its channels. -/
theorem exec_cardLoadDone_off (loading : (s.clu c).st = .loading) (dram : s.variant ≠ .tv16e)
    (off : s.linesOff false (s.loadLines (s.clu c).loadGen) = true) (res : LoadResult) :
    exec (.cardLoadDone c res) s = .next (s.useLines false (s.loadLines (s.clu c).loadGen)) := by
  have off' : (s.variant != .tv16e && s.linesOff false (s.loadLines (s.clu c).loadGen)) = true := by simp [dram, off]
  rw [exec, execCardLoadDone]
  simp only [off', loading, dram, ne_eq, not_false_eq_true, and_self, if_true, or_true]

theorem exec_cardLoadDone (loading : (s.clu c).st = .loading)
    (on : s.variant = .tv16e ∨ s.linesOff false (s.loadLines (s.clu c).loadGen) = false) (res : LoadResult) :
    exec (.cardLoadDone c res) s
      = .next ((s.afterLoad (s.clu c).loadGen).loadEnds c (s.loadResult (s.clu c).loadGen res)) := by
  have on' : (s.variant != .tv16e && s.linesOff false (s.loadLines (s.clu c).loadGen)) = false := by
    rcases on with on | on <;> simp [on]
  have read : (if (s.clu c).st = .loading ∧ s.variant ≠ .tv16e then s.loadRead (s.clu c).loadGen else s)
      = s.afterLoad (s.clu c).loadGen := by
    unfold State.afterLoad
    by_cases dram : s.variant = .tv16e <;> simp [dram, loading]
  have same : (s.afterLoad (s.clu c).loadGen).clu c = s.clu c :=
    congrArg (fun h : Shu => tget ({} : Cluster) h.clusters c) (s.afterLoad_shu _)
  rw [exec, execCardLoadDone]
  simp only [on', Bool.false_eq_true, if_false, read, or_false]
  rw [if_neg (not_not.2 loading)]
  simp only [State.loadEnds, same]
  rfl

end Sys2Proof.Machine
end

section
/-! SUPPORT. The failure of a clock (R27, R175, R463), for O47. -/

namespace Sys2Proof.Machine

/-! ### Domains and their kinds (R452) -/

theorem domKind_cluster {d : Nat} (h : d < 24) : domKind d = .cluster d := by
  rw [domKind, if_pos h]

theorem domKind_pair {d : Nat} (h : 24 ≤ d) (h' : d < 48) : domKind d = .pair (d - 24) := by
  rw [domKind, if_neg (Nat.not_lt.2 h), if_pos h']

theorem eq_of_domKind_cluster {d c : Nat} (h : domKind d = .cluster c) : c = d := by
  unfold domKind at h
  split_ifs at h
  exact (DomKind.cluster.inj h).symm

theorem eq_of_domKind_pair {d p : Nat} (h : domKind d = .pair p) : d = 24 + p := by
  unfold domKind at h
  split_ifs at h
  have := DomKind.pair.inj h
  omega

variable (s : State)

/-! ### The engines of a failed pair (R175) -/

theorem State.stopEngine_engine (e fault x : Nat) : ((s.stopEngine e fault).engine x).st
    = if x = e then .quarantined else (s.engine x).st := by
  split
  · next same =>
    obtain ⟨_, _, _, _, _, engine⟩ := s.stopEngine_parts e fault
    rw [same, engine]
  · next other =>
    obtain ⟨_, _, _, parts⟩ := s.requeueJobs_parts e
    unfold State.stopEngine
    rw [State.engine_setEngine_other _ _ other, parts]
    rfl

/-- R175: an engine of a failed clock's domain is retired, where it is not quarantined already. -/
def State.loseEngine (s : State) (e : Nat) : State :=
  if (s.engine e).st = .quarantined then s else ((s.stopEngine e 3).occur .engineRetired e).event 0 .cie 1 e 3

theorem State.loseEngine_engine (e x : Nat) : ((s.loseEngine e).engine x).st
    = if x = e then .quarantined else (s.engine x).st := by
  unfold State.loseEngine
  split
  · next already =>
    split
    · next same => rw [same, already]
    · rfl
  · have reported := (sameWork_occur (s.stopEngine e 3) x .engineRetired e 1).trans (sameWork_event _ x 0 .cie 1 e 3 0 0)
    rw [reported.engine, State.stopEngine_engine]

/-- R175, R176: both engines of pair p are retired, which counts once. -/
def State.losePair (s : State) (p : Nat) : State := ((s.loseEngine (2 * p)).loseEngine (2 * p + 1)).burst

/-- R463: both engines of pair p are quarantined. -/
def State.BothGone (s : State) (p : Nat) : Prop :=
  (s.engine (2 * p)).st = .quarantined ∧ (s.engine (2 * p + 1)).st = .quarantined

theorem State.losePair_bothGone (p : Nat) : (s.losePair p).BothGone p := by
  have engines : ∀ x, (s.losePair p).engine x = ((s.loseEngine (2 * p)).loseEngine (2 * p + 1)).engine x := by
    intro x
    obtain ⟨_, parts⟩ := State.burst_parts ((s.loseEngine (2 * p)).loseEngine (2 * p + 1))
    unfold State.losePair
    rw [parts]
    rfl
  constructor
  · rw [engines, State.loseEngine_engine, if_neg (by omega), State.loseEngine_engine, if_pos rfl]
  · rw [engines, State.loseEngine_engine, if_pos rfl]

variable {s}

/-- R463, R523: a pair without engines loses its domain, and keeps them quarantined. -/
theorem State.pairGone_gone {p : Nat} (owed : Nat) (both : s.BothGone p) :
    ((s.pairGone p owed).dom (24 + p)).IsGone (24 + p) ∧ (s.pairGone p owed).BothGone p := by
  have gone : s.pairGone p owed = (s.quarantineDom (24 + p) owed).setPair p {} := if_pos both
  rw [gone]
  exact ⟨s.quarantineDom_gone (24 + p) owed, both⟩

theorem State.nextStandby_gone {p : Nat} (h : (s.dom (24 + p)).IsGone (24 + p) ∧ s.BothGone p) :
    (s.nextStandby.dom (24 + p)).IsGone (24 + p) ∧ s.nextStandby.BothGone p := by
  obtain ⟨down, both⟩ := h
  constructor
  · rw [State.nextStandby_dom_gone down.ready]
    exact down
  · obtain ⟨_, parts⟩ := s.nextStandby_parts
    rw [parts]
    exact both

/-! ### What the failure of a clock does -/

/-- R27, R175, R320: the island of domain d is lost. -/
def State.islandGone (s : State) (d : Nat) : State :=
  match domKind d with
  | .cluster c => s.cluGone c 3
  | .pair p =>
    if (s.engine (2 * p)).st = .quarantined ∧ (s.engine (2 * p + 1)).st = .quarantined then s.pairGone p 3
    else ((s.losePair p).pairGone p 3).nextStandby
  | .dram ch => (if s.stackOk (ch / 4) then s.failStack (ch / 4) (ch % 4) else s).quarantineDom d 3
  | .weft n => (if (s.wport n).st = .none then s else s.weftReset n).quarantineDom d 3
  | _ => (s.quarantineDom d 3).unpowered d

theorem exec_clockFailure {d : Nat} (here : s.variant.domain d = true) (serves : (s.dom d).ready ≠ .quarantined) :
    exec (.clockFailure d) s = .next ((s.faultRec false .pmc 3 d 0).islandGone d) := by
  have working : ¬ ((!s.variant.domain d
      || ((s.dom d).ready == .quarantined && (s.dom d).wake.isNone && (s.dom d).st != .waking)) = true) := by
    simp [here, serves]
  rw [exec, execClockFailure, if_neg working]
  rfl

theorem State.islandGone_of_pair {p : Nat} (h : domKind (24 + p) = .pair p) :
    ((s.islandGone (24 + p)).dom (24 + p)).IsGone (24 + p) ∧ (s.islandGone (24 + p)).BothGone p := by
  simp only [State.islandGone, h]
  split
  · next both => exact State.pairGone_gone 3 both
  · exact State.nextStandby_gone (State.pairGone_gone 3 (s.losePair_bothGone p))

/-- R27, R463: the domain of a failed clock is quarantined and powered down. -/
theorem State.islandGone_gone (s : State) (d : Nat) : ((s.islandGone d).dom d).IsGone d := by
  cases kind : domKind d with
  | cluster c =>
    obtain ⟨_, _, _, _, _, gone⟩ := s.cluGone_parts c 3
    rw [State.islandGone, kind, ← eq_of_domKind_cluster kind]
    exact gone
  | pair p =>
    obtain rfl := eq_of_domKind_pair kind
    exact (State.islandGone_of_pair kind).1
  | dram ch =>
    rw [State.islandGone, kind]
    exact State.quarantineDom_gone ..
  | weft n =>
    rw [State.islandGone, kind]
    exact State.quarantineDom_gone ..
  | quad _ | cache | slice _ =>
    have down := s.quarantineDom_gone d 3
    rw [State.islandGone, kind]
    rw [State.unpowered_dom_gone d down.ready]
    exact down

/-- R126, R175: a cluster's island is lost with the cluster. -/
theorem State.islandGone_clu (s : State) {c : Nat} (h : c < 24) : ((s.islandGone c).clu c).st = .quarantined := by
  obtain ⟨_, _, parts, st, _, _⟩ := s.cluGone_parts c 3
  rw [State.islandGone, domKind_cluster h]
  show ((s.cluGone c 3).clu c).st = _
  rw [parts]
  exact (congrArg Cluster.st (State.clu_setClu ..)).trans st

/-- R175: a pair's island is lost with both engines. -/
theorem State.islandGone_engines (s : State) {d : Nat} (h : 24 ≤ d) (h' : d < 48) : (s.islandGone d).BothGone (d - 24) := by
  obtain ⟨p, rfl⟩ := Nat.exists_eq_add_of_le h
  have kind := domKind_pair h h'
  rw [Nat.add_sub_cancel_left] at kind ⊢
  exact (State.islandGone_of_pair kind).2

end Sys2Proof.Machine
end

section
/-! O47: cards and clusters. -/

namespace Sys2Proof.Machine

variable {s : State} {c : Nat} {k : Cluster}

/-! ### Cards are named (R115, R118, R120) -/

/-- R118, R120: the clauses of a write of SHU_CARD_CTL. -/
theorem cardCtl_clauses (hk : k = s.clu c) (v : Word) (gen : BitVec 16) (k' : Cluster) (hc : c < s.variant.clusters)
    (hr : s.pins.inReset = false) (hl : s.lcShut = false) (hv : v.toNat < 2 ^ 17) (hgen : gen = v.setWidth 16) :
    (s.staged gen = none → exec (.shuCardCtlWrite c v) s = .next (s.setClu c { k with reject := true }))
    ∧ (s.staged gen ≠ none → k' = { k with ctlGen := gen, hold := v.getLsbD 16, heldBack := k.heldBack && v.getLsbD 16 } →
      ((k.st = .fresh ∨ k.st = .held) → k.card.any (fun x => x.gen == gen) = false →
        exec (.shuCardCtlWrite c v) s = .next (s.setClu c { k' with st := .draining }))
      ∧ (k.st = .held → k.card.any (fun x => x.gen == gen) = true → v.getLsbD 16 = false →
        exec (.shuCardCtlWrite c v) s = .next (s.setClu c { k' with st := .fresh }))
      ∧ (k.st = .none → s.cluAwake c = true →
        exec (.shuCardCtlWrite c v) s = .next (s.setClu c { k' with st := .loading, loadGen := gen, retried := false }))
      ∧ (k.st = .fresh → k.card.any (fun x => x.gen == gen) = true →
        exec (.shuCardCtlWrite c v) s = .next (s.setClu c k'))) := by
  subst hk hgen
  rw [exec_shuCardCtlWrite hc hr hl hv]
  refine ⟨fun unstaged => by rw [State.cardCtlWrite_reject unstaged], fun staged hk' => ?_⟩
  subst hk'
  rw [State.cardCtlWrite_staged staged]
  refine ⟨fun st other => ?_, fun st same run => ?_, fun st awake => ?_, fun st same => ?_⟩
  · rw [if_pos ⟨st, other⟩]
    rfl
  · have same' : (s.clu c).holds (v.setWidth 16) = true := same
    rw [if_neg (by simp [same']), if_pos ⟨st, run⟩]
    rfl
  · rw [if_neg (by simp [st]), if_neg (by simp [st]), if_pos ⟨st, awake⟩]
    rfl
  · have same' : (s.clu c).holds (v.setWidth 16) = true := same
    rw [if_neg (by simp [same']), if_neg (by simp [st]), if_neg (by simp [st])]
    rfl

/-- R115: the clauses of a write of SHU_STAGE_CTL. -/
theorem stageCtl_clauses (v : Word) (hr : s.pins.inReset = false) (hl : s.lcShut = false) (hv : v.toNat < 4) :
    (∀ n, v.getLsbD 1 = false → s.shu.next = some n →
      (s.allName n.gen = true → exec (.shuStagePromote v) s =
        .next { s with shu := { s.shu with
          cur := some n, next := none, curSecond := !s.shu.curSecond
          curLost := s.shu.nextLost, nextLost := false } })
      ∧ (s.allName n.gen = false → exec (.shuStagePromote v) s = .next { s with shu := { s.shu with refused := true } }))
    ∧ (∀ n, v.getLsbD 0 = false → s.shu.next = some n →
      (s.someName n.gen = false → exec (.shuStageDiscard v) s = .next { s with shu := { s.shu with next := none } })
      ∧ (s.someName n.gen = true → exec (.shuStageDiscard v) s =
        .next { s with shu := { s.shu with refused := true } })) := by
  refine ⟨fun n _ hn => ?_, fun n alone hn => ?_⟩
  · rw [exec_shuStagePromote hr hl hv, State.promote_eq hn]
    exact ⟨fun all => by rw [if_pos all], fun all => by rw [all]; rfl⟩
  · rw [exec_shuStageDiscard hr hl hv alone, State.discardNext_eq hn]
    exact ⟨fun some_ => by rw [some_]; rfl, fun some_ => by rw [if_pos some_]; rfl⟩

/-! ### Loads (R120) -/

theorem State.loadResult_integrity (s : State) (gen : BitVec 16) : s.loadResult gen .integrity = .integrity := by
  simp [State.loadResult]

/-- R120: a failed load is tried once more, and its second failure leaves the cluster STALE without a card. -/
theorem State.loadBad_first {u : State} (first : (u.clu c).retried = false) (code : BitVec 3) :
    u.loadBad c code = u.setClu c { u.clu c with loadfail := code, retried := true } := by
  unfold State.loadBad
  dsimp only
  rw [if_neg (by simp [first])]

theorem State.loadBad_again {u : State} (again : (u.clu c).retried = true) (code : BitVec 3) :
    (u.loadBad c code).clu c = { u.clu c with loadfail := code, st := .stale, card := none }
    ∧ (u.loadBad c code).shu.bobs = u.shu.bobs := by
  unfold State.loadBad
  dsimp only
  rw [if_pos again]
  generalize hv : u.setClu c { u.clu c with loadfail := code, st := .stale, card := none } = v
  obtain ⟨_, _, parts⟩ := v.event_parts 0 .shu 1 c code.toNat 0 0
  rw [parts, ← hv]
  exact ⟨State.clu_setClu .., rfl⟩

/-- R120: the clauses of the end of a load. -/
theorem cardLoad_clauses (hk : k = s.clu c) (loading : k.st = .loading)
    (on : s.variant = .tv16e ∨ s.linesOff false (s.loadLines k.loadGen) = false) {u : State} (hu : u = s.afterLoad k.loadGen) :
    (∀ card, k.loadGen = k.ctlGen → s.staged k.loadGen = some card → k.returning = false →
      s.loadResult k.loadGen .good = .good → exec (.cardLoadDone c .good) s =
        .next (u.setClu c { k with card := some card, st := if k.hold then .held else .fresh }))
    ∧ (k.loadGen ≠ k.ctlGen → s.loadResult k.loadGen .good = .good →
      exec (.cardLoadDone c .good) s = .next (u.setClu c { k with loadGen := k.ctlGen }))
    ∧ (k.retried = false →
      (s.loadResult k.loadGen .crc = .crc →
        exec (.cardLoadDone c .crc) s = .next (u.setClu c { k with loadfail := 1, retried := true }))
      ∧ exec (.cardLoadDone c .integrity) s = .next (u.setClu c { k with loadfail := 3, retried := true }))
    ∧ (k.retried = true → s.loadResult k.loadGen .crc = .crc → ∃ t, exec (.cardLoadDone c .crc) s = .next t
      ∧ t.clu c = { k with loadfail := 1, st := .stale, card := none } ∧ t.shu.bobs = s.shu.bobs) := by
  have ends : ∀ res, exec (.cardLoadDone c res) s = .next (u.loadEnds c (s.loadResult k.loadGen res)) := by
    subst hk hu
    exact exec_cardLoadDone loading on
  have shu : u.shu = s.shu := hu ▸ s.afterLoad_shu _
  have same : u.clu c = k := hk ▸ congrArg (fun h : Shu => tget ({} : Cluster) h.clusters c) shu
  have staged : u.staged k.loadGen = s.staged k.loadGen := by simp only [State.staged, shu]
  refine ⟨fun card gen hcard serves good => ?_, fun gen good => ?_, fun first => ⟨fun bad => ?_, ?_⟩, fun again bad => ?_⟩
  · rw [ends, good, State.loadEnds, same, if_neg (not_not.2 gen), staged, hcard]
    simp only [serves, Bool.false_eq_true, if_false]
  · rw [ends, good, State.loadEnds, same, if_pos gen]
  · rw [ends, bad, State.loadEnds, State.loadBad_first (by rw [same, first]), same]
  · rw [ends, State.loadResult_integrity, State.loadEnds, State.loadBad_first (by rw [same, first]), same]
  · obtain ⟨stale, bobs⟩ := State.loadBad_again (u := u) (c := c) (by rw [same, again]) 1
    exact ⟨_, by rw [ends, bad, State.loadEnds], by rw [stale, same], by rw [bobs, shu]⟩

/-! ### Quarantine (R119, R126) -/

/-- R119, R126: the clauses of CLUSTER_QUARANTINE. -/
theorem clusterQuarantine_clauses (here : c < s.variant.clusters) (serves : (s.clu c).st ≠ .quarantined) :
    ∃ t, exec (.clusterQuarantine c) s = .next t
      ∧ (t.clu c).st = .quarantined ∧ (t.clu c).card = none ∧ (t.dom c).ready = .quarantined
      ∧ (∀ b, b / 128 = c → t.bob b = {}) ∧ (∀ b, b / 128 ≠ c → t.bob b = s.bob b)
      ∧ (∀ b B p x, s.shu.bobs.filter (fun e => e.1 / 128 == c) = [(b, B)] → B.pick = some p → s.pick p = some x →
        x.runs < 2 → t.pick p = some x.restart ∧ ∀ q, q ≠ p → t.pick q = s.pick q) := by
  obtain ⟨pm, bx, k, step, st, card, ready⟩ := exec_clusterQuarantine here serves
  have clu : State.clu { (s.restartCluster c).setClu c k with pmc := pm, bbx := bx } c = k := State.clu_setClu ..
  refine ⟨_, step, by rw [clu, st], by rw [clu, card], ready, fun b hb => ?_, fun b hb => ?_, fun b B p x one hB hx runs => ?_⟩
  · exact (s.restartCluster_bob c b).trans (if_pos hb)
  · exact (s.restartCluster_bob c b).trans (if_neg hb)
  · exact State.restartCluster_one one hB hx runs

/-- R27, R175, R463: the clauses of CLOCK_FAILURE. -/
theorem clockFailure_clauses {d : Nat} (here : s.variant.domain d = true) (serves : (s.dom d).ready ≠ .quarantined) :
    ∃ t, exec (.clockFailure d) s = .next t
      ∧ (t.dom d).ready = .quarantined ∧ (t.dom d).st = (domKind d).bottom ∧ (t.dom d).wake = none
      ∧ (d < 24 → (t.clu d).st = .quarantined)
      ∧ (24 ≤ d → d < 48 → (t.engine (2 * (d - 24))).st = .quarantined ∧ (t.engine (2 * (d - 24) + 1)).st = .quarantined) := by
  obtain ⟨ready, st, wake⟩ := (s.faultRec false .pmc 3 d 0).islandGone_gone d
  exact ⟨_, exec_clockFailure here serves, ready, st, wake, State.islandGone_clu _, State.islandGone_engines _⟩

/-- Settles O47: each command by the equation of the register write or function that it is, the loads over any state that has
read the card's lines, and a failed clock kind by kind of its domain. -/
theorem clusterCards : Obligations.ClusterCards := by
  unfold Obligations.ClusterCards
  intro s c k hk
  refine ⟨fun v gen k' => cardCtl_clauses hk v gen k', fun draining idle => ?_, fun loading dram off res => ?_,
    fun u hu => ⟨?_, ?_, ?_, ?_⟩⟩
  · subst hk
    rw [exec, execClusterDrained]
    dsimp only
    rw [if_neg (by simp [draining, idle])]
  · subst hk
    exact exec_cardLoadDone_off loading dram off res
  · exact fun loading on => cardLoad_clauses hk loading on hu
  · exact stageCtl_clauses
  · subst hk
    exact clusterQuarantine_clauses
  · exact clockFailure_clauses

end Sys2Proof.Machine
end
section
/-! SUPPORT. The slot of a bobbin whose pick runs or has ended (R43 to R48, R69): what `State.issue` leaves of an instruction's
effect. -/

namespace Sys2Proof.Machine

variable {s : State} {b : Nat} {w : Word} {regs : List Reg} {k : Pick} {post : Bool} {eff : State → Bobbin → Pick → Act}

/-! ### The bobbin's part -/

@[simp] theorem Bobbin.wr_pick (B : Bobbin) (d : Reg) (v : DWord) : (B.wr d v).pick = B.pick := by
  unfold Bobbin.wr
  split <;> rfl

@[simp] theorem Bobbin.wr_left (B : Bobbin) (d : Reg) (v : DWord) : (B.wr d v).left = B.left := by
  unfold Bobbin.wr
  split <;> rfl

/-- R69: a register written before or after the latch of a `tb 0` ends. -/
theorem Bobbin.wr_latch (B : Bobbin) (d : Reg) (v : DWord) :
    ({ B with tbNs := none } : Bobbin).wr d v = { B.wr d v with tbNs := none } ∧ (B.wr d v).count = B.count := by
  unfold Bobbin.wr
  split <;> exact ⟨rfl, rfl⟩

/-- A bobbin that holds a pick's record, running or ended, is not one at reset. -/
theorem State.bobPick_ne_reset (h : s.bobPick b = some k) {x : Bobbin} (pick : x.pick = (s.bob b).pick)
    (left : x.left = (s.bob b).left) : x ≠ {} := by
  rintro rfl
  simp [State.bobPick, ← pick, ← left] at h

/-! ### Issue -/

theorem State.mayIssue_iff : s.mayIssue b w regs k = true ↔ s.bobPick b = some k ∧ s.fetchWord b = some w
    ∧ (k.cellWait && (s.bob b).left.isNone) = false ∧ regs.any (s.bob b).busy = false
    ∧ (s.bob b).count < s.budget (s.bob b) := by
  simp only [State.mayIssue, Bool.and_eq_true, decide_eq_true_eq, Bool.not_eq_true', and_assoc]

/-- A slot of a running pick is one, and its pick has no disposition yet. -/
theorem State.mayIssueRun_slot {p : Nat} (h : s.mayIssueRun b w regs p k = true) :
    s.mayIssue b w regs k = true ∧ (post = true ∨ k.disp = 0) := by
  obtain ⟨left, pick, hk, disp, word, cell, free, budget⟩ := (s.mayIssueRun_iff ..).1 h
  refine ⟨State.mayIssue_iff.2 ⟨?_, word, ?_, free, budget⟩, .inr disp⟩
  · simp only [State.bobPick, left, pick, hk]
  · rw [cell, Bool.false_and]

/-- What the effect of an instruction that its slot issues within the budget leaves. -/
def State.settled (s : State) (b : Nat) (w : Word) : Act → State
  | .stall t => t
  | .trap tr => s.trapAt b tr (s.bob b).pc w
  | .go t pc => t.advance b pc
  | .free t => t

/-- R43 to R48, R69: a slot issues its instruction. -/
theorem State.issue_settles {act : Act} (h : s.mayIssue b w regs k = true) (may : post = true ∨ k.disp = 0)
    (he : eff (s.setBob b { s.bob b with tbNs := none }) (s.bob b) k = act) :
    s.issue b w post regs eff = s.settled b w act := by
  obtain ⟨held, word, cell, free, budget⟩ := State.mayIssue_iff.1 h
  have open_ : (!post && k.disp != 0) = false := by rcases may with rfl | disp <;> simp [*]
  simp only [State.issue, held, word, cell, free, open_, he, decide_eq_false (Nat.not_le.2 budget), ne_eq, not_true_eq_false,
    Bool.false_and, Bool.false_eq_true, if_false]
  cases act <;> rfl

/-- R67: a slot whose instruction traps. -/
theorem State.slot_traps {tr : Trap} (h : s.mayIssue b w regs k = true) (may : post = true ∨ k.disp = 0)
    (he : eff (s.setBob b { s.bob b with tbNs := none }) (s.bob b) k = .trap tr) :
    s.issue b w post regs eff = s.trapAt b tr (s.bob b).pc w :=
  State.issue_settles h may he

/-- R110: a slot whose instruction frees the bobbin. -/
theorem State.slot_frees {t : State} (h : s.mayIssue b w regs k = true) (may : post = true ∨ k.disp = 0)
    (he : eff (s.setBob b { s.bob b with tbNs := none }) (s.bob b) k = .free t) : s.issue b w post regs eff = t :=
  State.issue_settles h may he

/-- R44: a slot whose instruction waits for something else than a register. -/
theorem State.slot_waits (h : s.mayIssue b w regs k = true) (may : post = true ∨ k.disp = 0)
    (he : eff (s.setBob b { s.bob b with tbNs := none }) (s.bob b) k = .stall (s.setBob b { s.bob b with tbNs := none })) :
    s.issue b w post regs eff = s.setBob b { s.bob b with tbNs := none } :=
  State.issue_settles h may he

/-- R48: a pending register that the instruction names holds its slot. -/
theorem State.issue_stalls {r : Reg} (hr : r ∈ regs) (busy : (s.bob b).busy r = true) : s.issue b w post regs eff = s := by
  have waits : regs.any (s.bob b).busy = true := List.any_eq_true.2 ⟨r, hr, busy⟩
  unfold State.issue
  cases s.bobPick b with
  | none => rfl
  | some k => simp only [waits, if_true, ite_self]

/-- R48: so the command of its slot changes nothing. -/
theorem exec_stalls {c : Instr} {r : Reg} (hx : exec c s = .next (s.issue b w post regs eff)) (hr : r ∈ regs)
    (busy : (s.bob b).busy r = true) : exec c s = .next s :=
  hx.trans (congrArg _ (State.issue_stalls hr busy))

theorem exec_issueReg_stalls {c : Instr} {d r : Reg} {srcs : List Reg} {f : Bobbin → DWord}
    (hx : exec c s = .next (s.issueReg b w d srcs f)) (hr : r ∈ d :: srcs) (busy : (s.bob b).busy r = true) :
    exec c s = .next s :=
  exec_stalls hx hr busy

/-- R69: an instruction that makes the state u of s, with the bobbin x, and goes on at pc. -/
theorem State.issue_leaves {u : State} {x : Bobbin} {pc : Nat} (h : s.mayIssue b w regs k = true)
    (may : post = true ∨ k.disp = 0)
    (he : eff (s.setBob b { s.bob b with tbNs := none }) (s.bob b) k = .go (u.setBob b x) pc)
    (pick : x.pick = (s.bob b).pick) (left : x.left = (s.bob b).left) :
    s.issue b w post regs eff = u.setBob b { x with pc := pc, count := x.count + 1 } := by
  obtain ⟨held, -⟩ := State.mayIssue_iff.1 h
  rw [State.issue_settles h may he, State.settled, State.advance_setBob _ _ _ (State.bobPick_ne_reset held pick left)]

/-- R69: an instruction that makes the state u of s, leaves its bobbin as it was and goes on at pc. -/
theorem State.slot_goes {u : State} {pc : Nat} (h : s.mayIssue b w regs k = true) (may : post = true ∨ k.disp = 0)
    (he : eff (s.setBob b { s.bob b with tbNs := none }) (s.bob b) k = .go (u.setBob b { s.bob b with tbNs := none }) pc) :
    s.issue b w post regs eff = u.setBob b ((s.bob b).goes pc) :=
  State.issue_leaves h may he rfl rfl

/-- R69: an instruction that changes its bobbin to x and goes on at pc. -/
theorem State.issue_sets {x : Bobbin} {pc : Nat} (h : s.mayIssue b w regs k = true) (may : post = true ∨ k.disp = 0)
    (he : eff (s.setBob b { s.bob b with tbNs := none }) (s.bob b) k
      = .go ((s.setBob b { s.bob b with tbNs := none }).setBob b x) pc)
    (pick : x.pick = (s.bob b).pick) (left : x.left = (s.bob b).left) :
    s.issue b w post regs eff = s.setBob b { x with pc := pc, count := x.count + 1 } := by
  obtain ⟨held, -⟩ := State.mayIssue_iff.1 h
  rw [State.issue_leaves h may he pick left, State.setBob_setBob _ _ _ (State.bobPick_ne_reset held (by rfl) (by rfl))]

/-- R69: an instruction that writes d and goes on at pc. -/
theorem State.issue_writes {d : Reg} {v : DWord} {pc : Nat} (h : s.mayIssue b w regs k = true)
    (may : post = true ∨ k.disp = 0)
    (he : eff (s.setBob b { s.bob b with tbNs := none }) (s.bob b) k
      = .go ((s.setBob b { s.bob b with tbNs := none }).setBob b
          (((s.setBob b { s.bob b with tbNs := none }).bob b).wr d v)) pc) :
    s.issue b w post regs eff = s.setBob b (((s.bob b).wr d v).goes pc) := by
  obtain ⟨same, count⟩ := (s.bob b).wr_latch d v
  rw [State.bob_setBob, same] at he
  exact State.issue_sets h may he (Bobbin.wr_pick ..) (Bobbin.wr_left ..)

/-- R47: an asynchronous instruction whose operation pends. -/
theorem State.slot_goAsync {d : Reg} {op : AsyncOp} (h : s.mayIssue b w regs k = true) (may : post = true ∨ k.disp = 0)
    (he : eff (s.setBob b { s.bob b with tbNs := none }) (s.bob b) k
      = goAsync (s.setBob b { s.bob b with tbNs := none }) b (s.bob b) d op) :
    s.issue b w post regs eff = s.setBob b ((s.bob b).goesAsync d op s.tb.elapsed) := by
  rw [goAsync, State.bob_setBob] at he
  exact State.issue_sets h may he rfl rfl

/-- R45: a register instruction writes d with what it computes of its bobbin's registers. -/
theorem State.issueReg_writes {d : Reg} {srcs : List Reg} {f : Bobbin → DWord} {v : DWord}
    (h : s.mayIssue b w (d :: srcs) k = true) (hv : f (s.bob b) = v) :
    s.issueReg b w d srcs f = s.setBob b (((s.bob b).wr d v).goes ((s.bob b).pc + 1)) :=
  State.issue_writes h (.inl rfl) (by rw [← hv])

end Sys2Proof.Machine
end

section
/-! O7 to O10 and O32: the register instructions, control transfer and `wait` (R48, R61, R78 to R80, R108). -/

namespace Sys2Proof.Machine

/-! ### Immediates (R78) -/

theorem add_signExtend_eq_ofInt (x : DWord) (i : BitVec 16) : x + i.signExtend 64 = BitVec.ofInt 64 (x.toNat + i.toInt) := by
  rw [BitVec.ofInt_add, BitVec.ofInt_natCast, BitVec.ofNat_toNat, BitVec.setWidth_eq]
  rfl

/-- R78: `lis` puts the immediate below the old value's low bits. -/
theorem shiftLeft_or_setWidth_eq_ofNat (x : DWord) (i : BitVec 16) :
    (x <<< 16) ||| i.setWidth 64 = BitVec.ofNat 64 (x.toNat * 2 ^ 16 % 2 ^ 64 + i.toNat) := by
  apply BitVec.eq_of_toNat_eq
  have low : i.toNat < 2 ^ 16 := i.isLt
  have high : x.toNat * 2 ^ 16 % 2 ^ 64 = 2 ^ 16 * (x.toNat % 2 ^ 48) := by omega
  rw [BitVec.toNat_or, BitVec.toNat_shiftLeft, Nat.shiftLeft_eq, BitVec.toNat_setWidth_of_le (by omega), BitVec.toNat_ofNat,
    high, ← Nat.two_pow_add_eq_or_of_lt low]
  omega

/-- Settles O7: each is a register instruction (`State.issueReg_writes`) whose value is the table's. -/
theorem immediateResult : Obligations.ImmediateResult := by
  unfold Obligations.ImmediateResult Claims.immediates
  simp only [List.forall_mem_cons, List.not_mem_nil, false_imp_iff, implies_true, and_true, if_true]
  refine ⟨?addi, ?andi, ?ori, ?xori, ?li, ?lis⟩ <;> intro s b d a imm k h <;>
    refine congrArg Host.Outcome.next (State.issueReg_writes h ?_)
  case addi => exact add_signExtend_eq_ofInt ..
  case andi => exact congrArg (_ &&& ·) (BitVec.ofNat_toNat 64 imm).symm
  case ori => exact congrArg (_ ||| ·) (BitVec.ofNat_toNat 64 imm).symm
  case xori => exact congrArg (_ ^^^ ·) (BitVec.ofNat_toNat 64 imm).symm
  case li => rfl
  case lis => exact shiftLeft_or_setWidth_eq_ofNat ..

end Sys2Proof.Machine
end

section
namespace Sys2Proof.Machine

/-! ### Bit fields (R61, R78) -/

theorem fieldLen_of_lt {imm : BitVec 16} (h : imm.toNat < 4096) : fieldLen imm = imm.toNat / 64 + 1 := by
  unfold fieldLen
  omega

theorem aluExt_getLsbD (p l : Nat) (x : DWord) {i : Nat} (hi : i < 64) :
    (aluExt p l x).getLsbD i = (decide (i < l) && x.getLsbD (p + i)) := by
  simp only [aluExt, BitVec.getLsbD_ofNat, hi, decide_true, Bool.true_and, Nat.testBit_mod_two_pow, Nat.testBit_div_two_pow,
    Nat.add_comm i p]
  rfl

/-- R78: which bits of a field of l bits from position p a number below 2^l has there. -/
theorem mul_two_pow_testBit (v p i : Nat) : (v * 2 ^ p).testBit i = (decide (p ≤ i) && v.testBit (i - p)) := by
  rw [← Nat.shiftLeft_eq, Nat.testBit_shiftLeft]

theorem aluDep_getLsbD (p l : Nat) (x old : DWord) {i : Nat} (hi : i < 64) :
    (aluDep p l x old).getLsbD i = if p ≤ i ∧ i < p + l then x.getLsbD (i - p) else old.getLsbD i := by
  have bits : (aluDep p l x old).getLsbD i = ((old.getLsbD i && !(decide (p ≤ i) && decide (i - p < l)))
      || (decide (p ≤ i) && (decide (i - p < l) && x.getLsbD (i - p)))) := by
    simp only [aluDep, BitVec.getLsbD_or, BitVec.getLsbD_and, BitVec.getLsbD_not, BitVec.getLsbD_ofNat, hi, decide_true,
      Bool.true_and, mul_two_pow_testBit, Nat.testBit_two_pow_sub_one, Nat.testBit_mod_two_pow]
    rfl
  rw [bits]
  by_cases inside : p ≤ i ∧ i < p + l
  · simp [inside, show i - p < l by omega]
  · by_cases above : p ≤ i
    · rw [if_neg inside]
      simp [above, show ¬ i - p < l by omega]
    · simp [above]

theorem State.bitField_writes {s : State} {b op : Nat} {d a : Reg} {imm : BitVec 16} {k : Pick} (f : Bobbin → DWord)
    (h : s.mayIssue b (encI op d a imm) [d, a] k = true) (legal : imm.toNat < 4096) :
    s.bitField b op d a imm f = s.setBob b (((s.bob b).wr d (f (s.bob b))).goes ((s.bob b).pc + 1)) :=
  State.issue_writes h (.inl rfl) (if_neg (Nat.not_le.2 legal))

/-- Settles O8: both write the value of their field function, whose bits `aluExt_getLsbD` and `aluDep_getLsbD` give. -/
theorem bitFieldResult : Obligations.BitFieldResult := by
  intro s b d a imm k legal
  refine ⟨fun h => ⟨_, congrArg _ (State.bitField_writes _ h legal), fun i hi => ?_⟩,
    fun h => ⟨_, congrArg _ (State.bitField_writes _ h legal), fun i hi => ?_⟩⟩
  · rw [aluExt_getLsbD _ _ _ hi, fieldLen_of_lt legal, fieldPos]
  · rw [aluDep_getLsbD _ _ _ _ hi, fieldLen_of_lt legal, fieldPos]

/-! ### Control transfer (R79, R80) -/

variable {s : State} {b : Nat} {k : Pick}

theorem State.branch_goes {op : Nat} {a c : Reg} {off : BitVec 16} {p : DWord → DWord → Bool} {taken : Bool}
    (ht : p ((s.bob b).rd a) ((s.bob b).rd c) = taken) (h : s.mayIssue b (encB op a c off) [a, c] k = true) :
    s.branch b op a c off p = s.setBob b ((s.bob b).goes
      (if taken then pcAdd (s.bob b).pc off.toInt else (s.bob b).pc + 1)) :=
  State.slot_goes h (.inl rfl) (by rw [ht])

/-- R61: a target that is not below 0 is pc + offset. -/
theorem pcAdd_of_nonneg {pc : Nat} {off : Int} (h : 0 ≤ (pc : Int) + off) : (pcAdd pc off : Int) = pc + off := by
  rw [pcAdd, if_neg (Int.not_lt.2 h), Int.toNat_of_nonneg h]

/-- Settles O9: branches by `State.branch_goes` with the table's comparison, `jal` as a register write, `jr` by whether its
target lies above 16,383. -/
theorem controlTransferTarget : Obligations.ControlTransferTarget := by
  refine ⟨?branch, fun s b d off k h => congrArg _ (State.issue_writes h (.inl rfl) rfl), fun s b d a c k h low => ?inside,
    fun s b d a c k h high => ?outside, fun pc off h => pcAdd_of_nonneg h⟩
  case branch =>
    unfold Claims.branches
    simp only [List.forall_mem_cons, List.not_mem_nil, false_imp_iff, implies_true, and_true]
    refine ⟨?beq, ?bne, ?blt, ?bge, ?bltu, ?bgeu⟩ <;> intro s b a c off k h <;>
      refine congrArg Host.Outcome.next (State.branch_goes ?_ h)
    case beq => exact beq_eq_decide _ _
    case bne => simp [bne, beq_eq_decide]
    case blt | bge | bltu | bgeu => rfl
  case inside => exact congrArg _ (State.slot_goes h (.inl rfl) (if_neg (Nat.not_lt.2 low)))
  case outside => exact congrArg _ (State.slot_traps h (.inl rfl) (if_pos high))

/-! ### Registers that pend (R48, R108) -/

/-- Settles O10: each instruction names its registers to the slot (`State.issue_stalls`). -/
theorem pendingRegisterStalls : Obligations.PendingRegisterStalls := by
  intro s b d a c r imm busy
  unfold Claims.aluTwo Claims.aluOne Claims.immediates Claims.branches
  simp only [List.forall_mem_cons, List.not_mem_nil, false_imp_iff, implies_true, and_true, if_true]
  refine ⟨?two, ?one, ?immediate, ?branch⟩
  case two | one | immediate => (repeat' constructor) <;> exact fun hr => exec_issueReg_stalls rfl hr busy
  case branch => (repeat' constructor) <;> exact fun hr => exec_stalls rfl hr busy

theorem and_eq_zero_iff_getLsbD {n : Nat} (x m : BitVec n) :
    x &&& m = 0 ↔ ∀ i, i < n → m.getLsbD i = true → x.getLsbD i = false := by
  constructor
  · intro h i hi hm
    have bit := congrArg (BitVec.getLsbD · i) h
    simpa [hm] using bit
  · intro h
    refine BitVec.eq_of_getLsbD_eq fun i hi => ?_
    cases hm : m.getLsbD i with
    | false => simp [hm]
    | true => simp [h i hi hm]

/-- Settles O32: whether the selected scoreboard bits are clear (`and_eq_zero_iff_getLsbD`) decides whether the slot goes on. -/
theorem waitOnScoreboard : Obligations.WaitOnScoreboard := by
  rintro s b d a c imm k mask h rfl
  refine ⟨fun clear => congrArg _ (State.slot_goes h (.inl rfl) (if_pos ?_)), fun ⟨n, hn, hm, hb⟩ => ?_⟩
  · exact (and_eq_zero_iff_getLsbD ..).2 clear
  · refine ⟨_, congrArg Host.Outcome.next (State.slot_waits h (.inl rfl) (if_neg fun clear => ?_)), ?_, ?_, rfl⟩
    · have := (and_eq_zero_iff_getLsbD ..).1 clear n hn hm
      rw [hb] at this
      cases this
    · rw [State.bob_setBob]
    · rw [State.bob_setBob]

end Sys2Proof.Machine
end

section
/-! O33: counting and the end of a program (R101, R107, R110, R474, R475). -/

namespace Sys2Proof.Machine

variable {s : State} {b : Nat} {k : Pick}

/-! ### EVC_INC and EVC_ADD (R107, R474, R475) -/

/-- R475: an amount added below a counter's end. -/
theorem State.evcAdd_below (s : State) {n amount fuel : Nat} (hf : 0 < fuel) (h : tget 0 s.evc.cnt n + amount < 2 ^ 48 - 1) :
    s.evcAdd n amount fuel = { s with evc := { s.evc with cnt := tset 0 s.evc.cnt n (tget 0 s.evc.cnt n + amount) } } := by
  obtain ⟨fuel, rfl⟩ : ∃ f, fuel = f + 1 := ⟨fuel - 1, by omega⟩
  rw [State.evcAdd]
  simp only [if_neg (Nat.not_le.2 h), if_pos h.le, ite_self]

/-- R107, R474: an amount that a program adds to a counter of its own. -/
theorem State.progCount_own {n amount : Nat} (own : (s.evcCfg n).src = 255) (single : (s.evcCfg n).chain = false)
    (h : tget 0 s.evc.cnt n + amount < 2 ^ 48 - 1) : s.progCount k n amount
      = { s with evc := { s.evc with cnt := tset 0 s.evc.cnt n (tget 0 s.evc.cnt n + amount) } } :=
  (if_pos ⟨own, single⟩).trans (s.evcAdd_below (by decide) h)

theorem State.progCount_denied {n : Nat} (amount : Nat) (h : (s.evcCfg n).src ≠ 255 ∨ (s.evcCfg n).chain = true) :
    s.progCount k n amount = s.occurPick k .progDenied n :=
  if_neg fun ⟨own, single⟩ => h.elim (· own) fun chain => by rw [single] at chain; cases chain

/-- R69, R107: a counting instruction that its slot issues. -/
theorem exec_counts {c : Instr} {w : Word} {regs : List Reg} {eff : State → Bobbin → Pick → Act} {n amount : Nat}
    (hx : exec c s = .next (s.issue b w true regs eff)) (h : s.mayIssue b w regs k = true)
    (he : ∀ t, eff t (s.bob b) k = .go (t.progCount k n amount) ((s.bob b).pc + 1)) :
    ((s.evcCfg n).src = 255 → (s.evcCfg n).chain = false → tget 0 s.evc.cnt n + amount < 2 ^ 48 - 1 →
      exec c s = .next ({ s with evc := { s.evc with cnt := tset 0 s.evc.cnt n (tget 0 s.evc.cnt n + amount) } }.setBob b
        ((s.bob b).goes ((s.bob b).pc + 1))))
    ∧ ((s.evcCfg n).src ≠ 255 ∨ (s.evcCfg n).chain = true →
      ∃ t, exec c s = .next t ∧ t.evc = (s.occurPick k .progDenied n).evc
        ∧ t.bob b = (s.bob b).goes ((s.bob b).pc + 1) ∧ (∀ b', b' ≠ b → t.bob b' = s.bob b')
        ∧ t = { s with shu := { s.shu with bobs := t.shu.bobs }, evc := t.evc, hif := t.hif, out := t.out }) := by
  refine ⟨fun own single room => ?_, fun denied => ?_⟩
  · refine hx.trans (congrArg _ (State.slot_goes h (.inl rfl) ?_))
    rw [he, State.progCount_own (s := s.setBob b _) (k := k) own single room]
    rfl
  · generalize hb : ({ s.bob b with tbNs := none } : Bobbin) = x
    obtain ⟨e, hi, o, parts⟩ := (s.setBob b x).occurPick_parts k .progDenied n
    have evc : e = (s.occurPick k .progDenied n).evc := by
      rw [← State.occurPick_evc_congr (State.setBob_evc s b x), parts]
    refine ⟨_, hx.trans (congrArg Host.Outcome.next
      (State.slot_goes (u := { s with evc := e, hif := hi, out := o }) h (.inl rfl) ?_)),
      evc, State.bob_setBob .., fun b' hb' => State.bob_setBob_other _ _ hb', rfl⟩
    rw [he, State.progCount_denied (s := s.setBob b _) _ denied, hb, parts]
    rfl

/-! ### HALT (R110) -/

/-- R85, R110: what HALT frees: the bobbin, after its fetch-and-adds have landed. -/
theorem State.halted_parts (s : State) (b : Nat) (x : Bobbin) :
    let t := (((s.setBob b x).landFadds b).freeBob b)
    t.bob b = {} ∧ (∀ b', b' ≠ b → t.bob b' = s.bob b')
      ∧ t = { s with shu := { s.shu with bobs := t.shu.bobs, scratch := t.shu.scratch } }
      ∧ (x.pend = [] → t.shu.scratch = s.shu.scratch) := by
  refine ⟨State.bob_setBob .., fun b' hb' => ?_, rfl, fun none => ?_⟩
  · exact (State.bob_setBob_other _ _ hb').trans (State.bob_setBob_other s x hb')
  · change ((s.setBob b x).bob b).pend.foldl _ _ = _
    rw [State.bob_setBob, none]
    rfl

/-- Settles O33: EVC_INC and EVC_ADD by `exec_counts`, HALT by its scoreboard and whether its pick has a disposition. -/
theorem countAndHalt : Obligations.CountAndHalt := by
  rintro s b d a c imm k n rfl
  refine ⟨?count, fun h => ⟨fun idle ended => ⟨_, congrArg Host.Outcome.next (State.slot_frees h (.inl rfl) ?frees),
      State.halted_parts s b { s.bob b with tbNs := none }⟩,
      fun idle open_ => congrArg _ (State.slot_traps h (.inl rfl) ?noend),
    fun busy => congrArg _ (State.slot_waits h (.inl rfl) (if_pos busy))⟩⟩
  case count =>
    simp only [List.forall_mem_cons, List.not_mem_nil, false_imp_iff, implies_true, and_true]
    exact ⟨fun h => exec_counts rfl h fun _ => rfl, fun h => exec_counts rfl h fun _ => rfl⟩
  case frees => exact (if_neg (not_not.2 idle)).trans (if_neg ended)
  case noend => exact (if_neg (not_not.2 idle)).trans (if_pos open_)

end Sys2Proof.Machine
end

section
/-! O18 to O20: the lookups of flows and masks (R86, R87, R150, R153). -/

namespace Sys2Proof.Machine

variable {s : State} {b : Nat}

/-! ### Issue (R86 to R88) -/

/-- Settles O18: each lookup pends with its key (`State.slot_goAsync`); `look.at` traps for an immediate above 1. -/
theorem lookupIssue : Obligations.LookupIssue := by
  intro s b p d a c imm k
  refine ⟨fun h => ?_, fun h => ?_, fun h => ?_⟩ <;> obtain ⟨slot, disp⟩ := State.mayIssueRun_slot (post := false) h
  · exact congrArg _ (State.slot_goAsync slot disp rfl)
  · exact congrArg _ (State.slot_goAsync slot disp rfl)
  · refine ⟨fun small => congrArg _ (State.slot_goAsync slot disp ?_),
      fun large => congrArg _ (State.slot_traps slot disp (if_pos large))⟩
    have index : ((s.bob b).rd a).extractLsb' 0 24 = ((s.bob b).rd a).setWidth 24 := by ext i hi; simp
    have number : ((s.bob b).rd a).extractLsb' 24 2 = ((s.bob b).rd a >>> 24).setWidth 2 := by ext i hi; simp
    rw [index, number]
    exact if_neg (Nat.not_le.2 small)

/-! ### LOOK_FT_DONE (R86, R150) -/

/-- R452: a lookup changes the power state of the cache banks alone. -/
theorem State.lookBank_doms (s : State) (flow : Bool) (keys : List Nat) :
    ∃ ds, s.lookBank flow keys = { s with pmc := { s.pmc with doms := ds } } :=
  List.foldlRecOn (motive := fun t : State => ∃ ds, t = { s with pmc := { s.pmc with doms := ds } }) keys _ ⟨_, rfl⟩
    fun _ ⟨_, h⟩ _ _ => h ▸ ⟨_, rfl⟩

/-- R316: an answered request changes what the memory keeps of fetches that expired once. -/
theorem State.answered_msc (s : State) (buffer : Bool) (lines : List Nat) :
    ∃ rs lf, s.answered buffer lines = { s with msc := { s.msc with retried := rs, lastFail := lf } } :=
  List.foldlRecOn (motive := fun t : State => ∃ rs lf, t = { s with msc := { s.msc with retried := rs, lastFail := lf } })
    _ _ ⟨_, _, rfl⟩ fun _ ⟨_, _, h⟩ _ _ => h ▸ ⟨_, _, rfl⟩

/-- R150: a hit counted, saturating. -/
theorem satTo_hits (h : Word) : BitVec.ofNat 32 (satTo 0xFFFF_FFFF (h.toNat + 1)) = if h = 0xFFFF_FFFF then h else h + 1 := by
  have lt := h.isLt
  by_cases full : h = 0xFFFF_FFFF
  · subst full
    rfl
  · have below : h.toNat ≠ 0xFFFF_FFFF := fun e => full (BitVec.eq_of_toNat_eq e)
    rw [if_neg full, satTo, if_neg (by omega)]
    apply BitVec.eq_of_toNat_eq
    rw [BitVec.toNat_ofNat, BitVec.toNat_add]
    rfl

theorem withStatus_of_lt {v st : Nat} (h : v < 2 ^ 56) : withStatus v st = BitVec.ofNat 64 (v + st * 2 ^ 56) := by
  rw [withStatus, Nat.mod_eq_of_lt h]

/-- R86, R150: a flow lookup of bobbin b served in the state u with the entry it finds, if any: B is the bobbin without the
operation. -/
def State.flowServed (u : State) (b : Nat) (B : Bobbin) (d : Reg) (space : BitVec 6) (lo hi : DWord) : Option Flow → State
  | none => u.setBob b (B.finish d (BitVec.ofNat 64 (1 * 2 ^ 56)))
  | some f =>
    if f.poisoned then u.setBob b (B.finish d (BitVec.ofNat 64 (5 * 2 ^ 56)))
    else State.setBob { u with tab := { u.tab with flows := u.tab.flows.map (fun g => if g.hasKey space lo hi
      then { g with hits := if g.hits = 0xFFFF_FFFF then g.hits else g.hits + 1 } else g) } } b
      (B.finish d (f.result.setWidth 64))

theorem exec_lookFtDone {d : Reg} {space : BitVec 6} {lo hi : DWord} {pc at_ : Nat} {rest : List PendOp}
    (pend : (s.bob b).pend = ⟨d, .lookFt space lo hi, pc, at_⟩ :: rest)
    (waits : s.tableWaits ((s.bucketsOf space lo hi).flatMap s.bucketLines) = false)
    (good : s.tableBad ((s.bucketsOf space lo hi).flatMap s.bucketLines) = none) :
    ∃ ds rs lf u, u = { s with pmc := { s.pmc with doms := ds }, msc := { s.msc with retried := rs, lastFail := lf } }
      ∧ exec (.lookFtDone b d) s = .next (u.flowServed b { s.bob b with pend := rest } d space lo hi
          (s.tab.flows.find? (fun f => f.hasKey space lo hi))) := by
  obtain ⟨ds, bank⟩ := s.lookBank_doms true (s.bucketsOf space lo hi)
  obtain ⟨v, hv⟩ : ∃ v : State, v = { s with pmc := { s.pmc with doms := ds } } := ⟨_, rfl⟩
  rw [← hv] at bank
  have waits' : v.tableWaits ((v.bucketsOf space lo hi).flatMap v.bucketLines) = false := hv ▸ waits
  have good' : v.tableBad ((v.bucketsOf space lo hi).flatMap v.bucketLines) = none := hv ▸ good
  obtain ⟨rs, lf, answered⟩ := v.answered_msc false ((v.bucketsOf space lo hi).flatMap v.bucketLines)
  obtain ⟨u, hu⟩ : ∃ u : State, u = { v with msc := { v.msc with retried := rs, lastFail := lf } } := ⟨_, rfl⟩
  rw [← hu] at answered
  refine ⟨ds, rs, lf, u, by rw [hu, hv], ?_⟩
  have flows : s.tab.flows = u.tab.flows := by rw [hu, hv]
  rw [exec, execLookFtDone, takePend_head pend rfl, flows]
  simp only [bank, waits', good', answered, Bool.false_eq_true, if_false, satTo_hits]
  cases u.tab.flows.find? (fun f => f.hasKey space lo hi) with
  | none => rfl
  | some f =>
    have result : withStatus f.result.toNat UStat.ok.code = f.result.setWidth 64 :=
      (withStatus_of_lt f.result.isLt).trans (BitVec.ofNat_toNat ..)
    simp only [State.flowServed, result]
    rfl

/-- Settles O19: the entry found, or none, by `exec_lookFtDone`. -/
theorem flowLookupResult : Obligations.FlowLookupResult := by
  intro s b d space lo hi pc at_ rest pend waits good
  obtain ⟨ds, rs, lf, u, hu, served⟩ := exec_lookFtDone pend waits good
  refine ⟨_, served, ?_⟩
  subst hu
  cases s.tab.flows.find? (fun f => f.hasKey space lo hi) with
  | none => exact ⟨rfl, rfl, fun b' hb' => State.bob_setBob_other _ _ hb', fun _ => ⟨rfl, State.bob_setBob ..⟩, nofun⟩
  | some f =>
    simp only [State.flowServed, Option.some.injEq, forall_eq']
    cases f.poisoned with
    | true => exact ⟨rfl, rfl, fun b' hb' => State.bob_setBob_other _ _ hb', nofun, rfl, State.bob_setBob ..⟩
    | false => exact ⟨rfl, rfl, fun b' hb' => State.bob_setBob_other _ _ hb', nofun, rfl, State.bob_setBob ..⟩

/-! ### LOOK_MT_DONE (R87, R153) -/

/-- The keys of a table in canonical form are as its predicate asks. -/
theorem tsorted_mem {α : Type} {ok : Nat → α → Bool} {t : Tbl α} (h : tsorted ok t = true) {i : Nat} {e : α}
    (he : (i, e) ∈ t) : ok i e = true := by
  induction t with
  | nil => cases he
  | cons x t ih =>
    obtain ⟨hx, -, ht⟩ := (tsorted_cons ..).1 h
    rcases List.mem_cons.1 he with rfl | he
    · exact hx
    · exact ih ht he

/-- In a table in canonical form the first entry that satisfies a predicate is the one of the lowest key. -/
theorem tsorted_find?_lowest {α : Type} {ok : Nat → α → Bool} {t : Tbl α} (h : tsorted ok t = true) {i : Nat} {e : α}
    (p : Nat × α → Bool) (he : (i, e) ∈ t) (hp : p (i, e) = true)
    (low : ∀ j x, j < i → (j, x) ∈ t → p (j, x) = false) :
    t.find? p = some (i, e) := by
  induction t with
  | nil => cases he
  | cons x t ih =>
    obtain ⟨-, above, ht⟩ := (tsorted_cons ..).1 h
    rcases List.mem_cons.1 he with rfl | he
    · rw [List.find?_cons, hp]
    · rw [List.find?_cons, low x.1 x.2 (above _ he) (List.mem_cons_self ..)]
      exact ih ht he fun j y hj hy => low j y hj (List.mem_cons_of_mem _ hy)

/-- R153: an entry of the mask table matches a key in a partition. -/
theorem maskMatch_pred_iff (part : BitVec 6) (v : BitVec 128) (e : Nat × MtEntry) :
    (e.2.valid && e.2.part == part && (v &&& e.2.mask) == e.2.value) = true
      ↔ e.2.valid = true ∧ e.2.part = part ∧ v &&& e.2.mask = e.2.value := by
  simp only [Bool.and_eq_true, beq_iff_eq, and_assoc]

theorem exec_lookMtDone {d : Reg} {part : BitVec 6} {lo hi : DWord} {pc at_ : Nat} {rest : List PendOp}
    (pend : (s.bob b).pend = ⟨d, .lookMt part lo hi, pc, at_⟩ :: rest) :
    (∀ i e, s.maskMatch part (hi ++ lo) = some (i, e) → exec (.lookMtDone b d) s
      = .next (s.setBob b ({ s.bob b with pend := rest }.finish d (withStatus (i + e.result.toNat * 2 ^ 12) 0))))
    ∧ (s.maskMatch part (hi ++ lo) = none → ∃ f : Nat, exec (.lookMtDone b d) s
      = .next (s.setBob b ({ s.bob b with pend := rest }.finish d (withStatus (f % 2 ^ 44) 1)))) := by
  refine ⟨fun i e found => ?_, fun missed => ⟨(Config.freeResult 6 ((s.bobPick b).getD {}).orig 0).toNat, ?_⟩⟩ <;>
    rw [exec, execLookMtDone, takePend_head pend rfl]
  · simp only [found]
    rfl
  · simp only [missed]
    rfl

/-- Settles O20: the table's order makes the first match the lowest (`tsorted_find?_lowest`). -/
theorem maskLookupResult : Obligations.MaskLookupResult := by
  intro s b d part lo hi pc at_ rest pend sorted
  obtain ⟨found, missed⟩ := exec_lookMtDone pend
  have other : ∀ {j : Nat} {x : MtEntry}, (x.valid = true → x.part = part → (hi ++ lo) &&& x.mask ≠ x.value) →
      (x.valid && x.part == part && ((hi ++ lo) &&& x.mask) == x.value) = false := by
    intro j x h
    rw [Bool.eq_false_iff, ne_eq, maskMatch_pred_iff part (hi ++ lo) (j, x)]
    exact fun ⟨valid, same, hit⟩ => h valid same hit
  refine ⟨fun i e he valid same hit low => ?_, fun none => ?_⟩
  · have first : s.maskMatch part (hi ++ lo) = some (i, e) :=
      tsorted_find?_lowest sorted _ he ((maskMatch_pred_iff ..).2 ⟨valid, same, hit⟩)
        fun j x hj hx => other (j := j) fun v p => low j x hj hx v p
    have index : i < 4096 := of_decide_eq_true (tsorted_mem sorted he)
    have result := e.result.isLt
    rw [found i e first, withStatus_of_lt (by omega), Nat.zero_mul, Nat.add_zero]
  · have no : s.maskMatch part (hi ++ lo) = Option.none :=
      List.find?_eq_none.2 fun x hx => Bool.eq_false_iff.1 (other (j := x.1) fun v p => none x.1 x.2 hx v p)
    obtain ⟨f, done⟩ := missed no
    refine ⟨_, BitVec.eq_of_toNat_eq ?_, done⟩
    rw [BitVec.extractLsb'_toNat, withStatus_toNat (by decide), BitVec.toNat_ofNat, Nat.shiftRight_eq_div_pow]
    omega

end Sys2Proof.Machine
end

section
/-! SUPPORT. Byte strings as values (R54, R62, R375): the bytes of a number, the bits of a value read from bytes, and bytes
replaced in a string. -/

namespace Sys2Proof.Machine

/-! ### The bytes of a number -/

@[simp] theorem leBytes_length (v n : Nat) : (leBytes v n).length = n := by
  induction n generalizing v with
  | zero => rfl
  | succ n ih => simp [leBytes, ih]

theorem leBytes_getElem (v n i : Nat) (h : i < (leBytes v n).length) : (leBytes v n)[i] = BitVec.ofNat 8 (v / 256 ^ i) := by
  induction n generalizing v i with
  | zero => simp at h
  | succ n ih =>
    cases i with
    | zero => exact BitVec.eq_of_toNat_eq (by simp [leBytes])
    | succ i => simp only [leBytes, List.getElem_cons_succ, ih, Nat.div_div_eq_div_mul, Nat.pow_succ']

theorem leBytes_getD {v n i : Nat} (h : i < n) : (leBytes v n).getD i 0 = BitVec.ofNat 8 (v / 256 ^ i) := by
  rw [List.getD_eq_getElem _ _ (by simpa using h), leBytes_getElem]

/-- Of a number its n low bytes alone count. -/
theorem leBytes_mod (v n : Nat) : leBytes (v % 2 ^ (8 * n)) n = leBytes v n := by
  refine List.ext_getElem (by simp) fun i h _ => ?_
  rw [leBytes_length] at h
  rw [leBytes_getElem, leBytes_getElem]
  refine BitVec.eq_of_toNat_eq ?_
  have split : 2 ^ (8 * n) = 256 ^ i * (256 * 256 ^ (n - i - 1)) := by
    rw [Nat.pow_mul, ← Nat.pow_succ', ← Nat.pow_add]
    congr 1
    omega
  simp only [BitVec.toNat_ofNat, split, Nat.mod_mul_right_div_self, Nat.reducePow, Nat.mod_mul_right_mod]

/-! ### The bits of a value read from bytes -/

theorem leNat_testBit (bs : Bytes) (j : Nat) : (leNat bs).testBit j = (bs.getD (j / 8) 0).getLsbD (j % 8) := by
  induction bs generalizing j with
  | nil => simp [leNat]
  | cons x bs ih =>
    rw [leNat, Nat.add_comm, show (256 : Nat) = 2 ^ 8 from rfl, Nat.testBit_two_pow_mul_add _ x.isLt]
    by_cases low : j < 8
    · rw [if_pos low, Nat.div_eq_of_lt low, Nat.mod_eq_of_lt low]
      rfl
    · obtain ⟨i, rfl⟩ := Nat.exists_eq_add_of_le (Nat.not_lt.1 low)
      rw [if_neg low, ih, Nat.add_sub_cancel_left, Nat.add_mod_left, Nat.add_div_left _ (by decide)]
      rfl

theorem leNat_lt (bs : Bytes) : leNat bs < 2 ^ (8 * bs.length) := by
  induction bs with
  | nil => decide
  | cons x bs ih =>
    have := x.isLt
    have grow : 2 ^ (8 * (x :: bs).length) = 256 * 2 ^ (8 * bs.length) := by
      rw [List.length_cons, Nat.mul_succ, Nat.pow_add, Nat.mul_comm]
    rw [leNat, grow]
    omega

/-- R54: network order is the reverse of little-endian. -/
theorem beNat_eq_leNat_reverse (bs : Bytes) : beNat bs = leNat bs.reverse := by
  induction bs using List.reverseRecOn with
  | nil => rfl
  | append_singleton bs x ih =>
    rw [List.reverse_concat, leNat, ← ih]
    simp only [beNat, List.foldl_append, List.foldl_cons, List.foldl_nil]
    omega

/-- R61, R62: the bits of a value of n bytes, extended to 64 bits. -/
theorem extendTo64_getLsbD (sext : Bool) {n v j : Nat} (h1 : 1 ≤ n) (h8 : n ≤ 8) (hv : v < 2 ^ (8 * n)) (hj : j < 64) :
    (extendTo64 sext n v).getLsbD j = if j < 8 * n then v.testBit j else (sext && v.testBit (8 * n - 1)) := by
  have top : decide (2 ^ (8 * n - 1) ≤ v) = v.testBit (8 * n - 1) := by
    by_cases high : 2 ^ (8 * n - 1) ≤ v
    · rw [decide_eq_true high, Nat.testBit_of_two_pow_le_and_two_pow_add_one_gt high (by rwa [Nat.sub_add_cancel (by omega)])]
    · rw [decide_eq_false high, Nat.testBit_lt_two_pow (Nat.not_le.1 high)]
  have ones : v + 2 ^ 64 - 2 ^ (8 * n) = 2 ^ (8 * n) * (2 ^ (64 - 8 * n) - 1) + v := by
    have whole : 2 ^ 64 = 2 ^ (8 * n) * 2 ^ (64 - 8 * n) := by
      rw [← Nat.pow_add]
      congr 1
      omega
    have le : 2 ^ (8 * n) ≤ 2 ^ 64 := Nat.pow_le_pow_right (by decide) (by omega)
    rw [Nat.mul_sub, ← whole, Nat.mul_one]
    omega
  rw [extendTo64, top]
  by_cases neg : (sext && v.testBit (8 * n - 1)) = true
  · rw [if_pos neg, BitVec.getLsbD_ofNat, decide_eq_true hj, ones, Nat.testBit_two_pow_mul_add _ hv, neg, Bool.true_and,
      Nat.testBit_two_pow_sub_one]
    split
    · rfl
    · exact decide_eq_true (by omega)
  · rw [if_neg neg, BitVec.getLsbD_ofNat, decide_eq_true hj, Bool.true_and, Bool.eq_false_iff.2 neg]
    split
    · rfl
    · exact Nat.testBit_lt_two_pow (hv.trans_le (Nat.pow_le_pow_right (by decide) (by omega)))

/-- R54, R61, R62: the value that a load of n bytes makes of them. -/
theorem isValue_extendTo64 {n : Nat} {bs : Bytes} {byte : Nat → Byte} (le sext : Bool) (h1 : 1 ≤ n) (h8 : n ≤ 8)
    (length : bs.length = n) (hb : ∀ i < n, bs.getD i 0 = byte i) :
    Claims.isValue (extendTo64 sext n (bytesVal le bs)) n le sext byte := by
  have bound : bytesVal le bs < 2 ^ (8 * n) := by
    unfold bytesVal
    split
    · exact length ▸ leNat_lt bs
    · rw [beNat_eq_leNat_reverse, ← length, ← List.length_reverse]
      exact leNat_lt _
  have bit : ∀ j, j < 8 * n → (bytesVal le bs).testBit j = (byte (if le then j / 8 else n - 1 - j / 8)).getLsbD (j % 8) := by
    intro j hj
    have inside : j / 8 < n := by omega
    cases le with
    | true => rw [bytesVal, if_pos rfl, leNat_testBit, hb _ inside, if_pos rfl]
    | false =>
      rw [bytesVal, if_neg Bool.false_ne_true, beNat_eq_leNat_reverse, leNat_testBit, if_neg Bool.false_ne_true,
        ← hb _ (by omega), List.getD_eq_getElem _ _ (by simpa [length] using inside),
        List.getD_eq_getElem _ _ (by omega), List.getElem_reverse]
      simp only [length]
  intro j hj
  rw [extendTo64_getLsbD sext h1 h8 bound hj]
  split
  · next inside => exact bit j inside
  · rw [bit _ (by omega), show (8 * n - 1) % 8 = 7 by omega, show (8 * n - 1) / 8 = n - 1 by omega, Nat.sub_self]

/-! ### Parts of a byte string -/

@[simp] theorem slice_length (bs : Bytes) (off n : Nat) : (slice bs off n).length = n := by
  simp only [slice, List.length_append, List.length_take, List.length_replicate]
  omega

theorem slice_getD (bs : Bytes) {off n i : Nat} (h : i < n) : (slice bs off n).getD i 0 = bs.getD (off + i) 0 := by
  simp only [slice, List.getD_eq_getElem?_getD]
  by_cases inside : i < ((bs.drop off).take n).length
  · rw [List.getElem?_append_left inside, List.getElem?_take_of_lt h, List.getElem?_drop]
  · rw [List.getElem?_append_right (Nat.not_lt.1 inside), List.getElem?_replicate]
    rw [List.length_take, List.length_drop] at inside
    rw [List.getElem?_eq_none (l := bs) (by omega)]
    split <;> rfl

/-- R56: a byte of a string with some of its bytes replaced. -/
theorem patch_getD (bs new : Bytes) {off i : Nat} (h : off + new.length ≤ bs.length) :
    (patch bs off new).getD i 0 = if off ≤ i ∧ i < off + new.length then new.getD (i - off) 0 else bs.getD i 0 := by
  have start : (bs.take off).length = off := by rw [List.length_take]; omega
  simp only [patch, List.getD_eq_getElem?_getD]
  by_cases before : i < off
  · rw [if_neg (by omega), List.append_assoc, List.getElem?_append_left (by omega), List.getElem?_take_of_lt before]
  · by_cases inside : i < off + new.length
    · rw [if_pos ⟨by omega, inside⟩, List.getElem?_append_left (by rw [List.length_append]; omega),
        List.getElem?_append_right (by omega), start]
    · rw [if_neg (by omega), List.getElem?_append_right (by rw [List.length_append]; omega), List.getElem?_drop,
        List.length_append, start]
      congr 2
      omega

/-! ### Bytes of a memory -/

@[simp] theorem Memory.readBytes_length (m : Memory) (a n : Nat) : (Memory.readBytes m a n).length = n := by
  induction n generalizing a with
  | zero => rfl
  | succ n ih => simp [Memory.readBytes, ih]

theorem Memory.readBytes_getD (m : Memory) (a : Nat) {n i : Nat} (h : i < n) :
    (Memory.readBytes m a n).getD i 0 = Memory.read m (a + i) := by
  induction n generalizing a i with
  | zero => omega
  | succ n ih =>
    cases i with
    | zero => rfl
    | succ i => exact (ih (a + 1) (by omega)).trans (by rw [Nat.add_assoc, Nat.add_comm 1])

/-- A byte among those of a number written reads as that byte of the number. -/
theorem Memory.read_writeBytes_leBytes (m : Memory) (a v : Nat) {n i : Nat} (h : i < n) :
    Memory.read (Memory.writeBytes m a (leBytes v n)) (a + i) = BitVec.ofNat 8 (v / 256 ^ i) := by
  rw [Memory.read_writeBytes_at _ _ _ _ (by simpa using h), leBytes_getElem]

theorem two_pow_size (size : BitVec 2) : 1 ≤ 2 ^ size.toNat ∧ 2 ^ size.toNat ≤ 8 :=
  ⟨Nat.one_le_two_pow, Nat.pow_le_pow_right (n := 2) (by decide) (Nat.le_of_lt_succ size.isLt)⟩

end Sys2Proof.Machine
end

section
/-! O11 to O13: the frame window (R51 to R54, R81, R82, R123). -/

namespace Sys2Proof.Machine

variable {s : State} {b p : Nat} {k : Pick}

theorem subReserved3_eq_false {sub : BitVec 4} (h1 : sub.getLsbD 1 = false) (h2 : sub.getLsbD 2 = false)
    (h3 : sub.getLsbD 3 = false) : subReserved3 sub = false := by
  rw [subReserved3, h1, subReserved_eq_false h2 h3, Bool.false_or]

/-! ### LDW (R51, R81) -/

theorem Pick.winBytes_length (k : Pick) (x : Int) (n : Nat) : (k.winBytes x n).length = n := by
  simp [Pick.winBytes]

theorem Pick.winBytes_getD (k : Pick) (x : Int) {n i : Nat} (h : i < n) :
    (k.winBytes x n).getD i 0 = k.winByte (x + i) := by
  rw [List.getD_eq_getElem _ _ (by rwa [k.winBytes_length])]
  simp [Pick.winBytes, ← List.map_eq_flatMap]

/-- Settles O11: LDW writes the value of the window's bytes (`isValue_extendTo64`). -/
theorem windowLoadValue : Obligations.WindowLoadValue := by
  intro s b p d a size sub off k h h2 h3 idle low high
  obtain ⟨slot, disp⟩ := State.mayIssueRun_slot (post := false) h
  obtain ⟨one, eight⟩ := two_pow_size size
  refine ⟨_, congrArg Host.Outcome.next (State.issue_writes slot disp ?_),
    isValue_extendTo64 (sub.getLsbD 1) (sub.getLsbD 0) one eight (k.winBytes_length ..) fun i hi => k.winBytes_getD _ hi⟩
  have inside : ¬ (effOffset (s.bob b) a off < -64 ∨ 511 < effOffset (s.bob b) a off + (sizeBytes size : Nat) - 1) := by
    rw [sizeBytes]
    omega
  simp only [subReserved_eq_false h2 h3, idle, if_neg inside, Bool.false_eq_true, if_false]
  rfl

/-! ### STW and WEDIT (R52, R81, R82, R123) -/

theorem Pick.sealedOff_eq_false (hc : k.cipher = none) (ho : k.opened = false) : k.sealedOff = false := by
  rw [Pick.sealedOff, hc, ho]
  rfl

/-- R123: a change of the window for which there are cells free changes the record of the pick. -/
theorem writeCells_room (s : State) (b : Nat) (B : Bobbin) {lo hi : Int} (f : Pick → Pick)
    (room : (k.newCells lo hi).length ≤ s.cellsFree) : writeCells s b B k lo hi f = .go (s.updPick b fun k' =>
      f { k' with cells := k'.cells + (k.newCells lo hi).length, copied := k'.copied ++ k.newCells lo hi }) (B.pc + 1) :=
  if_neg fun ⟨_, full⟩ => Nat.not_lt.2 room full

/-- R69, R123: an instruction that changes the window, with cells free for the change. -/
theorem exec_writesCells {c : Instr} {w : Word} {regs : List Reg} {eff : State → Bobbin → Pick → Act} {lo hi : Int}
    {f : Pick → Pick} (hx : exec c s = .next (s.issue b w false regs eff)) (h : s.mayIssueRun b w regs p k = true)
    (room : (k.newCells lo hi).length ≤ s.cellsFree)
    (he : eff (s.setBob b { s.bob b with tbNs := none }) (s.bob b) k
      = writeCells (s.setBob b { s.bob b with tbNs := none }) b (s.bob b) k lo hi f) :
    exec c s = .next ((s.setPick p (f { k with
      cells := k.cells + (k.newCells lo hi).length, copied := k.copied ++ k.newCells lo hi })).setBob b
        ((s.bob b).goes ((s.bob b).pc + 1))) :=
  hx.trans (congrArg _ (State.issue_updPick (fun k' => f { k' with
    cells := k'.cells + (k.newCells lo hi).length, copied := k'.copied ++ k.newCells lo hi }) h
      (he.trans (writeCells_room _ b _ f room))))

/-- Settles O12: STW inside the frame and the window writes the low bytes of d (`leBytes_mod`). -/
theorem windowStoreWrites : Obligations.WindowStoreWrites := by
  rintro s b p d a size sub off k e n h h2 h3 hc ho rfl rfl low high start last room
  rw [← leBytes_mod, ← beBytes]
  have inside : ¬ (effOffset (s.bob b) a off < -64 ∨ 511 < effOffset (s.bob b) a off + (sizeBytes size : Nat) - 1
      ∨ effOffset (s.bob b) a off < k.woff.toInt
      ∨ k.woff.toInt + k.frame.length < effOffset (s.bob b) a off + (sizeBytes size : Nat)) := by
    rw [sizeBytes]
    omega
  refine exec_writesCells (c := .stw b d a size sub off) (f := fun k' => { k' with frame := patch k'.frame _ _ }) rfl h room ?_
  simp only [subReserved_eq_false h2 h3, Pick.sealedOff_eq_false hc ho, if_neg inside, Bool.or_self, Bool.false_eq_true, if_false]
  rfl

/-- Settles O13: within the limits of either direction WEDIT changes the window (`exec_writesCells`). -/
theorem windowEditResizes : Obligations.WindowEditResizes := by
  rintro s b p d a sub off k o w n len i h h1 h2 h3 hc ho rfl rfl rfl rfl rfl one most
  have legal : (subReserved3 sub || (0 : BitVec 2) != 0 || k.sealedOff || ((s.bob b).rd d).toNat == 0
      || decide (64 < ((s.bob b).rd d).toNat)) = false := by
    rw [subReserved3_eq_false h1 h2 h3, Pick.sealedOff_eq_false hc ho, decide_eq_false (Nat.not_lt.2 most),
      beq_eq_false_iff_ne.2 (Nat.one_le_iff_ne_zero.1 one)]
    rfl
  refine ⟨fun shrinks start last high window short long room => ?_, fun grows start last high window long short room => ?_⟩
  · refine exec_writesCells (c := .wedit b d a 0 sub off)
      (f := fun k' => { k' with frame := k'.frame.take _ ++ k'.frame.drop _, woff := k'.woff + _ }) rfl h room ?_
    simp only [legal, shrinks, Bool.false_eq_true, if_false, if_true]
    exact if_neg (by omega)
  · refine exec_writesCells (c := .wedit b d a 0 sub off)
      (f := fun k' => { k' with frame := k'.frame.take _ ++ _ ++ k'.frame.drop _, woff := k'.woff - _ }) rfl h room ?_
    simp only [legal, grows, Bool.false_eq_true, if_false]
    exact if_neg (by omega)

end Sys2Proof.Machine
end

section
/-! O14: the pick record (R55, R56, R84). -/

namespace Sys2Proof.Machine

variable {s : State} {b p : Nat} {k : Pick}

/-! ### The bytes of the record (R55) -/

theorem leNat_byte (bs : Bytes) (j : Nat) : BitVec.ofNat 8 (leNat bs / 256 ^ j) = bs.getD j 0 := by
  refine BitVec.eq_of_getLsbD_eq fun t ht => ?_
  rw [BitVec.getLsbD_ofNat, decide_eq_true ht, Bool.true_and, show (256 : Nat) = 2 ^ 8 from rfl, ← Nat.pow_mul,
    Nat.testBit_div_two_pow, leNat_testBit]
  congr 2 <;> omega

theorem leAt_byte (bs : Bytes) (off : Nat) {n j : Nat} (h : j < n) :
    BitVec.ofNat 8 (leAt bs off n / 256 ^ j) = bs.getD (off + j) 0 :=
  (leNat_byte _ j).trans (slice_getD bs h)

theorem leAt_lt (bs : Bytes) (off n : Nat) : leAt bs off n < 2 ^ (8 * n) :=
  (leNat_lt _).trans_eq (by rw [slice_length])

theorem getD_leBytes_append (v n i : Nat) (ys : Bytes) :
    (leBytes v n ++ ys).getD i 0 = if i < n then BitVec.ofNat 8 (v / 256 ^ i) else ys.getD (i - n) 0 := by
  split
  · next inside => rw [List.getD_append _ _ _ _ (by simpa using inside), leBytes_getD inside]
  · next outside => rw [List.getD_append_right _ _ _ _ (by simpa using outside), leBytes_length]

/-- R55: the part of the record that holds byte i, shifted to that byte. -/
def Pick.recordNat (k : Pick) (i : Nat) : Nat :=
  if i < 4 then k.seq.toNat / 256 ^ i
  else if i < 8 then (k.odom.toNat + k.src.toNat * 2 ^ 12 + k.port.toNat * 2 ^ 16 + k.cls.toNat * 2 ^ 24) / 256 ^ (i - 4)
  else if i < 12 then (k.frame.length % 2 ^ 16 + k.woff.toNat * 2 ^ 16) / 256 ^ (i - 8)
  else if i < 16 then
    (k.assoc.toNat + (if k.slot then 2 ^ 24 else 0) + k.kn.toNat * 2 ^ 25 + k.astat.toNat * 2 ^ 27) / 256 ^ (i - 12)
  else if i < 20 then
    (k.queue.toNat + k.color.toNat * 2 ^ 14 + k.disp.toNat * 2 ^ 16 + k.reason.toNat * 2 ^ 20) / 256 ^ (i - 16)
  else if i < 24 then k.gen.toNat / 256 ^ (i - 20)
  else if i < 32 then k.pn.toNat / 256 ^ (i - 24)
  else if i < 40 then k.arrival.toNat / 256 ^ (i - 32)
  else if i < 48 then k.u0.toNat / 256 ^ (i - 40)
  else if i < 56 then k.u1.toNat / 256 ^ (i - 48)
  else k.u2.toNat / 256 ^ (i - 56)

theorem Pick.record_getD (k : Pick) {i : Nat} (h : i < 64) : k.record.getD i 0 = BitVec.ofNat 8 (k.recordNat i) := by
  have within : ∀ {o n : Nat}, 0 < n → (i - o < n ↔ i < n + o) := by omega
  rw [← List.append_nil k.record]
  simp only [Pick.record, List.append_assoc, getD_leBytes_append, Nat.sub_sub, Nat.reduceAdd, within, Nat.ofNat_pos, h, if_true,
    ← apply_ite (BitVec.ofNat 8)]
  rfl

@[simp] theorem Pick.record_length (k : Pick) : k.record.length = 64 := by
  simp only [Pick.record, List.length_append, leBytes_length]

/-! ### Bytes written over the record (R56) -/

/-- The record whose RW bits are those of 64 bytes. -/
def Pick.loadRW (k : Pick) (r : Bytes) : Pick :=
  { k with
    cls := BitVec.ofNat 3 (r.getD 7 0).toNat, queue := BitVec.ofNat 14 (leAt r 16 2), pn := BitVec.ofNat 64 (leAt r 24 8)
    u0 := BitVec.ofNat 64 (leAt r 40 8), u1 := BitVec.ofNat 64 (leAt r 48 8), u2 := BitVec.ofNat 64 (leAt r 56 8) }

theorem Pick.store_eq_loadRW (k : Pick) (e : Nat) (bs : Bytes) : k.store e bs = k.loadRW (patch k.record e bs) := rfl

theorem and_not_or_and_mask (x y : Byte) (t : Nat) :
    (x &&& ~~~BitVec.ofNat 8 (2 ^ t - 1)) ||| (y &&& BitVec.ofNat 8 (2 ^ t - 1))
      = BitVec.ofNat 8 (2 ^ t * (x.toNat / 2 ^ t) + y.toNat % 2 ^ t) := by
  refine BitVec.eq_of_getLsbD_eq fun j hj => ?_
  simp only [BitVec.getLsbD_or, BitVec.getLsbD_and, BitVec.getLsbD_not, BitVec.getLsbD_ofNat, hj, decide_true, Bool.true_and,
    Nat.testBit_two_pow_sub_one, Nat.testBit_two_pow_mul_add _ (Nat.mod_lt y.toNat (Nat.two_pow_pos t))]
  by_cases low : j < t
  · simp [low, Nat.testBit_mod_two_pow, BitVec.getLsbD]
  · simp [low, Nat.testBit_div_two_pow, BitVec.getLsbD, Nat.sub_add_cancel (Nat.not_lt.1 low)]

theorem dword_byte (r : Bytes) {o i : Nat} (h : o ≤ i) (hi : i < o + 8) :
    BitVec.ofNat 8 ((BitVec.ofNat 64 (leAt r o 8)).toNat / 256 ^ (i - o)) = r.getD i 0 := by
  rw [BitVec.toNat_ofNat, Nat.mod_eq_of_lt (leAt_lt r o 8), leAt_byte r o (by omega), Nat.add_sub_cancel' h]

theorem rwMask_eq_zero {i : Nat} (h : i < 7 ∨ 8 ≤ i ∧ i < 16 ∨ 18 ≤ i ∧ i < 24 ∨ 32 ≤ i ∧ i < 40) :
    Claims.rwMask i = 0 := by
  rw [Claims.rwMask, if_neg (by omega), if_neg (by omega), if_neg (by omega), if_neg (by omega), if_neg (by omega)]

theorem rwMask_eq_full {i : Nat} (h : i = 16 ∨ 24 ≤ i ∧ i < 32 ∨ 40 ≤ i ∧ i < 64) : Claims.rwMask i = 0xFF := by
  rcases h with rfl | h | h
  · rfl
  · rw [Claims.rwMask, if_neg (by omega), if_neg (by omega), if_neg (by omega), if_pos h]
  · rw [Claims.rwMask, if_neg (by omega), if_neg (by omega), if_neg (by omega), if_neg (by omega), if_pos h]

theorem recordRW_eq_true_iff (i : Nat) : recordRW i = true ↔ Claims.rwMask i ≠ 0 := by
  simp only [recordRW, Bool.or_eq_true, Bool.and_eq_true, decide_eq_true_eq, beq_iff_eq]
  unfold Claims.rwMask
  split_ifs <;> simp <;> omega

/-- R55: the parts of the record that hold no RW bit, or hold them beside others. -/
theorem Pick.loadRW_fixed (k : Pick) (r : Bytes) :
    (k.loadRW r).seq = k.seq ∧ (k.loadRW r).odom = k.odom ∧ (k.loadRW r).src = k.src ∧ (k.loadRW r).port = k.port
    ∧ (k.loadRW r).frame = k.frame ∧ (k.loadRW r).woff = k.woff ∧ (k.loadRW r).assoc = k.assoc ∧ (k.loadRW r).slot = k.slot
    ∧ (k.loadRW r).kn = k.kn ∧ (k.loadRW r).astat = k.astat ∧ (k.loadRW r).color = k.color ∧ (k.loadRW r).disp = k.disp
    ∧ (k.loadRW r).reason = k.reason ∧ (k.loadRW r).gen = k.gen ∧ (k.loadRW r).arrival = k.arrival :=
  ⟨rfl, rfl, rfl, rfl, rfl, rfl, rfl, rfl, rfl, rfl, rfl, rfl, rfl, rfl, rfl⟩

theorem Pick.loadRW_cls (k : Pick) (r : Bytes) : (k.loadRW r).cls.toNat = (r.getD 7 0).toNat % 8 := BitVec.toNat_ofNat ..

theorem leAt_two (r : Bytes) (o : Nat) : leAt r o 2 = (r.getD o 0).toNat + 256 * (r.getD (o + 1) 0).toNat := by
  have low := congrArg BitVec.toNat (leAt_byte r o (n := 2) (j := 0) (by omega))
  have high := congrArg BitVec.toNat (leAt_byte r o (n := 2) (j := 1) (by omega))
  have lt := leAt_lt r o 2
  simp only [BitVec.toNat_ofNat, Nat.add_zero, Nat.pow_zero, Nat.pow_one, Nat.reducePow, Nat.reduceMul] at low high lt
  omega

theorem Pick.loadRW_queue (k : Pick) (r : Bytes) :
    (k.loadRW r).queue.toNat = ((r.getD 16 0).toNat + 256 * (r.getD 17 0).toNat) % 2 ^ 14 := by
  rw [← leAt_two]
  exact BitVec.toNat_ofNat ..

theorem Pick.loadRW_record_fixed (k : Pick) (r : Bytes) {i : Nat}
    (h : i < 7 ∨ 8 ≤ i ∧ i < 16 ∨ 18 ≤ i ∧ i < 24 ∨ 32 ≤ i ∧ i < 40) :
    (k.loadRW r).record.getD i 0 = k.record.getD i 0 := by
  have inside : i < 64 := by omega
  rw [Pick.record_getD _ inside, Pick.record_getD _ inside]
  by_cases same : i < 4 ∨ 8 ≤ i ∧ i < 16 ∨ 20 ≤ i
  · have part : i < 4 ∨ 8 ≤ i ∧ i < 12 ∨ 12 ≤ i ∧ i < 16 ∨ 20 ≤ i ∧ i < 24 ∨ 32 ≤ i ∧ i < 40 := by omega
    rcases part with h | h | h | h | h <;> simp (disch := omega) only [Pick.recordNat, if_pos, if_neg, Pick.loadRW_fixed]
  · have part : i = 4 ∨ i = 5 ∨ i = 6 ∨ i = 18 ∨ i = 19 := by omega
    have queue := k.queue.isLt
    refine BitVec.eq_of_toNat_eq ?_
    rcases part with rfl | rfl | rfl | rfl | rfl <;>
      simp only [Pick.recordNat, Pick.loadRW_fixed, Pick.loadRW_cls, Pick.loadRW_queue, Nat.reduceLT, if_true, if_false,
        BitVec.toNat_ofNat, Nat.reduceSub, Nat.reducePow] <;> omega

/-- R55: the bytes of the record that hold RW bits beside others. -/
theorem Pick.loadRW_record_part (k : Pick) (r : Bytes) :
    (k.loadRW r).record.getD 7 0 = (k.record.getD 7 0 &&& ~~~Claims.rwMask 7) ||| (r.getD 7 0 &&& Claims.rwMask 7)
    ∧ (k.loadRW r).record.getD 17 0 = (k.record.getD 17 0 &&& ~~~Claims.rwMask 17) ||| (r.getD 17 0 &&& Claims.rwMask 17) := by
  have cls := k.cls.isLt
  have queue := k.queue.isLt
  refine ⟨Eq.trans ?_ (and_not_or_and_mask _ _ 3).symm, Eq.trans ?_ (and_not_or_and_mask _ _ 6).symm⟩ <;>
    rw [Pick.record_getD _ (by omega), Pick.record_getD _ (by omega)] <;> refine BitVec.eq_of_toNat_eq ?_ <;>
    simp only [Pick.recordNat, Pick.loadRW_fixed, Pick.loadRW_cls, Pick.loadRW_queue, Nat.reduceLT, if_true, if_false,
      BitVec.toNat_ofNat, Nat.reduceSub, Nat.reducePow] <;> omega

theorem Pick.loadRW_record_full (k : Pick) (r : Bytes) {i : Nat} (h : i = 16 ∨ 24 ≤ i ∧ i < 32 ∨ 40 ≤ i ∧ i < 64) :
    (k.loadRW r).record.getD i 0 = r.getD i 0 := by
  rw [Pick.record_getD _ (by omega), Pick.recordNat, if_neg (by omega), if_neg (by omega), if_neg (by omega), if_neg (by omega)]
  rcases h with rfl | h | h
  · refine BitVec.eq_of_toNat_eq ?_
    simp only [Pick.loadRW_queue, Pick.loadRW_fixed, Nat.reduceLT, if_true, Nat.reduceSub, BitVec.toNat_ofNat]
    omega
  · rw [if_neg (by omega), if_neg (by omega), if_pos (by omega)]
    exact dword_byte r h.1 h.2
  · rw [if_neg (by omega), if_neg (by omega), if_neg (by omega), if_neg (by omega)]
    split_ifs with u0 u1
    · exact dword_byte r h.1 u0
    · exact dword_byte r (Nat.not_lt.1 u0) u1
    · exact dword_byte r (Nat.not_lt.1 u1) h.2

/-- R56: of each byte of the record the RW bits alone change. -/
theorem Pick.loadRW_record (k : Pick) (r : Bytes) {i : Nat} (h : i < 64) :
    (k.loadRW r).record.getD i 0 = (k.record.getD i 0 &&& ~~~Claims.rwMask i) ||| (r.getD i 0 &&& Claims.rwMask i) := by
  by_cases fixed : i < 7 ∨ 8 ≤ i ∧ i < 16 ∨ 18 ≤ i ∧ i < 24 ∨ 32 ≤ i ∧ i < 40
  · rw [Pick.loadRW_record_fixed k r fixed, rwMask_eq_zero fixed]
    exact ((congrArg (_ ||| ·) BitVec.and_zero).trans (BitVec.or_zero.trans BitVec.and_allOnes)).symm
  by_cases full : i = 16 ∨ 24 ≤ i ∧ i < 32 ∨ 40 ≤ i ∧ i < 64
  · rw [Pick.loadRW_record_full k r full, rwMask_eq_full full, show ~~~(0xFF : Byte) = 0 from rfl]
    exact ((congrArg (· ||| _) BitVec.and_zero).trans (BitVec.zero_or.trans BitVec.and_allOnes)).symm
  have part : i = 7 ∨ i = 17 := by omega
  rcases part with rfl | rfl
  · exact (k.loadRW_record_part r).1
  · exact (k.loadRW_record_part r).2

theorem and_not_or_and_self (x m : Byte) : (x &&& ~~~m) ||| (x &&& m) = x := by
  rw [← BitVec.and_or_distrib_left, BitVec.or_comm, BitVec.or_not_self, BitVec.and_allOnes]

/-- R56: the record after the n low bytes of a number are written from offset e. -/
theorem Pick.store_record (k : Pick) {e n i : Nat} (v : Nat) (h : e + n ≤ 64) (hi : i < 64) :
    (k.store e (leBytes v n)).record.getD i 0 = if e ≤ i ∧ i < e + n
      then (k.record.getD i 0 &&& ~~~Claims.rwMask i) ||| (BitVec.ofNat 8 (v / 256 ^ (i - e)) &&& Claims.rwMask i)
      else k.record.getD i 0 := by
  rw [Pick.store_eq_loadRW, Pick.loadRW_record _ _ hi, patch_getD _ _ (by simpa using h), leBytes_length]
  split
  · rw [leBytes_getD (by omega)]
  · exact and_not_or_and_self ..

/-! ### LDP and STP (R56, R84) -/

theorem recordBad_eq_false {e : Int} {n : Nat} (low : 0 ≤ e) (high : e + n ≤ 64) (aligned : e % n = 0) :
    recordBad e n = false := by
  rw [recordBad, decide_eq_false (by omega), decide_eq_false (not_not.2 aligned), Bool.false_or]

theorem recordBad_eq_true {e : Int} {n : Nat} (h : e < 0 ∨ 64 < e + n ∨ e % n ≠ 0) : recordBad e n = true := by
  rw [recordBad, Bool.or_eq_true, decide_eq_true_eq, decide_eq_true_eq, or_assoc]
  exact h

theorem recordRW_any (e n : Nat) :
    (List.range n).any (fun i => recordRW (e + i)) = true ↔ ∃ i < n, Claims.rwMask (e + i) ≠ 0 := by
  simp only [List.any_eq_true, List.mem_range, recordRW_eq_true_iff]

/-- Settles O14: LDP writes the value of the record's bytes (`isValue_extendTo64`); STP loads the RW bits of the record with
the bytes written over it (`Pick.loadRW_record`). -/
theorem recordAccess : Obligations.RecordAccess := by
  rintro s b p d a size sub off k e n h1 h2 h3 rfl rfl
  obtain ⟨one, eight⟩ := two_pow_size size
  have legal := subReserved3_eq_false h1 h2 h3
  refine ⟨fun h => ?_, fun h => ?_⟩ <;> obtain ⟨slot, disp⟩ := State.mayIssueRun_slot (post := false) h
  · refine ⟨fun low high aligned time => ?_, fun bad => ?_⟩
    · refine ⟨_, congrArg Host.Outcome.next (State.issue_writes slot disp ?_),
        isValue_extendTo64 true (sub.getLsbD 0) one eight (slice_length ..) fun i hi => slice_getD k.record hi⟩
      have arrival : ¬ (effOffset (s.bob b) a off < 0x28 ∧ 0x20 < effOffset (s.bob b) a off + (2 ^ size.toNat : Nat)
          ∧ s.timeAware b = false) := by
        rintro ⟨below, above, unaware⟩
        rcases time with aware | before | after
        · exact absurd (aware.symm.trans unaware) (by decide)
        · omega
        · omega
      simp only [sizeBytes, legal, recordBad_eq_false low high aligned, Bool.or_self, Bool.false_eq_true, if_false]
      exact if_neg arrival
    · refine congrArg Host.Outcome.next (State.slot_traps slot disp ?_)
      simp only [sizeBytes, legal, recordBad_eq_true bad, Bool.or_true, if_true]
  · refine ⟨fun low high aligned covered => ?_, fun bad => ?_⟩
    · refine ⟨k.store (effOffset (s.bob b) a off).toNat (leBytes ((s.bob b).rd d).toNat (2 ^ size.toNat)),
        congrArg Host.Outcome.next (State.issue_updPick (fun k => k.store _ (leBytes _ _)) h ?_), rfl, fun i hi => ?_⟩
      · simp only [sizeBytes, leBytes_mod, legal, recordBad_eq_false low high aligned, (recordRW_any ..).2 covered,
          Bool.or_self, Bool.not_true, Bool.false_eq_true, if_false]
      · rw [Pick.store_record k _ (by omega) hi]
        exact if_congr (by omega) rfl rfl
    · refine congrArg Host.Outcome.next (State.slot_traps slot disp ?_)
      by_cases range : recordBad (effOffset (s.bob b) a off) (2 ^ size.toNat) = true
      · simp only [sizeBytes, legal, range, Bool.or_true, if_true]
      have uncovered : ∀ i < 2 ^ size.toNat, Claims.rwMask ((effOffset (s.bob b) a off).toNat + i) = 0 := by
        rcases bad with low | high | misaligned | uncovered
        · exact absurd (recordBad_eq_true (.inl low)) range
        · exact absurd (recordBad_eq_true (.inr (.inl high))) range
        · exact absurd (recordBad_eq_true (.inr (.inr misaligned))) range
        · exact uncovered
      have none_ := mt (recordRW_any ..).1 (fun ⟨i, hi, set⟩ => set (uncovered i hi))
      simp only [sizeBytes, legal, Bool.eq_false_iff.2 range, Bool.eq_false_iff.2 none_, Bool.or_self, Bool.not_false,
        Bool.false_eq_true, if_false, if_true]

end Sys2Proof.Machine
end

section
/-! O3 and O15 to O17: the scratch memory (R58, R72, R85). -/

namespace Sys2Proof.Machine

variable {s : State} {b p : Nat} {k : Pick}

/-- Settles O3: at reset the memories hold no entry. -/
theorem resetMemoriesCanonical : Obligations.ResetMemoriesCanonical :=
  ⟨rfl, rfl, fun _ => rfl⟩

/-! ### Issue (R58, R85) -/

theorem scratchBad_eq_false {e : Int} {n : Nat} (low : 0 ≤ e) (high : e + n ≤ 16384) (aligned : e % n = 0) :
    scratchBad e n = false := by
  rw [scratchBad, decide_eq_false (by omega), decide_eq_false (not_not.2 aligned), Bool.false_or]

theorem scratchBad_eq_true {e : Int} {n : Nat} (h : e < 0 ∨ 16384 < e + n ∨ e % n ≠ 0) : scratchBad e n = true := by
  rw [scratchBad, Bool.or_eq_true, decide_eq_true_eq, decide_eq_true_eq, or_assoc]
  exact h

/-- R85: without a fetch-and-add that a fence waits for, scratch accesses issue. -/
theorem Bobbin.fenceHolds_eq_false {B : Bobbin} (h : B.fenced = true → B.pend.all (fun o => !o.op.isFadd) = true) :
    B.fenceHolds = false := by
  rw [Bobbin.fenceHolds, Bool.and_eq_false_imp]
  exact fun fenced => by simpa using h fenced

/-- Settles O15: LDS and FADD_S pend (`State.slot_goAsync`), STS changes the scratch (`State.slot_goes`) and FENCE its bobbin
(`State.issue_sets`). -/
theorem scratchIssue : Obligations.ScratchIssue := by
  rintro s b p d a c size sub off k e n h1 h2 h3 rfl rfl low high aligned open_
  have legal := subReserved3_eq_false h1 h2 h3
  have good := scratchBad_eq_false low high aligned
  have free := Bobbin.fenceHolds_eq_false open_
  refine ⟨fun h => ?_, fun h => ?_, fun four h => ?_, fun h => ?_⟩
  · obtain ⟨slot, disp⟩ := State.mayIssueRun_slot (post := false) h
    refine congrArg Host.Outcome.next (State.slot_goAsync slot disp ?_)
    simp only [sizeBytes, legal, good, free, Bool.false_eq_true, if_false]
  · obtain ⟨slot, disp⟩ := State.mayIssueRun_slot (post := false) h
    refine ⟨Memory.writeBytes s.shu.scratch (16384 * (b / 128) + (effOffset (s.bob b) a off).toNat)
        (leBytes ((s.bob b).rd d).toNat (2 ^ size.toNat)), congrArg Host.Outcome.next (State.slot_goes slot disp ?_),
      fun i hi => Memory.read_writeBytes_leBytes _ _ _ hi, fun x hx => Memory.read_writeBytes_other _ _ _ (by simpa using hx)⟩
    simp only [sizeBytes, leBytes_mod, legal, good, free, Bool.false_eq_true, if_false]
    rfl
  · obtain ⟨slot, disp⟩ := State.mayIssueRun_slot (post := false) h
    refine congrArg Host.Outcome.next (State.slot_goAsync slot disp ?_)
    simp only [sizeBytes, legal, good, free, Bool.false_or, decide_eq_true_eq, Nat.not_lt.2 four, Bool.false_eq_true, if_false]
  · refine congrArg Host.Outcome.next (State.issue_sets
      (x := { s.bob b with tbNs := none, fenced := (s.bob b).pend.any (fun o => o.op.isFadd) }) h (.inl rfl) ?_ rfl rfl)
    rw [State.bob_setBob]
    rfl

/-- Settles O16: the offset of a scratch access is checked before it does anything. -/
theorem scratchAccessTraps : Obligations.ScratchAccessTraps := by
  rintro s b p d a size sub off k e n h1 h2 h3 rfl rfl
  have legal := subReserved3_eq_false h1 h2 h3
  refine ⟨fun small h => ?_, fun range => ⟨fun h => ?_, fun h => ?_, fun h => ?_⟩⟩ <;>
    obtain ⟨slot, disp⟩ := State.mayIssueRun_slot (post := false) h <;>
    refine congrArg Host.Outcome.next (State.slot_traps slot disp ?_)
  · simp only [sizeBytes, legal, Bool.false_or, decide_eq_true_eq, small, if_true]
  · simp only [sizeBytes, legal, scratchBad_eq_true range, Bool.false_eq_true, if_false, if_true]
  · simp only [sizeBytes, legal, scratchBad_eq_true range, Bool.false_eq_true, if_false, if_true]
  · by_cases small : 2 ^ size.toNat < 4
    · simp only [sizeBytes, legal, Bool.false_or, decide_eq_true_eq, small, if_true]
    · simp only [sizeBytes, legal, scratchBad_eq_true range, Bool.false_or, decide_eq_true_eq, small, if_true, if_false]

/-! ### Completion (R47, R85) -/

@[simp] theorem Bobbin.wr_pend (B : Bobbin) (d : Reg) (v : DWord) : (B.wr d v).pend = B.pend := by
  unfold Bobbin.wr
  split <;> rfl

@[simp] theorem Bobbin.wr_fenced (B : Bobbin) (d : Reg) (v : DWord) : (B.wr d v).fenced = B.fenced := by
  unfold Bobbin.wr
  split <;> rfl

theorem isValue_readBytes (m : Memory) (a : Nat) {n : Nat} (sx : Bool) (hn : n = 1 ∨ n = 2 ∨ n = 4 ∨ n = 8) :
    Claims.isValue (extendTo64 sx n (leNat (Memory.readBytes m a n))) n true sx (fun i => Memory.read m (a + i)) :=
  isValue_extendTo64 true sx (by omega) (by omega) (m.readBytes_length a n) fun _ hi => m.readBytes_getD a hi

theorem exec_faddSDone {d : Reg} {addr n pc at_ : Nat} {sx : Bool} {v : DWord} {rest : List PendOp}
    (pend : (s.bob b).pend = ⟨d, .fadd addr n sx v, pc, at_⟩ :: rest) :
    exec (.faddSDone b d) s = .next
      ((s.scratchWrite (b / 128) addr (leBytes (leNat (s.scratchRead (b / 128) addr n) + v.toNat) n)).setBob b
        { ({ s.bob b with pend := rest } : Bobbin).finish d (extendTo64 sx n (leNat (s.scratchRead (b / 128) addr n))) with
          fenced := (s.bob b).fenced && rest.any (fun o => o.op.isFadd) }) := by
  rw [exec, execFaddSDone, takePend_head pend rfl]
  simp only [Bobbin.finish, Bobbin.wr_pend, Bobbin.wr_fenced]
  rfl

/-- Settles O17: the operation that stands first is the one taken (`takePend_head`). -/
theorem scratchCompletes : Obligations.ScratchCompletes := by
  rintro s b d addr n pc at_ sx v rest base rfl hn
  refine ⟨fun pend => ?_, fun pend => ?_⟩
  · refine ⟨_, ?_, isValue_readBytes s.shu.scratch _ sx hn⟩
    rw [exec, execLdsDone, takePend_head pend rfl]
    rfl
  · exact ⟨_, _, _, exec_faddSDone pend, rfl, fun b' ne => State.bob_setBob_other _ _ ne, State.bob_setBob ..,
      isValue_readBytes s.shu.scratch _ sx hn,
      fun i hi => Memory.read_writeBytes_leBytes _ _ _ hi,
      fun x hx => Memory.read_writeBytes_other _ _ _ (by simpa using hx)⟩

end Sys2Proof.Machine
end

section
/-! O25: `seal` and `open` issue (R93 to R95). -/

namespace Sys2Proof.Machine

variable {s : State} {b p : Nat} {w : Word} {regs : List Reg} {k : Pick} {post : Bool} {eff : State → Bobbin → Pick → Act}

/-! ### The scoreboard bit of a cipher operation's register (R47) -/

/-- The bobbin whose register d awaits its cipher operation. -/
def Bobbin.awaits (B : Bobbin) (d : Reg) : Bobbin :=
  { B with sb := if d = 0 then B.sb else B.sb ||| put 1 d.toNat }

theorem Bobbin.busy_awaits (B : Bobbin) (d : Reg) : (B.awaits d).busy d = (d != 0) := by
  by_cases zero : d = 0
  · subst zero
    rfl
  · rw [Bobbin.busy, Bobbin.awaits, if_neg zero, BitVec.getLsbD_or, put_one_getLsbD_same, Bool.or_true, Bool.and_true]

/-- R69: the bobbin of a cipher instruction goes on, its registers as they were and d pending. -/
theorem Bobbin.goes_awaits (B : Bobbin) (d : Reg) :
    ((B.awaits d).goes (B.pc + 1)).pc = B.pc + 1 ∧ ((B.awaits d).goes (B.pc + 1)).busy d = (d != 0)
      ∧ ∀ r, ((B.awaits d).goes (B.pc + 1)).rd r = B.rd r :=
  ⟨rfl, B.busy_awaits d, fun _ => rfl⟩

/-- R69: a cipher instruction makes the state u of s and its register d awaits the result. -/
theorem State.slot_awaits {u : State} {d : Reg} {pc : Nat} (h : s.mayIssue b w regs k = true) (may : post = true ∨ k.disp = 0)
    (he : eff (s.setBob b { s.bob b with tbNs := none }) (s.bob b) k
      = .go (u.setBob b (({ s.bob b with tbNs := none } : Bobbin).awaits d)) pc) :
    s.issue b w post regs eff = u.setBob b (((s.bob b).awaits d).goes pc) :=
  State.issue_leaves h may he rfl rfl

/-- R48: the latch of a `tb 0` and the scoreboard bit are changes of one bobbin. -/
theorem State.setBob_latch_awaits (held : s.bobPick b = some k) (d : Reg) :
    (s.setBob b { s.bob b with tbNs := none }).setBob b
        (({ s.bob b with tbNs := none } : Bobbin).awaits d)
      = s.setBob b (({ s.bob b with tbNs := none } : Bobbin).awaits d) :=
  State.setBob_setBob _ _ _ (State.bobPick_ne_reset held rfl rfl)

/-! ### The two instructions (R93 to R95) -/

theorem Pick.snapOk_eq_true {sn : Snap} {rx : Bool} (h : k.snap = some sn) (dir : sn.rx = rx) (ok : sn.status = 0) :
    k.snapOk rx = true := by
  simp only [Pick.snapOk, h, dir, ok, beq_self_eq_true, Bool.and_self]

/-- R93: the cipher operation of a `seal`, under the number pn. -/
def sealRequest (s : State) (b : Nat) (d a c : Reg) (sn : Snap) (k : Pick) (pn : DWord) : Cipher :=
  { isOpen := false, d := d, bob := b, pc := (s.bob b).pc, aad := ((s.bob b).rd a).toNat, sci := (s.bob b).rd c, cut := false
    level := k.level false, phase := .job, ord := 0, snap := sn, assoc := k.assoc, pn := pn, result := none, status := 0 }

/-- R94, R95: the cipher operation of an `open`. -/
def openRequest (s : State) (b : Nat) (d a c : Reg) (cut : Bool) (sn : Snap) (k : Pick) : Cipher :=
  { isOpen := true, d := d, bob := b, pc := (s.bob b).pc, aad := ((s.bob b).rd a).toNat, sci := (s.bob b).rd c, cut := cut
    level := k.level cut, phase := .requested, ord := 0, snap := sn, assoc := k.assoc, pn := k.pn, result := none, status := 0 }

/-- R93: `seal` submits its job. -/
theorem exec_sealFrame_submits {d a c : Reg} {sn : Snap} {pn : DWord}
    (h : s.mayIssueRun b (encU 0x23 d a c 0 0) [d, a, c] p k = true) (hc : k.cipher = none) (ho : k.opened = false)
    (look : (s.bob b).pends AsyncOp.isLookAt = false) (next : (s.bob b).pends AsyncOp.isPnNext = false)
    (snap : k.snap = some sn) (ok : k.snapOk false = true) (now : k.servedNow.contains k.assoc = true)
    (served : k.served.find? (fun e => e.1 == k.assoc) = some (k.assoc, pn))
    (inside : ((s.bob b).rd a).toNat ≤ k.frame.length) (room : k.frame.length + 16 ≤ 16128) :
    exec (.sealFrame b d a c 0) s = .next ((s.submitCipher p k (sealRequest s b d a c sn k pn)).setBob b
      (((s.bob b).awaits d).goes ((s.bob b).pc + 1))) := by
  obtain ⟨slot, disp⟩ := State.mayIssueRun_slot (post := false) h
  obtain ⟨-, pick, -⟩ := (s.mayIssueRun_iff ..).1 h
  obtain ⟨held, -⟩ := State.mayIssue_iff.1 slot
  refine congrArg Host.Outcome.next (State.slot_awaits slot disp ?_)
  have fits : ¬ (k.frame.length < ((s.bob b).rd a).toNat ∨ 16128 < k.frame.length + 16) := by omega
  have same := State.setBob_latch_awaits held d
  simp only [Bobbin.awaits, pick] at same
  simp only [Pick.sealedOff_eq_false hc ho, look, next, snap, served, pick, ok, now, if_neg fits, State.bob_setBob, ne_eq,
    not_true_eq_false, decide_false, Bool.not_true, Bool.or_self, Bool.false_eq_true, if_false]
  rw [same]
  rfl

/-- R94, R95: `open` records its request. -/
theorem exec_openFrame_requests {d a c : Reg} {imm : BitVec 6} {sn : Snap}
    (h : s.mayIssueRun b (encU 0x24 d a c 0 imm) [d, a, c] p k = true) (legal : imm.toNat < 2)
    (hc : k.cipher = none) (ho : k.opened = false) (look : (s.bob b).pends AsyncOp.isLookAt = false)
    (snap : k.snap = some sn) (ok : k.snapOk true = true) (cut : imm.getLsbD 0 = true → d = 0 ∧ sn.entry.cut = true)
    (inside : ((s.bob b).rd a).toNat + 16 ≤ k.frame.length) (mem : k.memTrap = false) :
    exec (.openFrame b d a c imm) s = .next
      ((s.setPick p { k.issuesPn with cipher := some (openRequest s b d a c (imm.getLsbD 0) sn k) }).setBob b
        (((s.bob b).awaits d).goes ((s.bob b).pc + 1))) := by
  obtain ⟨slot, disp⟩ := State.mayIssueRun_slot (post := false) h
  obtain ⟨-, pick, hk, -⟩ := (s.mayIssueRun_iff ..).1 h
  obtain ⟨held, -⟩ := State.mayIssue_iff.1 slot
  refine congrArg Host.Outcome.next (State.slot_awaits slot disp ?_)
  have through : (imm.getLsbD 0 && (d != 0 || !sn.entry.cut)) = false := by
    rw [Bool.and_eq_false_imp]
    intro bit
    obtain ⟨rfl, allowed⟩ := cut bit
    rw [allowed]
    rfl
  have same := State.setBob_latch_awaits held d
  simp only [Bobbin.awaits, pick] at same
  simp only [Pick.sealedOff_eq_false hc ho, look, snap, ok, through, mem, decide_eq_false (Nat.not_le.2 legal),
    if_neg (Nat.not_lt.2 inside), State.bob_setBob, pick, same, Bool.not_true, Bool.or_self, Bool.false_eq_true, if_false]
  refine congrArg (Act.go · _) (State.updPick_of_pick _ ?_ hk)
  rw [State.bob_setBob]

theorem imm_low {imm : BitVec 6} (h : imm.toNat < 2) : imm.getLsbD 0 = decide (imm = 1) := by
  have two : imm.toNat = 0 ∨ imm.toNat = 1 := by omega
  rcases two with zero | one
  · rw [BitVec.eq_of_toNat_eq (y := 0) zero]
    rfl
  · rw [BitVec.eq_of_toNat_eq (y := 1) one]
    rfl

theorem Pick.level_eq (k : Pick) (imm : BitVec 6) : k.level (decide (imm = 1)) = if k.cls = 7 ∨ imm = 1 then 2 else 1 := by
  simp only [Pick.level, Bool.or_eq_true, decide_eq_true_eq]

/-- Settles O25: the states that the two equations above name. -/
theorem cipherIssue : Obligations.CipherIssue := by
  intro s b p d a c imm k sn hc ho snap look
  obtain ⟨pc, busy, rd⟩ := (s.bob b).goes_awaits d
  refine ⟨fun pn h next dir ok now served inside room => ?_, fun h legal mem dir ok cut inside => ?_⟩
  · refine ⟨_, _, _, _, exec_sealFrame_submits h hc ho look next snap (Pick.snapOk_eq_true snap dir ok) now served inside room,
      rfl, State.pick_setPick .., rfl, rfl, rfl, rfl, rfl, rfl, rfl, rfl, rfl, ?_, rfl, rfl, rfl, ?_, rfl, ?_⟩
    · exact if_congr decide_eq_true_iff rfl rfl
    · simp [sealRequest, Pick.level]
    · rw [State.bob_setBob]
      exact ⟨pc, busy, rd⟩
  · rw [← decide_eq_true_iff (p := imm = 1), ← imm_low legal] at cut
    refine ⟨_, _, exec_openFrame_requests h legal hc ho look snap (Pick.snapOk_eq_true snap dir ok) cut inside mem,
      rfl, State.pick_setPick .., rfl, rfl, rfl, rfl, rfl, rfl, rfl, rfl, rfl, imm_low legal, ?_, ?_⟩
    · rw [imm_low legal]
      exact k.level_eq imm
    · rw [State.bob_setBob]
      exact ⟨pc, busy, rd⟩

end Sys2Proof.Machine
end

section
/-! SUPPORT. What the work of a power domain's return leaves of the power management (R461 to R463), and the reading of memories
that are cleared or copied (R72, R462), for O56. -/

namespace Sys2Proof.Machine

variable (s : State)

/-! ### Tables and memories -/

theorem tget_filter_key {α : Type} (d : α) (t : Tbl α) (p : Nat → Bool) (k : Nat) :
    tget d (t.filter (fun e => p e.1)) k = if p k then tget d t k else d := by
  induction t with
  | nil => simp [tget]
  | cons e t ih =>
    rw [List.filter_cons]
    by_cases hk : e.1 = k
    · subst hk
      by_cases hp : p e.1 = true <;> simp_all [tget]
    · by_cases hp : p e.1 = true <;> simp_all [tget]

/-- R462: a memory without the bytes of the addresses that p refuses. -/
theorem Memory.read_filter (m : Memory) (p : Nat → Bool) (a : Nat) :
    Memory.read (m.filter (fun e => p e.1)) a = if p a then Memory.read m a else 0 :=
  tget_filter_key 0 m p a

theorem Memory.read_cons (m : Memory) (k : Nat) (v : Byte) (a : Nat) :
    Memory.read ((k, v) :: m) a = if k = a then v else Memory.read m a := rfl

/-- R462: an image copied over a memory. -/
theorem Memory.read_foldl_write {img : Memory} (m : Memory) (wf : Memory.wf img = true) (a : Nat) :
    Memory.read (img.foldl (fun (m : Memory) (e : Host.Cell) => Memory.write m e.1 e.2) m) a
      = if a ∈ img.map Prod.fst then Memory.read img a else Memory.read m a := by
  induction img generalizing m with
  | nil => simp
  | cons e img ih =>
    obtain ⟨k, v⟩ := e
    obtain ⟨-, above, rest⟩ := (tsorted_cons _ k v img).1 wf
    rw [List.foldl_cons, ih _ rest]
    have first : k ∉ img.map Prod.fst := by
      rintro listed
      obtain ⟨x, hx, same⟩ := List.mem_map.1 listed
      exact absurd (above x hx) (by omega)
    by_cases hk : a = k
    · subst hk
      simp [first, Memory.read_cons]
    · simp [Memory.read_write_other _ _ hk, Memory.read_cons, hk, Ne.symm hk]

/-- R72, R462: the scratch of a cluster reads 0. -/
theorem State.clearScratch_read (c a : Nat) : Memory.read (s.clearScratch c).shu.scratch a
    = if a / 16384 = c then 0 else Memory.read s.shu.scratch a := by
  refine (Memory.read_filter s.shu.scratch (fun x => x / 16384 != c) a).trans ?_
  by_cases here : a / 16384 = c <;> simp [here]

/-! ### Sheds and queues of a returning slice (R278, R279, R283) -/

@[simp] theorem State.discard_pmc (i : QItem) (src : Src) (index : Nat) : (s.discard i src index).pmc = s.pmc := by
  unfold State.discard
  (repeat' split) <;> simp [State.occurFrame]

@[simp] theorem State.closedWait_pmc (p : Nat) (i : QItem) : (State.closedWait p s i).1.pmc = s.pmc := by
  unfold State.closedWait
  (repeat' split) <;> simp [State.occurFrame]

@[simp] theorem State.closedQueue_pmc (p q : Nat) : (s.closedQueue p q).pmc = s.pmc := by
  simp only [State.closedQueue, State.setQueue_pmc]
  exact List.foldlRecOn (motive := fun r : State × List QItem => r.1.pmc = s.pmc) _ _ rfl
    fun r h i _ => (State.closedWait_pmc _ _ _).trans h

@[simp] theorem State.setFifo_pmc (q : Nat) (l : List QItem) : (s.setFifo q l).pmc = s.pmc := by
  unfold State.setFifo
  split <;> rfl

@[simp] theorem State.dropNeverFit_pmc (p q : Nat) (longest : Option Nat) (n : Nat) :
    (s.dropNeverFit p q longest n).pmc = s.pmc := by
  induction n generalizing s with
  | zero => rfl
  | succ n ih =>
    unfold State.dropNeverFit
    (repeat' split) <;> simp [ih]

@[simp] theorem State.judgeClass_pmc (p c : Nat) : (s.judgeClass p c).pmc = s.pmc := by
  unfold State.judgeClass
  (repeat' split) <;> simp

@[simp] theorem State.placeShed_pmc (p : Nat) : (s.placeShed p).pmc = s.pmc := by rfl

@[simp] theorem State.switchBank_pmc (p : Nat) : (s.switchBank p).pmc = s.pmc := by
  simp only [State.switchBank]
  split <;> simp

@[simp] theorem State.shedBack_pmc (p : Nat) : (s.shedBack p).pmc = s.pmc := by
  unfold State.shedBack
  (repeat' split) <;> simp

@[simp] theorem State.sliceUp_pmc (k : Nat) : (s.sliceUp k).pmc = s.pmc :=
  (foldl_pmc _ _ _ fun t p => State.shedBack_pmc (t.setPort p { t.port p with credit := 0 }) p).trans
    (foldl_pmc _ _ _ fun _ _ => rfl)

/-! ### Steps and their end (R320, R461) -/

@[simp] theorem State.clearScratch_pmc (c : Nat) : (s.clearScratch c).pmc = s.pmc := by rfl

@[simp] theorem State.cluUp_pmc (c : Nat) (again : Bool) : (s.cluUp c again).pmc = s.pmc := by
  simp [State.cluUp]

@[simp] theorem State.cluFresh_pmc (c : Nat) : (s.cluFresh c).pmc = s.pmc := by
  simp [State.cluFresh]

@[simp] theorem State.stackBack_pmc (st : Nat) : (s.stackBack st).pmc = s.pmc := by
  simp [State.stackBack]

/-- R461: the domain as its steps begin. -/
theorem State.beginSteps_dom (d : Nat) : (s.beginSteps d).dom d = { s.dom d with ready := .stale, upOnce := true } := by
  have begun : (s.beginSteps d).pmc = (s.setDom d { s.dom d with ready := .stale, upOnce := true }).pmc := by
    unfold State.beginSteps
    split
    · exact State.cluUp_pmc ..
    · exact foldl_pmc _ _ _ fun t e => (pmc_ite ..).trans (ite_self _)
    · dsimp only
      split
      · exact State.sliceUp_pmc ..
      · rfl
    · exact foldl_pmc _ _ _ fun t p => (pmc_ite ..).trans (ite_self _)
    · rfl
  rw [State.dom_of_pmc begun, State.dom_setDom]

end Sys2Proof.Machine
end

section
/-! O56: the return of a power domain (R461 to R463, R469, R523). -/

namespace Sys2Proof.Machine

variable {s : State} {d : Nat}

/-! ### Power-up (R461, R462) -/

theorem exec_domainPoweredUp (waking : (s.dom d).st = .waking) (off : (s.dom d).up = false) : exec (.domainPoweredUp d) s
    = .next (if (s.dom d).ready = .quarantined then s.setDom d { s.dom d with up := true }
        else (s.setDom d { s.dom d with up := true }).beginSteps d) := by
  rw [exec, execDomainPoweredUp]
  dsimp only
  rw [if_neg (by simp [waking, off])]

/-- R120, R461, R462: a cluster as it powers up. -/
def Cluster.poweredUp (k : Cluster) (again armed : Bool) : Cluster :=
  if !again then { k with st := .none, card := none, returning := false }
  else { k with
    st := if k.ctlGen = 0 then .stale else .loading
    loadGen := k.ctlGen, retried := false, returning := true, card := none, cardDone := k.ctlGen = 0
    scratchDone := false, copying := armed, copyOnce := false }

theorem State.cluUp_shu (s : State) (c : Nat) (again : Bool) :
    (s.cluUp c again).shu = ((s.clearScratch c).setClu c ((s.clu c).poweredUp again (s.armed c))).shu := by
  cases again with
  | false => rfl
  | true =>
    simp only [State.cluUp, Cluster.poweredUp, Bool.not_true, Bool.false_eq_true, if_false]
    split
    · rfl
    · obtain ⟨_, _, parts⟩ := State.event_parts _ 0 .pmc 2 c 0 0 0
      rw [parts]
      rfl

theorem State.beginSteps_cluster {c : Nat} (kind : domKind d = .cluster c) : (s.beginSteps d).shu
    = ((s.clearScratch c).setClu c ((s.clu c).poweredUp (s.dom d).upOnce (s.armed c))).shu := by
  rw [State.beginSteps]
  simp only [kind]
  exact State.cluUp_shu ..

/-- R174, R461: an engine waits for its tests, unless it is retired and its pair returns from a sleep. -/
def State.untested (bist : Bool) (s : State) (e : Nat) : State :=
  if (s.engine e).st = .quarantined ∧ bist = false then s
  else s.setEngine e { s.engine e with st := .stale, passed := false }

theorem State.untested_engine {bist : Bool} {e : Nat} (serves : (s.engine e).st ≠ .quarantined) :
    (s.untested bist e).engine e = { s.engine e with st := .stale, passed := false } := by
  rw [State.untested, if_neg (fun h => serves h.1), State.engine_setEngine]

theorem State.untested_engine_other {bist : Bool} {e x : Nat} (h : e ≠ x) : (s.untested bist x).engine e = s.engine e := by
  rw [State.untested]
  split
  · rfl
  · exact State.engine_setEngine_other _ _ h

theorem State.beginSteps_pair {p e : Nat} (kind : domKind d = .pair p) (he : e = 2 * p ∨ e = 2 * p + 1)
    (serves : (s.engine e).st ≠ .quarantined) :
    (s.beginSteps d).engine e = { s.engine e with st := .stale, passed := false } := by
  generalize hv : (s.setDom d { s.dom d with ready := .stale, upOnce := true }).setPair p {} = v
  have same : v.engine e = s.engine e := by
    rw [← hv]
    rfl
  have steps : s.beginSteps d = (v.untested (s.dom d).bist (2 * p)).untested (s.dom d).bist (2 * p + 1) := by
    rw [State.beginSteps]
    simp only [kind, hv]
    rfl
  rw [steps, ← same]
  rcases he with rfl | rfl
  · rw [State.untested_engine_other (by omega), State.untested_engine (by rwa [same])]
  · rw [State.untested_engine (by rwa [State.untested_engine_other (by omega), same]), State.untested_engine_other (by omega)]

/-- R120, R461, R462: what a domain's power-up leaves. -/
theorem poweredUp_clauses (waking : (s.dom d).st = .waking) (off : (s.dom d).up = false) :
    ((s.dom d).ready = .quarantined → exec (.domainPoweredUp d) s = .next (s.setDom d { s.dom d with up := true }))
    ∧ ((s.dom d).ready ≠ .quarantined → ∃ t, exec (.domainPoweredUp d) s = .next t ∧ (t.dom d).st = .waking
        ∧ (t.dom d).up = true ∧ (t.dom d).ready = .stale ∧ (t.dom d).upOnce = true
        ∧ (∀ c, domKind d = .cluster c → (t.clu c).card = none
          ∧ ((s.dom d).upOnce = false → (t.clu c).st = .none)
          ∧ ((s.dom d).upOnce = true → (t.clu c).st = (if (s.clu c).ctlGen = 0 then .stale else .loading)
            ∧ (t.clu c).loadGen = (s.clu c).ctlGen ∧ (t.clu c).copying = s.armed c)
          ∧ ∀ a, Memory.read t.shu.scratch a = if a / 16384 = c then 0 else Memory.read s.shu.scratch a)
        ∧ (∀ p e, domKind d = .pair p → e = 2 * p ∨ e = 2 * p + 1 → (s.engine e).st ≠ .quarantined →
          (t.engine e).st = .stale ∧ (t.engine e).passed = false)) := by
  refine ⟨fun gone => by rw [exec_domainPoweredUp waking off, if_pos gone], fun serves => ?_⟩
  generalize hu : s.setDom d { s.dom d with up := true } = u
  have dom : u.dom d = { s.dom d with up := true } := by rw [← hu, State.dom_setDom]
  have begun := u.beginSteps_dom d
  refine ⟨u.beginSteps d, by rw [exec_domainPoweredUp waking off, if_neg serves, hu], by rw [begun, dom, waking],
    by rw [begun, dom], by rw [begun], by rw [begun], fun c kind => ?_, fun p e kind he serving => ?_⟩
  · have shu := State.beginSteps_cluster (s := u) kind
    have scratch : u.shu = s.shu := by rw [← hu]; rfl
    have regs : u.armed c = s.armed c := by rw [← hu]; rfl
    have clu : (u.beginSteps d).clu c = (s.clu c).poweredUp (s.dom d).upOnce (s.armed c) := by
      have same : u.clu c = s.clu c := congrArg (fun h : Shu => tget ({} : Cluster) h.clusters c) scratch
      refine (congrArg (fun h : Shu => tget ({} : Cluster) h.clusters c) shu).trans ?_
      rw [dom, same, regs]
      exact State.clu_setClu ..
    refine ⟨?_, fun first => ?_, fun again => ?_, fun a => ?_⟩
    · rw [clu, Cluster.poweredUp]
      split <;> rfl
    · rw [clu, first]
      rfl
    · rw [clu, again]
      exact ⟨rfl, rfl, rfl⟩
    · rw [shu, ← scratch]
      exact u.clearScratch_read c a
  · have same : u.engine e = s.engine e := by rw [← hu]; rfl
    rw [State.beginSteps_pair kind he (by rwa [same])]
    exact ⟨rfl, rfl⟩

/-! ### The self-test of a return (R463) -/

theorem State.record_requested (q : BbxReq) (room : s.bbx.queue.length < 256) :
    Claims.requested s (s.record q) q.type (fun _ => True) := by
  generalize hp : (fun x : BbxReq => x.cycle == some s.tb.elapsed && decide (q.unit < x.unit)) = p
  generalize hn : (s.bbx.queue.reverse.takeWhile p).length = n
  refine ⟨{ q with cycle := some s.tb.elapsed }, s.bbx.queue.take (s.bbx.queue.length - n),
    s.bbx.queue.drop (s.bbx.queue.length - n), (List.take_append_drop ..).symm, ?_, fun x hx => ?_, rfl, trivial⟩
  · rw [State.record, if_pos room, ← hn, ← hp]
    rfl
  · have listed : x ∈ s.bbx.queue.reverse.takeWhile p := by
      rw [List.prefix_iff_eq_take.1 (List.takeWhile_prefix p), hn, List.take_reverse]
      exact List.mem_reverse.2 hx
    have later := List.mem_takeWhile_imp listed
    rw [← hp] at later
    simpa using later

theorem State.stopEngine_frame (e fault : Nat) :
    (s.stopEngine e fault).bbx = s.bbx ∧ (s.stopEngine e fault).tb = s.tb := by
  obtain ⟨_, _, _, _, parts, -⟩ := s.stopEngine_parts e fault
  rw [parts]
  exact ⟨rfl, rfl⟩

theorem State.bistFaults_bbx : (s.bistFaults d).bbx = s.bbx := by
  unfold State.bistFaults
  split
  · exact State.stopEngine_frame _ 4 |>.1.trans (State.stopEngine_frame _ 4).1
  · rfl

/-- R463: the domain whose self-test has failed, powered down again. -/
def State.bistFailed (s : State) (d : Nat) : State :=
  let f := faultOf d (s.dom d).owed
  ((s.bistFaults d).quarantineDom d (if f.2.1 = 4 then (s.dom d).owed else f.2.1)).faultRec false f.1 f.2.1 f.2.2 0

theorem exec_bistDone (waking : (s.dom d).st = .waking) (on : (s.dom d).up = true) (gone : (s.dom d).ready = .quarantined)
    (pass : Bool) : exec (.bistDone d pass) s = .next (if pass then s.beginSteps d else s.bistFailed d) := by
  rw [exec, execBistDone]
  dsimp only
  rw [if_neg (by simp [waking, on, gone])]
  rfl

theorem bistDone_clauses (waking : (s.dom d).st = .waking) (on : (s.dom d).up = true)
    (gone : (s.dom d).ready = .quarantined) :
    (∃ t, exec (.bistDone d true) s = .next t ∧ (t.dom d).ready = .stale ∧ (t.dom d).up = true
      ∧ (t.dom d).bist = (s.dom d).bist)
    ∧ (∃ t, exec (.bistDone d false) s = .next t ∧ (t.dom d).ready = .quarantined ∧ (t.dom d).up = false
        ∧ (t.dom d).st = (domKind d).bottom ∧ (t.dom d).wake = none ∧ d ∉ t.pmc.wakes
        ∧ (s.bbx.queue.length < 256 → Claims.requested s t 8 (fun _ => True))) := by
  refine ⟨⟨_, exec_bistDone waking on gone true, ?_⟩, ⟨_, exec_bistDone waking on gone false, ?_⟩⟩
  · rw [if_pos rfl, State.beginSteps_dom]
    exact ⟨rfl, on, rfl⟩
  · rw [if_neg Bool.false_ne_true, State.bistFailed]
    generalize faultOf d (s.dom d).owed = f
    generalize hu : (s.bistFaults d).quarantineDom d (if f.2.1 = 4 then (s.dom d).owed else f.2.1) = u
    have bbx : u.bbx = s.bbx := by
      rw [← hu]
      exact State.bistFaults_bbx
    have pmc : (u.faultRec false f.1 f.2.1 f.2.2 0).pmc = u.pmc := by simp
    have down : (u.dom d).IsGone d ∧ (u.dom d).up = false := by
      rw [← hu]
      exact ⟨State.quarantineDom_gone .., by rw [State.quarantineDom]; exact congrArg Dom.up (State.dom_setDom ..)⟩
    obtain ⟨⟨ready, st, wake⟩, up⟩ := down
    rw [State.dom_of_pmc pmc, pmc]
    refine ⟨ready, up, st, wake, ?_, fun room => ?_⟩
    · rw [← hu]
      simp [State.quarantineDom]
    · unfold Claims.requested
      rw [← bbx]
      exact State.record_requested _ (by rwa [bbx])

/-! ### The end of the steps (R120, R320, R461) -/

/-- R120, R320, R461: what the kind of a domain that serves again does. -/
def State.served (s : State) (d : Nat) : State :=
  match domKind d with
  | .cluster c => s.cluFresh c
  | .dram ch => s.stackBack (ch / 4)
  | .quad q => (List.range 4).foldl (fun s i => s.updateLink (s.portOfLane (4 * q + i))) s
  | _ => s

theorem State.served_pmc : (s.served d).pmc = s.pmc := by
  unfold State.served
  split <;> simp

/-- R461: a domain in service. -/
def Dom.serving (D : Dom) (now : Nat) : Dom :=
  { D with st := .p0, ready := .fresh, idleSince := some now, bist := false, owed := 0 }

/-- R443: the RECOVERY record that is due. -/
def State.recovered (s : State) (d owed : Nat) : State :=
  let f := faultOf d owed
  if owed = 0 then s else s.faultRec true f.1 f.2.1 f.2.2 0

theorem State.recovered_parts (owed : Nat) : ∃ bx, s.recovered d owed = { s with bbx := bx } := by
  unfold State.recovered
  dsimp only
  split
  · exact ⟨_, rfl⟩
  · exact State.faultRec_parts ..

theorem exec_domainFresh (waking : (s.dom d).st = .waking) (on : (s.dom d).up = true) (ready : (s.dom d).ready = .stale)
    (done : s.stepsDone d = true) : exec (.domainFresh d) s = .next
      (let u := ((s.setDom d ((s.dom d).serving s.tb.elapsed)).recovered d (s.dom d).owed).served d
       if (s.dom d).bist then u.event 0 .pmc 3 d else u) := by
  rw [exec, execDomainFresh]
  dsimp only
  rw [if_neg (by simp [waking, on, ready, done])]
  rfl

theorem State.cluFresh_clu (c : Nat) : ((s.cluFresh c).clu c).card = (s.clu c).card
    ∧ ((s.cluFresh c).clu c).st = (if (s.clu c).card.any (fun x => x.gen == (s.clu c).ctlGen) then
        (if (s.clu c).heldBack then .held else .fresh)
      else if (s.clu c).ctlGen = 0 then .none else .loading) := by
  unfold State.cluFresh
  dsimp only
  split_ifs <;> rw [State.clu_setClu] <;> exact ⟨rfl, rfl⟩

theorem domainFresh_clauses (waking : (s.dom d).st = .waking) (on : (s.dom d).up = true) (ready : (s.dom d).ready = .stale)
    (done : s.stepsDone d = true) :
    ∃ t, exec (.domainFresh d) s = .next t ∧ (t.dom d).st = .p0 ∧ (t.dom d).ready = .fresh
      ∧ (t.dom d).idleSince = some s.tb.elapsed ∧ (t.dom d).bist = false ∧ (t.dom d).owed = 0
      ∧ (∀ c, domKind d = .cluster c → (t.clu c).card = (s.clu c).card
        ∧ (t.clu c).st = (if (s.clu c).card.any (fun x => x.gen == (s.clu c).ctlGen) then
            (if (s.clu c).heldBack then .held else .fresh)
          else if (s.clu c).ctlGen = 0 then .none else .loading))
      ∧ (∀ k, domKind d = .slice k → (s.dom d).bist = false → (s.dom d).owed = 0 →
        t = s.setDom d { s.dom d with
          st := .p0, ready := .fresh, idleSince := some s.tb.elapsed, bist := false, owed := 0 }) := by
  generalize hv : s.setDom d ((s.dom d).serving s.tb.elapsed) = v
  obtain ⟨bx, record⟩ := v.recovered_parts (d := d) (s.dom d).owed
  generalize hu : (v.recovered d (s.dom d).owed).served d = u
  have step := exec_domainFresh waking on ready done
  dsimp only at step
  rw [hv, hu] at step
  generalize ht : (if (s.dom d).bist then u.event 0 .pmc 3 d else u) = t at step
  have same : t.pmc = u.pmc ∧ t.shu = u.shu := by
    rw [← ht]
    split <;> simp
  obtain ⟨pmc, shu⟩ := same
  have dom : t.dom d = (s.dom d).serving s.tb.elapsed := by
    have left : u.pmc = v.pmc := by rw [← hu, State.served_pmc, record]
    rw [State.dom_of_pmc (pmc.trans left), ← hv, State.dom_setDom]
  refine ⟨t, step, by rw [dom]; rfl, by rw [dom]; rfl, by rw [dom]; rfl, by rw [dom]; rfl, by rw [dom]; rfl,
    fun c kind => ?_, fun k kind first due => ?_⟩
  · have clu : t.clu c = ((v.recovered d (s.dom d).owed).cluFresh c).clu c := by
      refine congrArg (fun h : Shu => tget ({} : Cluster) h.clusters c) (shu.trans ?_)
      rw [← hu, State.served, kind]
    have before : (v.recovered d (s.dom d).owed).clu c = s.clu c := by
      rw [record, ← hv]
      rfl
    rw [clu, ← before]
    exact State.cluFresh_clu c
  · rw [← ht, first, if_neg Bool.false_ne_true, ← hu, State.served, kind, due, State.recovered, if_pos rfl, ← hv]
    rfl

/-! ### PMC_RETURN (R463, R469, R523) -/

theorem regRowsAt_pmc {off : Nat} (h : 0x20_0000 ≤ off) (h' : off < 0x30_0000) : regRowsAt off = regRowsPmc := by
  simp only [regRowsAt]
  (repeat rw [if_neg (by omega)])
  exact if_pos h'

theorem bar0Target_pmcReturn (v : Variant) : bar0Target v 0x20_0608 = .reg regRowsPmc[5] 0 0 :=
  bar0Target_of_present (locate_of_getElem 5 (by decide) (regRowsAt_pmc (by omega) (by omega)) (by decide) (by decide))
    (by simp [blockAbsent]) (by decide) rfl

theorem bar0Target_pmcScrReload (v : Variant) : bar0Target v 0x20_060C = .reg regRowsPmc[6] 0 0 :=
  bar0Target_of_present (locate_of_getElem 6 (by decide) (regRowsAt_pmc (by omega) (by omega)) (by decide) (by decide))
    (by simp [blockAbsent]) (by decide) rfl

/-- R463: a write of PMC_RETURN that names domain d. -/
theorem returnWord_fields {v : Word} (hd : d < 96) (hv : v.toNat = 2 ^ 31 + d) :
    v &&& ~~~0x8000_007F = 0 ∧ fld v 0 7 = d ∧ v.getLsbD 31 = true := by
  have all : ∀ d < 96, BitVec.ofNat 32 (2 ^ 31 + d) &&& ~~~0x8000_007F = 0 ∧ fld (BitVec.ofNat 32 (2 ^ 31 + d)) 0 7 = d
      ∧ (BitVec.ofNat 32 (2 ^ 31 + d)).getLsbD 31 = true := by decide
  have word : v = BitVec.ofNat 32 (2 ^ 31 + d) := by rw [← hv, BitVec.ofNat_toNat, BitVec.setWidth_eq]
  rw [word]
  exact all d hd

theorem exec_pmcReturn {v : Word} (hr : s.pins.inReset = false) (hl : s.lcShut = false) (hd : d < 96)
    (here : s.variant.domain d = true) (hv : v.toNat = 2 ^ 31 + d) : exec (.pmcReturn v) s = .next (s.returnWrite v) := by
  obtain ⟨bits, names, -⟩ := returnWord_fields hd hv
  rw [exec, execPmcReturn, State.hostWrite_reg v hr hl (by omega) (bar0Target_pmcReturn _),
    State.writeReg_apply (by omega) bits (by decide) (by decide) rfl (by simp [State.namesAbsent, regRowsPmc, names, here])]
  rfl

theorem State.returnWrite_eq {v : Word} (hd : d < 96) (here : s.variant.domain d = true) (hv : v.toNat = 2 ^ 31 + d) :
    s.returnWrite v = if (s.dom d).ready = .quarantined then
        if (s.dom d).bist then s else (s.setDom d { s.dom d with bist := true }).askWake d .back
      else if 24 ≤ d ∧ d < 48 ∧ s.halfRetired (d - 24) = true then
        (s.setPair (d - 24) { s.pair (d - 24) with leaving := true }).leavePair (d - 24)
      else s.pmcReject := by
  obtain ⟨-, names, set_⟩ := returnWord_fields hd hv
  unfold State.returnWrite
  simp only [names, set_, here, Bool.not_true, Bool.false_eq_true, if_false]

/-- R458: a sleeping domain asked to wake. -/
theorem State.askWake_sleeping {why : WakeWhy} (here : s.variant.domain d = true) (deep : (s.dom d).st.deep = true)
    (none_ : (s.dom d).wake = none) : ((s.askWake d why).dom d) = { s.dom d with wake := some (why, s.tb.elapsed) }
      ∧ (s.askWake d why).pmc.wakes = s.pmc.wakes ++ [d] := by
  have asks : s.askWake d why = { s.setDom d { s.dom d with wake := some (why, s.tb.elapsed) } with
      pmc := { (s.setDom d { s.dom d with wake := some (why, s.tb.elapsed) }).pmc with wakes := s.pmc.wakes ++ [d] } } := by
    unfold State.askWake
    dsimp only
    rw [if_neg (by simp [here, deep, none_])]
    rfl
  rw [asks]
  exact ⟨State.dom_setDom .., rfl⟩

theorem pmcReturn_clauses (v : Word) (hr : s.pins.inReset = false) (hl : s.lcShut = false) (hd : d < 96)
    (here : s.variant.domain d = true) (hv : v.toNat = 2 ^ 31 + d) :
    ((s.dom d).ready = .quarantined → (s.dom d).bist = false → (s.dom d).wake = none → (s.dom d).st.deep = true →
      ∃ t, exec (.pmcReturn v) s = .next t ∧ (t.dom d).wake = some (.back, s.tb.elapsed) ∧ (t.dom d).bist = true
        ∧ t.pmc.wakes = s.pmc.wakes ++ [d])
    ∧ ((s.dom d).ready ≠ .quarantined → d < 24 ∨ 48 ≤ d → exec (.pmcReturn v) s = .next s.pmcReject)
    ∧ (∀ p, d = 24 + p → p < 24 → (s.dom d).ready = .fresh → (s.engine (2 * p)).st ≠ .quarantined →
      (s.engine (2 * p + 1)).st = .quarantined → s.idle d = false →
      exec (.pmcReturn v) s = .next (s.setPair p { s.pair p with leaving := true })) := by
  rw [exec_pmcReturn hr hl hd here hv, State.returnWrite_eq hd here hv]
  refine ⟨fun gone idle none_ deep => ?_, fun serves other => ?_, fun p hp hp24 fresh one two busy => ?_⟩
  · generalize hu : s.setDom d { s.dom d with bist := true } = u
    have dom : u.dom d = { s.dom d with bist := true } := by rw [← hu, State.dom_setDom]
    have frame : u.variant = s.variant ∧ u.tb = s.tb ∧ u.pmc.wakes = s.pmc.wakes := by
      rw [← hu]
      exact ⟨rfl, rfl, rfl⟩
    obtain ⟨variant, tb, wakes⟩ := frame
    obtain ⟨asked, queue⟩ := State.askWake_sleeping (s := u) (d := d) (why := .back) (by rw [variant, here])
      (by rw [dom, deep]) (by rw [dom, none_])
    refine ⟨u.askWake d .back, ?_, by rw [asked, tb], by rw [asked, dom], by rw [queue, wakes]⟩
    rw [if_pos gone, if_neg (by simp [idle])]
  · rw [if_neg serves, if_neg (by omega)]
  · subst hp
    have half : s.halfRetired p = true := by
      simp [State.halfRetired, one, two, fresh]
    rw [if_neg (by simp [fresh]), if_pos ⟨by omega, by omega, by simpa using half⟩, Nat.add_sub_cancel_left, State.leavePair]
    have stays : (s.setPair p { s.pair p with leaving := true }).idle (24 + p) = false := by
      rw [← busy]
      have kind : domKind (24 + p) = .pair p := by simpa using domKind_pair (d := 24 + p) (by omega) (by omega)
      simp only [State.idle, kind]
      rfl
    dsimp only
    rw [if_neg (by simp [stays])]

/-! ### PMC_SCR_RELOAD and scratch images (R462) -/

/-- R462: the copy of a STALE cluster's image begins. -/
def State.beginCopy (v : Word) (s : State) (c : Nat) : State :=
  if v.getLsbD c && s.staleScratch c then s.setClu c { s.clu c with copying := true, copyOnce := true } else s

theorem State.beginCopy_frame (v : Word) (x : Nat) : (s.beginCopy v x).regs = s.regs ∧ (s.beginCopy v x).variant = s.variant
    ∧ (s.beginCopy v x).pmc = s.pmc := by
  unfold State.beginCopy
  split <;> exact ⟨rfl, rfl, rfl⟩

theorem State.beginCopy_clu_other (v : Word) {c x : Nat} (h : c ≠ x) : (s.beginCopy v x).clu c = s.clu c := by
  unfold State.beginCopy
  split
  · exact State.clu_setClu_other _ _ h
  · rfl

theorem State.beginCopy_copying (v : Word) {c x : Nat} (h : (s.clu c).copying = true) :
    ((s.beginCopy v x).clu c).copying = true := by
  by_cases same : c = x
  · subst same
    unfold State.beginCopy
    split
    · rw [State.clu_setClu]
    · exact h
  · rwa [State.beginCopy_clu_other v same]

/-- R462: a cluster whose scratch waits for its image copies once its bit is written. -/
theorem State.foldl_beginCopy {v : Word} {c : Nat} {l : List Nat} (hc : c ∈ l) (bit : v.getLsbD c = true)
    (returning : (s.clu c).returning = true) (undone : (s.clu c).scratchDone = false) (waking : (s.dom c).st = .waking) :
    ((l.foldl (State.beginCopy v) s).clu c).copying = true := by
  obtain ⟨before, after, rfl⟩ := List.append_of_mem hc
  rw [List.foldl_append, List.foldl_cons]
  refine List.foldlRecOn (motive := fun t : State => (t.clu c).copying = true) after _ ?_
    fun t ht x _ => State.beginCopy_copying v ht
  have ready : (((before.foldl (State.beginCopy v) s).clu c).copying = true
      ∨ (before.foldl (State.beginCopy v) s).clu c = s.clu c) ∧ (before.foldl (State.beginCopy v) s).dom c = s.dom c := by
    refine List.foldlRecOn (motive := fun t : State => ((t.clu c).copying = true ∨ t.clu c = s.clu c) ∧ t.dom c = s.dom c)
      before _ ⟨.inr rfl, rfl⟩ fun t ⟨ht, dom⟩ x _ => ⟨?_, ?_⟩
    · rcases ht with copying | same
      · exact .inl (State.beginCopy_copying v copying)
      · by_cases here : c = x
        · subst here
          unfold State.beginCopy
          split
          · exact .inl (by rw [State.clu_setClu])
          · exact .inr same
        · exact .inr ((State.beginCopy_clu_other v here).trans same)
    · obtain ⟨-, -, pmc⟩ := State.beginCopy_frame (s := t) v x
      exact (State.dom_of_pmc pmc c).trans dom
  generalize before.foldl (State.beginCopy v) s = t at ready
  obtain ⟨copying | same, dom⟩ := ready
  · exact State.beginCopy_copying v copying
  · by_cases copying : (t.clu c).copying = true
    · exact State.beginCopy_copying v copying
    · rw [State.beginCopy, if_pos (by simp [bit, State.staleScratch, same ▸ copying, same, returning, undone, dom, waking]),
        State.clu_setClu]

theorem State.foldl_beginCopy_reg (v : Word) (l : List Nat) (id : RegId) :
    (l.foldl (State.beginCopy v) s).reg id = s.reg id := by
  have frame := List.foldlRecOn (motive := fun t : State => t.regs = s.regs ∧ t.variant = s.variant) l (State.beginCopy v)
    ⟨rfl, rfl⟩ fun t ⟨regs, variant⟩ x _ =>
      let ⟨regs', variant', _⟩ := State.beginCopy_frame (s := t) v x
      ⟨regs'.trans regs, variant'.trans variant⟩
  simp only [State.reg, frame]

theorem exec_pmcScrReload {v : Word} (hr : s.pins.inReset = false) (hl : s.lcShut = false)
    (hv : v.toNat < 2 ^ s.variant.clusters) : exec (.pmcScrReload v) s = .next (s.scrReload v) := by
  have small : v.toNat < 2 ^ 24 := hv.trans_le (Nat.pow_le_pow_right (by decide) s.variant.clusters_le)
  have present : s.namesAbsent .pmcScrReload v = false := by
    simp only [State.namesAbsent, fld, Nat.pow_zero, Nat.div_one, Nat.mod_eq_of_lt small]
    exact decide_eq_false (Nat.not_le.2 hv)
  rw [exec, execPmcScrReload, State.hostWrite_reg v hr hl (by omega) (bar0Target_pmcScrReload _),
    State.writeReg_apply (by omega) (and_not_eq_zero_of_lt 24 small (by decide)) (by decide) (by decide) rfl present]
  rfl

theorem pmcScrReload_clauses (v : Word) (hr : s.pins.inReset = false) (hl : s.lcShut = false)
    (hv : v.toNat < 2 ^ s.variant.clusters) :
    ∃ t, exec (.pmcScrReload v) s = .next t ∧ t.reg .pmcScrReload = v
      ∧ ∀ c, c < s.variant.clusters → v.getLsbD c = true → (s.clu c).returning = true → (s.clu c).scratchDone = false →
        (s.dom c).st = .waking → (t.clu c).copying = true := by
  refine ⟨_, exec_pmcScrReload hr hl hv, ?_, fun c here bit returning undone waking => ?_⟩
  · refine (State.foldl_beginCopy_reg (s := s.setReg .pmcScrReload 0 0 (v &&& 0xFF_FFFF)) v _ _).trans
      ((State.reg_setReg ..).trans (BitVec.eq_of_toNat_eq ?_))
    rw [BitVec.toNat_and]
    exact (Nat.and_two_pow_sub_one_eq_mod v.toNat 24).trans
      (Nat.mod_eq_of_lt (hv.trans_le (Nat.pow_le_pow_right (by decide) s.variant.clusters_le)))
  · exact State.foldl_beginCopy (s := s.setReg .pmcScrReload 0 0 (v &&& 0xFF_FFFF)) (List.mem_range.2 here) bit returning
      undone waking

/-- R462: an image copied over a cluster's cleared scratch reads as the image there and as before elsewhere. -/
theorem Memory.read_copied (m : Memory) {img : Memory} (wf : Memory.wf img = true) (c a : Nat) :
    Memory.read ((img.filter (fun e => e.1 / 16384 == c)).foldl (fun (m : Memory) (e : Host.Cell) => Memory.write m e.1 e.2)
        (m.filter (fun e => e.1 / 16384 != c))) a
      = if a / 16384 = c then Memory.read img a else Memory.read m a := by
  have part := Memory.read_filter img (fun x => x / 16384 == c) a
  have left := Memory.read_filter m (fun x => x / 16384 != c) a
  rw [Memory.read_foldl_write _ (Memory.wf_filter _ wf)]
  by_cases here : a / 16384 = c
  · rw [if_pos (by simpa using here)] at part
    rw [if_neg (by simpa using here)] at left
    rw [if_pos here, ← part, left]
    split
    · rfl
    · next absent => exact (tget_of_not_mem 0 absent).symm
  · rw [if_pos (by simpa using here)] at left
    rw [if_neg here, left, if_neg]
    rintro listed
    obtain ⟨e, he, rfl⟩ := List.mem_map.1 listed
    exact here (by simpa using (List.mem_filter.1 he).2)

theorem scratchCopyDone_clauses {c : Nat} (copying : (s.clu c).copying = true) (wf : Memory.wf s.shu.images = true) :
    ∃ t, exec (.scratchCopyDone c) s = .next t ∧ (t.clu c).copying = false ∧ (t.clu c).scratchDone = true
      ∧ (∀ a, Memory.read t.shu.scratch a =
        if a / 16384 = c then Memory.read s.shu.images a else Memory.read s.shu.scratch a)
      ∧ (c < 24 → (s.clu c).copyOnce = true → (t.reg .pmcScrReload).getLsbD c = false) := by
  generalize hk : ({ s.clu c with copying := false, scratchDone := true, copyOnce := false } : Cluster) = k
  generalize hm : (s.shu.images.filter (fun e => e.1 / 16384 == c)).foldl
    (fun (m : Memory) (e : Host.Cell) => Memory.write m e.1 e.2) (s.clearScratch c).shu.scratch = m
  generalize hu : State.setClu { s with shu := { s.shu with scratch := m } } c k = u
  have step : exec (.scratchCopyDone c) s = .next (if (s.clu c).copyOnce
      then u.setReg .pmcScrReload 0 0 (u.reg .pmcScrReload &&& ~~~(put 1 c)) else u) := by
    rw [exec, execScratchCopyDone]
    dsimp only
    rw [if_neg (by simp [copying]), ← hu, ← hk, ← hm]
    rfl
  generalize ht : (if (s.clu c).copyOnce = true
      then u.setReg .pmcScrReload 0 0 (u.reg .pmcScrReload &&& ~~~(put 1 c)) else u) = t at step
  have shu : t.shu = u.shu := by
    rw [← ht]
    split <;> rfl
  have clu : t.clu c = k := by
    refine (congrArg (fun h : Shu => tget ({} : Cluster) h.clusters c) shu).trans ?_
    rw [← hu]
    exact State.clu_setClu ..
  refine ⟨t, step, by rw [clu, ← hk], by rw [clu, ← hk], fun a => ?_, fun here once => ?_⟩
  · rw [shu, ← hu, ← Memory.read_copied s.shu.scratch wf c a]
    exact congrArg (Memory.read · a) hm.symm
  · rw [← ht, if_pos once, State.reg_setReg, BitVec.getLsbD_and, BitVec.getLsbD_not, put_one_getLsbD (by omega)]
    simp

/-- Settles O56: clause by clause, the states that the commands of a return leave. -/
theorem powerReturns : Obligations.PowerReturns := by
  rintro s d D rfl
  exact ⟨poweredUp_clauses, bistDone_clauses, domainFresh_clauses,
    fun v hr hl hd here hv => pmcReturn_clauses v hr hl hd here hv, pmcScrReload_clauses,
    fun c => scratchCopyDone_clauses⟩

end Sys2Proof.Machine
end

section
/-! SUPPORT. The frame of the byte memories, for O4: one rule `State.f_mems` for each function `f` of the model that changes none
of them, in the order of the model, each proved from the rules of the functions it calls; `simp` carries the memories through
conditionals and folds by the rules at the head of this part. -/

namespace Sys2Proof.Machine

/-- The scratch, the scratch images and the key pages of t are those of s. -/
@[simp] abbrev SameMems (s t : State) : Prop :=
  t.shu.scratch = s.shu.scratch ∧ t.shu.images = s.shu.images ∧ t.hif.pages = s.hif.pages

theorem SameMems.refl (s : State) : SameMems s s := ⟨rfl, rfl, rfl⟩

theorem SameMems.trans {s t u : State} (h : SameMems t u) (k : SameMems s t) : SameMems s u :=
  ⟨h.1.trans k.1, h.2.1.trans k.2.1, h.2.2.trans k.2.2⟩

theorem SameMems.memInv {s t : State} (h : SameMems s t) (k : s.MemInv) : t.MemInv := by
  obtain ⟨scratch, images, pages⟩ := h
  obtain ⟨wf, wfImages, wfPages⟩ := k
  exact ⟨scratch ▸ wf, images ▸ wfImages, fun f => by rw [State.page, pages]; exact wfPages f⟩

@[simp] theorem mems_ite (p : Prop) [Decidable p] (s t : State) :
    (if p then s else t).shu.scratch = (if p then s.shu.scratch else t.shu.scratch)
      ∧ (if p then s else t).shu.images = (if p then s.shu.images else t.shu.images)
      ∧ (if p then s else t).hif.pages = (if p then s.hif.pages else t.hif.pages) := by
  split <;> exact ⟨rfl, rfl, rfl⟩

@[simp] theorem mems_fst_ite {α : Type} (p : Prop) [Decidable p] (x y : State × α) :
    (if p then x else y).1.shu.scratch = (if p then x.1.shu.scratch else y.1.shu.scratch)
      ∧ (if p then x else y).1.shu.images = (if p then x.1.shu.images else y.1.shu.images)
      ∧ (if p then x else y).1.hif.pages = (if p then x.1.hif.pages else y.1.hif.pages) := by
  split <;> exact ⟨rfl, rfl, rfl⟩

@[simp] theorem mems_snd_ite {α : Type} (p : Prop) [Decidable p] (x y : α × State) :
    (if p then x else y).2.shu.scratch = (if p then x.2.shu.scratch else y.2.shu.scratch)
      ∧ (if p then x else y).2.shu.images = (if p then x.2.shu.images else y.2.shu.images)
      ∧ (if p then x else y).2.hif.pages = (if p then x.2.hif.pages else y.2.hif.pages) := by
  split <;> exact ⟨rfl, rfl, rfl⟩

theorem foldl_same {α β : Type} (g : State → β) {f : State → α → State} (l : List α) (s : State)
    (h : ∀ t x, g (f t x) = g t) : g (l.foldl f s) = g s :=
  List.foldlRecOn (motive := fun t : State => g t = g s) l f rfl fun t ht x _ => (h t x).trans ht

@[simp] theorem foldl_scratch {α : Type} (f : State → α → State) (l : List α) (s : State)
    (h : ∀ t x, (f t x).shu.scratch = t.shu.scratch) : (l.foldl f s).shu.scratch = s.shu.scratch :=
  foldl_same (fun t => t.shu.scratch) l s h

@[simp] theorem foldl_images {α : Type} (f : State → α → State) (l : List α) (s : State)
    (h : ∀ t x, (f t x).shu.images = t.shu.images) : (l.foldl f s).shu.images = s.shu.images :=
  foldl_same (fun t => t.shu.images) l s h

@[simp] theorem foldl_pages {α : Type} (f : State → α → State) (l : List α) (s : State)
    (h : ∀ t x, (f t x).hif.pages = t.hif.pages) : (l.foldl f s).hif.pages = s.hif.pages :=
  foldl_same (fun t => t.hif.pages) l s h

theorem foldl_mems {α : Type} (f : State → α → State) (l : List α) (s : State) (h : ∀ t x, SameMems t (f t x)) :
    SameMems s (l.foldl f s) :=
  List.foldlRecOn (motive := fun t : State => SameMems s t) l f (SameMems.refl s) fun t ht x _ => (h t x).trans ht

/-- What an instruction's effect leaves has the memories of s. -/
def Act.Same (s : State) : Act → Prop
  | .stall t => SameMems s t
  | .trap _ => True
  | .go t _ => SameMems s t
  | .free t => SameMems s t

@[simp] theorem Act.same_stall (s t : State) : (Act.stall t).Same s ↔ SameMems s t := Iff.rfl

@[simp] theorem Act.same_trap (s : State) (t : Trap) : (Act.trap t).Same s := trivial

@[simp] theorem Act.same_go (s t : State) (pc : Nat) : (Act.go t pc).Same s ↔ SameMems s t := Iff.rfl

@[simp] theorem Act.same_free (s t : State) : (Act.free t).Same s ↔ SameMems s t := Iff.rfl

@[simp] theorem Act.same_ite (s : State) (p : Prop) [Decidable p] (x y : Act) :
    (if p then x else y).Same s ↔ if p then x.Same s else y.Same s := by
  split <;> rfl

/-- A state that a command's check answers has the memories of s. -/
def OkSame (s : State) (x : Except HStat State) : Prop := ∀ t, x = .ok t → SameMems s t

@[simp] theorem okSame_error (s : State) (st : HStat) : OkSame s (.error st) := by simp [OkSame]

@[simp] theorem okSame_ok (s t : State) : OkSame s (.ok t) ↔ SameMems s t := by simp [OkSame]

@[simp] theorem okSame_ite (s : State) (p : Prop) [Decidable p] (x y : Except HStat State) :
    OkSame s (if p then x else y) ↔ if p then OkSame s x else OkSame s y := by
  split <;> rfl

/-- A command's next state has the memories of s. -/
def KeepsMems (s : State) (o : Host.Outcome State Fault Refusal) : Prop := ∀ t, o = .next t → SameMems s t

@[simp] theorem keepsMems_next (s t : State) : KeepsMems s (.next t) ↔ SameMems s t := by
  simp [KeepsMems]

variable (s : State)

/-! ### Reports -/

@[simp] theorem State.setRing_mems (f r : Nat) (x : Ring) : SameMems s (s.setRing f r x) := ⟨rfl, rfl, rfl⟩

@[simp] theorem State.setBob_mems (b : Nat) (x : Bobbin) : SameMems s (s.setBob b x) := ⟨rfl, rfl, rfl⟩

@[simp] theorem State.setClu_mems (c : Nat) (x : Cluster) : SameMems s (s.setClu c x) := ⟨rfl, rfl, rfl⟩

theorem State.setReg_mems (id : RegId) (i j : Nat) (w : Word) : SameMems s (s.setReg id i j w) := ⟨rfl, rfl, rfl⟩

theorem State.setDom_mems (d : Nat) (x : Dom) : SameMems s (s.setDom d x) := ⟨rfl, rfl, rfl⟩

theorem State.touchDom_mems (d : Nat) : SameMems s (s.touchDom d) := ⟨rfl, rfl, rfl⟩

theorem State.setLane_mems (l : Nat) (x : Lane) : SameMems s (s.setLane l x) := ⟨rfl, rfl, rfl⟩

theorem State.setWport_mems (n : Nat) (x : Weft) : SameMems s (s.setWport n x) := ⟨rfl, rfl, rfl⟩

theorem State.setPair_mems (p : Nat) (x : Pair) : SameMems s (s.setPair p x) := ⟨rfl, rfl, rfl⟩

theorem State.setAssoc_mems (i : Nat) (x : AtEntry) : SameMems s (s.setAssoc i x) := ⟨rfl, rfl, rfl⟩

theorem State.setQueue_mems (q : Nat) (x : Queue) : SameMems s (s.setQueue q x) := ⟨rfl, rfl, rfl⟩

theorem State.setGroup_mems (g : Nat) (x : Group) : SameMems s (s.setGroup g x) := ⟨rfl, rfl, rfl⟩

@[simp] theorem State.err_mems (f bit : Nat) : SameMems s (s.err f bit) := by simp [State.err]

@[simp] theorem State.accessErr_mems (f : Nat) (bar2 : Bool) (off bit : Nat) : SameMems s (s.accessErr f bar2 off bit) := by
  simp [State.accessErr]

@[simp] theorem State.signal_mems (f vec : Nat) : SameMems s (s.signal f vec) := by
  unfold State.signal
  (repeat' split) <;> simp

@[simp] theorem State.ringSignal_mems (f r : Nat) : SameMems s (s.ringSignal f r) := by simp [State.ringSignal]

@[simp] theorem State.ringDone_mems (f r : Nat) (now : Bool) : SameMems s (s.ringDone f r now) := by simp [State.ringDone]

@[simp] theorem State.ringStop_mems (f r : Nat) (code : BitVec 3) : SameMems s (s.ringStop f r code) := by
  simp [State.ringStop]

@[simp] theorem State.complete_mems (f r : Nat) (st : HStat) (r0 r1 r2 : Nat) (tr : Bool) :
    SameMems s (s.complete f r st r0 r1 r2 tr) := by
  simp only [State.complete]
  split <;> simp

@[simp] theorem State.completeOut_mems (f r : Nat) (o : Bytes) (n : Bool) : SameMems s (s.completeOut f r o n) := by
  unfold State.completeOut
  split <;> simp

@[simp] theorem State.event_mems (d : Nat) (u : EvUnit) (c w0 w1 w2 w3 : Nat) : SameMems s (s.event d u c w0 w1 w2 w3) := by
  simp [State.event]

@[simp] theorem State.evcEnd_mems (n : Nat) : SameMems s (s.evcEnd n) := by simp [State.evcEnd]

@[simp] theorem State.evcAdd_mems (n a fuel : Nat) : SameMems s (s.evcAdd n a fuel) := by
  induction fuel generalizing s n a with
  | zero => exact SameMems.refl s
  | succ fuel ih =>
    simp only [State.evcAdd]
    (repeat' split) <;> simp [ih]

@[simp] theorem State.occurAll_mems (a b c d : Nat) (k : Option Nat) (m : Nat) (l : List Nat) :
    SameMems s (s.occurAll a b c d k m l) := by
  induction l generalizing s with
  | nil => exact SameMems.refl s
  | cons n l ih => simp [State.occurAll, ih]

@[simp] theorem State.occurWith_mems (x : Src) (i d m : Nat) (c : Option Nat) (n : Nat) :
    SameMems s (s.occurWith x i d m c n) := by
  simp [State.occurWith]

@[simp] theorem State.occur_mems (x : Src) (i n : Nat) : SameMems s (s.occur x i n) := by simp [State.occur]

@[simp] theorem State.occurPick_mems (k : Pick) (x : Src) (i : Nat) : SameMems s (s.occurPick k x i) := by
  simp [State.occurPick]

theorem State.record_mems (q : BbxReq) : SameMems s (s.record q) := by simp

@[simp] theorem State.freeBob_mems (b : Nat) : SameMems s (s.freeBob b) := ⟨rfl, rfl, rfl⟩

@[simp] theorem State.dropPick_mems (p r : Nat) : SameMems s (s.dropPick p r) := by
  unfold State.dropPick
  split <;> simp

@[simp] theorem State.advance_mems (b pc : Nat) : SameMems s (s.advance b pc) := ⟨rfl, rfl, rfl⟩

@[simp] theorem goAsync_same (b : Nat) (B : Bobbin) (d : Reg) (op : AsyncOp) (t : State) :
    (goAsync s b B d op).Same t ↔ SameMems t s := by
  simp [goAsync]

end Sys2Proof.Machine
end

section
/-! SUPPORT. The functions and commands that change none of the byte memories, in the order of the model. -/

namespace Sys2Proof.Machine
variable (s : State)

/-! ### The shared operations -/

@[simp] theorem State.completeStop_mems (f r : Nat) (st : HStat) (code : BitVec 3) :
    SameMems s (s.completeStop f r st code) := by
  simp [State.completeStop]

@[simp] theorem State.draw_mems : SameMems s s.draw.2 := ⟨rfl, rfl, rfl⟩

@[simp] theorem State.freeNo_mems : SameMems s s.freeNo.2 := ⟨rfl, rfl, rfl⟩

@[simp] theorem State.freeBits_mems : SameMems s s.freeBits.2 := ⟨rfl, rfl, rfl⟩

@[simp] theorem State.freeBytes_mems (n : Nat) : SameMems s (s.freeBytes n).2 := by
  induction n generalizing s with
  | zero => exact SameMems.refl _
  | succ n ih => simp [State.freeBytes, ih]

/-! ### Instruction issue -/

@[simp] theorem State.drawSeeds_mems (n : Nat) : SameMems s (s.drawSeeds n) := by
  induction n generalizing s with
  | zero => exact SameMems.refl _
  | succ n ih => simp [State.drawSeeds, ih]

@[simp] theorem State.takeMask_mems (p n : Nat) : SameMems s (s.takeMask p n).1 := by
  simp only [State.takeMask]
  split
  · simp
  · split
    · exact SameMems.refl _
    · exact (State.setPair_mems _ _ _).trans (s.drawSeeds_mems _)

@[simp] theorem State.spendMask_mems (j : Job) : SameMems s (s.spendMask j) := by
  simp only [State.spendMask]
  split <;> simp

/-! ### Register operations -/

/-! ### Tables -/

@[simp] theorem State.askWake_mems (d : Nat) (why : WakeWhy) : SameMems s (s.askWake d why) := by simp [State.askWake]

@[simp] theorem State.useChannel_mems (ch : Nat) : SameMems s (s.useChannel ch) := by simp [State.useChannel]

@[simp] theorem State.useChannels_mems (chs : List Nat) : SameMems s (s.useChannels chs) := by simp [State.useChannels]

@[simp] theorem State.suspectHit_mems (line : Nat) (buffer : optParam Bool false) :
    SameMems s (s.suspectHit line buffer) := by
  simp [State.suspectHit]

@[simp] theorem State.fetched_mems (ch : Nat) (buffer : Bool) (line : Nat) :
    SameMems s (s.fetched ch buffer line) := ⟨rfl, rfl, rfl⟩

@[simp] theorem State.answered_mems (buffer : Bool) (lines : List Nat) : SameMems s (s.answered buffer lines) := by
  simp [State.answered]

/-! ### Frame window, pick record and scratch -/

theorem execLdsDone_keepsMems (b : Nat) (d : Reg) : KeepsMems s (execLdsDone b d s) := by
  simp only [execLdsDone, keepsMems_next]
  split <;> simp

/-! ### Unit instructions -/

@[simp] theorem State.submitCipher_mems (p : Nat) (k : Pick) (c : Cipher) :
    SameMems s (s.submitCipher p k c) := ⟨rfl, rfl, rfl⟩

/-! ### Dispositions -/

@[simp] theorem State.disposePick_mems (b : Nat) (f : Pick → Pick) : SameMems s (s.disposePick b f) := by
  unfold State.disposePick
  (repeat' split) <;> simp

/-! ### The stores -/

@[simp] theorem State.useLines_mems (buffer : Bool) (lines : List Nat) : SameMems s (s.useLines buffer lines) := by
  simp [State.useLines]

@[simp] theorem State.askTable_mems (lines : List Nat) : SameMems s (s.askTable lines) := by simp [State.askTable]

@[simp] theorem State.clockEnd_mems : SameMems s s.clockEnd := by simp [State.clockEnd]

@[simp] theorem State.tick_mems (ch : Nat) : SameMems s (s.tick ch).2 := ⟨rfl, rfl, rfl⟩

@[simp] theorem State.writeNodes_mems (buffer b : Bool) (path : List PathObs) :
    SameMems s (s.writeNodes buffer b path) := by
  simp [State.writeNodes]

@[simp] theorem State.storeCopy_mems (buffer b : Bool) (mki draw line : Nat) (plain : Bytes) (path : List PathObs) :
    SameMems s (s.storeCopy buffer b mki draw line plain path) := by
  simp [State.storeCopy]

@[simp] theorem State.storeLine_mems (buffer : Bool) (mki draw line : Nat) (plain : Bytes) (path : List PathObs) :
    SameMems s (s.storeLine buffer mki draw line plain path) := by
  simp [State.storeLine]

@[simp] theorem State.tryStore_mems (buffer : Bool) (mki draw line : Nat) (plain : Bytes) (path : List PathObs) :
    SameMems s (s.tryStore buffer mki draw line plain path) := by
  simp [State.tryStore]

@[simp] theorem State.writeTable_mems (lines : List Nat) : SameMems s (s.writeTable lines) := by
  simp only [State.writeTable]
  split
  · exact SameMems.refl _
  · simp

@[simp] theorem State.writeAssoc_mems (i : Nat) : SameMems s (s.writeAssoc i) := by simp [State.writeAssoc]

@[simp] theorem State.setFlows_mems (l : List Flow) : SameMems s (s.setFlows l) := by simp [State.setFlows]

@[simp] theorem State.ownStore_mems (buffer : Bool) (mki draw line : Nat) (plain : Bytes) :
    SameMems s (s.ownStore buffer mki draw line plain) := by
  simp [State.ownStore]

@[simp] theorem State.writeBytes_mems (buffer : Bool) (mki draw first : Nat) (bs : Bytes) :
    SameMems s (s.writeBytes buffer mki draw first bs) := by
  simp [State.writeBytes]

@[simp] theorem State.freshen_mems (buffer b : Bool) (first count : Nat) : SameMems s (s.freshen buffer b first count) := by
  simp [State.freshen]

@[simp] theorem State.copyOver_mems (bad : Bool) (first count : Nat) : SameMems s (s.copyOver bad first count) := by
  simp only [State.copyOver]
  split <;> simp

/-! ### Queues -/

@[simp] theorem State.joinRing_mems (q : Nat) : SameMems s (s.joinRing q) := by simp [State.joinRing]

@[simp] theorem State.leaveRing_mems (q : Nat) : SameMems s (s.leaveRing q) := ⟨rfl, rfl, rfl⟩

@[simp] theorem State.setFifo_mems (q : Nat) (l : List QItem) : SameMems s (s.setFifo q l) := by simp [State.setFifo]

@[simp] theorem State.pushQueue_mems (q : Nat) (i : QItem) : SameMems s (s.pushQueue q i) := by simp [State.pushQueue]

@[simp] theorem State.unqueue_mems (q p : Nat) : SameMems s (s.unqueue q p) := by simp [State.unqueue]

@[simp] theorem State.occurFrame_mems (f : QFrame) (src : Src) (index : Nat) : SameMems s (s.occurFrame f src index) := by
  simp [State.occurFrame]

@[simp] theorem State.spillPlace.fresh_mems : SameMems s (State.spillPlace.fresh s).2 := by
  simp only [State.spillPlace.fresh]
  split <;> simp

@[simp] theorem State.spillPlace_mems (q k n : Nat) : SameMems s (s.spillPlace q k n).2 := by
  simp only [State.spillPlace]
  split
  · split <;> simp
  · simp

@[simp] theorem State.writeSpill_mems (k x o : Nat) (frame : Bytes) : SameMems s (s.writeSpill k x o frame) := by
  unfold State.writeSpill
  split <;> simp

@[simp] theorem State.admitQueue_mems (q : Nat) (i : QItem) (count : State → Src → Nat → State)
    (gone : State → State) (frame : QFrame) (hc : ∀ t x n, SameMems t (count t x n)) (hg : ∀ t, SameMems t (gone t)) :
    SameMems s (s.admitQueue q i count gone frame) := by
  have hp := s.spillPlace_mems q (s.field .schQMap q 11 8) ((frame.frame.length + 63) / 64)
  simp only [State.admitQueue]
  (repeat' split) <;> simp_all

/-! ### Results of the unit instructions -/

@[simp] theorem State.deliver_mems (b : Nat) (B : Bobbin) (d : Reg) (v : DWord) :
    SameMems s (s.deliver b B d v) := ⟨rfl, rfl, rfl⟩

@[simp] theorem State.lookBank_mems (flow : Bool) (keys : List Nat) : SameMems s (s.lookBank flow keys) :=
  foldl_mems _ _ _ fun t _ => t.touchDom_mems _

theorem execLookMtDone_keepsMems (b : Nat) (d : Reg) : KeepsMems s (execLookMtDone b d s) := by
  simp only [execLookMtDone, keepsMems_next]
  (repeat' split) <;> simp

@[simp] theorem State.moveRef_mems (k : Pick) (dest : Option (BitVec 24 × Bool)) : SameMems s (s.moveRef k dest) := by
  unfold State.moveRef
  (repeat' split) <;> simp

@[simp] theorem State.domainMix_mems (k : Pick) : SameMems s (s.domainMix k) := by simp [State.domainMix]

@[simp] theorem State.pnWarn_mems (k : Pick) (pn : DWord) : SameMems s (s.pnWarn k pn) := by simp [State.pnWarn]

@[simp] theorem State.servePn_mems (p : Nat) (k : Pick) : SameMems s (s.servePn p k).1 := by simp [State.servePn]

@[simp] theorem State.nextSeq_mems (dom : Nat) : SameMems s (s.nextSeq dom).2 := ⟨rfl, rfl, rfl⟩

theorem execOrdDomGrant_keepsMems (b : Nat) (d : Reg) : KeepsMems s (execOrdDomGrant b d s) := by
  simp only [execOrdDomGrant, keepsMems_next]
  (repeat' split) <;> simp

@[simp] theorem State.cipherResult_mems (p : Nat) (c : Cipher) (v : DWord) : SameMems s (s.cipherResult p c v) := by
  simp [State.cipherResult]

@[simp] theorem State.cutRecord_mems (k : Pick) (poisoned : Bool) (port : Nat) :
    SameMems s (s.cutRecord k poisoned port) := by
  unfold State.cutRecord
  split <;> simp

@[simp] theorem State.cutDiscard_mems (p : Nat) (k : Pick) : SameMems s (s.cutDiscard p k) := by simp [State.cutDiscard]

@[simp] theorem State.settle_mems (p : Nat) : SameMems s (s.settle p) := by
  unfold State.settle
  split <;> simp

@[simp] theorem State.openFails_mems (p : Nat) (k : Pick) (c : Cipher) (st : UStat) :
    SameMems s (s.openFails p k c st) := by
  simp [State.openFails]

@[simp] theorem State.raiseLowest_mems (k : Pick) (c : Cipher) : SameMems s (s.raiseLowest k c) := by
  simp [State.raiseLowest]

theorem execOpenVerdictCommit_keepsMems (p : Nat) : KeepsMems s (execOpenVerdictCommit p s) := by
  simp only [execOpenVerdictCommit, keepsMems_next]
  (repeat' split) <;> simp

theorem execSealDone_keepsMems (p : Nat) : KeepsMems s (execSealDone p s) := by
  simp only [execSealDone, keepsMems_next]
  (repeat' split) <;> simp

theorem execCrcGetDone_keepsMems (b : Nat) (d : Reg) : KeepsMems s (execCrcGetDone b d s) := by
  simp only [execCrcGetDone, keepsMems_next]
  split <;> simp

/-! ### The cascade -/

@[simp] theorem State.weftQueue_mems (n : Nat) (f : WFrame) : SameMems s (s.weftQueue n f) := ⟨rfl, rfl, rfl⟩

@[simp] theorem State.occurWeft_mems (f : WFrame) (src : Src) (index : Nat) : SameMems s (s.occurWeft f src index) := by
  unfold State.occurWeft
  split <;> simp

@[simp] theorem State.releaseFwd_mems (p : Nat) (k : Pick) : SameMems s (s.releaseFwd p k) := by
  unfold State.releaseFwd
  (repeat' split) <;> simp

/-! ### Arrival and dispatch of picks -/

@[simp] theorem State.pushOut_mems (p : Nat) : SameMems s (s.pushOut p) := by
  unfold State.pushOut
  split <;> simp

theorem State.admission_mems (cls : BitVec 3) (len : Nat) : ∀ t, s.admission cls len = some t → SameMems s t := by
  intro t h
  simp only [State.admission] at h
  split at h
  · split at h
    · cases h; exact SameMems.refl _
    · cases h
  · obtain ⟨l, -, rfl⟩ := Option.map_eq_some_iff.mp h
    simp

@[simp] theorem State.createPick_mems (k : Pick) : SameMems s (s.createPick k) := ⟨rfl, rfl, rfl⟩

@[simp] theorem State.refuse_mems (k : Pick) : SameMems s (s.refuse k) := by simp [State.refuse]

@[simp] theorem State.arrive_mems (k : Pick) : SameMems s (s.arrive k) := by
  unfold State.arrive
  split
  · rename_i t h
    simp [s.admission_mems _ _ t h]
  · simp

theorem execFrameReceive_keepsMems (port : Nat) (frame : Bytes) : KeepsMems s (execFrameReceive port frame s) := by
  simp [execFrameReceive]

theorem execPickDispatch_keepsMems (b : Nat) : KeepsMems s (execPickDispatch b s) := by
  simp only [execPickDispatch, keepsMems_next]
  (repeat' split) <;> simp

theorem State.tryPunt_mems (x : PuntRec) : ∀ t, s.tryPunt x = some t → SameMems s t := by
  simp only [State.tryPunt]
  (repeat' split) <;> simp

@[simp] theorem State.drainPunt_mems (dom n : Nat) : SameMems s (s.drainPunt dom n) := by
  induction n generalizing s with
  | zero => exact SameMems.refl _
  | succ n ih =>
    unfold State.drainPunt
    split
    · exact SameMems.refl _
    · rename_i x hx
      split
      · exact SameMems.refl _
      · rename_i t ht
        simp [ih, s.tryPunt_mems _ t ht]

@[simp] theorem State.servePunt_mems (dom : Nat) : SameMems s (s.servePunt dom) := by simp [State.servePunt]

@[simp] theorem State.writePunt_mems (x : PuntRec) : SameMems s (s.writePunt x) := by simp [State.writePunt]

@[simp] theorem State.deliverMirror_mems (k : Pick) (m : Mirror) : SameMems s (State.deliverMirror k s m) := by
  simp [State.deliverMirror]

@[simp] theorem State.deliverMirrors_mems (k : Pick) : SameMems s (s.deliverMirrors k) := by simp [State.deliverMirrors]

theorem execPickRelease_keepsMems (p : Nat) : KeepsMems s (execPickRelease p s) := by
  simp only [execPickRelease, keepsMems_next]
  split <;> simp

theorem execPuntMirrorRelease_keepsMems (p : Nat) : KeepsMems s (execPuntMirrorRelease p s) := by
  simp only [execPuntMirrorRelease, keepsMems_next]
  (repeat' split) <;> simp

theorem execCellWaitEnd_keepsMems (p : Nat) : KeepsMems s (execCellWaitEnd p s) := by
  simp only [execCellWaitEnd, keepsMems_next]
  (repeat' split) <;> simp

/-! ### Sheds -/

@[simp] theorem State.placeShed_mems (p : Nat) : SameMems s (s.placeShed p) := ⟨rfl, rfl, rfl⟩

/-! ### The scheduler -/

@[simp] theorem State.rejoin_mems (q : Nat) : SameMems s (s.rejoin q) := by simp [State.rejoin]

@[simp] theorem State.refillQueues_mems (n : Nat) : SameMems s (s.refillQueues n) := by simp [State.refillQueues]

@[simp] theorem State.refillPorts_mems (n : Nat) : SameMems s (s.refillPorts n) := by simp [State.refillPorts]

@[simp] theorem State.refillPolicers_mems (n : Nat) : SameMems s (s.refillPolicers n) := by simp [State.refillPolicers]

@[simp] theorem State.refillBy_mems (n : Nat) : SameMems s (s.refillBy n) := by simp [State.refillBy]

theorem execRefillTick_keepsMems : KeepsMems s (execRefillTick s) := by simp [execRefillTick]

@[simp] theorem State.refillDue_mems : SameMems s s.refillDue := by simp [State.refillDue]

@[simp] theorem State.discard_mems (i : QItem) (src : Src) (index : Nat) : SameMems s (s.discard i src index) := by
  unfold State.discard
  (repeat' split) <;> simp

@[simp] theorem State.closedWait_mems (p : Nat) (i : QItem) : SameMems s (State.closedWait p s i).1 := by
  unfold State.closedWait
  (repeat' split) <;> simp

@[simp] theorem State.closedQueue_mems (p q : Nat) : SameMems s (s.closedQueue p q) := by
  exact List.foldlRecOn (motive := fun r : State × List QItem => SameMems s r.1) _ _ (SameMems.refl s)
    fun r h i _ => (State.closedWait_mems _ _ _).trans h

@[simp] theorem State.dropNeverFit_mems (p q : Nat) (longest : Option Nat) (n : Nat) :
    SameMems s (s.dropNeverFit p q longest n) := by
  induction n generalizing s with
  | zero => exact SameMems.refl _
  | succ n ih =>
    unfold State.dropNeverFit
    split <;> simp [ih]

@[simp] theorem State.judgeClass_mems (p c : Nat) : SameMems s (s.judgeClass p c) := by
  simp only [State.judgeClass]
  split <;> simp

@[simp] theorem State.drr_mems (p c : Nat) (w : Option Nat) (ok : State → QItem → Bool) (skip : List Nat) (n : Nat) :
    SameMems s (s.drr p c w ok skip n).2 := by
  induction n generalizing s skip with
  | zero => exact SameMems.refl _
  | succ n ih =>
    simp only [State.drr]
    (repeat' split) <;> simp [ih]

@[simp] theorem State.selectQueue_mems (p : Nat) (ok : State → QItem → Bool) (cs : List Nat) :
    SameMems s (s.selectQueue p ok cs).2 := by
  induction cs generalizing s with
  | nil => exact SameMems.refl _
  | cons c cs ih =>
    simp only [State.selectQueue]
    split
    · simp [ih]
    · split <;> simp [ih]

@[simp] theorem State.takeHead_mems (p q : Nat) (i : QItem) (rest : List QItem) : SameMems s (s.takeHead p q i rest) := by
  simp [State.takeHead]

@[simp] theorem State.takeNext_mems (p : Nat) (ok : State → QItem → Bool) : SameMems s (s.takeNext p ok).2 := by
  simp only [State.takeNext]
  (repeat' split) <;> simp

@[simp] theorem State.setHist_mems (h : Nat) (x : Hist) : SameMems s (s.setHist h x) := ⟨rfl, rfl, rfl⟩

@[simp] theorem State.sampleDelay_mems (q since : Nat) : SameMems s (s.sampleDelay q since) := by simp [State.sampleDelay]

theorem execHistDepthSample_keepsMems (h : Nat) : KeepsMems s (execHistDepthSample h s) := by simp [execHistDepthSample]

theorem execSchHistSnapDone_keepsMems (h : Nat) : KeepsMems s (execSchHistSnapDone h s) := by simp [execSchHistSnapDone]

@[simp] theorem State.transmit_mems (p q : Nat) (i : QItem) : SameMems s (s.transmit p q i) := by
  unfold State.transmit
  extract_lets bytes id t cut s'
  have h : SameMems s s' := by
    unfold s'
    split <;> simp
  split <;> simp [h]

@[simp] theorem State.flushTagOff_mems (p : Nat) : SameMems s (s.flushTagOff p) := by simp [State.flushTagOff]

theorem execCutThroughStart_keepsMems (port p : Nat) : KeepsMems s (execCutThroughStart port p s) := by
  simp only [execCutThroughStart, keepsMems_next]
  (repeat' split) <;> simp

theorem execCutFcsReached_keepsMems (port : Nat) : KeepsMems s (execCutFcsReached port s) := by
  simp only [execCutFcsReached, keepsMems_next]
  split
  · exact SameMems.refl _
  · split
    · exact SameMems.refl _
    · split
      · exact SameMems.refl _
      · split
        · exact SameMems.refl _
        · split
          · simp
          · split <;> simp

theorem execFrameTxEnd_keepsMems (port : Nat) : KeepsMems s (execFrameTxEnd port s) := by
  simp only [execFrameTxEnd, keepsMems_next]
  (repeat' split) <;> simp

theorem execSpillReturn_keepsMems (q : Nat) (intact : Bool) : KeepsMems s (execSpillReturn q intact s) := by
  simp only [execSpillReturn, keepsMems_next]
  split
  · split
    · simp
    · split
      · simp
      · split
        · simp
        · simp
  · exact SameMems.refl _

theorem execShedEntryAdvance_keepsMems (port : Nat) : KeepsMems s (execShedEntryAdvance port s) := by
  simp [execShedEntryAdvance]

@[simp] theorem State.switchBank_mems (port : Nat) : SameMems s (s.switchBank port) := by
  simp only [State.switchBank]
  split <;> simp

theorem execShedBankSwitch_keepsMems (port : Nat) : KeepsMems s (execShedBankSwitch port s) := by
  simp only [execShedBankSwitch, keepsMems_next]
  split <;> simp

@[simp] theorem State.shedSelect_mems (port : Nat) (sel : Bool) : SameMems s (s.shedSelect port sel) := by
  simp only [State.shedSelect]
  (repeat' split) <;> simp

@[simp] theorem State.histSnap_mems (h : Nat) (v : Word) : SameMems s (s.histSnap h v) := by simp [State.histSnap]

/-! ### Wakes -/

@[simp] theorem State.quarantineDom_mems (d owed : Nat) : SameMems s (s.quarantineDom d owed) := ⟨rfl, rfl, rfl⟩

@[simp] theorem State.nextStandby_mems : SameMems s s.nextStandby := by
  unfold State.nextStandby
  (repeat' split) <;> simp

/-! ### The cipher engines -/

@[simp] theorem State.setJob_mems (j : Job) : SameMems s (s.setJob j) := ⟨rfl, rfl, rfl⟩

@[simp] theorem State.loadCtx_mems (e : Nat) (j : Job) : SameMems s (s.loadCtx e j) := by simp [State.loadCtx]

@[simp] theorem State.drawIv_mems (j : Job) : SameMems s (s.drawIv j).1 := by simp [State.drawIv]

@[simp] theorem State.startJob_mems (e : Nat) (j : Job) : SameMems s (s.startJob e j) := by simp [State.startJob]

theorem execEngineJobStart_keepsMems : KeepsMems s (execEngineJobStart s) := by
  simp only [execEngineJobStart, keepsMems_next]
  (repeat' split) <;> simp

theorem execJobSuspend_keepsMems (e : Nat) : KeepsMems s (execJobSuspend e s) := by simp [execJobSuspend]

@[simp] theorem State.streamPlain_mems (j : Job) (key : Bytes) : SameMems s (s.streamPlain j key) := by
  simp [State.streamPlain]

@[simp] theorem State.flushLookaside_mems (f n : Nat) : SameMems s (s.flushLookaside f n) := by
  induction n generalizing s with
  | zero => exact SameMems.refl _
  | succ n ih =>
    unfold State.flushLookaside
    split
    · exact SameMems.refl _
    · split <;> simp [ih]

@[simp] theorem State.lookasideDone_mems (j : Job) (st : HStat) (outp : Bytes) :
    SameMems s (s.lookasideDone j st outp) := by
  simp [State.lookasideDone]

@[simp] theorem State.jobResult_mems (j : Job) : SameMems s (s.jobResult j) := by
  unfold State.jobResult
  (repeat' split) <;> simp

theorem execEngineJobComplete_keepsMems (e : Nat) : KeepsMems s (execEngineJobComplete e s) := by
  simp only [execEngineJobComplete, keepsMems_next]
  split <;> simp

theorem execMaskStallEnd_keepsMems (e : Nat) : KeepsMems s (execMaskStallEnd e s) := by
  simp only [execMaskStallEnd, keepsMems_next]
  split <;> simp

theorem execMaskExpanderReseed_keepsMems (pair : Nat) : KeepsMems s (execMaskExpanderReseed pair s) := by
  simp [execMaskExpanderReseed]

@[simp] theorem State.requeueJobs_mems (e : Nat) : SameMems s (s.requeueJobs e) := by simp [State.requeueJobs]

@[simp] theorem State.burst_mems : SameMems s s.burst := by
  unfold State.burst
  split <;> simp

@[simp] theorem State.stopEngine_mems (e fault : Nat) : SameMems s (s.stopEngine e fault) := by simp [State.stopEngine]

@[simp] theorem State.settlePair_mems (p : Nat) : SameMems s (s.settlePair p) := by simp [State.settlePair]

@[simp] theorem State.pairGone_mems (p owed : Nat) : SameMems s (s.pairGone p owed) := by simp [State.pairGone]

@[simp] theorem State.retire_mems (e fault : Nat) : SameMems s (s.retire e fault) := by simp [State.retire]

theorem execEngineSelfCheckFault_keepsMems (e : Nat) : KeepsMems s (execEngineSelfCheckFault e s) := by
  simp [execEngineSelfCheckFault]

@[simp] theorem State.katEnd_mems (e : Nat) (pass : Bool) : SameMems s (s.katEnd e pass) := by simp [State.katEnd]

@[simp] theorem State.katBegin_mems (e : Nat) : SameMems s (s.katBegin e) := by simp [State.katBegin]

theorem execKatPeriodic_keepsMems (e : Nat) (pass : Bool) : KeepsMems s (execKatPeriodic e pass s) := by
  simp [execKatPeriodic]

@[simp] theorem State.retireWrite_mems (off : Nat) (v : Word) : SameMems s (s.retireWrite off v) := by
  simp [State.retireWrite]

@[simp] theorem State.profileWrite_mems (pair off : Nat) (v : Word) : SameMems s (s.profileWrite pair off v) := by
  simp [State.profileWrite]

@[simp] theorem State.maskOnly_mems : SameMems s s.maskOnly :=
  foldl_mems _ _ _ fun t _ => t.setReg_mems _ _ _ _

@[simp] theorem State.drbgUp_mems : SameMems s s.drbgUp := ⟨rfl, rfl, rfl⟩

theorem execDrbgStartupTest_keepsMems (pass : Bool) : KeepsMems s (execDrbgStartupTest pass s) := by
  simp [execDrbgStartupTest]

theorem execDrbgReseed_keepsMems (pass : Bool) : KeepsMems s (execDrbgReseed pass s) := by simp [execDrbgReseed]

theorem execDrbgHealthFail_keepsMems : KeepsMems s (execDrbgHealthFail s) := by simp [execDrbgHealthFail]

/-! ### The host rings -/

theorem execDescriptorFetch_keepsMems (f r : Nat) (desc buf : Bytes) :
    KeepsMems s (execDescriptorFetch f r desc buf s) := by
  simp only [execDescriptorFetch, keepsMems_next]
  (repeat' split) <;> simp

@[simp] theorem State.command_mems (f r : Nat) (want : Fetched → Bool) (run : Fetched → State) (h : ∀ e,
    SameMems s (run e)) :
    SameMems s (s.command f r want run) := by
  unfold State.command
  split
  · exact SameMems.refl _
  · split
    · exact SameMems.refl _
    · split <;> simp [h]

@[simp] theorem State.answer_mems (f r : Nat) (x : Except HStat State) (h : OkSame s x) :
    SameMems s (s.answer f r x) := by
  cases x with
  | ok t => exact (State.complete_mems ..).trans ((okSame_ok s t).1 h)
  | error st => simp [State.answer]

theorem execHifCmdWatchdogExpiry_keepsMems (f : Nat) : KeepsMems s (execHifCmdWatchdogExpiry f s) := by
  simp only [execHifCmdWatchdogExpiry, keepsMems_next]
  split <;> simp

theorem execHifLateAnswer_keepsMems (f : Nat) : KeepsMems s (execHifLateAnswer f s) := by simp [execHifLateAnswer]

@[simp] theorem State.writeFault_mems (f r : Nat) : SameMems s (s.writeFault f r) := by
  unfold State.writeFault
  split <;> simp

@[simp] theorem State.flushRing_mems (f r : Nat) : SameMems s (s.flushRing f r) := by simp [State.flushRing]

@[simp] theorem State.ringResume_mems (f r : Nat) : SameMems s (s.ringResume f r) := by
  simp only [State.ringResume]
  (repeat' split) <;> simp

@[simp] theorem State.tailWrite_mems (f r : Nat) (v : Word) : SameMems s (s.tailWrite f r v) := by simp [State.tailWrite]

@[simp] theorem State.ringEnable_mems (f r : Nat) (en : Bool) : SameMems s (s.ringEnable f r en) := by
  simp [State.ringEnable]

theorem execImodTimerExpiry_keepsMems (f r : Nat) : KeepsMems s (execImodTimerExpiry f r s) := by simp [execImodTimerExpiry]

theorem execInject_keepsMems (f : Nat) : KeepsMems s (execInject f s) := by
  simp only [execInject, keepsMems_next]
  refine s.command_mems _ _ _ _ fun e => ?_
  split
  · simp
  · split
    · simp
    · split
      · simp
      · split
        · simp
        · rename_i t h
          simp [s.admission_mems _ _ t h]

theorem execPuntBuf_keepsMems (f : Nat) : KeepsMems s (execPuntBuf f s) := by
  simp only [execPuntBuf, keepsMems_next]
  (repeat' split) <;> simp

/-! ### Association and flow commands -/

@[simp] theorem State.atBusHit_mems (i : Nat) : SameMems s (s.atBusHit i) := by
  unfold State.atBusHit
  split <;> simp

@[simp] theorem State.answerAt_mems (f i : Nat) (x : Except HStat State) (h : OkSame s x) :
    SameMems s (s.answerAt f i x) := by
  cases x with
  | ok t => simp_all [State.answerAt]
  | error st => simp [State.answerAt]

@[simp] theorem State.atCommand_mems (f : Nat) (want : Fetched → Bool) (index : Fetched → Nat) (onPoisoned : Bool)
    (run : Fetched → Nat → AtEntry → Except HStat State) (h : ∀ e i x, OkSame s (run e i x)) :
    SameMems s (s.atCommand f want index onPoisoned run) := by
  refine s.command_mems _ _ _ _ fun e => ?_
  dsimp only
  split
  · simp
  · split <;> simp [h]

@[simp] theorem State.startDrain_mems (i : Nat) (b : Bool) : SameMems s (s.startDrain i b) := ⟨rfl, rfl, rfl⟩

@[simp] theorem State.dropCtx_mems (i : Nat) (b : Bool) : SameMems s (s.dropCtx i b) := ⟨rfl, rfl, rfl⟩

@[simp] theorem State.destroySlot_mems (i : Nat) (b : Bool) : SameMems s (s.destroySlot i b) := by simp [State.destroySlot]

@[simp] theorem State.drainAssoc_mems (i : Nat) (b : Bool) : SameMems s (s.drainAssoc i b) := by simp [State.drainAssoc]

@[simp] theorem State.drainCloth_mems (g slot : Nat) : SameMems s (s.drainCloth g slot) := by simp [State.drainCloth]

theorem execDrainTimerExpiry_keepsMems (r : DrainRef) : KeepsMems s (execDrainTimerExpiry r s) := by
  simp only [execDrainTimerExpiry, keepsMems_next]
  split <;> simp

theorem execAtTxslot_keepsMems (f : Nat) : KeepsMems s (execAtTxslot f s) := by simp [execAtTxslot]

theorem execAtSlotRetire_keepsMems (f : Nat) : KeepsMems s (execAtSlotRetire f s) := by simp [execAtSlotRetire]

theorem execAtStateSuspend_keepsMems (f : Nat) : KeepsMems s (execAtStateSuspend f s) := by simp [execAtStateSuspend]

theorem execAtStateResume_keepsMems (f : Nat) : KeepsMems s (execAtStateResume f s) := by simp [execAtStateResume]

theorem execAtStateRemove_keepsMems (f : Nat) : KeepsMems s (execAtStateRemove f s) := by simp [execAtStateRemove]

theorem execAtRxPn_keepsMems (f : Nat) : KeepsMems s (execAtRxPn f s) := by simp [execAtRxPn]

@[simp] theorem State.atSet_mems (f : Nat) (mine : Nat → Bool) (run : Nat → AtEntry → Except HStat AtEntry) :
    SameMems s (s.atSet f mine run) := by
  refine s.atCommand_mems _ _ _ _ _ fun c i x => ?_
  cases run (leAt c.desc 28 4) x with
  | error st => exact okSame_error _ st
  | ok x' => exact (okSame_ok _ _).mpr (s.setAssoc_mems _ _)

theorem execAtSetCut_keepsMems (f : Nat) : KeepsMems s (execAtSetCut f s) := by simp [execAtSetCut]

theorem execAtSetCutEvent_keepsMems (f : Nat) : KeepsMems s (execAtSetCutEvent f s) := by simp [execAtSetCutEvent]

theorem execAtSetReplay_keepsMems (f : Nat) : KeepsMems s (execAtSetReplay f s) := by simp [execAtSetReplay]

theorem execAtSetWindow_keepsMems (f : Nat) : KeepsMems s (execAtSetWindow f s) := by simp [execAtSetWindow]

theorem execAtSetPolicer_keepsMems (f : Nat) : KeepsMems s (execAtSetPolicer f s) := by simp [execAtSetPolicer]

theorem execAtSetQbase_keepsMems (f : Nat) : KeepsMems s (execAtSetQbase f s) := by simp [execAtSetQbase]

theorem execAtSetK_keepsMems (f : Nat) : KeepsMems s (execAtSetK f s) := by simp [execAtSetK]

theorem execAtSetSuite_keepsMems (f : Nat) : KeepsMems s (execAtSetSuite f s) := by simp [execAtSetSuite]

theorem execAtSetMode_keepsMems (f : Nat) : KeepsMems s (execAtSetMode f s) := by simp [execAtSetMode]

theorem execAtSetDomain_keepsMems (f : Nat) : KeepsMems s (execAtSetDomain f s) := by simp [execAtSetDomain]

theorem execAtRead_keepsMems (f : Nat) : KeepsMems s (execAtRead f s) := by
  simp only [execAtRead, keepsMems_next]
  refine s.command_mems _ _ _ _ fun c => ?_
  split
  · exact SameMems.refl _
  · split <;> simp

@[simp] theorem State.putFlows_mems (l : List Flow) : SameMems s (s.putFlows l).2 := by
  unfold State.putFlows
  split <;> simp

@[simp] theorem State.insertFlow_mems (f : Nat) (b : Bytes) : SameMems s (s.insertFlow f b).2 := by
  simp only [State.insertFlow]
  (repeat' split) <;> simp

@[simp] theorem State.ftCommand_mems (f op : Nat) (key : Fetched → BitVec 6 × DWord × DWord) (run : Fetched → State)
    (h : ∀ e, SameMems s (run e)) :
    SameMems s (s.ftCommand f op key run) := by
  refine s.command_mems _ _ _ _ fun e => ?_
  dsimp only
  split
  · simp
  · split <;> simp [h]

@[simp] theorem State.putFlows_okSame (t : State) (l : List Flow) (h : SameMems t s) : OkSame t (s.putFlows l).1 := by
  unfold State.putFlows
  split
  · simp
  · split <;> simp [h]

@[simp] theorem State.flowDone_mems (f : Nat) (l : List Flow) (fin : State → State) (h : ∀ t, SameMems t (fin t)) :
    SameMems s (s.flowDone f l fin) := by
  have ht := s.putFlows_mems l
  have hok := s.putFlows_okSame s l (SameMems.refl s)
  unfold State.flowDone
  split <;> simp_all

theorem State.insertFlow_okSame (f : Nat) (b : Bytes) : OkSame s (s.insertFlow f b).1 := by
  simp only [State.insertFlow]
  (repeat' split) <;> simp

theorem execFtInsert_keepsMems (f : Nat) : KeepsMems s (execFtInsert f s) := by
  simp only [execFtInsert, keepsMems_next]
  refine s.ftCommand_mems _ _ _ _ fun e => ?_
  have ht := s.insertFlow_mems f e.buf
  have hok := s.insertFlow_okSame f e.buf
  split <;> simp_all

theorem execFtReplace_keepsMems (f : Nat) : KeepsMems s (execFtReplace f s) := by
  simp only [execFtReplace, keepsMems_next]
  refine s.ftCommand_mems _ _ _ _ fun e => ?_
  split
  · simp
  · split <;> simp

theorem execFtDelete_keepsMems (f : Nat) : KeepsMems s (execFtDelete f s) := by
  simp only [execFtDelete, keepsMems_next]
  refine s.ftCommand_mems _ _ _ _ fun e => ?_
  split
  · simp
  · split <;> simp

theorem execFtRead_keepsMems (f : Nat) : KeepsMems s (execFtRead f s) := by
  simp only [execFtRead, keepsMems_next]
  refine s.ftCommand_mems _ _ _ _ fun e => ?_
  split
  · simp
  · split <;> simp

@[simp] theorem State.useBks_mems (k : Nat) : SameMems s (s.useBks k) := by
  simp only [State.useBks]
  split <;> simp

theorem State.bulkRecord_ok_mems (f : Nat) (key hdr r : Bytes) : ∀ t, s.bulkRecord f key hdr r = .ok t → SameMems s t := by
  simp only [State.bulkRecord]
  (repeat' split) <;> simp

theorem State.bulkRecord_error_mems (f : Nat) (key hdr r : Bytes) :
    ∀ i t, s.bulkRecord f key hdr r = .error (i, t) → SameMems s t := by
  simp only [State.bulkRecord]
  (repeat' split) <;> simp

@[simp] theorem bulkAssocs_mems (f : Nat) (key hdr b : Bytes) (n : Nat) (acc : BulkSum) :
    SameMems acc.s (bulkAssocs f key hdr b n acc).s := by
  induction n generalizing b acc with
  | zero => exact SameMems.refl _
  | succ n ih =>
    unfold bulkAssocs
    split
    · rename_i t h
      exact acc.s.bulkRecord_error_mems f key hdr _ none t h
    · rename_i t h
      simpa [ih] using acc.s.bulkRecord_ok_mems f key hdr _ t h
    · simp [ih]

@[simp] theorem bulkFlows_mems (f : Nat) (b : Bytes) (n j : Nat) (acc : BulkSum) :
    SameMems acc.s (bulkFlows f b n j acc).s := by
  induction n generalizing b j acc with
  | zero => exact SameMems.refl _
  | succ n ih =>
    unfold bulkFlows
    extract_lets r x res
    have hres : SameMems acc.s res.2 := by
      unfold res
      split <;> simp
    have hok : OkSame acc.s res.1 := by
      unfold res
      split
      · simp
      · exact State.insertFlow_okSame _ _ _
    clear_value res
    split <;> simp_all

@[simp] theorem BulkSum.finish_mems (a : BulkSum) (f : Nat) : SameMems a.s (a.finish f) := by simp [BulkSum.finish]

@[simp] theorem State.askBulk_mems : SameMems s s.askBulk := by simp [State.askBulk]

theorem execAtBulkLoad_keepsMems (f : Nat) : KeepsMems s (execAtBulkLoad f s) := by
  simp only [execAtBulkLoad, keepsMems_next]
  refine s.command_mems _ _ _ _ fun e => ?_
  (repeat' split) <;> simp

theorem execAtBulkLoadFlows_keepsMems (f : Nat) : KeepsMems s (execAtBulkLoadFlows f s) := by simp [execAtBulkLoadFlows]

@[simp] theorem State.bulkPart_mems (f : Nat) (b : Bytes) : SameMems s (s.bulkPart f b) := by
  simp only [State.bulkPart]
  (repeat' split) <;> simp

theorem execDmaFault_keepsMems (f r : Nat) (k : DmaKind) : KeepsMems s (execDmaFault f r k s) := by
  simp only [execDmaFault, keepsMems_next]
  (repeat' split) <;> simp

/-! ### Cards -/

theorem execCardStage_keepsMems (f : Nat) : KeepsMems s (execCardStage f s) := by simp [execCardStage]

@[simp] theorem State.writeStage_mems (img : Bytes) : SameMems s (s.writeStage img) := by
  unfold State.writeStage
  split <;> simp

@[simp] theorem State.stageEnd_mems (img : Bytes) (c : Nat) : SameMems s (s.stageEnd img c) := by simp [State.stageEnd]

theorem execCardStageDone_keepsMems : KeepsMems s (execCardStageDone s) := by
  simp only [execCardStageDone, keepsMems_next]
  split <;> simp

@[simp] theorem State.stageRefused_mems : SameMems s s.stageRefused := ⟨rfl, rfl, rfl⟩

@[simp] theorem State.promote_mems : SameMems s s.promote := by
  unfold State.promote
  split <;> simp

@[simp] theorem State.discardNext_mems : SameMems s s.discardNext := by
  unfold State.discardNext
  split <;> simp

@[simp] theorem State.stageWrite_mems (v : Word) : SameMems s (s.stageWrite v) := by simp [State.stageWrite]

@[simp] theorem State.wakeForGen_mems : SameMems s s.wakeForGen := by
  refine foldl_mems _ _ _ fun t e => ?_
  dsimp only
  split
  · exact SameMems.refl _
  · split <;> simp

@[simp] theorem State.cardCtlWrite_mems (c : Nat) (v : Word) : SameMems s (s.cardCtlWrite c v) := by
  simp [State.cardCtlWrite]

theorem execClusterDrained_keepsMems (c : Nat) : KeepsMems s (execClusterDrained c s) := by simp [execClusterDrained]

@[simp] theorem State.loadRead_mems (gen : BitVec 16) : SameMems s (s.loadRead gen) := by
  simp only [State.loadRead]
  split <;> simp

@[simp] theorem State.loadBad_mems (c : Nat) (code : BitVec 3) : SameMems s (s.loadBad c code) := by simp [State.loadBad]

theorem execCardLoadDone_keepsMems (c : Nat) (res : LoadResult) : KeepsMems s (execCardLoadDone c res s) := by
  simp only [execCardLoadDone, keepsMems_next]
  (repeat' split) <;> simp

@[simp] theorem State.restartPick_mems (p : Nat) : SameMems s (s.restartPick p) := by
  simp only [State.restartPick]
  split <;> simp

@[simp] theorem State.restartCluster_mems (c : Nat) : SameMems s (s.restartCluster c) := by
  refine foldl_mems _ _ _ fun t e => ?_
  split <;> simp

@[simp] theorem State.cluGone_mems (c owed : Nat) : SameMems s (s.cluGone c owed) := by simp [State.cluGone]

theorem execClusterQuarantine_keepsMems (c : Nat) : KeepsMems s (execClusterQuarantine c s) := by
  simp [execClusterQuarantine]

/-! ### The black box -/

@[simp] theorem State.writeRecord_mems (q : BbxReq) : SameMems s (s.writeRecord q) := ⟨rfl, rfl, rfl⟩

@[simp] theorem State.writeNext_mems : SameMems s s.writeNext := by
  simp only [State.writeNext]
  (repeat' split) <;> simp

@[simp] theorem State.tearRecord_mems : SameMems s s.tearRecord := by
  unfold State.tearRecord
  split <;> simp

theorem execBbxRecordWrite_keepsMems : KeepsMems s (execBbxRecordWrite s) := by simp [execBbxRecordWrite]

/-! ### Control transfer and the card loads -/

@[simp] theorem State.progCount_mems (k : Pick) (n amount : Nat) : SameMems s (s.progCount k n amount) := by
  simp [State.progCount]

/-! ### The woven transport -/

@[simp] theorem State.seedSealer_mems (g : Nat) : SameMems s (s.seedSealer g) := by simp [State.seedSealer]

@[simp] theorem State.itemSent_mems (i : QItem) : SameMems s (s.itemSent i) := by
  unfold State.itemSent
  split <;> simp

@[simp] theorem State.placeItem_mems (g fill : Nat) : SameMems s (s.placeItem g fill) := by
  simp only [State.placeItem]
  (repeat' split) <;> simp

theorem execClothItemSend_keepsMems (g fill : Nat) : KeepsMems s (execClothItemSend g fill s) := by simp [execClothItemSend]

@[simp] theorem State.startWoven_mems (g q : Nat) (i : QItem) : SameMems s (s.startWoven g q i) := by
  simp [State.startWoven]

theorem execSchedSelect_keepsMems (port : Nat) : KeepsMems s (execSchedSelect port s) := by
  simp only [execSchedSelect, keepsMems_next]
  (repeat' split) <;> simp

theorem State.openFrame_mems (g : Nat) : ∀ t, s.openFrame g = some t → SameMems s t := by
  simp only [State.openFrame]
  (repeat' split) <;> simp

@[simp] theorem State.memberFrame_mems (g m : Nat) : SameMems s (s.memberFrame g m).2.2 := by
  unfold State.memberFrame
  dsimp only
  (repeat' split) <;> simp

@[simp] theorem State.closeFrame_mems (g : Nat) : SameMems s (s.closeFrame g) := by simp [State.closeFrame]

theorem execLaneFrameSend_keepsMems (l : Nat) : KeepsMems s (execLaneFrameSend l s) := by
  simp only [execLaneFrameSend, keepsMems_next]
  split
  · exact SameMems.refl _
  · rename_i g hg
    split
    · simp
    · split
      · simp
      · rename_i t h
        have ht : SameMems s t := by
          split at h
          · simpa using State.openFrame_mems _ g t h
          · cases h
            simp
        simp [ht]

theorem execKeymarkSend_keepsMems (g : Nat) : KeepsMems s (execKeymarkSend g s) := by
  simp only [execKeymarkSend, keepsMems_next]
  split <;> simp

@[simp] theorem State.wovReject_mems : SameMems s s.wovReject := ⟨rfl, rfl, rfl⟩

@[simp] theorem State.ckTxWrite_mems (g : Nat) (v : Word) : SameMems s (s.ckTxWrite g v) := by simp [State.ckTxWrite]

@[simp] theorem State.txMapWrite_mems (g : Nat) (v : Word) : SameMems s (s.txMapWrite g v) := by
  simp only [State.txMapWrite]
  (repeat' split) <;> simp

theorem execMemberAnnounce_keepsMems (g : Nat) : KeepsMems s (execMemberAnnounce g s) := by
  simp only [execMemberAnnounce, keepsMems_next]
  split <;> simp

theorem execMapTakeEffect_keepsMems (g : Nat) : KeepsMems s (execMapTakeEffect g s) := by
  simp only [execMapTakeEffect, keepsMems_next]
  split <;> simp

@[simp] theorem State.autoRemove_mems (g m : Nat) : SameMems s (s.autoRemove g m) := by simp [State.autoRemove]

@[simp] theorem State.rxCfgWrite_mems (g : Nat) (v : Word) : SameMems s (s.rxCfgWrite g v) := by simp [State.rxCfgWrite]

theorem execHeaderSealerKatFail_keepsMems (g : Nat) : KeepsMems s (execHeaderSealerKatFail g s) := by
  simp [execHeaderSealerKatFail]

/-! ### Defects -/

@[simp] theorem State.setEnt_mems (k : Nat) (x : Entity) : SameMems s (s.setEnt k x) := ⟨rfl, rfl, rfl⟩

@[simp] theorem State.block_mems (k sec : Nat) (errored : Bool) (bip : Nat) :
    SameMems s (s.block k sec errored bip) := ⟨rfl, rfl, rfl⟩

@[simp] theorem State.hurt_mems (k : Nat) : SameMems s (s.hurt k) := ⟨rfl, rfl, rfl⟩

@[simp] theorem State.hurtIn_mems (k sec : Nat) : SameMems s (s.hurtIn k sec) := by simp [State.hurtIn]

@[simp] theorem State.blind_mems (k : Nat) : SameMems s (s.blind k) := ⟨rfl, rfl, rfl⟩

@[simp] theorem State.markLane_mems (l : Nat) : SameMems s (s.markLane l) := by simp [State.markLane]

@[simp] theorem State.markGroup_mems (g : Nat) : SameMems s (s.markGroup g) := by simp [State.markGroup]

@[simp] theorem State.setLaneDef_mems (l : Nat) (d : BitVec 9) : SameMems s (s.setLaneDef l d) := by simp [State.setLaneDef]

@[simp] theorem State.memberRecord_mems (g l : Nat) : SameMems s (s.memberRecord g l) := by simp [State.memberRecord]

@[simp] theorem State.evalLane_mems (l : Nat) (frame : Bool) (srdi : Option Bool) :
    SameMems s (s.evalLane l frame srdi) := by
  unfold State.evalLane
  split <;> simp

@[simp] theorem State.setGrpDef_mems (g : Nat) (d : BitVec 8) : SameMems s (s.setGrpDef g d) := by simp [State.setGrpDef]

@[simp] theorem State.evalGroup_mems (g : Nat) (lane label : Bool) (rdi : Option Bool) :
    SameMems s (s.evalGroup g lane label rdi) := by
  simp [State.evalGroup]

@[simp] theorem State.endSecond_mems (k sec : Nat) (on ev : Bool) (code what : Nat) :
    SameMems s (s.endSecond k sec on ev code what) := by
  simp only [State.endSecond]
  (repeat' split) <;> simp

theorem execPmSecondEnd_keepsMems : KeepsMems s (execPmSecondEnd s) := by simp [execPmSecondEnd]

@[simp] theorem State.lmtSnap_mems (v : Word) : SameMems s (s.lmtSnap v) := by simp [State.lmtSnap]

theorem execLmtSnapshotDone_keepsMems : KeepsMems s (execLmtSnapshotDone s) := by simp [execLmtSnapshotDone]

/-! ### The cloth -/

@[simp] theorem State.measure_mems (g l m : Nat) : SameMems s (s.measure g l m) := by
  unfold State.measure
  split <;> simp

@[simp] theorem State.sectionBlock_mems (l : Nat) (w1 : Option RxWord) : SameMems s (s.sectionBlock l w1) := by
  simp only [State.sectionBlock]
  split <;> simp

@[simp] theorem State.reiOf_mems (k : Nat) (b : Byte) : SameMems s (s.reiOf k b).2 := by simp [State.reiOf]

@[simp] theorem State.sectionFar_mems (l sec : Nat) (w1 : RxWord) (near : Bool) :
    SameMems s (s.sectionFar l sec w1 near) := by
  simp [State.sectionFar]

@[simp] theorem State.lstat_mems (g : Nat) (b : Byte) : SameMems s (s.lstat g b) := by simp [State.lstat]

@[simp] theorem State.writeDeskew_mems (g l m : Nat) (f : List RxWord) : SameMems s (s.writeDeskew g l m f) := by
  simp only [State.writeDeskew]
  split <;> simp

@[simp] theorem State.laneFrame_mems (g l sec : Nat) (f : List RxWord) : SameMems s (s.laneFrame g l sec f) := by
  simp [State.laneFrame]

@[simp] theorem State.laneFrames_mems (g l sec n : Nat) : SameMems s (s.laneFrames g l sec n) := by
  induction n generalizing s with
  | zero => exact SameMems.refl _
  | succ n ih =>
    simp only [State.laneFrames]
    split <;> simp [ih]

theorem execLaneFrameReceive_keepsMems (l : Nat) (ws : List RxWord) : KeepsMems s (execLaneFrameReceive l ws s) := by
  simp only [execLaneFrameReceive, keepsMems_next]
  (repeat' split) <;> simp

@[simp] theorem State.dropCloth_mems (g : Nat) : SameMems s (s.dropCloth g) := by simp [State.dropCloth]

@[simp] theorem State.keyByte_mems (g : Nat) (b : Byte) : SameMems s (s.keyByte g b) := by simp [State.keyByte]

@[simp] theorem State.setRxMap_mems (g : Nat) (map : Word) : SameMems s (s.setRxMap g map) := by simp [State.setRxMap]

@[simp] theorem State.settlePath_mems (g : Nat) : SameMems s (s.settlePath g) := by
  simp only [State.settlePath]
  split <;> simp

@[simp] theorem State.pathBlock_mems (g : Nat) (poh : Option Byte) : SameMems s (s.pathBlock g poh) := by
  simp [State.pathBlock]

@[simp] theorem State.ptrCheck_mems (g : Nat) : SameMems s (s.ptrCheck g) := by
  simp only [State.ptrCheck]
  split <;> simp

@[simp] theorem State.marker_mems (g : Nat) (bip : Option Byte) : SameMems s (s.marker g bip) := by
  simp only [State.marker]
  split <;> simp

@[simp] theorem State.pathOverhead_mems (g p : Nat) (b : Byte) : SameMems s (s.pathOverhead g p b) := by
  simp only [State.pathOverhead]
  (repeat' split) <;> simp

@[simp] theorem State.showErased_mems (g m w : Nat) : SameMems s (s.showErased g m w) := by simp [State.showErased]

@[simp] theorem State.dropStored_mems (g m : Nat) : SameMems s (s.dropStored g m) :=
  foldl_mems _ _ _ fun t _ => t.setLane_mems _ _

@[simp] theorem State.releaseRow_mems (g m w : Nat) (data : List (BitVec 64 × Bool)) (binder : Option (BitVec 64 × Bool)) :
    SameMems s (s.releaseRow g m w data binder) := by
  simp [State.releaseRow]

@[simp] theorem State.pathOff_mems (g : Nat) : SameMems s (s.pathOff g) := by simp [State.pathOff]

@[simp] theorem State.rowHead_mems (g m : Nat) : SameMems s (s.rowHead g m) := by
  simp only [State.rowHead]
  split <;> simp

@[simp] theorem State.clothPick_mems (g : Nat) (h body : Bytes) : SameMems s (s.clothPick g h body) := by
  simp [State.clothPick]

theorem State.clothItem_mems (g : Nat) : ∀ t, s.clothItem g = some t → SameMems s t := by
  simp only [State.clothItem]
  (repeat' split) <;> simp

theorem execClothItemReceive_keepsMems (g : Nat) : KeepsMems s (execClothItemReceive g s) := by
  simp only [execClothItemReceive, keepsMems_next]
  cases h : s.clothItem g with
  | none => exact SameMems.refl _
  | some t => exact s.clothItem_mems g t h

@[simp] theorem State.releaseNext_mems (g m w : Nat) : SameMems s (s.releaseNext g m w) := by simp [State.releaseNext]

theorem execRowRelease_keepsMems (g : Nat) : KeepsMems s (execRowRelease g s) := by
  simp only [execRowRelease, keepsMems_next]
  (repeat' split) <;> simp

theorem execRowWaitExpiry_keepsMems (g m : Nat) : KeepsMems s (execRowWaitExpiry g m s) := by
  simp only [execRowWaitExpiry, keepsMems_next]
  (repeat' split) <;> simp

theorem execResyncAtMarker_keepsMems (g : Nat) : KeepsMems s (execResyncAtMarker g s) := by
  simp only [execResyncAtMarker, keepsMems_next]
  (repeat' split) <;> simp

@[simp] theorem State.grpCfgWrite_mems (g off : Nat) (v : Word) : SameMems s (s.grpCfgWrite g off v) := by
  simp [State.grpCfgWrite]

@[simp] theorem State.grpLanesWrite_mems (g : Nat) (v : Word) : SameMems s (s.grpLanesWrite g v) := by
  simp [State.grpLanesWrite]

/-! ### DRAM -/

@[simp] theorem State.enterRecovery_mems (cause : BitVec 4) : SameMems s (s.enterRecovery cause) := by
  simp [State.enterRecovery]

@[simp] theorem State.listSuspect_mems (buffer : Bool) (level index : Nat) :
    SameMems s (s.listSuspect buffer level index) := by
  simp [State.listSuspect]

@[simp] theorem State.integrity_mems (buffer : Bool) (level index : Nat) : SameMems s (s.integrity buffer level index) := by
  simp [State.integrity]

@[simp] theorem State.poisonTable_mems (first count : Nat) : SameMems s (s.poisonTable first count) := ⟨rfl, rfl, rfl⟩

@[simp] theorem State.dropSpilled_mems (hit : Nat → Bool) : SameMems s (s.dropSpilled hit) := by simp [State.dropSpilled]

@[simp] theorem State.loseDeskew_mems (g : Nat) (hit : Nat → Bool) : SameMems s (s.loseDeskew g hit) := by
  simp only [State.loseDeskew]
  split
  · exact SameMems.refl _
  · exact foldl_mems _ _ _ fun t _ => t.setLane_mems _ _

@[simp] theorem State.loseBuffer_mems (hit : Nat → Bool) : SameMems s (s.loseBuffer hit) := by simp [State.loseBuffer]

@[simp] theorem State.loseRange_mems (buffer : Bool) (first count : Nat) : SameMems s (s.loseRange buffer first count) := by
  simp [State.loseRange]

@[simp] theorem State.poison_mems (buffer : Bool) (level index : Nat) : SameMems s (s.poison buffer level index) := by
  simp [State.poison]

@[simp] theorem State.checkPath_mems (buffer b : Bool) (ce : Src) (l : List PathObs) :
    SameMems s (s.checkPath buffer b ce l).1 := by
  induction l generalizing s with
  | nil => exact SameMems.refl _
  | cons o os ih =>
    unfold State.checkPath
    split
    · exact SameMems.refl _
    · split
      · exact SameMems.refl _
      · simp [ih]

@[simp] theorem State.verify_mems (read buffer b : Bool) (line : Nat) (ce : Src) (path : List PathObs) :
    SameMems s (s.verify read buffer b line ce path).1 := by
  simp only [State.verify]
  (repeat' split) <;> simp

@[simp] theorem State.useLine_mems (buffer : Bool) (line : Nat) (copies : List Bool) :
    SameMems s (s.useLine buffer line copies) := by
  simp [State.useLine]

@[simp] theorem State.faultLoads_mems (line : Nat) : SameMems s (s.faultLoads line) := by
  simp only [State.faultLoads]
  split <;> simp

@[simp] theorem State.putLine_mems (buffer : Bool) (mki d line : Nat) (plain : Bytes) (path : List PathObs) :
    SameMems s (s.putLine buffer mki d line plain path).1 := by
  simp [State.putLine]

@[simp] theorem State.verifyWrite_mems (buffer : Bool) (line : Nat) (path : List PathObs) :
    SameMems s (s.verifyWrite buffer line path).1 := by
  simp [State.verifyWrite]

@[simp] theorem State.mergeLine_mems (buffer : Bool) (mki d line off : Nat) (data : Bytes) (path : List PathObs) :
    SameMems s (s.mergeLine buffer mki d line off data path).1 := by
  simp [State.mergeLine]

theorem execCacheWriteback_keepsMems (idx : BitVec 24) (path : List PathObs) :
    KeepsMems s (execCacheWriteback idx path s) := by
  simp only [execCacheWriteback, keepsMems_next]
  split <;> simp

@[simp] theorem State.writeBackBank_mems (d : Nat) : SameMems s (s.writeBackBank d) := by
  simp only [State.writeBackBank]
  split <;> simp

theorem execPatrolScrubRead_keepsMems (buffer : Bool) (line : Nat) (path : List PathObs) :
    KeepsMems s (execPatrolScrubRead buffer line path s) := by
  simp [execPatrolScrubRead]

theorem execRerootDone_keepsMems (buffer : Bool) (first count : Nat) :
    KeepsMems s (execRerootDone buffer first count s) := by
  simp [execRerootDone]

@[simp] theorem State.reinitWrite_mems (v : Word) : SameMems s (s.reinitWrite v) := by simp [State.reinitWrite]

@[simp] theorem State.failStack_mems (st ch : Nat) : SameMems s (s.failStack st ch) := by simp [State.failStack]

theorem execStackFail_keepsMems (st ch : Nat) : KeepsMems s (execStackFail st ch s) := by simp [execStackFail]

theorem execDramLateArrival_keepsMems (ch : Nat) : KeepsMems s (execDramLateArrival ch s) := by simp [execDramLateArrival]

theorem execMirrorRebuildDone_keepsMems (st : Nat) : KeepsMems s (execMirrorRebuildDone st s) := by
  simp [execMirrorRebuildDone]

@[simp] theorem State.mscInitWrite_mems (v : Word) : SameMems s (s.mscInitWrite v) := by simp [State.mscInitWrite]

@[simp] theorem State.drawKeys_mems (n : Nat) : SameMems s (s.drawKeys n) := by
  induction n generalizing s with
  | zero => exact SameMems.refl _
  | succ n ih => simp [State.drawKeys, ih]

theorem execMscInitStart_keepsMems : KeepsMems s (execMscInitStart s) := by simp [execMscInitStart]

theorem execMscInitDone_keepsMems : KeepsMems s (execMscInitDone s) := by simp [execMscInitDone]

@[simp] theorem State.mkiCtlWrite_mems (v : Word) : SameMems s (s.mkiCtlWrite v) := by simp [State.mkiCtlWrite]

theorem execMkiRetired_keepsMems (k : Nat) : KeepsMems s (execMkiRetired k s) := by simp [execMkiRetired]

/-! ### Memory lines -/

@[simp] theorem State.updateLink_mems (p : Nat) : SameMems s (s.updateLink p) := by simp [State.updateLink]

@[simp] theorem State.evalMember_mems (l : Nat) : SameMems s (s.evalMember l) := by
  unfold State.evalMember
  (repeat' split) <;> simp

theorem execLosDetectorChange_keepsMems (lane : Nat) (los lol : Bool) :
    KeepsMems s (execLosDetectorChange lane los lol s) := by
  simp [execLosDetectorChange]

@[simp] theorem State.setPcs_mems (lane : Nat) (block fecLost : Bool) : SameMems s (s.setPcs lane block fecLost) := by
  simp [State.setPcs]

@[simp] theorem State.setBlock_mems (lane : Nat) (locked : Bool) : SameMems s (s.setBlock lane locked) := by
  simp [State.setBlock]

theorem execBlockLockChange_keepsMems (lane : Nat) (locked : Bool) : KeepsMems s (execBlockLockChange lane locked s) := by
  simp [execBlockLockChange]

theorem execLinkChange_keepsMems (port : Nat) (up : Bool) : KeepsMems s (execLinkChange port up s) := by
  simp [execLinkChange]

theorem execLinkTrainingTimeout_keepsMems (port : Nat) : KeepsMems s (execLinkTrainingTimeout port s) := by
  simp [execLinkTrainingTimeout]

theorem execPrbsLockChange_keepsMems (lane : Nat) (locked : Bool) (errors : Nat) :
    KeepsMems s (execPrbsLockChange lane locked errors s) := by
  simp [execPrbsLockChange]

@[simp] theorem State.showPrbs_mems (old : State) (lanes : List Nat) : SameMems s (s.showPrbs old lanes) := by
  simp [State.showPrbs]

@[simp] theorem State.lneReject_mems : SameMems s s.lneReject := ⟨rfl, rfl, rfl⟩

@[simp] theorem State.portCfgWrite_mems (p : Nat) (v : Word) : SameMems s (s.portCfgWrite p v) := by
  simp [State.portCfgWrite]

@[simp] theorem State.laneCfgWrite_mems (l : Nat) (v : Word) : SameMems s (s.laneCfgWrite l v) := by
  simp [State.laneCfgWrite]

/-! ### Weft -/

@[simp] theorem State.sign_mems (d : Nat) (msg : Bytes) : SameMems s (s.sign d msg).2 := ⟨rfl, rfl, rfl⟩

theorem execSidebandMessageError_keepsMems (n : Nat) (msg : Bytes) : KeepsMems s (execSidebandMessageError n msg s) := by
  simp [execSidebandMessageError]

@[simp] theorem State.sbSend_mems (n : Nat) (type : Byte) (payload : Bytes) :
    SameMems s (s.sbSend n type payload) := ⟨rfl, rfl, rfl⟩

@[simp] theorem State.sbRequest_mems (n : Nat) (type : Byte) (payload : Bytes) :
    SameMems s (s.sbRequest n type payload) := ⟨rfl, rfl, rfl⟩

theorem execSidebandRetry_keepsMems (n : Nat) : KeepsMems s (execSidebandRetry n s) := by
  simp only [execSidebandRetry, keepsMems_next]
  split <;> simp

theorem execTrainReq_keepsMems (n : Nat) (payload : Bytes) : KeepsMems s (execTrainReq n payload s) := by
  simp [execTrainReq]

@[simp] theorem State.askTaps_mems (n lane : Nat) : SameMems s (s.askTaps n lane) := ⟨rfl, rfl, rfl⟩

theorem execTrainRsp_keepsMems (n : Nat) (payload : Bytes) : KeepsMems s (execTrainRsp n payload s) := by
  simp [execTrainRsp]

@[simp] theorem State.weftEnter_mems (n : Nat) (st : WeftSt) : SameMems s (s.weftEnter n st) := by simp [State.weftEnter]

@[simp] theorem State.routeWeft_mems (f : WFrame) (lost : State → State) (h : ∀ t, SameMems t (lost t)) :
    SameMems s (s.routeWeft f lost) := by
  simp only [State.routeWeft]
  split <;> simp [h]

@[simp] theorem State.weftDown_mems (n : Nat) : SameMems s (s.weftDown n) := by simp [State.weftDown]

@[simp] theorem State.weftReset_mems (n : Nat) : SameMems s (s.weftReset n) := by simp [State.weftReset]

@[simp] theorem State.sendHello_mems (n : Nat) : SameMems s (s.sendHello n) := by
  unfold State.sendHello
  split <;> simp

@[simp] theorem State.refuseAgreement_mems (n : Nat) : SameMems s (s.refuseAgreement n) := by simp [State.refuseAgreement]

@[simp] theorem State.sendShare_mems (n : Nat) : SameMems s (s.sendShare n) := by simp [State.sendShare]

theorem execKeyHello_keepsMems (n : Nat) (payload : Bytes) : KeepsMems s (execKeyHello n payload s) := by
  simp [execKeyHello]

theorem execKeyShare_keepsMems (n : Nat) (payload : Bytes) : KeepsMems s (execKeyShare n payload s) := by
  simp only [execKeyShare, keepsMems_next]
  (repeat' split) <;> simp

theorem execKeyFinish_keepsMems (n : Nat) (payload : Bytes) : KeepsMems s (execKeyFinish n payload s) := by
  simp only [execKeyFinish, keepsMems_next]
  split <;> simp

theorem execWeftKeyRetry_keepsMems (n : Nat) : KeepsMems s (execWeftKeyRetry n s) := by
  simp only [execWeftKeyRetry, keepsMems_next]
  split <;> simp

theorem execWeftRekeyTimer_keepsMems (n : Nat) : KeepsMems s (execWeftRekeyTimer n s) := by simp [execWeftRekeyTimer]

@[simp] theorem State.trained_mems (n : Nat) : SameMems s (s.trained n) := by simp [State.trained]

@[simp] theorem State.setWeftLane_mems (n lane : Nat) (l : WeftLane) : SameMems s (s.setWeftLane n lane l) := by
  simp [State.setWeftLane]

theorem execWeftLinkStateChange_keepsMems (n : Nat) (e : WeftEdge) : KeepsMems s (execWeftLinkStateChange n e s) := by
  simp only [execWeftLinkStateChange, keepsMems_next]
  (repeat' split) <;> simp

theorem execTrainDone_keepsMems (n : Nat) : KeepsMems s (execTrainDone n s) := by simp [execTrainDone]

theorem execWeftTrainTimeout_keepsMems (n : Nat) : KeepsMems s (execWeftTrainTimeout n s) := by simp [execWeftTrainTimeout]

theorem execSidebandStatus_keepsMems (n : Nat) (payload : Bytes) : KeepsMems s (execSidebandStatus n payload s) := by
  simp only [execSidebandStatus, keepsMems_next]
  split <;> simp

@[simp] theorem State.weftEnable_mems (n : Nat) (en : Bool) : SameMems s (s.weftEnable n en) := by simp [State.weftEnable]

@[simp] theorem State.weftEmit_mems (n dest budget type : Nat) (body : Bytes) :
    SameMems s (s.weftEmit n dest budget type body) := by
  simp only [State.weftEmit]
  split <;> simp

@[simp] theorem State.sendCtl_mems (n : Nat) (c : WCtl) : SameMems s (s.sendCtl n c) := by
  unfold State.sendCtl
  split <;> simp

@[simp] theorem State.armAck_mems (n : Nat) : SameMems s (s.armAck n) := by simp [State.armAck]

@[simp] theorem State.sendAgain_mems (n : Nat) (f : WFrame) : SameMems s (s.sendAgain n f) := by
  unfold State.sendAgain
  split <;> simp

@[simp] theorem State.sendFirst_mems (n : Nat) (f : WFrame) : SameMems s (s.sendFirst n f) := by
  unfold State.sendFirst
  split <;> simp

theorem execWeftItemSend_keepsMems (n : Nat) : KeepsMems s (execWeftItemSend n s) := by
  simp only [execWeftItemSend, keepsMems_next]
  (repeat' split) <;> simp

@[simp] theorem State.weftCtl_mems (n : Nat) (c : WCtl) : SameMems s (s.weftCtl n c) := ⟨rfl, rfl, rfl⟩

@[simp] theorem State.ackNow_mems (n : Nat) : SameMems s (s.ackNow n) := ⟨rfl, rfl, rfl⟩

theorem State.weftOpen_ok_mems (n type : Nat) (item : Bytes) :
    ∀ t b, s.weftOpen n type item = .ok (t, b) → SameMems s t := by
  simp only [State.weftOpen]
  (repeat' split) <;> simp

theorem State.weftOpen_error_mems (n type : Nat) (item : Bytes) :
    ∀ t, s.weftOpen n type item = .error t → SameMems s t := by
  simp only [State.weftOpen]
  (repeat' split) <;> simp

theorem State.weftFn_ok_mems (n : Nat) (fn : Word) : ∀ t, s.weftFn n fn = .ok t → SameMems s t := by
  simp only [State.weftFn]
  (repeat' split) <;> simp

theorem State.weftFn_error_mems (n : Nat) (fn : Word) : ∀ t, s.weftFn n fn = .error t → SameMems s t := by
  simp only [State.weftFn]
  (repeat' split) <;> simp

@[simp] theorem State.weftDeliver_mems (n : Nat) (b : Bytes) : SameMems s (s.weftDeliver n b) := by simp [State.weftDeliver]

@[simp] theorem State.weftTransit_mems (n dest budget : Nat) (b : Bytes) : SameMems s (s.weftTransit n dest budget b) := by
  unfold State.weftTransit
  dsimp only
  split
  · rename_i t h
    simp [s.admission_mems _ _ t h]
  · simp

@[simp] theorem State.inBudget_mems (n : Nat) (item : Bytes) (run : State → State) (h : ∀ t, SameMems t (run t)) :
    SameMems s (s.inBudget n item run) := by
  simp [State.inBudget, h]

theorem execWeftFrameReceive_keepsMems (n : Nat) (item : Bytes) : KeepsMems s (execWeftFrameReceive n item s) := by
  simp only [execWeftFrameReceive, keepsMems_next]
  split
  · exact s.weftOpen_error_mems _ _ _ _ ‹_›
  · rename_i t b h
    have ht := s.weftOpen_ok_mems _ _ _ t b h
    split
    · exact (t.weftFn_error_mems _ _ _ ‹_›).trans ht
    · rename_i u hu
      refine (u.inBudget_mems _ _ _ fun u => ?_).trans ((t.weftFn_ok_mems _ _ u hu).trans ht)
      simp

theorem execWeftSkipReceive_keepsMems (n : Nat) (item : Bytes) : KeepsMems s (execWeftSkipReceive n item s) := by
  simp only [execWeftSkipReceive, keepsMems_next]
  split
  · exact s.weftOpen_error_mems _ _ _ _ ‹_›
  · rename_i t b h
    have ht := s.weftOpen_ok_mems _ _ _ t b h
    split
    · exact (t.weftFn_error_mems _ _ _ ‹_›).trans ht
    · rename_i u hu
      exact (u.inBudget_mems _ _ _ fun u => SameMems.refl u).trans ((t.weftFn_ok_mems _ _ u hu).trans ht)

theorem execWeftAckReceive_keepsMems (n : Nat) (item : Bytes) : KeepsMems s (execWeftAckReceive n item s) := by
  simp only [execWeftAckReceive, keepsMems_next]
  split
  · exact s.weftOpen_error_mems _ _ _ _ ‹_›
  · rename_i t b h
    refine (t.inBudget_mems _ _ _ fun t => ?_).trans (s.weftOpen_ok_mems _ _ _ t b h)
    simp

@[simp] theorem State.resendAll_mems (n : Nat) : SameMems s (s.resendAll n) := ⟨rfl, rfl, rfl⟩

theorem execWeftNakReceive_keepsMems (n : Nat) (item : Bytes) : KeepsMems s (execWeftNakReceive n item s) := by
  simp only [execWeftNakReceive, keepsMems_next]
  split
  · exact s.weftOpen_error_mems _ _ _ _ ‹_›
  · rename_i t b h
    exact (t.inBudget_mems _ _ _ fun t => t.resendAll_mems _).trans (s.weftOpen_ok_mems _ _ _ t b h)

theorem execWeftKeyswitchReceive_keepsMems (n : Nat) (item : Bytes) : KeepsMems s (execWeftKeyswitchReceive n item s) := by
  simp only [execWeftKeyswitchReceive, keepsMems_next]
  split
  · exact s.weftOpen_error_mems _ _ _ _ ‹_›
  · rename_i t b h
    refine (t.inBudget_mems _ _ _ fun t => ?_).trans (s.weftOpen_ok_mems _ _ _ t b h)
    split <;> simp

theorem execWeftTimeReceive_keepsMems (n : Nat) (item : Bytes) : KeepsMems s (execWeftTimeReceive n item s) := by
  simp only [execWeftTimeReceive, keepsMems_next]
  split
  · exact s.weftOpen_error_mems _ _ _ _ ‹_›
  · rename_i t b h
    exact (t.inBudget_mems _ _ _ fun t => t.setWport_mems _ _).trans (s.weftOpen_ok_mems _ _ _ t b h)

theorem execWeftAckTimeout_keepsMems (n : Nat) : KeepsMems s (execWeftAckTimeout n s) := by
  simp only [execWeftAckTimeout, keepsMems_next]
  split <;> simp

theorem execWeftAckSend_keepsMems (n : Nat) : KeepsMems s (execWeftAckSend n s) := by simp [execWeftAckSend]

theorem execWeftTimeSend_keepsMems (n : Nat) : KeepsMems s (execWeftTimeSend n s) := by simp [execWeftTimeSend]

@[simp] theorem State.wftReject_mems : SameMems s s.wftReject := ⟨rfl, rfl, rfl⟩

@[simp] theorem State.weftCfgWrite_mems (n : Nat) (v : Word) : SameMems s (s.weftCfgWrite n v) := by
  simp [State.weftCfgWrite]

@[simp] theorem State.routeWrite_mems (d : Nat) (v : Word) : SameMems s (s.routeWrite d v) := by simp [State.routeWrite]

/-! ### Power -/

@[simp] theorem State.enterSleep_mems (d : Nat) (target : PSt) : SameMems s (s.enterSleep d target) := by
  unfold State.enterSleep
  split
  · exact SameMems.refl _
  · exact SameMems.refl _
  · dsimp only
    split
    · simp
    · exact foldl_mems _ _ _ fun t e => by simp
    · exact SameMems.refl _

@[simp] theorem State.placeOther_mems (d : Nat) : SameMems s (s.placeOther d) := by simp [State.placeOther]

@[simp] theorem State.placeGated_mems (d : Nat) : SameMems s (s.placeGated d) := by simp [State.placeGated]

@[simp] theorem State.staleEngines_mems (p : Nat) : SameMems s (s.staleEngines p) := by simp [State.staleEngines]

@[simp] theorem State.leavePair_mems (p : Nat) : SameMems s (s.leavePair p) := by simp [State.leavePair]

@[simp] theorem State.endRecoveries_mems : SameMems s s.endRecoveries := by simp [State.endRecoveries]

@[simp] theorem State.placeAll_mems : SameMems s s.placeAll := by
  unfold State.placeAll
  extract_lets present s₁ c p wakeC wakeP gone pmc s₂ s₃ s₄ s₅
  have h₁ : SameMems s s₁ := foldl_mems _ _ _ fun t d => t.setDom_mems _ _
  have h₃ : SameMems s₁ s₃ := foldl_mems _ _ s₂ fun t d => by simp
  have h₄ : SameMems s₃ s₄ := foldl_mems _ _ s₃ fun t g => by split <;> simp
  have h₅ : SameMems s₄ s₅ := foldl_mems _ _ s₄ fun t d => by simp
  simp [h₅, h₄, h₃, h₁]

@[simp] theorem State.orderWakes_mems (old : List Nat) : SameMems s (s.orderWakes old) := ⟨rfl, rfl, rfl⟩

theorem execPmcDecision_keepsMems : KeepsMems s (execPmcDecision s) := by simp [execPmcDecision]

@[simp] theorem State.refillBucket_mems : SameMems s s.refillBucket := ⟨rfl, rfl, rfl⟩

@[simp] theorem State.missed_mems (d : Nat) (st : PSt) (since : Nat) : SameMems s (s.missed d st since) := by
  unfold State.missed
  split <;> simp

@[simp] theorem State.admitWake_mems (d : Nat) : SameMems s (s.admitWake d) := by
  simp only [State.admitWake]
  split <;> simp

@[simp] theorem State.admitWakes_mems (ds : List Nat) : SameMems s (s.admitWakes ds) := by
  induction ds generalizing s with
  | nil => exact SameMems.refl _
  | cons d ds ih => simp [State.admitWakes, ih]

theorem execWakeAdmit_keepsMems : KeepsMems s (execWakeAdmit s) := by simp [execWakeAdmit]

@[simp] theorem State.firstWakes_mems : SameMems s s.firstWakes := by simp [State.firstWakes]

@[simp] theorem State.pmcReject_mems : SameMems s s.pmcReject := ⟨rfl, rfl, rfl⟩

@[simp] theorem State.wakeWrite_mems (v : Word) : SameMems s (s.wakeWrite v) := by simp [State.wakeWrite]

@[simp] theorem State.shedBack_mems (p : Nat) : SameMems s (s.shedBack p) := by
  unfold State.shedBack
  split <;> simp

@[simp] theorem State.sliceUp_mems (k : Nat) : SameMems s (s.sliceUp k) := by
  exact (foldl_mems _ _ _ fun t p => by simp).trans (foldl_mems _ _ _ fun t q => t.setQueue_mems _ _)

@[simp] theorem State.bistFaults_mems (d : Nat) : SameMems s (s.bistFaults d) := by
  unfold State.bistFaults
  split <;> simp

@[simp] theorem State.cluFresh_mems (c : Nat) : SameMems s (s.cluFresh c) := by simp [State.cluFresh]

@[simp] theorem State.stackBack_mems (st : Nat) : SameMems s (s.stackBack st) := by simp [State.stackBack]

theorem execDomainFresh_keepsMems (dom : Nat) : KeepsMems s (execDomainFresh dom s) := by
  simp only [execDomainFresh, keepsMems_next, SameMems, mems_ite, State.event_mems, ite_self]
  split
  · exact SameMems.refl _
  · split <;> simp

@[simp] theorem State.returnWrite_mems (v : Word) : SameMems s (s.returnWrite v) := by simp [State.returnWrite]

@[simp] theorem State.scrReload_mems (v : Word) : SameMems s (s.scrReload v) := by simp [State.scrReload]

/-! ### Tamper response -/

@[simp] theorem State.envReading_mems (src : Nat) (a b : ℤ) : SameMems s (s.envReading src a b) := by
  simp [State.envReading]

@[simp] theorem State.sampleSource_mems (src : Nat) (a b : ℤ) : SameMems s (s.sampleSource src a b) := by
  simp [State.sampleSource]

theorem execTamperSample_keepsMems (src : Nat) (a b : ℤ) : KeepsMems s (execTamperSample src a b s) := by
  simp [execTamperSample]

@[simp] theorem State.eraseItem_mems (i : QItem) : SameMems s (s.eraseItem i) := by
  unfold State.eraseItem
  split <;> simp

@[simp] theorem State.eraseRecords_mems (gone : List Nat) : SameMems s (s.eraseRecords gone) := by simp [State.eraseRecords]

@[simp] theorem State.eraseCloth_mems : SameMems s s.eraseCloth := ⟨rfl, rfl, rfl⟩

@[simp] theorem State.eraseWeft_mems : SameMems s s.eraseWeft := by simp [State.eraseWeft]

@[simp] theorem State.eraseLookaside_mems : SameMems s s.eraseLookaside := by simp [State.eraseLookaside]

@[simp] theorem State.quiesce_mems : SameMems s s.quiesce := by simp [State.quiesce]

@[simp] theorem State.requestLock_mems (src : Nat) : SameMems s (s.requestLock src) := by simp [State.requestLock]

@[simp] theorem State.latchRecord_mems (r : LatchRec) : SameMems s (s.latchRecord r) := by simp [State.latchRecord]

@[simp] theorem State.tamperRecord_mems (src : Nat) (resp done : BitVec 3) : SameMems s (s.tamperRecord src resp done) := by
  simp [State.tamperRecord]

@[simp] theorem State.tamperEvent_mems (src : Nat) (done : BitVec 3) : SameMems s (s.tamperEvent src done) := by
  simp [State.tamperEvent]

theorem execEraseReadbackDone_keepsMems (zeros : Bool) : KeepsMems s (execEraseReadbackDone zeros s) := by
  simp [execEraseReadbackDone]

@[simp] theorem State.alarmClr_mems (v : Word) : SameMems s (s.alarmClr v) := by simp [State.alarmClr]

@[simp] theorem State.holdsAlarm_mems (src : Nat) (v : ℤ) : SameMems s (s.holdsAlarm src v).2 := by simp [State.holdsAlarm]

@[simp] theorem State.battFire_mems (src : Nat) (a b : Bool) (v : ℤ) : SameMems s (s.battFire src a b v) := by
  simp [State.battFire]

theorem execBatterySample_keepsMems (src : Nat) (a b : ℤ) : KeepsMems s (execBatterySample src a b s) := by
  simp only [execBatterySample, keepsMems_next]
  split <;> simp

theorem execVbatRetentionLost_keepsMems : KeepsMems s (execVbatRetentionLost s) := by simp [execVbatRetentionLost]

@[simp] theorem State.tmuReject_mems : SameMems s s.tmuReject := ⟨rfl, rfl, rfl⟩

@[simp] theorem State.srcCfgWrite_mems (src : Nat) (v : Word) : SameMems s (s.srcCfgWrite src v) := by
  simp [State.srcCfgWrite]

@[simp] theorem State.meshCfgWrite_mems (m : Nat) (v : Word) : SameMems s (s.meshCfgWrite m v) := by
  simp [State.meshCfgWrite]

@[simp] theorem State.envCfgWrite_mems (v : Word) : SameMems s (s.envCfgWrite v) := by simp [State.envCfgWrite]

@[simp] theorem State.fuseWrite_mems (v : Word) : SameMems s (s.fuseWrite v) := by simp [State.fuseWrite]

theorem execMeshMeasure_keepsMems (m ohms : Nat) : KeepsMems s (execMeshMeasure m ohms s) := by simp [execMeshMeasure]

/-! ### Keys -/

theorem execClothKeyRetire_keepsMems (f : Nat) : KeepsMems s (execClothKeyRetire f s) := by simp [execClothKeyRetire]

@[simp] theorem State.setLks_mems (n : Nat) (k : LksKey) : SameMems s (s.setLks n k) := ⟨rfl, rfl, rfl⟩

@[simp] theorem State.dropLksCtx_mems (n : Nat) : SameMems s (s.dropLksCtx n) := ⟨rfl, rfl, rfl⟩

theorem execLksKeyDestroy_keepsMems (f : Nat) : KeepsMems s (execLksKeyDestroy f s) := by simp [execLksKeyDestroy]

@[simp] theorem State.setSlot_mems (f : Nat) (e : Fetched) : SameMems s (s.setSlot f e) := ⟨rfl, rfl, rfl⟩

@[simp] theorem State.refuseSlot_mems (f : Nat) (e : Fetched) (st : HStat) : SameMems s (s.refuseSlot f e st) := by
  simp [State.refuseSlot]

@[simp] theorem State.submitLookaside_mems (f : Nat) (e : Fetched) (kind : JobKind) :
    SameMems s (s.submitLookaside f e kind) := ⟨rfl, rfl, rfl⟩

@[simp] theorem State.lookaside_mems (f op : Nat) (kind : JobKind) (rangeOk : Fetched → Bool) :
    SameMems s (s.lookaside f op kind rangeOk) := by
  unfold State.lookaside
  (repeat' split) <;> simp

theorem execXtsEncrypt_keepsMems (f : Nat) : KeepsMems s (execXtsEncrypt f s) := by simp [execXtsEncrypt]

theorem execXtsDecrypt_keepsMems (f : Nat) : KeepsMems s (execXtsDecrypt f s) := by simp [execXtsDecrypt]

theorem execGcmEncrypt_keepsMems (f : Nat) : KeepsMems s (execGcmEncrypt f s) := by simp [execGcmEncrypt]

theorem execGcmDecrypt_keepsMems (f : Nat) : KeepsMems s (execGcmDecrypt f s) := by simp [execGcmDecrypt]

theorem execBksDestroy_keepsMems (f : Nat) : KeepsMems s (execBksDestroy f s) := by simp [execBksDestroy]

theorem execBksStatus_keepsMems (f : Nat) : KeepsMems s (execBksStatus f s) := by simp [execBksStatus]

theorem execIdCertRead_keepsMems (f : Nat) : KeepsMems s (execIdCertRead f s) := by
  simp only [execIdCertRead, keepsMems_next]
  split <;> simp

theorem execCascadeCertLoad_keepsMems (f : Nat) : KeepsMems s (execCascadeCertLoad f s) := by
  simp only [execCascadeCertLoad, keepsMems_next]
  split <;> simp

@[simp] theorem State.writeBack_mems (f : Nat) (out : Bytes) : SameMems s (s.writeBack f out) := by
  unfold State.writeBack
  split <;> simp

theorem execAttest_keepsMems (f : Nat) : KeepsMems s (execAttest f s) := by
  simp only [execAttest, keepsMems_next]
  split <;> simp

theorem execBbxSeal_keepsMems (f : Nat) : KeepsMems s (execBbxSeal f s) := by
  simp only [execBbxSeal, keepsMems_next]
  refine s.command_mems _ _ _ _ fun c => ?_
  split
  · simp
  · exact (State.writeBack_mems ..).trans ((State.record_mems ..).trans (State.sign_mems ..))

/-! ### Lifecycle -/

@[simp] theorem State.decodeLc_mems (agree : Bool) : SameMems s (s.decodeLc agree) := by simp [State.decodeLc]

@[simp] theorem State.setOtp_mems (code : Nat) (b : Bytes) : SameMems s (s.setOtp code b) := ⟨rfl, rfl, rfl⟩

@[simp] theorem State.readOtp_mems (reads : List (Nat × Bytes)) : SameMems s (s.readOtp reads) := ⟨rfl, rfl, rfl⟩

theorem execLcOtpWrite_keepsMems (f : Nat) : KeepsMems s (execLcOtpWrite f s) := by simp [execLcOtpWrite]

theorem execLcOtpRead_keepsMems (f : Nat) : KeepsMems s (execLcOtpRead f s) := by simp [execLcOtpRead]

@[simp] theorem State.unsealBks_mems (fails : List Nat) : SameMems s (s.unsealBks fails) := by simp [State.unsealBks]

@[simp] theorem State.decrementStarts_mems : SameMems s s.decrementStarts := ⟨rfl, rfl, rfl⟩

@[simp] theorem State.regenerate_mems (o : StartObs) : SameMems s (s.regenerate o) := by simp [State.regenerate]

@[simp] theorem State.closeScrap_mems : SameMems s s.closeScrap := by
  unfold State.closeScrap
  split
  · exact s.setOtp_mems ..
  · exact SameMems.refl s

@[simp] theorem State.startKcu_mems (o : StartObs) : SameMems s (s.startKcu o) := by simp [State.startKcu]

@[simp] theorem State.programBits_mems (bits : List (Nat × Nat)) : SameMems s (s.programBits bits) := ⟨rfl, rfl, rfl⟩

@[simp] theorem State.programStages_mems (dst : Nat) : SameMems s (s.programStages dst) := ⟨rfl, rfl, rfl⟩

@[simp] theorem State.spendToken_mems : SameMems s s.spendToken := by
  unfold State.spendToken
  split <;> simp

theorem execShuavoChallenge_keepsMems (f : Nat) : KeepsMems s (execShuavoChallenge f s) := by simp [execShuavoChallenge]

theorem execShuavoChallengeExpiry_keepsMems : KeepsMems s (execShuavoChallengeExpiry s) := by
  simp only [execShuavoChallengeExpiry, keepsMems_next]
  split <;> simp

@[simp] theorem State.failedResponse_mems : SameMems s s.failedResponse := ⟨rfl, rfl, rfl⟩

/-! ### Resets -/

@[simp] theorem State.settleFuse_mems : SameMems s s.settleFuse := by simp [State.settleFuse]

@[simp] theorem State.drainBox_mems : SameMems s s.drainBox := by simp [State.drainBox]

@[simp] theorem State.readFuses_mems (second : Word) : SameMems s (s.readFuses second) := by simp [State.readFuses]

@[simp] theorem State.start_mems (kind : Nat) (o : StartObs) : SameMems s (s.start kind o) := by simp [State.start]

@[simp] theorem State.startDecode_mems (kind : Nat) (o : StartObs) : SameMems s (s.startDecode kind o) := by
  simp [State.startDecode]

@[simp] theorem State.commitLatch_mems : SameMems s s.commitLatch := by simp [State.commitLatch]

@[simp] theorem State.cutCommit_mems (n : Nat) (late : Bool) : SameMems s (s.cutCommit n late) := by simp [State.cutCommit]

@[simp] theorem State.cutBox_mems : SameMems s s.cutBox := by simp [State.cutBox]

theorem execLatchCommit_keepsMems : KeepsMems s (execLatchCommit s) := by
  simp only [execLatchCommit, keepsMems_next]
  (repeat' split) <;> simp

@[simp] theorem State.samplePins_mems (o : StartObs) : SameMems s (s.samplePins o) := ⟨rfl, rfl, rfl⟩

@[simp] theorem State.stopLookaside_mems (f : Nat) : SameMems s (s.stopLookaside f) := by simp [State.stopLookaside]

@[simp] theorem State.seesPulse_mems (code : Nat) : SameMems s (s.seesPulse code).2 := ⟨rfl, rfl, rfl⟩

theorem execPfwAssert_keepsMems : KeepsMems s (execPfwAssert s) := by simp [execPfwAssert]

theorem execPfwDeassert_keepsMems : KeepsMems s (execPfwDeassert s) := by simp [execPfwDeassert]

theorem execPpsInEdge_keepsMems : KeepsMems s (execPpsInEdge s) := by simp [execPpsInEdge]

theorem execPpsOutPulse_keepsMems : KeepsMems s (execPpsOutPulse s) := by simp [execPpsOutPulse]

@[simp] theorem State.tbReject_mems : SameMems s s.tbReject := ⟨rfl, rfl, rfl⟩

@[simp] theorem State.setTime_mems (w0 w1 v : Word) : SameMems s (s.setTime w0 w1 v) := by simp [State.setTime]

@[simp] theorem State.smbAnswer_mems (code : Byte) (block : Bool) (bytes : Bytes) :
    SameMems s (s.smbAnswer code block bytes) := ⟨rfl, rfl, rfl⟩

theorem execSmbIdent_keepsMems : KeepsMems s (execSmbIdent s) := by simp [execSmbIdent]

theorem execSmbStatus_keepsMems : KeepsMems s (execSmbStatus s) := by simp [execSmbStatus]

theorem execSmbTemp_keepsMems : KeepsMems s (execSmbTemp s) := by simp [execSmbTemp]

theorem execSmbVbat_keepsMems : KeepsMems s (execSmbVbat s) := by simp [execSmbVbat]

theorem execSmbBbx_keepsMems : KeepsMems s (execSmbBbx s) := by simp [execSmbBbx]

theorem execSmbPfw_keepsMems : KeepsMems s (execSmbPfw s) := by simp [execSmbPfw]

theorem execSmbWriteRefused_keepsMems (code : Byte) (write : Bool) : KeepsMems s (execSmbWriteRefused code write s) := by
  simp [execSmbWriteRefused]

/-! ### Register reads -/

@[simp] theorem State.answerRead_mems (v : Word) : SameMems s (s.answerRead v) := ⟨rfl, rfl, rfl⟩

@[simp] theorem State.latchWord_mems (key : Nat) (v : Word) : SameMems s (s.latchWord key v) := ⟨rfl, rfl, rfl⟩

@[simp] theorem State.readCntLow_mems (n key : Nat) : SameMems s (s.readCntLow n key) := by simp [State.readCntLow]

@[simp] theorem State.readCntHigh_mems (n key : Nat) : SameMems s (s.readCntHigh n key) := by
  unfold State.readCntHigh
  split <;> simp

@[simp] theorem State.readBar0_mems (id : RegId) (i j a : Nat) : SameMems s (s.readBar0 id i j a) := by
  unfold State.readBar0
  split <;> simp

@[simp] theorem State.readBar2_mems (f a : Nat) : SameMems s (s.readBar2 f a) := by
  unfold State.readBar2
  (repeat' split) <;> simp

@[simp] theorem State.hostRead_mems (f : Nat) (bar2 : Bool) (addr : Nat) : SameMems s (s.hostRead f bar2 addr) := by
  simp only [State.hostRead]
  (repeat' split) <;> simp

theorem execLowWordReadLatch_keepsMems (f : Nat) (bar2 : Bool) (addr : Nat) :
    KeepsMems s (execLowWordReadLatch f bar2 addr s) := by
  simp [execLowWordReadLatch]

theorem execReadClear_keepsMems (f : Nat) (bar2 : Bool) (addr : Nat) : KeepsMems s (execReadClear f bar2 addr s) := by
  simp [execReadClear]

theorem execForbiddenRegisterRead_keepsMems (f : Nat) (bar2 : Bool) (addr : Nat) :
    KeepsMems s (execForbiddenRegisterRead f bar2 addr s) := by
  simp [execForbiddenRegisterRead]

/-! ### Register writes -/

@[simp] theorem State.blockReject_mems (id : RegId) (i : Nat) : SameMems s (s.blockReject id i) := by
  unfold State.blockReject
  cases id <;> simp

@[simp] theorem State.reservedWrite_mems (id : RegId) (i a : Nat) : SameMems s (s.reservedWrite id i a) := by
  simp [State.reservedWrite]

@[simp] theorem State.absentWrite_mems (id : RegId) (i a : Nat) : SameMems s (s.absentWrite id i a) := by
  simp [State.absentWrite]

@[simp] theorem State.hold_mems (key : Nat) (v : Word) : SameMems s (s.hold key v) := ⟨rfl, rfl, rfl⟩

@[simp] theorem State.unhold_mems (keys : List Nat) : SameMems s (s.unhold keys) := ⟨rfl, rfl, rfl⟩

@[simp] theorem State.setRw_mems (r : RegRow) (i j : Nat) (v : Word) : SameMems s (s.setRw r i j v) := ⟨rfl, rfl, rfl⟩

@[simp] theorem State.clearBits_mems (id : RegId) (i : Nat) (v mask : Word) :
    SameMems s (s.clearBits id i v mask) := ⟨rfl, rfl, rfl⟩

@[simp] theorem State.checked_mems (r : RegRow) (i j : Nat) (v : Word) (ok : Bool) : SameMems s (s.checked r i j v ok) := by
  simp [State.checked]

@[simp] theorem State.orRsvd_mems (r : RegRow) (i a : Nat) (v : Word) (ok : Bool) : SameMems s (s.orRsvd r i a v ok) := by
  simp [State.orRsvd]

@[simp] theorem State.modeWrite_mems (a : Nat) (v : Word) : SameMems s (s.modeWrite a v) := by simp [State.modeWrite]

@[simp] theorem State.cntCommit_mems (n a : Nat) (v : Word) : SameMems s (s.cntCommit n a v) := ⟨rfl, rfl, rfl⟩

@[simp] theorem State.cfgCommit_mems (n a : Nat) (v : Word) : SameMems s (s.cfgCommit n a v) := by simp [State.cfgCommit]

@[simp] theorem State.ovfClear_mems (w : Nat) (v : Word) : SameMems s (s.ovfClear w v) := ⟨rfl, rfl, rfl⟩

@[simp] theorem State.cvuCommit_mems (p a : Nat) (v : Word) : SameMems s (s.cvuCommit p a v) := by simp [State.cvuCommit]

@[simp] theorem State.qMapWrite_mems (q : Nat) (v : Word) : SameMems s (s.qMapWrite q v) := by simp [State.qMapWrite]

@[simp] theorem State.shedCntWrite_mems (p : Nat) (v : Word) : SameMems s (s.shedCntWrite p v) := by
  simp [State.shedCntWrite]

@[simp] theorem State.shedBaseWrite_mems (id : RegId) (b : Bool) (p j a : Nat) (v : Word) :
    SameMems s (s.shedBaseWrite id b p j a v) := by
  simp [State.shedBaseWrite]

@[simp] theorem State.shedEntWrite_mems (p j : Nat) (v : Word) : SameMems s (s.shedEntWrite p j v) := by
  simp [State.shedEntWrite]

@[simp] theorem State.histCfgWrite_mems (h : Nat) (v : Word) : SameMems s (s.histCfgWrite h v) := by
  simp [State.histCfgWrite]

@[simp] theorem State.mtWrite_mems (i j : Nat) (v : Word) : SameMems s (s.mtWrite i j v) := by simp [State.mtWrite]

@[simp] theorem State.tagWrite_mems (i : Nat) (v : Word) : SameMems s (s.tagWrite i v) := by simp [State.tagWrite]

@[simp] theorem State.lanesWrite_mems (g : Nat) (v : Word) : SameMems s (s.lanesWrite g v) := by simp [State.lanesWrite]

@[simp] theorem State.grpWrite_mems (g off : Nat) (v : Word) : SameMems s (s.grpWrite g off v) := by simp [State.grpWrite]

@[simp] theorem State.rxWrite_mems (g : Nat) (v : Word) : SameMems s (s.rxWrite g v) := by simp [State.rxWrite]

@[simp] theorem State.mirrorWrite_mems (v : Word) : SameMems s (s.mirrorWrite v) := by simp [State.mirrorWrite]

@[simp] theorem State.policyWrite_mems (v : Word) : SameMems s (s.policyWrite v) := by simp [State.policyWrite]

@[simp] theorem State.cieRetireWrite_mems (a : Nat) (v : Word) : SameMems s (s.cieRetireWrite a v) := by
  simp [State.cieRetireWrite]

@[simp] theorem State.devIdWrite_mems (v : Word) : SameMems s (s.devIdWrite v) := by simp [State.devIdWrite]

@[simp] theorem State.ringCfgWrite_mems (f r a : Nat) (v : Word) : SameMems s (s.ringCfgWrite f r a v) := by
  simp [State.ringCfgWrite]

@[simp] theorem State.ringWrite_mems (f r k a : Nat) (v : Word) : SameMems s (s.ringWrite f r k a v) := by
  unfold State.ringWrite
  split <;> simp

@[simp] theorem State.maskWrite_mems (f vec : Nat) (masked : Bool) : SameMems s (s.maskWrite f vec masked) := by
  simp [State.maskWrite]

@[simp] theorem State.writeAbsent_mems (id : Option RegId) (a : Nat) : SameMems s (s.writeAbsent id a) := by
  simp [State.writeAbsent]

@[simp] theorem State.partialWrite_mems (f : Nat) (bar2 : Bool) (a : Nat) : SameMems s (s.partialWrite f bar2 a) := by
  simp only [State.partialWrite]
  (repeat' split) <;> simp

/-! ### The dispatch -/

end Sys2Proof.Machine
end

section
/-! SUPPORT. The canonical form of the byte memories, for O4: a function that changes the scratch, the scratch images or a key
page writes bytes one by one, filters a memory or empties it, and so keeps the form (`Memory.wf_writeBytes`, `Memory.wf_filter`);
the functions that call it keep it by its rule, and all others by their frame, `State.f_mems`. -/

namespace Sys2Proof.Machine

/-- A command's next state has its memories in canonical form. -/
def NextInv (o : Host.Outcome State Fault Refusal) : Prop := ∀ t, o = .next t → t.MemInv

@[simp] theorem nextInv_next (t : State) : NextInv (.next t) ↔ t.MemInv := by simp [NextInv]

theorem KeepsMems.nextInv {s : State} {o : Host.Outcome State Fault Refusal} (ho : KeepsMems s o) (h : s.MemInv) : NextInv o :=
  fun t ht => (ho t ht).memInv h

/-- What an instruction's effect leaves has its memories in canonical form. -/
def Act.Inv : Act → Prop
  | .stall t => t.MemInv
  | .trap _ => True
  | .go t _ => t.MemInv
  | .free t => t.MemInv

@[simp] theorem Act.inv_stall (t : State) : (Act.stall t).Inv ↔ t.MemInv := Iff.rfl

@[simp] theorem Act.inv_trap (t : Trap) : (Act.trap t).Inv := trivial

@[simp] theorem Act.inv_go (t : State) (pc : Nat) : (Act.go t pc).Inv ↔ t.MemInv := Iff.rfl

@[simp] theorem Act.inv_free (t : State) : (Act.free t).Inv ↔ t.MemInv := Iff.rfl

theorem Act.Same.inv {s : State} {act : Act} (ha : act.Same s) (h : s.MemInv) : act.Inv := by
  cases act with
  | trap t => trivial
  | stall t => exact SameMems.memInv ha h
  | go t pc => exact SameMems.memInv ha h
  | free t => exact SameMems.memInv ha h

theorem memInv_ite {p : Prop} [Decidable p] {s t : State} (hs : s.MemInv) (ht : t.MemInv) : (if p then s else t).MemInv := by
  split
  · exact hs
  · exact ht

theorem foldl_memInv {α : Type} {f : State → α → State} (l : List α) {s : State} (h : s.MemInv)
    (hf : ∀ t x, t.MemInv → (f t x).MemInv) : (l.foldl f s).MemInv :=
  List.foldlRecOn (motive := State.MemInv) l f h fun t ht x _ => hf t x ht

variable {s : State}

/-! ### The functions that write a memory -/

theorem State.memInv_of_scratch (h : s.MemInv) {m : Memory} (hm : m.wf = true) :
    { s with shu := { s.shu with scratch := m } }.MemInv := by
  obtain ⟨-, images, pages⟩ := h
  exact ⟨hm, images, pages⟩

theorem State.setPage_memInv (h : s.MemInv) (f : Nat) {x : KeyPage} (hx : Memory.wf x.data = true) : (s.setPage f x).MemInv := by
  obtain ⟨scratch, images, pages⟩ := h
  refine ⟨scratch, images, fun g => ?_⟩
  by_cases hg : g = f
  · subst hg
    simpa [State.page, State.setPage, tget_tset_same] using hx
  · simpa [State.page, State.setPage, tget_tset_other _ _ _ _ hg] using pages g

theorem State.emptyPage_memInv (h : s.MemInv) (f : Nat) : (s.emptyPage f).MemInv := s.setPage_memInv h f rfl

theorem State.landFadds_memInv (h : s.MemInv) (b : Nat) : (s.landFadds b).MemInv := by
  refine s.memInv_of_scratch h (List.foldlRecOn (motive := fun m : Memory => m.wf = true) _ _ h.1 fun m hm o _ => ?_)
  split
  · exact Memory.wf_writeBytes _ _ hm
  · exact hm

theorem State.scratchWrite_memInv (h : s.MemInv) (c addr : Nat) (bs : Bytes) : (s.scratchWrite c addr bs).MemInv :=
  s.memInv_of_scratch h (Memory.wf_writeBytes _ _ h.1)

theorem State.clearScratch_memInv (h : s.MemInv) (c : Nat) : (s.clearScratch c).MemInv :=
  s.memInv_of_scratch h (Memory.wf_filter _ h.1)

theorem State.hostScratch_memInv (h : s.MemInv) (c j : Nat) (v : Word) : (s.hostScratch c j v).MemInv := by
  have img : { s with shu := { s.shu with
      images := Memory.writeBytes s.shu.images (16384 * c + 4 * j) (leBytes v.toNat 4) } }.MemInv := by
    obtain ⟨scratch, images, pages⟩ := h
    exact ⟨scratch, Memory.wf_writeBytes _ _ images, pages⟩
  exact memInv_ite img (State.scratchWrite_memInv img ..)

/-- The key pages all empty, as an erase leaves them. -/
theorem State.memInv_of_noPages {t : State} (h : s.MemInv) (scratch : t.shu.scratch = s.shu.scratch)
    (images : t.shu.images = s.shu.images) (pages : t.hif.pages = []) : t.MemInv := by
  obtain ⟨wf, wfImages, -⟩ := h
  exact ⟨scratch ▸ wf, images ▸ wfImages, fun f => by simp [State.page, pages, tget]⟩

/-! The memories lie in the scratch and the host interface: the other parts of the state do not matter to them. -/

theorem State.memInv_withTmu (h : s.MemInv) (x : Tmu) : { s with tmu := x }.MemInv := h

theorem State.memInv_withKcu (h : s.MemInv) (x : Kcu) : { s with kcu := x }.MemInv := h

theorem State.cleared_memInv (s : State) (soft off : Bool) : (s.cleared soft off).MemInv := by
  refine ⟨rfl, rfl, fun f => ?_⟩
  cases soft <;> rfl

/-! ### Dropped picks, traps and issue -/

theorem State.dropByT32_memInv (h : s.MemInv) (p reason : Nat) : (s.dropByT32 p reason).MemInv := by
  refine (State.dropPick_mems _ _ _).memInv ?_
  split
  · exact (State.freeBob_mems _ _).memInv (State.landFadds_memInv h _)
  · exact h

theorem State.trapAt_memInv (h : s.MemInv) (b : Nat) (t : Trap) (pc : Nat) (w : Word) : (s.trapAt b t pc w).MemInv := by
  unfold State.trapAt
  split
  · exact h
  · have dropped {t : State} (ht : SameMems s t) (p reason : Nat) : (((t.landFadds b).freeBob b).dropPick p reason).MemInv :=
      SameMems.memInv (by simp) (State.landFadds_memInv (ht.memInv h) b)
    dsimp only
    cases (s.bob b).pick with
    | none =>
      refine memInv_ite ?_ (memInv_ite ?_ ?_)
      · exact SameMems.memInv (by simp) h
      · exact SameMems.memInv (by simp) h
      · split <;> exact SameMems.memInv (by simp) h
    | some p =>
      refine memInv_ite (dropped (by simp) p 2) (memInv_ite (dropped (by simp) p 1) ?_)
      split
      · exact dropped (by simp) p 1
      · exact SameMems.memInv (by simp) h

theorem State.issue_memInv (h : s.MemInv) (b : Nat) (w : Word) (post : Bool) (regs : List Reg)
    {eff : State → Bobbin → Pick → Act} (he : ∀ t B k, t.MemInv → (eff t B k).Inv) :
    (s.issue b w post regs eff).MemInv := by
  unfold State.issue
  cases hk : s.bobPick b with
  | none => exact h
  | some k =>
    dsimp only
    have hact : (if !post && k.disp != 0 then Act.trap .illegal
        else eff (s.setBob b { s.bob b with tbNs := none }) (s.bob b) k).Inv := by
      split
      · trivial
      · exact he _ _ _ ((State.setBob_mems ..).memInv h)
    refine memInv_ite h (memInv_ite h (memInv_ite h ?_))
    generalize (if !post && k.disp != 0 then Act.trap .illegal
        else eff (s.setBob b { s.bob b with tbNs := none }) (s.bob b) k) = act at hact ⊢
    cases act with
    | stall t => exact hact
    | trap t => exact State.trapAt_memInv h ..
    | go t pc => exact memInv_ite (State.trapAt_memInv h ..) ((State.advance_mems ..).memInv hact)
    | free t => exact memInv_ite (State.trapAt_memInv h ..) hact

theorem nextInv_issue (h : s.MemInv) {b : Nat} {w : Word} {post : Bool} {regs : List Reg}
    {eff : State → Bobbin → Pick → Act}
    (he : ∀ t B k, (eff t B k).Same t) : NextInv (.next (s.issue b w post regs eff)) :=
  (nextInv_next _).2 (State.issue_memInv h _ _ _ _ fun t B k ht => (he t B k).inv ht)

theorem nextInv_issueReg (h : s.MemInv) {b : Nat} {w : Word} {d : Reg} {srcs : List Reg} {f : Bobbin → DWord} :
    NextInv (.next (s.issueReg b w d srcs f)) :=
  nextInv_issue h fun t _ _ => t.setBob_mems ..

theorem State.memFault_memInv (h : s.MemInv) (b pc : Nat) : (s.memFault b pc).MemInv := State.trapAt_memInv h ..

/-! ### Commands of the host -/

/-- A state that a command's check answers has its memories in canonical form. -/
def OkInv (x : Except HStat State) : Prop := ∀ t, x = .ok t → t.MemInv

@[simp] theorem okInv_error (st : HStat) : OkInv (.error st) := by simp [OkInv]

@[simp] theorem okInv_ok (t : State) : OkInv (.ok t) ↔ t.MemInv := by simp [OkInv]

theorem okInv_ite {p : Prop} [Decidable p] {x y : Except HStat State} (hx : OkInv x) (hy : OkInv y) :
    OkInv (if p then x else y) := by
  split
  · exact hx
  · exact hy

theorem State.command_memInv (h : s.MemInv) (f r : Nat) (want : Fetched → Bool) {run : Fetched → State}
    (hr : ∀ e, (run e).MemInv) : (s.command f r want run).MemInv := by
  unfold State.command
  split
  · exact h
  · refine memInv_ite h ?_
    split
    · exact (State.complete_mems ..).memInv h
    · exact hr _

theorem State.answer_memInv (h : s.MemInv) (f r : Nat) {x : Except HStat State} (hx : OkInv x) : (s.answer f r x).MemInv := by
  cases x with
  | ok t => exact (State.complete_mems ..).memInv ((okInv_ok t).1 hx)
  | error st => exact (State.complete_mems ..).memInv h

theorem State.answerAt_memInv (h : s.MemInv) (f i : Nat) {x : Except HStat State} (hx : OkInv x) :
    (s.answerAt f i x).MemInv := by
  cases x with
  | error st => exact SameMems.memInv (by simp [State.answerAt]) h
  | ok t => exact memInv_ite (SameMems.memInv (by simp) ((okInv_ok t).1 hx)) (SameMems.memInv (by simp) h)

theorem State.atCommand_memInv (h : s.MemInv) (f : Nat) (want : Fetched → Bool) (index : Fetched → Nat) (onPoisoned : Bool)
    {run : Fetched → Nat → AtEntry → Except HStat State} (hr : ∀ e i x, OkInv (run e i x)) :
    (s.atCommand f want index onPoisoned run).MemInv := by
  refine State.command_memInv h _ _ _ fun e => ?_
  dsimp only
  refine memInv_ite (SameMems.memInv (by simp) h) ?_
  split
  · exact SameMems.memInv (by simp) h
  · exact memInv_ite (SameMems.memInv (by simp) h) (State.answerAt_memInv h _ _ (hr _ _ _))

theorem execAtInstall_nextInv (h : s.MemInv) (f : Nat) : NextInv (execAtInstall f s) := by
  refine (nextInv_next _).2 (State.command_memInv h _ _ _ fun e => ?_)
  dsimp only
  refine memInv_ite (SameMems.memInv (by simp) h) (memInv_ite h ?_)
  split
  · exact SameMems.memInv (by simp) h
  · have hs : (s.answered false (assocLines (leAt e.buf 0 3))).MemInv := (State.answered_mems ..).memInv h
    have refused (st : HStat) := State.answer_memInv hs f 0 (okInv_error st)
    refine memInv_ite (refused _) (memInv_ite (refused _) (memInv_ite (refused _) (memInv_ite (refused _) ?_)))
    split
    · exact refused _
    · exact State.answerAt_memInv hs _ _ ((okInv_ok _).2 (State.emptyPage_memInv (SameMems.memInv (by simp) hs) f))

theorem execAtSlotLoad_nextInv (h : s.MemInv) (f : Nat) : NextInv (execAtSlotLoad f s) := by
  refine (nextInv_next _).2 (memInv_ite h (State.atCommand_memInv h _ _ _ _ fun e i x => ?_))
  dsimp only
  have refused (st : HStat) := okInv_error st
  refine okInv_ite (refused _) (okInv_ite (refused _) (okInv_ite (refused _) (okInv_ite (refused _) (okInv_ite (refused _) ?_))))
  split
  · exact refused _
  · exact (okInv_ok _).2 (State.emptyPage_memInv (SameMems.memInv (by simp) h) f)

theorem execClothKeyLoad_nextInv (h : s.MemInv) (f : Nat) : NextInv (execClothKeyLoad f s) := by
  refine (nextInv_next _).2 (memInv_ite h (State.command_memInv h _ _ _ fun e => ?_))
  have refused (st : HStat) := State.answer_memInv h f 0 (okInv_error st)
  refine memInv_ite (refused _) (memInv_ite (refused _) ?_)
  split
  · exact refused _
  · exact State.answer_memInv h _ _ ((okInv_ok _).2 (State.emptyPage_memInv ((State.setGroup_mems ..).memInv h) f))

theorem execLksKeyLoad_nextInv (h : s.MemInv) (f : Nat) : NextInv (execLksKeyLoad f s) := by
  refine (nextInv_next _).2 (memInv_ite h (State.command_memInv h _ _ _ fun e => ?_))
  have refused (st : HStat) := State.answer_memInv h f 0 (okInv_error st)
  refine memInv_ite (refused _) ?_
  split
  · exact refused _
  · exact State.answer_memInv h _ _ ((okInv_ok _).2 (State.emptyPage_memInv (SameMems.memInv (by simp) h) f))

theorem execBksStore_nextInv (h : s.MemInv) (f : Nat) : NextInv (execBksStore f s) := by
  refine (nextInv_next _).2 (memInv_ite h (State.command_memInv h _ _ _ fun e => ?_))
  have refused (st : HStat) := State.answer_memInv h f 0 (okInv_error st)
  refine memInv_ite (refused _) (memInv_ite (refused _) (memInv_ite (refused _) (memInv_ite (refused _) ?_)))
  split
  · exact refused _
  · exact State.answer_memInv h _ _ ((okInv_ok _).2 (State.emptyPage_memInv (SameMems.memInv (by simp) h) f))

/-! ### Instructions and their completions -/

@[simp] theorem writeCells_same (s : State) (b : Nat) (B : Bobbin) (k : Pick) (lo hi : Int) (f : Pick → Pick) :
    (writeCells s b B k lo hi f).Same s := by
  simp [writeCells]

theorem State.issuePn_memInv (h : s.MemInv) (b usub : Nat) (d a c : Reg) (imm : BitVec 6) (op : AsyncOp) :
    (s.issuePn b usub d a c imm op).MemInv :=
  State.issue_memInv h _ _ _ _ fun t B k ht => Act.Same.inv (by simp) ht

theorem execSealFrame_nextInv (h : s.MemInv) (b : Nat) (d a c : Reg) (imm : BitVec 6) :
    NextInv (execSealFrame b d a c imm s) := by
  refine nextInv_issue h fun t B k => ?_
  dsimp only
  (repeat' split) <;> simp

theorem execOpenFrame_nextInv (h : s.MemInv) (b : Nat) (d a c : Reg) (imm : BitVec 6) :
    NextInv (execOpenFrame b d a c imm s) := by
  refine nextInv_issue h fun t B k => ?_
  dsimp only
  (repeat' split) <;> simp

theorem execPol_nextInv (h : s.MemInv) (b : Nat) (d a c : Reg) (imm : BitVec 6) : NextInv (execPol b d a c imm s) :=
  nextInv_issue ((State.refillDue_mems s).memInv h) fun t B k => by simp

theorem execSts_nextInv (h : s.MemInv) (b : Nat) (d a : Reg) (size : BitVec 2) (sub : BitVec 4) (off : BitVec 10) :
    NextInv (execSts b d a size sub off s) := by
  refine (nextInv_next _).2 (State.issue_memInv h _ _ _ _ fun t B _ ht => ?_)
  dsimp only
  split
  · trivial
  · split
    · trivial
    · split
      · exact ht
      · exact State.scratchWrite_memInv ht ..

theorem execFaddSDone_nextInv (h : s.MemInv) (b : Nat) (d : Reg) : NextInv (execFaddSDone b d s) := by
  rw [execFaddSDone, nextInv_next]
  split
  · exact (State.setBob_mems ..).memInv (State.scratchWrite_memInv h ..)
  · exact h

theorem execDropPick_nextInv (h : s.MemInv) (b : Nat) (d a c : Reg) (imm : BitVec 6) :
    NextInv (execDropPick b d a c imm s) := by
  refine (nextInv_next _).2 (State.issue_memInv h _ _ _ _ fun t B k ht => ?_)
  dsimp only
  split
  · trivial
  · have landed := State.landFadds_memInv ht b
    rw [Act.inv_go]
    split <;> exact SameMems.memInv (by simp) landed

theorem execHalt_nextInv (h : s.MemInv) (b : Nat) (d a c : Reg) (imm : BitVec 6) : NextInv (execHalt b d a c imm s) := by
  refine (nextInv_next _).2 (State.issue_memInv h _ _ _ _ fun t B k ht => ?_)
  split
  · exact ht
  · split
    · trivial
    · exact (State.freeBob_mems ..).memInv (State.landFadds_memInv ht b)

theorem execIllegalFetch_nextInv (h : s.MemInv) (b : Nat) : NextInv (execIllegalFetch b s) := by
  rw [execIllegalFetch, nextInv_next]
  split
  · exact h
  · split
    · exact State.trapAt_memInv h ..
    · exact memInv_ite (State.trapAt_memInv h ..) h

theorem execLookFtDone_nextInv (h : s.MemInv) (b : Nat) (d : Reg) : NextInv (execLookFtDone b d s) := by
  rw [execLookFtDone, nextInv_next]
  split
  · rename_i space lo hi pc _ B _
    have looked : (s.lookBank true (s.bucketsOf space lo hi)).MemInv := (State.lookBank_mems ..).memInv h
    refine memInv_ite looked ?_
    split
    · exact State.memFault_memInv ((State.suspectHit_mems ..).memInv looked) ..
    · dsimp only
      split
      · exact SameMems.memInv (by simp) looked
      · exact memInv_ite (SameMems.memInv (by simp) looked) (SameMems.memInv (by simp) looked)
  · exact h

theorem execLookAtDone_nextInv (h : s.MemInv) (b : Nat) (d : Reg) : NextInv (execLookAtDone b d s) := by
  rw [execLookAtDone, nextInv_next]
  split
  · rename_i idx kn rx pc a B _
    refine memInv_ite h ?_
    have looked : (s.lookBank false [idx.toNat]).MemInv := (State.lookBank_mems ..).memInv h
    refine memInv_ite looked ?_
    split
    · exact State.memFault_memInv ((State.suspectHit_mems ..).memInv looked) ..
    · refine (State.deliver_mems ..).memInv ?_
      have served : (if (decide (idx.toNat < (s.lookBank false [idx.toNat]).capacity)) = true then
          (s.lookBank false [idx.toNat]).answered false (assocLines idx.toNat) else s.lookBank false [idx.toNat]).MemInv :=
        memInv_ite ((State.answered_mems ..).memInv looked) looked
      split
      · exact served
      · split
        · exact served
        · exact SameMems.memInv (by simp) served
  · exact h

theorem execPnNextServe_nextInv (h : s.MemInv) (b : Nat) (d : Reg) : NextInv (execPnNextServe b d s) := by
  rw [execPnNextServe, nextInv_next]
  split
  · split
    · exact h
    · refine memInv_ite h (memInv_ite (State.memFault_memInv h ..) ?_)
      split
      · exact SameMems.memInv (by simp) h
      · exact memInv_ite h (SameMems.memInv (by simp) h)
  · exact h

theorem execPnPeekServe_nextInv (h : s.MemInv) (b : Nat) (d : Reg) : NextInv (execPnPeekServe b d s) := by
  rw [execPnPeekServe, nextInv_next]
  split
  · split
    · exact h
    · refine memInv_ite h (memInv_ite (State.memFault_memInv h ..) (memInv_ite h ?_))
      dsimp only
      split
      · exact SameMems.memInv (by simp) h
      · exact memInv_ite (SameMems.memInv (by simp) h) (SameMems.memInv (by simp) h)
  · exact h

theorem execOpenServe_nextInv (h : s.MemInv) (p : Nat) : NextInv (execOpenServe p s) := by
  rw [execOpenServe, nextInv_next]
  split
  · exact h
  · split
    · exact h
    · refine memInv_ite h ?_
      split
      · split
        · exact State.memFault_memInv h ..
        · exact (State.dropPick_mems ..).memInv h
      · exact SameMems.memInv (by simp) h

/-! ### DRAM -/

theorem State.faultRequests_memInv (h : s.MemInv) (buffer : Bool) (line : Nat) : (s.faultRequests buffer line).MemInv := by
  refine memInv_ite ((State.loseBuffer_mems ..).memInv h) ((State.faultLoads_mems ..).memInv ?_)
  refine foldl_memInv _ (foldl_memInv _ h fun t e ht => ?_) fun t f ht => memInv_ite ((State.complete_mems ..).memInv ht) ht
  split
  · exact State.memFault_memInv ht ..
  · exact ht

theorem execDramRead_nextInv (h : s.MemInv) (buffer : Bool) (line : Nat) (path : List PathObs) :
    NextInv (execDramRead buffer line path s) := by
  rw [execDramRead, nextInv_next]
  have used : (s.useLine buffer line [s.readCopy buffer]).MemInv := (State.useLine_mems ..).memInv h
  have verified := (State.verify_mems _ true buffer (s.readCopy buffer) line .mscCe path).memInv used
  exact memInv_ite used
    ((State.fetched_mems ..).memInv (memInv_ite (State.faultRequests_memInv verified ..) verified))

theorem execDramLineWrite_nextInv (h : s.MemInv) (buffer : Bool) (mki line : Nat) (data : Bytes) (path : List PathObs) :
    NextInv (execDramLineWrite buffer mki line data path s) := by
  rw [execDramLineWrite, nextInv_next]
  have used : (s.useLine buffer line (s.copies buffer)).MemInv := (State.useLine_mems ..).memInv h
  dsimp only
  split
  · exact used
  · have verified := (State.verifyWrite_mems _ buffer line path).memInv used
    have written (r : State × Verdict) (hr : r.1.MemInv) :
        (if r.2 = .busError then r.1.faultRequests buffer line else r.1).MemInv :=
      memInv_ite (State.faultRequests_memInv hr ..) hr
    refine memInv_ite used (written _ ?_)
    split
    · exact (State.putLine_mems ..).memInv verified
    · exact verified

theorem execDramPartialWrite_nextInv (h : s.MemInv) (buffer : Bool) (mki line off : Nat) (data : Bytes) (path : List PathObs) :
    NextInv (execDramPartialWrite buffer mki line off data path s) := by
  rw [execDramPartialWrite, nextInv_next]
  have used : (s.useLine buffer line (s.copies buffer)).MemInv := (State.useLine_mems ..).memInv h
  dsimp only
  split
  · exact used
  · rename_i d _
    have merged := (State.mergeLine_mems _ buffer (if buffer then mki else 0) d line off data path).memInv used
    exact memInv_ite used (memInv_ite (State.faultRequests_memInv merged ..) merged)

theorem execDramFetchTimeout_nextInv (h : s.MemInv) (ch line : Nat) : NextInv (execDramFetchTimeout ch line s) := by
  rw [execDramFetchTimeout, nextInv_next]
  dsimp only
  refine memInv_ite h ?_
  split
  · exact memInv_ite h h
  · refine memInv_ite h ?_
    have failed {t : State} (ht : SameMems s t) :
        ((t.occur .mscTimeoutFail ch).faultRequests (decide (2 ^ 39 ≤ line)) (line % 2 ^ 39)).MemInv :=
      State.faultRequests_memInv (SameMems.memInv (by simp) (ht.memInv h)) ..
    exact memInv_ite ((State.failStack_mems ..).memInv (failed (by simp))) (failed (by simp))

/-! ### Power and clocks -/

theorem State.unpowered_memInv (h : s.MemInv) (d : Nat) : (s.unpowered d).MemInv := by
  unfold State.unpowered
  split
  · exact State.clearScratch_memInv ((State.setClu_mems ..).memInv h) _
  all_goals exact SameMems.memInv (by simp) h

theorem execDomainSleepEntered_nextInv (h : s.MemInv) (dom : Nat) : NextInv (execDomainSleepEntered dom s) := by
  rw [execDomainSleepEntered, nextInv_next]
  split
  · exact State.unpowered_memInv ((State.setDom_mems ..).memInv h) _
  · exact h

theorem State.cluUp_memInv (h : s.MemInv) (c : Nat) (again : Bool) : (s.cluUp c again).MemInv :=
  SameMems.memInv (s := s.clearScratch c) (by simp [State.cluUp]) (State.clearScratch_memInv h c)

theorem State.beginSteps_memInv (h : s.MemInv) (d : Nat) : (s.beginSteps d).MemInv := by
  unfold State.beginSteps
  dsimp only
  have begun := (State.setDom_mems s d { s.dom d with ready := .stale, upOnce := true }).memInv h
  split
  · exact State.cluUp_memInv begun ..
  · exact foldl_memInv _ ((State.setPair_mems ..).memInv begun) fun t e ht => memInv_ite ht (SameMems.memInv (by simp) ht)
  all_goals exact SameMems.memInv (by simp) begun

theorem execDomainPoweredUp_nextInv (h : s.MemInv) (dom : Nat) : NextInv (execDomainPoweredUp dom s) := by
  rw [execDomainPoweredUp, nextInv_next]
  have powered := (State.setDom_mems s dom { s.dom dom with up := true }).memInv h
  exact memInv_ite h (memInv_ite powered (State.beginSteps_memInv powered _))

theorem execBistDone_nextInv (h : s.MemInv) (dom : Nat) (pass : Bool) : NextInv (execBistDone dom pass s) := by
  rw [execBistDone, nextInv_next]
  exact memInv_ite h (memInv_ite (State.beginSteps_memInv h _) (SameMems.memInv (by simp) h))

theorem execScratchCopyDone_nextInv (h : s.MemInv) (c : Nat) : NextInv (execScratchCopyDone c s) := by
  rw [execScratchCopyDone, nextInv_next]
  have cleared := State.clearScratch_memInv h c
  have copied := State.memInv_of_scratch cleared
    (m := ((s.clearScratch c).shu.images.filter (fun e => e.1 / 16384 == c)).foldl
      (fun (m : Memory) (e : Host.Cell) => Memory.write m e.1 e.2) (s.clearScratch c).shu.scratch)
    (List.foldlRecOn (motive := fun m : Memory => m.wf = true) _ _ cleared.1 fun m hm e _ => Memory.wf_write _ _ hm)
  exact memInv_ite h (SameMems.memInv (by simp) copied)

theorem execClockFailure_nextInv (h : s.MemInv) (dom : Nat) : NextInv (execClockFailure dom s) := by
  rw [execClockFailure, nextInv_next]
  have recorded : (s.faultRec false .pmc 3 dom 0).MemInv := SameMems.memInv (by simp [State.faultRec]) h
  refine memInv_ite h ?_
  dsimp only
  split
  · exact (State.cluGone_mems ..).memInv recorded
  · have stopped {t : State} (ht : t.MemInv) (e : Nat) : (if (t.engine e).st = .quarantined then t
        else ((t.stopEngine e 3).occur .engineRetired e).event 0 .cie 1 e 3).MemInv :=
      memInv_ite ht (SameMems.memInv (by simp) ht)
    exact memInv_ite ((State.pairGone_mems ..).memInv recorded) ((State.nextStandby_mems ..).memInv
      ((State.pairGone_mems ..).memInv ((State.burst_mems ..).memInv (stopped (stopped recorded _) _))))
  · exact (State.quarantineDom_mems ..).memInv (memInv_ite ((State.failStack_mems ..).memInv recorded) recorded)
  · exact (State.quarantineDom_mems ..).memInv (memInv_ite recorded ((State.weftReset_mems ..).memInv recorded))
  · exact State.unpowered_memInv ((State.quarantineDom_mems ..).memInv recorded) _

/-! ### Tamper responses and key erasure -/

theorem State.dropErased_memInv (h : s.MemInv) : s.dropErased.MemInv := by
  refine foldl_memInv _ ?_ fun t p ht => State.dropByT32_memInv ht p 5
  refine (State.eraseRecords_mems ..).memInv ((foldl_mems _ _ _ fun t x => State.eraseItem_mems t x).memInv ?_)
  exact SameMems.memInv (s := s) ⟨rfl, rfl, rfl⟩ h

theorem State.destroyKeys_memInv (h : s.MemInv) : s.destroyKeys.MemInv := by
  let t := (((s.dropErased).eraseCloth).eraseWeft).eraseLookaside
  have erased : ((List.range 8).foldl (fun s g => s.loseDeskew g (fun _ => true)) t).MemInv :=
    SameMems.memInv (s := s.dropErased) (by simp [t]) (State.dropErased_memInv h)
  exact State.memInv_of_noPages erased rfl rfl rfl

theorem State.beginErase_memInv (h : s.MemInv) (cause : Nat) (lock : Bool) : (s.beginErase cause lock).MemInv := by
  have destroyed := State.destroyKeys_memInv ((State.record_mems s
    { type := 7, unit := EvUnit.kcu.code, p0 := BitVec.ofNat 64 (cause + if lock then 256 else 0) }).memInv h)
  exact SameMems.memInv ⟨rfl, rfl, rfl⟩ destroyed

theorem State.carryOut_memInv (h : s.MemInv) (resp : BitVec 3) (cause lockSrc : Nat) :
    (s.carryOut resp cause lockSrc).MemInv := by
  have quieted (p : Bool) : (if p then s.quiesce else s).MemInv := memInv_ite ((State.quiesce_mems s).memInv h) h
  have erased (p q : Bool) (lock : Bool) : (if q then (if p then s.quiesce else s).beginErase cause lock
      else if p then s.quiesce else s).MemInv :=
    memInv_ite (State.beginErase_memInv (quieted p) ..) (quieted p)
  unfold State.carryOut
  refine State.memInv_withTmu (memInv_ite (State.memInv_withTmu (memInv_ite ?_ ?_) _) ?_) _
  · exact (State.requestLock_mems ..).memInv (erased ..)
  · exact erased ..
  · exact erased ..

theorem State.decideTamper_memInv (h : s.MemInv) (a b : RespCode) : (s.decideTamper a b).MemInv := by
  unfold State.decideTamper
  refine State.memInv_withTmu ?_ _
  have compared : (if a = b then s else s.fire 11).MemInv := memInv_ite h (SameMems.memInv (by simp [State.fire]) h)
  have recorded {t : State} (ht : t.MemInv) (l : List Nat) (resp done : BitVec 3) :
      (l.foldl (fun s src => s.tamperRecord src resp done) t).MemInv :=
    (foldl_mems _ _ _ fun t src => State.tamperRecord_mems t ..).memInv ht
  have carried (p : Bool) (resp : BitVec 3) (cause lockSrc : Nat) :=
    memInv_ite (p := p) compared (State.carryOut_memInv compared resp cause lockSrc)
  exact memInv_ite ((foldl_mems _ _ _ fun t src => State.tamperEvent_mems t ..).memInv (recorded (carried ..) ..))
    (recorded (carried ..) ..)

theorem execTamperDecision_nextInv (h : s.MemInv) (a b : RespCode) : NextInv (execTamperDecision a b s) :=
  (nextInv_next _).2 (memInv_ite h (State.decideTamper_memInv h a b))

theorem State.zeroize_memInv (h : s.MemInv) (resp : BitVec 3) : (s.zeroize resp).MemInv := by
  have carried := State.carryOut_memInv h resp 31 0
  exact memInv_ite h (memInv_ite ((State.tamperEvent_mems ..).memInv carried) carried)

theorem execZeroizeErase_nextInv (h : s.MemInv) (f : Nat) : NextInv (execZeroizeErase f s) :=
  (nextInv_next _).2 (State.command_memInv h _ _ _ fun _ => memInv_ite (State.answer_memInv h _ _ (okInv_error _))
    (State.answer_memInv h _ _ ((okInv_ok _).2 (State.zeroize_memInv h 3))))

theorem execZeroizeEraseLock_nextInv (h : s.MemInv) (f : Nat) : NextInv (execZeroizeEraseLock f s) :=
  (nextInv_next _).2 (State.command_memInv h _ _ _ fun _ =>
    State.answer_memInv h _ _ ((okInv_ok _).2 (State.zeroize_memInv h 4)))

/-! ### Key pages -/

theorem State.kpCommit_memInv (h : s.MemInv) (f off : Nat) (v : Word) : (s.kpCommit f off v).MemInv := by
  have refused (bit : Nat) := (State.accessErr_mems s f true off bit).memInv h
  refine memInv_ite (refused 3) (memInv_ite (refused 4) (memInv_ite (refused 2) (memInv_ite ?_ ?_)))
  · exact State.setPage_memInv h _ rfl
  · exact State.setPage_memInv h _ (h.2.2 f)

theorem State.kpCtlWrite_memInv (h : s.MemInv) (f off : Nat) (v : Word) : (s.kpCtlWrite f off v).MemInv :=
  memInv_ite (State.emptyPage_memInv h f) (memInv_ite (State.kpCommit_memInv h ..) h)

theorem execKpUnwrapDone_nextInv (h : s.MemInv) (f : Nat) : NextInv (execKpUnwrapDone f s) := by
  rw [execKpUnwrapDone, nextInv_next]
  split
  · exact h
  · refine memInv_ite h ?_
    dsimp only
    split
    all_goals
      have opened {x : KeyPage} (hx : Memory.wf x.data = true) := State.setPage_memInv h f hx
      exact memInv_ite ((State.useBks_mems ..).memInv (opened rfl)) (opened rfl)

/-! ### The lifecycle and resets -/

theorem State.prepareLc_memInv (h : s.MemInv) (dst : Nat) : (s.prepareLc dst).MemInv := by
  have erased : { s.zeroize 3 with kcu := { (s.zeroize 3).kcu with test := false, scope := 0 } }.MemInv :=
    SameMems.memInv ⟨rfl, rfl, rfl⟩ (State.zeroize_memInv h 3)
  exact memInv_ite (memInv_ite h (SameMems.memInv (by simp) h)) (memInv_ite erased h)

theorem State.transition_memInv (h : s.MemInv) (dst a : Nat) (o : StartObs) : (s.transition dst a o).MemInv := by
  have prepared := State.prepareLc_memInv h dst
  have decoded : (((s.prepareLc dst).programStages dst).decodeLc o.decodesAgree).MemInv := SameMems.memInv (by simp) prepared
  have recorded := (State.record_mems _ (lcRecord s.lcSource dst a (s.kcu.lc == 0))).memInv decoded
  exact memInv_ite ((State.startKcu_mems ..).memInv recorded)
    (memInv_ite (State.memInv_withKcu ((State.closeScrap_mems ..).memInv recorded) _) recorded)

theorem State.unlockDebug_memInv (h : s.MemInv) (scope : Nat) : (s.unlockDebug scope).MemInv := by
  have spent : (if s.kcu.lc = 1 then s else s.spendToken).MemInv := memInv_ite h ((State.spendToken_mems s).memInv h)
  have erased (p : Prop) [Decidable p] := memInv_ite (p := p) (State.zeroize_memInv spent 3) spent
  exact SameMems.memInv ⟨rfl, rfl, rfl⟩ (erased _)

theorem State.unlock_memInv (h : s.MemInv) (scope a : Nat) : (s.unlock scope a).MemInv := by
  have closed := State.memInv_withKcu h { s.kcu with challenge := none }
  exact (State.record_mems ..).memInv
    (memInv_ite ((State.record_mems ..).memInv closed) (State.unlockDebug_memInv closed scope))

theorem execShuavoResponse_nextInv (h : s.MemInv) (f : Nat) : NextInv (execShuavoResponse f s) := by
  refine (nextInv_next _).2 (State.command_memInv h _ _ _ fun e => ?_)
  dsimp only
  refine memInv_ite (SameMems.memInv (by simp) h) (memInv_ite (SameMems.memInv (by simp) h) (memInv_ite ?_
    (memInv_ite (SameMems.memInv (by simp) h) ?_)))
  · exact SameMems.memInv (by simp) h
  · exact (State.complete_mems ..).memInv (State.unlock_memInv h ..)

theorem State.settleAlarms_memInv (h : s.MemInv) : s.settleAlarms.MemInv := memInv_ite h (State.decideTamper_memInv h ..)

theorem execPowerOnReset_nextInv (h : s.MemInv) (o : StartObs) : NextInv (execPowerOnReset o s) := by
  rw [execPowerOnReset, nextInv_next]
  exact memInv_ite ((State.start_mems ..).memInv ((State.samplePins_mems ..).memInv (State.cleared_memInv ..))) h

theorem execPerst_nextInv (h : s.MemInv) (o : StartObs) : NextInv (execPerst o s) :=
  (nextInv_next _).2 (memInv_ite h ((State.start_mems ..).memInv (State.cleared_memInv ..)))

theorem execSoftReset_nextInv (h : s.MemInv) (o : StartObs) : NextInv (execSoftReset o s) :=
  (nextInv_next _).2 (memInv_ite h ((State.start_mems ..).memInv (State.cleared_memInv ..)))

theorem State.powerOff_memInv (s : State) : s.powerOff.MemInv := by
  let t := if s.tmu.fired.isEmpty then s else s.settleAlarms.drainBox
  exact SameMems.memInv (s := t.cutBox.settleFuse.cleared false true) ⟨rfl, rfl, rfl⟩ (State.cleared_memInv ..)

theorem execLcTransition_nextInv (h : s.MemInv) (f : Nat) (o : LcObs) : NextInv (execLcTransition f o s) := by
  refine (nextInv_next _).2 (State.command_memInv h _ _ _ fun e => ?_)
  dsimp only
  have refused (st : HStat) := (State.complete_mems s f 0 st 0 0 0 false).memInv h
  refine memInv_ite (refused _) (memInv_ite (refused _) (memInv_ite (refused _) ?_))
  split
  · exact State.powerOff_memInv _
  · exact (State.complete_mems ..).memInv (State.transition_memInv h ..)

theorem execPwrgoodFall_nextInv (h : s.MemInv) : NextInv (execPwrgoodFall s) :=
  (nextInv_next _).2 (memInv_ite h (State.powerOff_memInv s))

theorem execRailOutOfRange_nextInv (h : s.MemInv) (rail : Nat) : NextInv (execRailOutOfRange rail s) :=
  (nextInv_next _).2 (memInv_ite h (memInv_ite (memInv_ite ((State.sampleSource_mems ..).memInv h) h) (State.powerOff_memInv s)))

theorem execFunctionLevelReset_nextInv (h : s.MemInv) (f : Nat) : NextInv (execFunctionLevelReset f s) := by
  rw [execFunctionLevelReset, nextInv_next]
  have emptied := State.emptyPage_memInv ((State.stopLookaside_mems s f).memInv h) f
  exact memInv_ite h ((State.servePunt_mems ..).memInv (SameMems.memInv ⟨rfl, rfl, rfl⟩ emptied))

/-! ### Register writes -/

theorem State.applyWrite_mems (s : State) {r : RegRow} (hr : r.id ≠ .shuScratch) (i j a : Nat) (v : Word) :
    SameMems s (s.applyWrite r i j a v) := by
  unfold State.applyWrite
  generalize r.id = id at hr
  cases id <;> simp_all

theorem State.applyWrite_memInv (h : s.MemInv) (r : RegRow) (i j a : Nat) (v : Word) : (s.applyWrite r i j a v).MemInv := by
  by_cases hr : r.id = .shuScratch
  · have written : s.applyWrite r i j a v = s.hostScratch i j v := by simp [State.applyWrite, hr]
    rw [written]
    exact State.hostScratch_memInv h ..
  · exact (s.applyWrite_mems hr ..).memInv h

theorem State.writeReg_memInv (h : s.MemInv) (r : RegRow) (i j a : Nat) (v : Word) : (s.writeReg r i j a v).MemInv :=
  memInv_ite (SameMems.memInv (by simp) h) (memInv_ite h (memInv_ite (SameMems.memInv (by simp) h)
    (memInv_ite ((State.reservedWrite_mems ..).memInv h) (memInv_ite ((State.absentWrite_mems ..).memInv h)
      (State.applyWrite_memInv h ..)))))

theorem State.writeBar2_memInv (h : s.MemInv) (f a : Nat) (v : Word) : (s.writeBar2 f a v).MemInv := by
  unfold State.writeBar2
  split
  · exact memInv_ite ((State.accessErr_mems ..).memInv h) (State.setPage_memInv h _ (Memory.wf_writeBytes _ _ (h.2.2 f)))
  · exact memInv_ite ((State.accessErr_mems ..).memInv h) (State.kpCtlWrite_memInv h ..)
  all_goals exact SameMems.memInv (by simp) h

theorem State.hostWrite_memInv (h : s.MemInv) (f : Nat) (bar2 : Bool) (a : Nat) (v : Word) : (s.hostWrite f bar2 a v).MemInv := by
  refine memInv_ite h ?_
  split
  · exact SameMems.memInv (by simp) h
  · exact memInv_ite (SameMems.memInv (by simp) h) (State.writeReg_memInv h ..)
  · exact memInv_ite (SameMems.memInv (by simp) h) (memInv_ite (State.writeBar2_memInv h ..) (SameMems.memInv (by simp) h))

theorem nextInv_hostWrite (h : s.MemInv) {f : Nat} {bar2 : Bool} {a : Nat} {v : Word} :
    NextInv (.next (s.hostWrite f bar2 a v)) :=
  (nextInv_next _).2 (State.hostWrite_memInv h ..)

theorem nextInv_unitWrite (h : s.MemInv) {i n : Nat} {f : Nat} {bar2 : Bool} {a : Nat} {v : Word} :
    NextInv (.next (if n ≤ i then s else s.hostWrite f bar2 a v)) :=
  (nextInv_next _).2 (memInv_ite h (State.hostWrite_memInv h ..))

theorem execRegWrite_nextInv (h : s.MemInv) (f : Nat) (bar2 : Bool) (addr : Nat) (be : BitVec 4) (v : Word) :
    NextInv (execRegWrite f bar2 addr be v s) := by
  rw [execRegWrite, nextInv_next]
  have discarded := (State.partialWrite_mems s f bar2 (addr / 4 * 4)).memInv h
  exact memInv_ite (State.hostWrite_memInv h ..) (memInv_ite discarded ((State.partialWrite_mems ..).memInv discarded))


/-! ### Every command -/

theorem exec_nextInv (h : s.MemInv) : (c : Instr) → NextInv (exec c s)
  | .add .. | .sub .. | .bitAnd .. | .bitOr .. | .bitXor .. | .shl .. | .shr .. | .sar .. | .mul .. | .mulhu ..
  | .minS .. | .maxS .. | .minU .. | .maxU .. | .popc .. | .clz .. | .bswap16 .. | .bswap32 .. | .bswap64 .. | .addi ..
  | .andi .. | .ori .. | .xori .. | .li .. | .lis .. => nextInv_issueReg h
  | .extF .. | .depF .. | .beq .. | .bne .. | .blt .. | .bge .. | .bltu .. | .bgeu .. | .jal .. | .jr .. | .ldw ..
  | .stw .. | .wedit .. | .ldp .. | .stp .. | .lds .. | .faddS .. | .fence .. | .lookFt .. | .lookMt .. | .lookAt ..
  | .ordDom .. | .ordRel .. | .crcRun .. | .crcChk .. | .crcGet .. | .crcSet .. | .tb .. | .enq .. | .punt .. | .fwd ..
  | .mirror .. | .evcInc .. | .evcAdd .. | .waitSb .. | .trapProg .. => nextInv_issue h fun _ _ _ => by simp
  | .sts b d a size sub off => execSts_nextInv h b d a size sub off
  | .pnNext .. | .pnPeek .. => (nextInv_next _).2 (State.issuePn_memInv h ..)
  | .sealFrame b d a c imm => execSealFrame_nextInv h b d a c imm
  | .openFrame b d a c imm => execOpenFrame_nextInv h b d a c imm
  | .pol b d a c imm => execPol_nextInv h b d a c imm
  | .dropPick b d a c imm => execDropPick_nextInv h b d a c imm
  | .halt b d a c imm => execHalt_nextInv h b d a c imm
  | .lookFtDone b d => execLookFtDone_nextInv h b d
  | .lookMtDone b d => (execLookMtDone_keepsMems s b d).nextInv h
  | .lookAtDone b d => execLookAtDone_nextInv h b d
  | .pnNextServe b d => execPnNextServe_nextInv h b d
  | .pnPeekServe b d => execPnPeekServe_nextInv h b d
  | .ordDomGrant b d => (execOrdDomGrant_keepsMems s b d).nextInv h
  | .openServe p => execOpenServe_nextInv h p
  | .openVerdictCommit p => (execOpenVerdictCommit_keepsMems s p).nextInv h
  | .sealDone p => (execSealDone_keepsMems s p).nextInv h
  | .crcGetDone b d => (execCrcGetDone_keepsMems s b d).nextInv h
  | .ldsDone b d => (execLdsDone_keepsMems s b d).nextInv h
  | .faddSDone b d => execFaddSDone_nextInv h b d
  | .frameReceive port frame => (execFrameReceive_keepsMems s port frame).nextInv h
  | .pickDispatch b => (execPickDispatch_keepsMems s b).nextInv h
  | .pickRelease p => (execPickRelease_keepsMems s p).nextInv h
  | .puntMirrorRelease p => (execPuntMirrorRelease_keepsMems s p).nextInv h
  | .spillReturn q intact => (execSpillReturn_keepsMems s q intact).nextInv h
  | .schedSelect port => (execSchedSelect_keepsMems s port).nextInv h
  | .cutThroughStart port p => (execCutThroughStart_keepsMems s port p).nextInv h
  | .cutFcsReached port => (execCutFcsReached_keepsMems s port).nextInv h
  | .frameTxEnd port => (execFrameTxEnd_keepsMems s port).nextInv h
  | .cellWaitEnd p => (execCellWaitEnd_keepsMems s p).nextInv h
  | .refillTick => (execRefillTick_keepsMems s).nextInv h
  | .shedEntryAdvance port => (execShedEntryAdvance_keepsMems s port).nextInv h
  | .shedBankSwitch port => (execShedBankSwitch_keepsMems s port).nextInv h
  | .schShedCtlSel .. | .schHistSnap .. | .cieProfileWrite .. | .hifRingTailWrite .. | .hifRingEnable ..
  | .hifRingResume .. | .shuCardCtlWrite .. | .wovCkTxSlotWrite .. | .wovTxMapWrite .. | .wovGrpCfgWrite ..
  | .prbsClr .. | .evcCntWrite .. | .evcCfgCommit .. | .cvuCtlCommit .. => nextInv_unitWrite h
  | .histDepthSample q => (execHistDepthSample_keepsMems s q).nextInv h
  | .schHistSnapDone q => (execSchHistSnapDone_keepsMems s q).nextInv h
  | .engineJobStart => (execEngineJobStart_keepsMems s).nextInv h
  | .jobSuspend e => (execJobSuspend_keepsMems s e).nextInv h
  | .engineJobComplete e => (execEngineJobComplete_keepsMems s e).nextInv h
  | .maskStallEnd e => (execMaskStallEnd_keepsMems s e).nextInv h
  | .maskExpanderReseed pair => (execMaskExpanderReseed_keepsMems s pair).nextInv h
  | .engineSelfCheckFault e => (execEngineSelfCheckFault_keepsMems s e).nextInv h
  | .katPeriodic e pass => (execKatPeriodic_keepsMems s e pass).nextInv h
  | .cieRetire .. | .lksCapWrite .. | .kpCommit .. | .kpClear .. | .hifModeWrite .. | .shuStagePromote ..
  | .shuStageDiscard .. | .lmtSnapshot .. | .mscInitGo .. | .mscLineReinit .. | .mkiRetire .. | .pmcReturn ..
  | .pmcScrReload .. | .pmcWakeSeal .. | .tmuAlarmClr .. | .tmuFuseProgram .. | .tbSet .. => nextInv_hostWrite h
  | .drbgStartupTest pass => (execDrbgStartupTest_keepsMems s pass).nextInv h
  | .drbgReseed pass => (execDrbgReseed_keepsMems s pass).nextInv h
  | .drbgHealthFail => (execDrbgHealthFail_keepsMems s).nextInv h
  | .drainTimerExpiry r => (execDrainTimerExpiry_keepsMems s r).nextInv h
  | .atInstall f => execAtInstall_nextInv h f
  | .atSlotLoad f => execAtSlotLoad_nextInv h f
  | .atTxslot f => (execAtTxslot_keepsMems s f).nextInv h
  | .atSlotRetire f => (execAtSlotRetire_keepsMems s f).nextInv h
  | .atStateSuspend f => (execAtStateSuspend_keepsMems s f).nextInv h
  | .atStateResume f => (execAtStateResume_keepsMems s f).nextInv h
  | .atStateRemove f => (execAtStateRemove_keepsMems s f).nextInv h
  | .atRxPn f => (execAtRxPn_keepsMems s f).nextInv h
  | .atSetCut f => (execAtSetCut_keepsMems s f).nextInv h
  | .atSetCutEvent f => (execAtSetCutEvent_keepsMems s f).nextInv h
  | .atSetReplay f => (execAtSetReplay_keepsMems s f).nextInv h
  | .atSetWindow f => (execAtSetWindow_keepsMems s f).nextInv h
  | .atSetPolicer f => (execAtSetPolicer_keepsMems s f).nextInv h
  | .atSetQbase f => (execAtSetQbase_keepsMems s f).nextInv h
  | .atSetK f => (execAtSetK_keepsMems s f).nextInv h
  | .atSetSuite f => (execAtSetSuite_keepsMems s f).nextInv h
  | .atSetMode f => (execAtSetMode_keepsMems s f).nextInv h
  | .atSetDomain f => (execAtSetDomain_keepsMems s f).nextInv h
  | .atRead f => (execAtRead_keepsMems s f).nextInv h
  | .atBulkLoad f => (execAtBulkLoad_keepsMems s f).nextInv h
  | .atBulkLoadFlows f => (execAtBulkLoadFlows_keepsMems s f).nextInv h
  | .ftInsert f => (execFtInsert_keepsMems s f).nextInv h
  | .ftReplace f => (execFtReplace_keepsMems s f).nextInv h
  | .ftDelete f => (execFtDelete_keepsMems s f).nextInv h
  | .ftRead f => (execFtRead_keepsMems s f).nextInv h
  | .clothKeyLoad f => execClothKeyLoad_nextInv h f
  | .clothKeyRetire f => (execClothKeyRetire_keepsMems s f).nextInv h
  | .cardStage f => (execCardStage_keepsMems s f).nextInv h
  | .cardStageDone => (execCardStageDone_keepsMems s).nextInv h
  | .lksKeyLoad f => execLksKeyLoad_nextInv h f
  | .lksKeyDestroy f => (execLksKeyDestroy_keepsMems s f).nextInv h
  | .xtsEncrypt f => (execXtsEncrypt_keepsMems s f).nextInv h
  | .xtsDecrypt f => (execXtsDecrypt_keepsMems s f).nextInv h
  | .gcmEncrypt f => (execGcmEncrypt_keepsMems s f).nextInv h
  | .gcmDecrypt f => (execGcmDecrypt_keepsMems s f).nextInv h
  | .inject f => (execInject_keepsMems s f).nextInv h
  | .puntBuf f => (execPuntBuf_keepsMems s f).nextInv h
  | .bksStore f => execBksStore_nextInv h f
  | .bksDestroy f => (execBksDestroy_keepsMems s f).nextInv h
  | .bksStatus f => (execBksStatus_keepsMems s f).nextInv h
  | .zeroizeErase f => execZeroizeErase_nextInv h f
  | .zeroizeEraseLock f => execZeroizeEraseLock_nextInv h f
  | .idCertRead f => (execIdCertRead_keepsMems s f).nextInv h
  | .cascadeCertLoad f => (execCascadeCertLoad_keepsMems s f).nextInv h
  | .attest f => (execAttest_keepsMems s f).nextInv h
  | .lcTransition f o => execLcTransition_nextInv h f o
  | .shuavoChallenge f => (execShuavoChallenge_keepsMems s f).nextInv h
  | .shuavoResponse f => execShuavoResponse_nextInv h f
  | .lcOtpWrite f => (execLcOtpWrite_keepsMems s f).nextInv h
  | .lcOtpRead f => (execLcOtpRead_keepsMems s f).nextInv h
  | .bbxSeal f => (execBbxSeal_keepsMems s f).nextInv h
  | .kpUnwrapDone f => execKpUnwrapDone_nextInv h f
  | .descriptorFetch f r desc buf => (execDescriptorFetch_keepsMems s f r desc buf).nextInv h
  | .dmaFault f r k => (execDmaFault_keepsMems s f r k).nextInv h
  | .hifCmdWatchdogExpiry f => (execHifCmdWatchdogExpiry_keepsMems s f).nextInv h
  | .hifLateAnswer f => (execHifLateAnswer_keepsMems s f).nextInv h
  | .imodTimerExpiry f r => (execImodTimerExpiry_keepsMems s f r).nextInv h
  | .functionLevelReset f => execFunctionLevelReset_nextInv h f
  | .clusterDrained c => (execClusterDrained_keepsMems s c).nextInv h
  | .cardLoadDone c res => (execCardLoadDone_keepsMems s c res).nextInv h
  | .clusterQuarantine c => (execClusterQuarantine_keepsMems s c).nextInv h
  | .clockFailure dom => execClockFailure_nextInv h dom
  | .laneFrameSend l => (execLaneFrameSend_keepsMems s l).nextInv h
  | .clothItemSend g fill => (execClothItemSend_keepsMems s g fill).nextInv h
  | .laneFrameReceive l ws => (execLaneFrameReceive_keepsMems s l ws).nextInv h
  | .rowRelease g => (execRowRelease_keepsMems s g).nextInv h
  | .rowWaitExpiry g m => (execRowWaitExpiry_keepsMems s g m).nextInv h
  | .clothItemReceive g => (execClothItemReceive_keepsMems s g).nextInv h
  | .resyncAtMarker g => (execResyncAtMarker_keepsMems s g).nextInv h
  | .keymarkSend g => (execKeymarkSend_keepsMems s g).nextInv h
  | .memberAnnounce g => (execMemberAnnounce_keepsMems s g).nextInv h
  | .mapTakeEffect g => (execMapTakeEffect_keepsMems s g).nextInv h
  | .headerSealerKatFail g => (execHeaderSealerKatFail_keepsMems s g).nextInv h
  | .pmSecondEnd => (execPmSecondEnd_keepsMems s).nextInv h
  | .lmtSnapshotDone => (execLmtSnapshotDone_keepsMems s).nextInv h
  | .losDetectorChange lane los lol => (execLosDetectorChange_keepsMems s lane los lol).nextInv h
  | .linkChange port up => (execLinkChange_keepsMems s port up).nextInv h
  | .linkTrainingTimeout port => (execLinkTrainingTimeout_keepsMems s port).nextInv h
  | .weftLinkStateChange n e => (execWeftLinkStateChange_keepsMems s n e).nextInv h
  | .trainReq n payload => (execTrainReq_keepsMems s n payload).nextInv h
  | .trainRsp n payload => (execTrainRsp_keepsMems s n payload).nextInv h
  | .trainDone n => (execTrainDone_keepsMems s n).nextInv h
  | .keyHello n payload => (execKeyHello_keepsMems s n payload).nextInv h
  | .keyShare n payload => (execKeyShare_keepsMems s n payload).nextInv h
  | .keyFinish n payload => (execKeyFinish_keepsMems s n payload).nextInv h
  | .sidebandStatus n payload => (execSidebandStatus_keepsMems s n payload).nextInv h
  | .sidebandRetry n => (execSidebandRetry_keepsMems s n).nextInv h
  | .weftTrainTimeout n => (execWeftTrainTimeout_keepsMems s n).nextInv h
  | .weftKeyRetry n => (execWeftKeyRetry_keepsMems s n).nextInv h
  | .weftRekeyTimer n => (execWeftRekeyTimer_keepsMems s n).nextInv h
  | .weftItemSend n => (execWeftItemSend_keepsMems s n).nextInv h
  | .weftFrameReceive n item => (execWeftFrameReceive_keepsMems s n item).nextInv h
  | .weftSkipReceive n item => (execWeftSkipReceive_keepsMems s n item).nextInv h
  | .weftAckReceive n item => (execWeftAckReceive_keepsMems s n item).nextInv h
  | .weftNakReceive n item => (execWeftNakReceive_keepsMems s n item).nextInv h
  | .weftKeyswitchReceive n item => (execWeftKeyswitchReceive_keepsMems s n item).nextInv h
  | .weftTimeReceive n item => (execWeftTimeReceive_keepsMems s n item).nextInv h
  | .weftAckTimeout n => (execWeftAckTimeout_keepsMems s n).nextInv h
  | .weftAckSend n => (execWeftAckSend_keepsMems s n).nextInv h
  | .weftTimeSend n => (execWeftTimeSend_keepsMems s n).nextInv h
  | .dramRead buffer line path => execDramRead_nextInv h buffer line path
  | .rerootDone buffer first count => (execRerootDone_keepsMems s buffer first count).nextInv h
  | .dramLineWrite buffer mki line data path => execDramLineWrite_nextInv h buffer mki line data path
  | .dramPartialWrite buffer mki line off data path => execDramPartialWrite_nextInv h buffer mki line off data path
  | .cacheWriteback idx path => (execCacheWriteback_keepsMems s idx path).nextInv h
  | .dramFetchTimeout ch line => execDramFetchTimeout_nextInv h ch line
  | .dramLateArrival ch => (execDramLateArrival_keepsMems s ch).nextInv h
  | .patrolScrubRead buffer line path => (execPatrolScrubRead_keepsMems s buffer line path).nextInv h
  | .stackFail st ch => (execStackFail_keepsMems s st ch).nextInv h
  | .mirrorRebuildDone st => (execMirrorRebuildDone_keepsMems s st).nextInv h
  | .mscInitStart => (execMscInitStart_keepsMems s).nextInv h
  | .mscInitDone => (execMscInitDone_keepsMems s).nextInv h
  | .mkiRetired k => (execMkiRetired_keepsMems s k).nextInv h
  | .pmcDecision => (execPmcDecision_keepsMems s).nextInv h
  | .wakeAdmit => (execWakeAdmit_keepsMems s).nextInv h
  | .domainSleepEntered dom => execDomainSleepEntered_nextInv h dom
  | .domainPoweredUp dom => execDomainPoweredUp_nextInv h dom
  | .domainFresh dom => (execDomainFresh_keepsMems s dom).nextInv h
  | .bistDone dom pass => execBistDone_nextInv h dom pass
  | .scratchCopyDone c => execScratchCopyDone_nextInv h c
  | .tamperSample src a b => (execTamperSample_keepsMems s src a b).nextInv h
  | .tamperDecision a b => execTamperDecision_nextInv h a b
  | .eraseReadbackDone zeros => (execEraseReadbackDone_keepsMems s zeros).nextInv h
  | .batterySample src a b => (execBatterySample_keepsMems s src a b).nextInv h
  | .latchCommit => (execLatchCommit_keepsMems s).nextInv h
  | .meshMeasure m ohms => (execMeshMeasure_keepsMems s m ohms).nextInv h
  | .bbxRecordWrite => (execBbxRecordWrite_keepsMems s).nextInv h
  | .powerOnReset o => execPowerOnReset_nextInv h o
  | .perst o => execPerst_nextInv h o
  | .softReset o => execSoftReset_nextInv h o
  | .pwrgoodFall => execPwrgoodFall_nextInv h
  | .railOutOfRange rail => execRailOutOfRange_nextInv h rail
  | .pfwAssert => (execPfwAssert_keepsMems s).nextInv h
  | .pfwDeassert => (execPfwDeassert_keepsMems s).nextInv h
  | .ppsInEdge => (execPpsInEdge_keepsMems s).nextInv h
  | .ppsOutPulse => (execPpsOutPulse_keepsMems s).nextInv h
  | .lowWordReadLatch f bar2 addr => (execLowWordReadLatch_keepsMems s f bar2 addr).nextInv h
  | .readClear f bar2 addr => (execReadClear_keepsMems s f bar2 addr).nextInv h
  | .regWrite f bar2 addr be v => execRegWrite_nextInv h f bar2 addr be v
  | .smbIdent => (execSmbIdent_keepsMems s).nextInv h
  | .smbStatus => (execSmbStatus_keepsMems s).nextInv h
  | .smbTemp => (execSmbTemp_keepsMems s).nextInv h
  | .smbVbat => (execSmbVbat_keepsMems s).nextInv h
  | .smbBbx => (execSmbBbx_keepsMems s).nextInv h
  | .smbPfw => (execSmbPfw_keepsMems s).nextInv h
  | .smbWriteRefused code write => (execSmbWriteRefused_keepsMems s code write).nextInv h
  | .forbiddenRegisterRead f bar2 addr => (execForbiddenRegisterRead_keepsMems s f bar2 addr).nextInv h
  | .illegalFetch b => execIllegalFetch_nextInv h b
  | .blockLockChange lane locked => (execBlockLockChange_keepsMems s lane locked).nextInv h
  | .prbsLockChange lane locked errors => (execPrbsLockChange_keepsMems s lane locked errors).nextInv h
  | .sidebandMessageError n msg => (execSidebandMessageError_keepsMems s n msg).nextInv h
  | .shuavoChallengeExpiry => (execShuavoChallengeExpiry_keepsMems s).nextInv h
  | .vbatRetentionLost => (execVbatRetentionLost_keepsMems s).nextInv h

/-- Settles O4: every command keeps the canonical form (`exec_nextInv`), by the frame of its function where that writes no
memory; an idle step only passes the time. -/
theorem stepKeepsMemoriesCanonical : Obligations.StepKeepsMemoriesCanonical := by
  intro s t h hst
  unfold step at hst
  split at hst
  · simp only [Host.Outcome.next.injEq] at hst
    exact hst ▸ h
  · rename_i c rest _
    exact exec_nextInv (s := { s with pending := rest }) h c t hst

end Sys2Proof.Machine
end

section
/-! O6: the ALU functions (R77). -/

namespace Sys2Proof.Machine

/-! ### Two operands -/

theorem sub_eq_ofInt (x y : DWord) : x - y = BitVec.ofInt 64 (x.toNat - y.toNat) := by
  rw [Int.sub_eq_add_neg, BitVec.ofInt_add, BitVec.ofInt_neg, BitVec.ofInt_natCast, BitVec.ofInt_natCast,
    BitVec.ofNat_toNat, BitVec.ofNat_toNat, BitVec.setWidth_eq, BitVec.setWidth_eq, BitVec.sub_eq_add_neg]

theorem mul_eq_ofNat (x y : DWord) : x * y = BitVec.ofNat 64 (x.toNat * y.toNat) := by
  rw [BitVec.ofNat_mul, BitVec.ofNat_toNat, BitVec.ofNat_toNat, BitVec.setWidth_eq, BitVec.setWidth_eq]

theorem shiftLeft_eq_ofNat (x : DWord) (n : Nat) : x <<< n = BitVec.ofNat 64 (x.toNat * 2 ^ n) :=
  congrArg (BitVec.ofNat 64) (Nat.shiftLeft_eq ..)

theorem ushiftRight_eq_ofNat (x : DWord) (n : Nat) : x >>> n = BitVec.ofNat 64 (x.toNat / 2 ^ n) :=
  BitVec.eq_of_toNat_eq (by
    rw [BitVec.toNat_ushiftRight, Nat.shiftRight_eq_div_pow, BitVec.toNat_ofNat,
      Nat.mod_eq_of_lt (Nat.lt_of_le_of_lt (Nat.div_le_self ..) x.isLt)])

/-- R77: the arithmetic shift rounds towards minus infinity, as the division by a power of two does. -/
theorem sshiftRight_eq_ofInt (x : DWord) (n : Nat) : x.sshiftRight n = BitVec.ofInt 64 (x.toInt / 2 ^ n) :=
  congrArg (BitVec.ofInt 64) (by rw [Int.shiftRight_eq_div_pow]; rfl)

/-- Where a tie picks the same of two values, a strict comparison chooses as the other does. -/
theorem ite_lt_eq_ite_le {α β : Type} [LinearOrder α] {u v : α} {x y : β} (tie : u = v → x = y) :
    (if u < v then x else y) = if u ≤ v then x else y := by
  by_cases h : u = v
  · simp [tie h]
  · simp [lt_iff_le_and_ne, h]

theorem aluMin_eq (x y : DWord) : aluMin x y = if x.toInt ≤ y.toInt then x else y := by
  simp only [aluMin, BitVec.slt_eq_decide, decide_eq_true_eq]
  exact ite_lt_eq_ite_le BitVec.eq_of_toInt_eq

theorem aluMax_eq (x y : DWord) : aluMax x y = if x.toInt ≤ y.toInt then y else x := by
  simp only [aluMax, BitVec.slt_eq_decide, decide_eq_true_eq]
  exact ite_lt_eq_ite_le fun tie => (BitVec.eq_of_toInt_eq tie).symm

theorem aluMinu_eq (x y : DWord) : aluMinu x y = if x.toNat ≤ y.toNat then x else y := by
  simp only [aluMinu, BitVec.ult_eq_decide, decide_eq_true_eq]
  exact ite_lt_eq_ite_le BitVec.eq_of_toNat_eq

theorem aluMaxu_eq (x y : DWord) : aluMaxu x y = if x.toNat ≤ y.toNat then y else x := by
  simp only [aluMaxu, BitVec.ult_eq_decide, decide_eq_true_eq]
  exact ite_lt_eq_ite_le fun tie => (BitVec.eq_of_toNat_eq tie).symm

/-! ### One operand -/

theorem aluPopc_eq (x : DWord) :
    aluPopc x = BitVec.ofNat 64 ((List.range 64).filter (fun i => x.toNat / 2 ^ i % 2 == 1)).length := by
  have bit : (fun i => x.getLsbD i) = fun i => x.toNat / 2 ^ i % 2 == 1 := by
    funext i
    rw [BitVec.getLsbD, Nat.testBit_eq_decide_div_mod_eq, beq_eq_decide]
  rw [aluPopc, List.countP_eq_length_filter, bit]

/-- The numbers below the first that satisfies a predicate, counted. -/
theorem length_takeWhile_not_range {p : Nat → Bool} {m n : Nat} (hm : m < n) (hit : p m = true)
    (low : ∀ i < m, p i = false) : ((List.range n).takeWhile (fun i => !p i)).length = m := by
  have first : (List.range n).findIdx (fun i => !!p i) = m :=
    (List.findIdx_eq (by simpa using hm)).2 ⟨by simpa using hit, fun i hi => by simpa using low i hi⟩
  rw [List.takeWhile_eq_take_findIdx_not, first, List.length_take, List.length_range, Nat.min_eq_left hm.le]

/-- R77: the highest bit that is set stands at the binary logarithm. -/
theorem aluClz_of_ne_zero {x : DWord} (h : x ≠ 0) : aluClz x = BitVec.ofNat 64 (63 - Nat.log2 x.toNat) := by
  have pos : x.toNat ≠ 0 := fun e => h (BitVec.eq_of_toNat_eq e)
  have top : Nat.log2 x.toNat < 64 := (Nat.log2_lt pos).2 x.isLt
  refine congrArg (BitVec.ofNat 64) (length_takeWhile_not_range (by omega) ?_ fun i hi => ?_)
  · rw [BitVec.getMsbD_eq_getLsbD, show 64 - 1 - (63 - Nat.log2 x.toNat) = Nat.log2 x.toNat by omega, BitVec.getLsbD,
      Nat.testBit_log2 pos, decide_eq_true (by omega), Bool.and_self]
  · rw [BitVec.getMsbD_eq_getLsbD, BitVec.getLsbD, Nat.testBit_lt_two_pow ((Nat.log2_lt pos).1 (by omega)), Bool.and_false]

theorem aluClz_eq (x : DWord) : aluClz x = if x = 0 then 64 else BitVec.ofNat 64 (63 - Nat.log2 x.toNat) := by
  by_cases h : x = 0
  · subst h
    rfl
  · rw [if_neg h, aluClz_of_ne_zero h]

theorem aluBswap_eq (n : Nat) (x : DWord) : aluBswap n x = BitVec.ofNat 64 (leNat (beBytes x.toNat n)) := by
  rw [aluBswap, beNat_eq_leNat_reverse, beBytes]

theorem aluBswap_two (x : DWord) : aluBswap 2 x = BitVec.ofNat 64 (x.toNat % 256 * 256 + x.toNat / 256 % 256) := by
  refine congrArg (BitVec.ofNat 64) ?_
  simp only [leBytes, beNat, List.foldl_cons, List.foldl_nil, BitVec.toNat_ofNat]
  omega

theorem aluBswap_four (x : DWord) : aluBswap 4 x = BitVec.ofNat 64 (leNat (beBytes (x.toNat % 2 ^ 32) 4)) := by
  rw [aluBswap_eq, beBytes, beBytes, leBytes_mod x.toNat 4]

/-- Settles O6: each is a register instruction (`State.issueReg_writes`) whose function is the table's. -/
theorem aluResult : Obligations.AluResult := by
  unfold Obligations.AluResult Claims.aluTwo Claims.aluOne
  simp only [List.forall_mem_cons, List.not_mem_nil, false_imp_iff, implies_true, and_true]
  refine ⟨⟨?add, ?sub, ?and, ?or, ?xor, ?shl, ?shr, ?sar, ?mul, ?mulhu, ?min, ?max, ?minu, ?maxu⟩,
    ⟨?popc, ?clz, ?bswap16, ?bswap32, ?bswap64⟩⟩ <;>
    intro s b d a c k h <;> refine congrArg Host.Outcome.next (State.issueReg_writes h ?_)
  case add | and | or | xor | mulhu => rfl
  case sub => exact sub_eq_ofInt ..
  case shl => exact shiftLeft_eq_ofNat ..
  case shr => exact ushiftRight_eq_ofNat ..
  case sar => exact sshiftRight_eq_ofInt ..
  case mul => exact mul_eq_ofNat ..
  case min => exact aluMin_eq ..
  case max => exact aluMax_eq ..
  case minu => exact aluMinu_eq ..
  case maxu => exact aluMaxu_eq ..
  case popc => exact aluPopc_eq _
  case clz => exact aluClz_eq _
  case bswap16 => exact aluBswap_two _
  case bswap32 => exact aluBswap_four _
  case bswap64 => exact aluBswap_eq ..

end Sys2Proof.Machine
end

section
/-! O28: the check-value instructions (R96 to R98, R483 to R486). -/

namespace Sys2Proof.Machine

variable {s : State} {b p : Nat} {w : Word} {regs : List Reg} {k : Pick} {post : Bool} {eff : State → Bobbin → Pick → Act}

/-! ### Issue -/

/-- R97: an instruction that changes nothing but the check-value context of its bobbin. -/
theorem State.issue_setsCrc {ctx : CrcCtx} (h : s.mayIssueRun b w regs p k = true)
    (he : eff (s.setBob b { s.bob b with tbNs := none }) (s.bob b) k
      = .go ((s.setBob b { s.bob b with tbNs := none }).setBob b
          { (s.setBob b { s.bob b with tbNs := none }).bob b with crc := ctx }) ((s.bob b).pc + 1)) :
    s.issue b w post regs eff = s.setBob b ({ s.bob b with crc := ctx }.goes ((s.bob b).pc + 1)) := by
  obtain ⟨slot, may⟩ := State.mayIssueRun_slot h
  rw [State.bob_setBob] at he
  exact State.issue_sets slot may he rfl rfl

/-- R47, R97: an asynchronous instruction that also changes that context. -/
theorem State.issue_goAsyncCrc {ctx : CrcCtx} {d : Reg} {op : AsyncOp} (h : s.mayIssueRun b w regs p k = true)
    (he : eff (s.setBob b { s.bob b with tbNs := none }) (s.bob b) k
      = goAsync ((s.setBob b { s.bob b with tbNs := none }).setBob b
          { (s.setBob b { s.bob b with tbNs := none }).bob b with crc := ctx }) b (s.bob b) d op) :
    s.issue b w post regs eff
      = s.setBob b ({ s.bob b with crc := ctx }.goesAsync d op s.tb.elapsed) := by
  obtain ⟨slot, may⟩ := State.mayIssueRun_slot h
  obtain ⟨held, -⟩ := State.mayIssue_iff.1 slot
  have notReset : ({ s.bob b with tbNs := none, crc := ctx } : Bobbin) ≠ {} := State.bobPick_ne_reset held rfl rfl
  rw [State.bob_setBob, goAsync, State.bob_setBob, State.setBob_setBob _ _ _ notReset] at he
  exact State.issue_sets slot may he rfl rfl

/-! ### Completion (R98) -/

theorem Bobbin.rd_finish_other (B : Bobbin) {d r : Reg} (v : DWord) (h : r ≠ d) : (B.finish d v).rd r = B.rd r :=
  B.rd_wr_other v h

theorem exec_crcGetDone {d : Reg} {v : DWord} {strip pc at_ : Nat} {rest : List PendOp}
    (pick : (s.bob b).pick = some p) (hk : s.pick p = some k)
    (pend : (s.bob b).pend = ⟨d, .crcGet v strip, pc, at_⟩ :: rest) :
    exec (.crcGetDone b d) s = .next ((s.setPick p { k with frame := k.frame.take (k.frame.length - strip) }).setBob b
      (({ s.bob b with pend := rest } : Bobbin).finish d
        (withFree 34 v.toNat .ok (Config.freeResult 3 ((s.bobPick b).getD {}).orig v.toNat)))) := by
  rw [exec, execCrcGetDone, takePend_head pend rfl]
  exact congrArg Host.Outcome.next (congrArg (State.deliver · b _ d _) (State.updPick_of_pick _ pick hk))

/-- Settles O28: the instructions by what they leave in the context (`State.issue_setsCrc`, `State.issue_goAsyncCrc`), the
completion by `exec_crcGetDone`. -/
theorem checkValues : Obligations.CheckValues := by
  rintro s b p d a c imm k B x n ctx pr rfl hc ho rfl rfl
  have plain : ¬ k.sealedOff = true := by rw [Pick.sealedOff_eq_false hc ho]; decide
  refine ⟨fun h nonzero inside => ?run, fun h inside hctx => ?chk, fun h => ?get, fun h hpr => ?set,
    fun v strip pc at_ rest pick hk pend => ?done⟩
  case run =>
    refine congrArg Host.Outcome.next (State.issue_setsCrc h ((if_neg plain).trans (if_neg ?_)))
    exact not_or.2 ⟨nonzero, Nat.not_lt.2 inside⟩
  case chk =>
    rw [← List.drop_take] at hctx
    subst hctx
    exact congrArg Host.Outcome.next (State.issue_setsCrc h ((if_neg plain).trans (if_neg (Nat.not_lt.2 inside))))
  case get => exact congrArg Host.Outcome.next (State.issue_goAsyncCrc h rfl)
  case set =>
    subst hpr
    exact congrArg Host.Outcome.next (State.issue_setsCrc h rfl)
  case done =>
    refine ⟨_, exec_crcGetDone pick hk pend, State.pick_setPick .., fun hd => ?_, fun r hr => ?_, ?_, rfl⟩ <;>
      rw [State.bob_setBob]
    · rw [Bobbin.rd_finish, if_neg hd]
      exact ⟨withFree_mod _ _ _ (by decide), withFree_div ..⟩
    · exact Bobbin.rd_finish_other _ _ hr
    · exact Bobbin.busy_finish ..

end Sys2Proof.Machine
end

section
/-! O29: `pol` and `tb` (R99, R100, R274). -/

namespace Sys2Proof.Machine

variable {s : State} {b p pc : Nat} {d : Reg} {v : DWord} {w : Word} {regs : List Reg} {k : Pick} {post : Bool}
  {eff : State → Bobbin → Pick → Act}

/-! ### POL (R99, R274) -/

/-- R273: no refill tick is due. -/
theorem State.refillDue_of_lt (early : s.tb.elapsed < s.sch.lastTick + 64) : s.refillDue = s := if_pos early

/-- R274: a policer's verdict, and what each bucket pays for it. -/
theorem meter_eq (pl : Policer) (n : Nat) (pre : Option (BitVec 2)) (u : Nat) (hu : u = 125 * n) (col : BitVec 2)
    (hcol : col = if pre = some 2 ∨ pl.tp < u then 2 else if pre = some 1 ∨ pl.tc < u then 1 else 0) :
    meter pl n pre = (col, { tc := if col = 0 then pl.tc - u else pl.tc, tp := if col = 2 then pl.tp else pl.tp - u }) := by
  subst hu hcol
  unfold meter
  dsimp only
  split
  · rfl
  · split <;> rfl

/-- R99: the immediate says whether the pick's colour counts. -/
theorem preColour_eq_some {imm : BitVec 6} (small : imm.toNat < 2) (x y : BitVec 2) :
    (if imm.getLsbD 0 then some x else none) = some y ↔ imm = 1 ∧ x = y := by
  obtain rfl | rfl : imm = 0 ∨ imm = 1 := by bv_omega
  · simp
  · simp

/-- R55, R69: an instruction that changes the scheduler and the record of its pick, and writes d. -/
theorem State.issue_meters {S : Sch} {f : Pick → Pick} {t : State} (h : s.mayIssueRun b w regs p k = true)
    (ht : t = State.updPick { s.setBob b { s.bob b with tbNs := none } with sch := S } b f)
    (he : eff (s.setBob b { s.bob b with tbNs := none }) (s.bob b) k = .go (t.setBob b ((t.bob b).wr d v)) pc) :
    s.issue b w post regs eff = (State.setPick { s with sch := S } p (f k)).setBob b (((s.bob b).wr d v).goes pc) := by
  obtain ⟨slot, may⟩ := State.mayIssueRun_slot h
  obtain ⟨-, pick, hk, -⟩ := (s.mayIssueRun_iff ..).1 h
  have held : ({ s.bob b with tbNs := none } : Bobbin).pick = some p := pick
  have record : t = (State.setPick { s with sch := S } p (f k)).setBob b { s.bob b with tbNs := none } :=
    ht.trans (State.updPick_of_pick f (((congrArg Bobbin.pick (State.bob_setBob s b _))).trans held) hk)
  obtain ⟨latch, count⟩ := (s.bob b).wr_latch d v
  rw [record, State.bob_setBob, State.setBob_setBob _ _ _ (Bobbin.ne_reset_of_pick held), latch] at he
  rw [State.issue_leaves slot may he (Bobbin.wr_pick ..) (Bobbin.wr_left ..)]
  rfl

/-! ### TB (R100) -/

/-- R100: an instruction that writes d and sets the latch of the nanoseconds. -/
theorem State.issue_writesLatch {latch : Option Nat} (h : s.mayIssueRun b w regs p k = true)
    (he : eff (s.setBob b { s.bob b with tbNs := none }) (s.bob b) k
      = .go ((s.setBob b { s.bob b with tbNs := none }).setBob b
          { ((s.setBob b { s.bob b with tbNs := none }).bob b).wr d v with tbNs := latch }) pc) :
    s.issue b w post regs eff = s.setBob b { ((s.bob b).wr d v).goes pc with tbNs := latch } := by
  obtain ⟨slot, may⟩ := State.mayIssueRun_slot h
  rw [State.bob_setBob, ((s.bob b).wr_latch d v).1] at he
  exact State.issue_sets slot may he (Bobbin.wr_pick ..) (Bobbin.wr_left ..)

/-- Settles O29: `pol` by the verdict of its policer (`meter_eq`), `tb` by its three immediates. -/
theorem colourAndTime : Obligations.ColourAndTime := by
  intro s b p d a c imm k i u pl pl'
  refine ⟨fun h small early hi present hpl hu col hcol hpl' => ?pol, fun h small => ?tb⟩
  case pol =>
    have verdict := meter_eq pl _ (if imm.getLsbD 0 then some k.color else none) u hu col
      (by simpa only [preColour_eq_some small] using hcol)
    subst hi hpl
    rw [← hpl'] at verdict
    rw [exec, execPol, State.refillDue_of_lt early]
    refine congrArg Host.Outcome.next (State.issue_meters
      (S := { s.sch with pols := tset {} s.sch.pols (((s.bob b).rd a).toNat % 2 ^ 20) pl' })
      (f := fun k => { k with color := col }) h rfl ?_)
    refine (if_neg (Nat.not_le.2 small)).trans ((if_neg (Nat.not_le.2 present)).trans ?_)
    dsimp only [State.setBob_sch]
    rw [verdict]
  case tb =>
    obtain rfl | rfl | rfl : imm = 0 ∨ imm = 1 ∨ imm = 2 := by bv_omega
    case inl | inr.inl | inr.inr => exact congrArg Host.Outcome.next (State.issue_writesLatch h rfl)

end Sys2Proof.Machine
end

section
/-! O52, the items of an UP weft port. The words hold of weft ports that are listed under rising numbers; the statement asks them
of every state. Where the list is out of order, `setWport` lists the receiving port a second time in front, the frames it holds
seem to hold their cells twice, and a FRAME that the beam store had room for is refused. -/

namespace Sys2Proof.Machine

variable {s : State} {n : Nat}

/-! ### An accepted FRAME for this device (R348, R353) -/

theorem State.setWport_setWport (s : State) (n : Nat) {x : Weft} (y : Weft) (h : x ≠ {}) :
    (s.setWport n x).setWport n y = s.setWport n y := by
  simp only [State.setWport, tset_tset_same _ _ _ h]

/-- R346, R348: an item that verifies is opened, and its SEQ is the last accepted. -/
theorem State.weftOpen_of_weftItem {type : Nat} {item b : Bytes} (h : Claims.weftItem s n type item b) :
    s.weftOpen n type item = .ok (s.setWport n { s.wport n with rxSeq := beNat (slice item 4 8) }, b) := by
  obtain ⟨up, long, is, newer, key, hkey, opens⟩ := h
  simp only [State.weftOpen, hkey, up, is, opens, if_neg (Nat.not_le.2 newer), show ¬ item.length < 32 by omega,
    Nat.not_lt.2 long, ne_eq, not_true_eq_false, true_or, or_self, Bool.true_eq_false, if_false]

/-- R348: the FN expected moves the port on, and but for every sixteenth no ACK follows. -/
theorem State.weftFn_expected {fn : Word} (expected : fn = (s.wport n).rxFn) (more : (s.wport n).sinceAck ≠ 15) :
    s.weftFn n fn = .ok (s.setWport n { s.wport n with
      rxFn := (s.wport n).rxFn + 1, sinceAck := (s.wport n).sinceAck + 1 }) := by
  simp [State.weftFn, fnDiff, expected, more]

/-- R348, R353: a FRAME for this device that has the FN expected and is within its budget is accepted and delivered. -/
theorem exec_weftFrameReceive_delivers {w : Weft} {item b : Bytes} (hw : w = s.wport n) (h : Claims.weftItem s n 1 item b)
    (expected : BitVec.ofNat 32 (beNat (slice b 0 4)) = w.rxFn) (more : w.sinceAck ≠ 15)
    (intime : s.overdue n item = false) (free : s.held = false) (here : beNat (slice item 0 2) = s.devId) :
    exec (.weftFrameReceive n item) s = .next ((s.setWport n { w with
      rxSeq := beNat (slice item 4 8), rxFn := w.rxFn + 1, sinceAck := w.sinceAck + 1 }).weftDeliver n b) := by
  subst hw
  have notReset : ({ s.wport n with rxSeq := beNat (slice item 4 8) } : Weft) ≠ {} := by
    intro reset
    have up := h.1
    rw [show (s.wport n).st = .none from congrArg Weft.st reset] at up
    cases up
  rw [exec, execWeftFrameReceive, State.weftOpen_of_weftItem h]
  dsimp only
  rw [State.weftFn_expected (by rw [State.wport_setWport]; exact expected) (by rw [State.wport_setWport]; exact more),
    State.wport_setWport, State.setWport_setWport _ _ _ notReset]
  refine congrArg Host.Outcome.next ((if_neg ?_).trans ((if_neg ?_).trans (if_pos here)))
  · rw [Bool.not_eq_true, ← intime, State.overdue, State.overdue, State.wport_setWport]
  · exact ne_true_of_eq_false free

/-- R280: the beam store has room for the frame that a FRAME delivers. -/
def State.takesFrame (s : State) (b : Bytes) : Bool :=
  s.fits (cellsFor (weftMeta b ++ b.drop 48).length) (s.field .schAdmSlots 0 0 17) (s.field .schAdmCells 0 0 19)

/-- R280: a FRAME below class 7 that the beam store has no room for makes no pick. -/
theorem State.pick_weftDeliver_of_full {b : Bytes} (hc : BitVec.ofNat 3 (s.field .wftPortCfg n 1 3) ≠ 7)
    (full : s.takesFrame b = false) (p : Nat) : (s.weftDeliver n b).pick p = s.pick p := by
  unfold State.takesFrame at full
  simp only [State.weftDeliver, State.arrive, State.admission, if_pos hc, full, Bool.false_eq_true, if_false, State.refuse,
    State.pick, State.occurWith_keeps]

/-! ### A list of ports out of order -/

/-- The receive key of the port. -/
def bulkyKey : LinkKey := ⟨List.replicate 32 0, List.replicate 4 0⟩

/-- An UP port with one FRAME of 300,000 cells that waits for its ACK. -/
def bulkyLink : Weft :=
  { st := .up, rxKey := some bulkyKey
    unacked := [{ fn := 0, dest := 1, src := 0, budget := 1, since := 0, vec := 0, cls := 0, kn := 0, assoc := 0, pn := 0
                  u := (0, 0, 0), frame := [], via := none, cells := 300000, about := none }] }

/-- The port once it has accepted a first FRAME. -/
def bulkyLinkAfter : Weft := { bulkyLink with rxSeq := 1, rxFn := 1, sinceAck := 1 }

/-- A card in service, of weft ID 0, whose weft ports are listed in falling order of their numbers. -/
def fallingPorts : State := { weft := [(1, {}), (0, bulkyLink)], hif := { mode := 1 }, kcu := { lc := 3 } }

/-- The body of a FRAME of FN 0 that carries nothing. -/
def emptyBody : Bytes := List.replicate 48 0

/-- That FRAME as an item for device 0, of BUDGET 1 and SEQ 1. -/
def emptyItem : Bytes := bulkyKey.seal 0 1 1 1 emptyBody

theorem emptyItem_fields : emptyItem.length = 80 ∧ (emptyItem.getD 12 0).toNat = 1 ∧ beNat (slice emptyItem 0 2) = 0
    ∧ beNat (slice emptyItem 2 2) = 1 ∧ beNat (slice emptyItem 4 8) = 1 := by decide +kernel

theorem emptyItem_opens : gcmOpen bulkyKey.key (slice bulkyKey.salt 0 4 ++ beBytes 1 8) (emptyItem.take 16)
    ((emptyItem.take (80 - 16)).drop 16) (emptyItem.drop (80 - 16)) = (emptyBody, true) := by decide +kernel

theorem emptyItem_weftItem : Claims.weftItem fallingPorts 0 1 emptyItem emptyBody := by
  obtain ⟨length, type, -, -, seq⟩ := emptyItem_fields
  refine ⟨rfl, ?_, type, ?_, bulkyKey, rfl, ?_⟩
  · rw [length]; decide
  · rw [seq]; decide
  · rw [length, seq]; exact emptyItem_opens

theorem fallingPorts_takesFrame : fallingPorts.takesFrame emptyBody = true := by decide

/-- R123: once the port has accepted the FRAME its 300,000 cells count twice. -/
theorem fallingPorts_after_takesFrame : (fallingPorts.setWport 0 bulkyLinkAfter).takesFrame emptyBody = false := by decide

theorem emptyItem_intime : fallingPorts.overdue 0 emptyItem = false := by
  obtain ⟨-, -, -, budget, -⟩ := emptyItem_fields
  rw [State.overdue, budget]
  decide

theorem exec_emptyItem : exec (.weftFrameReceive 0 emptyItem) fallingPorts
    = .next ((fallingPorts.setWport 0 bulkyLinkAfter).weftDeliver 0 emptyBody) := by
  obtain ⟨-, -, dest, -, seq⟩ := emptyItem_fields
  have here : beNat (slice emptyItem 0 2) = fallingPorts.devId := dest.trans (by decide)
  rw [exec_weftFrameReceive_delivers (w := bulkyLink) rfl emptyItem_weftItem (by decide) (by decide) emptyItem_intime
    (by decide) here, seq]
  rfl

/-- Refutes O52: the statement is asked of every state, and in one whose weft ports are not listed by rising number a FRAME that
fits is refused, so that no pick is made of it. -/
theorem not_weftData : ¬ Obligations.WeftData := by
  intro h
  obtain ⟨-, -, items, -⟩ := h fallingPorts 0 bulkyLink rfl rfl
  obtain ⟨-, -, dest, budget, -⟩ := emptyItem_fields
  obtain ⟨inOrder, -⟩ := items emptyItem emptyBody _ rfl
  obtain ⟨frames, -⟩ := inOrder emptyItem_intime (by decide) (by decide)
  obtain ⟨delivers, -⟩ := frames 0 1 1 emptyItem_weftItem dest.symm budget.symm (by decide) (by decide) (by decide)
  obtain ⟨t, k, ht, -, made, -⟩ := delivers 0 (by decide) (by decide) rfl fallingPorts_takesFrame
  have noPick : t.pick 0 = none := by
    rw [exec_emptyItem] at ht
    rw [← Host.Outcome.next.inj ht]
    exact State.pick_weftDeliver_of_full (by decide) fallingPorts_after_takesFrame 0
  rw [noPick] at made
  cases made

end Sys2Proof.Machine
end

section
/-! SUPPORT. What writes of DRAM lines leave of the host interface and of the cards (R303, R313, R452), for O43. -/

namespace Sys2Proof.Machine

/-- R303, R313, R452: t is s after work on DRAM lines, which reaches registers, tamper sources, power domains and the memory
controller alone. -/
def State.Stored (s t : State) : Prop :=
  ∃ rg tm pm ms, t = { s with regs := rg, tmu := tm, pmc := pm, msc := ms }

theorem State.Stored.refl (s : State) : s.Stored s := ⟨_, _, _, _, rfl⟩

theorem State.Stored.trans {s t u : State} : s.Stored t → t.Stored u → s.Stored u := by
  rintro ⟨_, _, _, _, rfl⟩ ⟨_, _, _, _, rfl⟩
  exact ⟨_, _, _, _, rfl⟩

theorem State.Stored.shu {s t : State} : s.Stored t → t.shu = s.shu := by
  rintro ⟨_, _, _, _, rfl⟩
  rfl

theorem State.Stored.ring {s t : State} (f r : Nat) : s.Stored t → t.ring f r = s.ring f r := by
  rintro ⟨_, _, _, _, rfl⟩
  rfl

theorem State.stored_foldl {α : Type} {f : State → α → State} (step : ∀ (t : State) x, t.Stored (f t x)) (l : List α)
    (s : State) : s.Stored (l.foldl f s) :=
  List.foldlRecOn (motive := s.Stored) l f (.refl s) fun t ht x _ => ht.trans (step t x)

variable (s : State)

theorem State.useChannel_stored (ch : Nat) : s.Stored (s.useChannel ch) := by
  unfold State.useChannel
  dsimp only
  (repeat' split)
  · exact .refl s
  · obtain ⟨pm, woken⟩ := s.askWake_parts (64 + ch) .sleep
    exact ⟨_, _, pm, _, woken⟩
  · exact .refl s
  · exact ⟨_, _, _, _, rfl⟩
  · exact .refl s

theorem State.useLines_stored (buffer : Bool) (lines : List Nat) : s.Stored (s.useLines buffer lines) :=
  State.stored_foldl State.useChannel_stored _ s

theorem State.clockEnd_stored : s.Stored s.clockEnd := by
  obtain ⟨tm, fired⟩ := (s.setRegBit .mscStat 3).fire_parts 12
  exact ⟨_, tm, _, _, fired⟩

theorem State.writeNodes_stored (buffer b : Bool) (path : List PathObs) : s.Stored (s.writeNodes buffer b path) :=
  State.stored_foldl (fun _ _ => ⟨_, _, _, _, rfl⟩) _ s

theorem State.storeCopy_stored (buffer b : Bool) (mki draw line : Nat) (plain : Bytes) (path : List PathObs) :
    s.Stored (s.storeCopy buffer b mki draw line plain path) :=
  .trans ⟨_, _, _, _, rfl⟩ (State.writeNodes_stored _ buffer b path)

theorem State.storeLine_stored (buffer : Bool) (mki draw line : Nat) (plain : Bytes) (path : List PathObs) :
    s.Stored (s.storeLine buffer mki draw line plain path) :=
  State.stored_foldl (fun t b => t.storeCopy_stored buffer b mki draw line plain _) _ s

theorem State.ownStore_stored (buffer : Bool) (mki draw line : Nat) (plain : Bytes) :
    s.Stored (s.ownStore buffer mki draw line plain) := by
  unfold State.ownStore State.tryStore
  (repeat' split)
  · exact .refl s
  · exact s.storeLine_stored ..
  · exact s.clockEnd_stored

/-- R114, R313: the image of a card is written to DRAM lines. -/
theorem State.writeStage_stored (img : Bytes) : s.Stored (s.writeStage img) := by
  unfold State.writeStage
  split
  · exact .refl s
  · exact (s.useLines_stored ..).trans (State.stored_foldl (fun t _ => t.ownStore_stored ..) _ _)

end Sys2Proof.Machine
end

section
/-! SUPPORT. Commands on the flow table (R150 to R152), for O43. -/

namespace Sys2Proof.Machine

variable {s : State} {f : Nat} {e : Fetched}

/-- R371 to R376: the command that a ring's unit holds runs. -/
theorem State.command_of_holds {r op : Nat} (h : Claims.holds s f r op e) (run : Fetched → State) :
    s.command f r (fun e => e.isOp op) run = run e := by
  obtain ⟨handed, opcode, gate⟩ := h
  simp [State.command, handed, Fetched.isOp, opcode, gate]

/-- R309 to R311: a flow command whose buckets are awake and sound runs, and its lines have been answered. -/
theorem State.ftCommand_of_holds {op : Nat} (h : Claims.holds s f 0 op e) {key : Fetched → BitVec 6 × DWord × DWord}
    {sp : BitVec 6} {lo hi : DWord} (named : key e = (sp, lo, hi)) (awake : s.writeWaits (s.flowLines sp lo hi) = false)
    (sound : s.tableBad (s.flowLines sp lo hi) = none) (run : Fetched → State) :
    s.ftCommand f op key run = (run e).answered false (s.flowLines sp lo hi) := by
  rw [State.ftCommand, State.command_of_holds h]
  simp [named, awake, sound]

/-- R151, R303: a table whose changed lines are sound, and whose clocks have room, is written. -/
theorem State.putFlows_ok {l : List Flow} (sound : s.tableBad (s.flowChanges s.tab.flows l) = none)
    (room : s.tableRoom (s.flowChanges s.tab.flows l) = true) : s.putFlows l = (.ok (s.setFlows l), s) := by
  simp [State.putFlows, sound, room]

theorem State.flowDone_ok {l : List Flow} (sound : s.tableBad (s.flowChanges s.tab.flows l) = none)
    (room : s.tableRoom (s.flowChanges s.tab.flows l) = true) (fin : State → State) :
    s.flowDone f l fin = fin (s.setFlows l) := by
  rw [State.flowDone, State.putFlows_ok sound room]

/-- R151, R157: a live flow of the domain is the one that a command names. -/
theorem State.ownFlow_ok {sp : BitVec 6} {lo hi : DWord} {y : Flow}
    (found : s.tab.flows.find? (fun y => y.hasKey sp lo hi) = some y) (live : y.poisoned = false)
    (own : f = 0 ∨ y.domain.toNat = f) : s.ownFlow f (sp, lo, hi) = .ok y := by
  have may : ¬ (f ≠ 0 ∧ y.domain.toNat ≠ f) := fun other => own.elim other.1 other.2
  simp only [State.ownFlow, found, live, if_neg may, Bool.false_eq_true, if_false]

/-! ### The place of a flow (R150, R151) -/

/-- R150: what a flow says, wherever it lies. -/
def Flow.unplaced (x : Flow) : Flow := { x with bucket := 0, place := 0 }

@[simp] theorem Flow.hasKey_unplaced (x : Flow) (sp : BitVec 6) (lo hi : DWord) :
    x.unplaced.hasKey sp lo hi = x.hasKey sp lo hi := rfl

/-- R151: a flow that finds a place is added to the table; residents only move. -/
theorem State.placeFlow_perm {l : List Flow} {x : Flow} {n fuel : Nat} {l' : List Flow}
    (h : s.placeFlow l x n fuel = some l') :
    (l'.map Flow.unplaced).Perm (x.unplaced :: l.map Flow.unplaced) := by
  induction fuel generalizing l x n with
  | zero => cases h
  | succ fuel ih =>
    unfold State.placeFlow at h
    dsimp only at h
    split at h
    · cases h
      exact .refl _
    · split at h
      · cases h
        exact .refl _
      · split at h
        · cases h
        · next v victim =>
          have resident : v ∈ l := (List.mem_filter.1 (List.mem_of_getElem? victim)).1
          have freed : (v.unplaced :: (l.erase v).map Flow.unplaced).Perm (l.map Flow.unplaced) :=
            ((List.perm_cons_erase resident).map Flow.unplaced).symm
          exact (ih h).trans ((List.Perm.swap ..).trans (freed.cons x.unplaced))

/-- R151: the flow of a new key is found as it was given, but for its place. -/
theorem State.placeFlow_find {l : List Flow} {x : Flow} {n fuel : Nat} {l' : List Flow} {sp : BitVec 6} {lo hi : DWord}
    (h : s.placeFlow l x n fuel = some l') (key : x.hasKey sp lo hi = true)
    (new : l.find? (fun y => y.hasKey sp lo hi) = none) :
    ∃ y, l'.find? (fun y => y.hasKey sp lo hi) = some y ∧ y.unplaced = x.unplaced := by
  have perm := State.placeFlow_perm h
  obtain ⟨z, hz, same⟩ := List.mem_map.1 (perm.mem_iff.2 List.mem_cons_self)
  have zKey : z.hasKey sp lo hi = true := by rw [← z.hasKey_unplaced, same]; exact key
  obtain ⟨y, found⟩ := Option.isSome_iff_exists.1
    (List.find?_isSome (p := fun y : Flow => y.hasKey sp lo hi).2 ⟨z, hz, zKey⟩)
  refine ⟨y, found, ?_⟩
  have yKey : y.hasKey sp lo hi = true := List.find?_some (p := fun y : Flow => y.hasKey sp lo hi) found
  rcases List.mem_cons.1 (perm.mem_iff.1 (List.mem_map_of_mem (List.mem_of_find?_eq_some found))) with same | old
  · exact same
  · obtain ⟨w, hw, same⟩ := List.mem_map.1 old
    have wKey : w.hasKey sp lo hi = true := by rw [← w.hasKey_unplaced, same]; exact yKey
    exact absurd wKey (List.find?_eq_none.1 new w hw)

/-! ### The commands (R151, R152) -/

/-- R151, R152: a flow of a new key, within the quota, is put where it finds a place. -/
theorem State.insertFlow_new {b : Bytes} {l : List Flow} (clear : flowClear b = true)
    (new : s.tab.flows.find? (fun y => y.hasKey (s.flowOf f b).space (s.flowOf f b).lo (s.flowOf f b).hi) = none)
    (quota : f = 0 ∨ s.flowCount f < s.field .ftDomQuota f 0 25)
    (placed : { s with free := s.free + 1 }.placeFlow s.tab.flows (s.flowOf f b) (17 * s.free) 17 = some l) :
    s.insertFlow f b = ({ s with free := s.free + 1 } : State).putFlows l := by
  have within : ¬ (f ≠ 0 ∧ s.field .ftDomQuota f 0 25 ≤ s.flowCount f) := fun full =>
    quota.elim full.1 (Nat.not_lt.2 full.2)
  simp [State.insertFlow, clear, new, within, State.freeNo, placed]

variable {sp : BitVec 6} {lo hi : DWord} (awake : s.writeWaits (s.flowLines sp lo hi) = false)
  (sound : s.tableBad (s.flowLines sp lo hi) = none)
include awake sound

theorem exec_ftInsert_new {l : List Flow} (h : Claims.holds s f 0 0x0201 e) (key : e.blockKey = (sp, lo, hi))
    (clear : flowClear e.buf = true) (new : s.tab.flows.find? (fun y => y.hasKey sp lo hi) = none)
    (quota : f = 0 ∨ s.flowCount f < s.field .ftDomQuota f 0 25)
    (placed : { s with free := s.free + 1 }.placeFlow s.tab.flows (s.flowOf f e.buf) (17 * s.free) 17 = some l)
    (changed : s.tableBad (s.flowChanges s.tab.flows l) = none)
    (room : s.tableRoom (s.flowChanges s.tab.flows l) = true) :
    exec (.ftInsert f) s = .next (((({ s with free := s.free + 1 } : State).setFlows l).complete f 0 .ok).answered false
      (s.flowLines sp lo hi)) := by
  obtain ⟨rfl, rfl, rfl⟩ := by simpa only [Fetched.blockKey, Prod.mk.injEq] using key
  have written : ({ s with free := s.free + 1 } : State).putFlows l = _ := State.putFlows_ok changed room
  rw [exec, execFtInsert, State.ftCommand_of_holds h key awake sound, State.insertFlow_new clear new quota placed, written]

variable {y : Flow} {l : List Flow} (found : s.tab.flows.find? (fun y => y.hasKey sp lo hi) = some y)
  (live : y.poisoned = false) (own : f = 0 ∨ y.domain.toNat = f)
  (changed : s.tableBad (s.flowChanges s.tab.flows l) = none) (room : s.tableRoom (s.flowChanges s.tab.flows l) = true)
include found live own changed room

theorem exec_ftReplace_live (h : Claims.holds s f 0 0x0202 e) (key : e.blockKey = (sp, lo, hi)) (clear : flowClear e.buf = true)
    (hl : l = s.tab.flows.map (fun z => if z = y then { y with result := BitVec.ofNat 56 (leAt e.buf 20 7) } else z)) :
    exec (.ftReplace f) s = .next (((s.setFlows l).complete f 0 .ok).answered false (s.flowLines sp lo hi)) := by
  rw [exec, execFtReplace, State.ftCommand_of_holds h key awake sound, key, State.ownFlow_ok found live own]
  subst hl
  have done := State.flowDone_ok (f := f) changed room (fun t => t.complete f 0 .ok)
  simp only [clear, Bool.not_true, Bool.false_eq_true, if_false, State.flowOf, done]

theorem exec_ftDelete_live (h : Claims.holds s f 0 0x0203 e) (key : e.flowKey = (sp, lo, hi)) (space : e.arg 36 < 64)
    (hl : l = s.tab.flows.erase y) :
    exec (.ftDelete f) s = .next (((s.setFlows l).complete f 0 .ok).answered false (s.flowLines sp lo hi)) := by
  rw [exec, execFtDelete, State.ftCommand_of_holds h key awake sound, key, State.ownFlow_ok found live own,
    if_neg (Nat.not_le.2 space)]
  subst hl
  dsimp only
  rw [State.flowDone_ok changed room]

theorem exec_ftRead_live (h : Claims.holds s f 0 0x0204 e) (key : e.flowKey = (sp, lo, hi)) (space : e.arg 36 < 64)
    (hl : l = s.tab.flows.map (fun z => if z = y then { y with hits := 0 } else z)) :
    exec (.ftRead f) s = .next (((s.setFlows l).completeOut f 0 y.bytes true).answered false (s.flowLines sp lo hi)) := by
  rw [exec, execFtRead, State.ftCommand_of_holds h key awake sound, key, State.ownFlow_ok found live own,
    if_neg (Nat.not_le.2 space)]
  subst hl
  dsimp only
  rw [State.flowDone_ok changed room]

end Sys2Proof.Machine
end

section
/-! O43: card images, lookaside jobs, injected frames and receive buffers (R114, R180, R181, R382, R383). -/

namespace Sys2Proof.Machine

variable {s : State} {f : Nat} {e : Fetched}

/-! ### Card images (R114) -/

/-- R114: an image of a possible length is read, and its slot waits for the check. -/
theorem exec_cardStage_reads (h : Claims.holds s f 1 0x0401 e) (idle : s.shu.staging = none) (free : s.shu.next = none)
    (long : 64 ≤ e.buf.length) (short : e.buf.length ≤ 65696) :
    exec (.cardStage f) s = .next { s.setRing f 1 { s.ring f 1 with fetched := (s.ring f 1).fetched.map (fun x =>
        if x.idx = e.idx ∧ x.old = e.old then { x with posted := true } else x) } with
      shu := { s.shu with staging := some e.buf, stagingFn := f } } := by
  have possible : ¬ (e.buf.length < 64 ∨ 65696 < e.buf.length) := by omega
  rw [exec, execCardStage, State.command_of_holds h]
  dsimp only
  rw [if_neg (by simp [idle]), if_neg (by simp [free]), if_neg possible]
  rfl

/-- R114: the state that a check of code c leaves, before its command completes. -/
def State.afterCheck (s : State) (img : Bytes) (c : Nat) : State :=
  if c = 1 then State.writeStage { s with shu := { s.shu with
      staging := none, check := 1, next := some (cardOf img), nextLost := false } } img
  else { s with shu := { s.shu with staging := none, check := BitVec.ofNat 4 c, next := none, nextLost := false } }

theorem State.afterCheck_stagingFn (s : State) (img : Bytes) (c : Nat) :
    (s.afterCheck img c).shu.stagingFn = s.shu.stagingFn := by
  unfold State.afterCheck
  split
  · rw [(State.writeStage_stored _ img).shu]
  · rfl

theorem State.afterCheck_ring (s : State) (img : Bytes) (c f r : Nat) : (s.afterCheck img c).ring f r = s.ring f r := by
  unfold State.afterCheck
  split
  · exact (State.writeStage_stored _ img).ring f r
  · rfl

/-- R114: the command of a check completes with its code, while its slot still waits. -/
theorem State.stageEnd_eq (s : State) (img : Bytes) (c : Nat) : s.stageEnd img c =
    if (s.ring s.shu.stagingFn 1).front.any (fun e => e.posted) then
      (s.afterCheck img c).complete s.shu.stagingFn 1 (checkStatus c) c
    else s.afterCheck img c := by
  have ends : s.stageEnd img c =
      if ((s.afterCheck img c).ring (s.afterCheck img c).shu.stagingFn 1).front.any (fun e => e.posted) then
        (s.afterCheck img c).complete (s.afterCheck img c).shu.stagingFn 1 (checkStatus c) c
      else s.afterCheck img c := by
    unfold State.stageEnd State.afterCheck
    by_cases pass : c = 1
    · subst pass
      rfl
    · simp only [if_neg pass]
  rw [ends, s.afterCheck_stagingFn, s.afterCheck_ring]

/-- R114, R311, R378: a check ends once its ring, its lines and their clocks allow. -/
theorem exec_cardStageDone_ends {img : Bytes} (staged : s.shu.staging = some img)
    (written : (s.ring s.shu.stagingFn 1).rewrite = none) (awake : s.writeWaits (s.stageLines true img.length) = false)
    (room : s.tableRoom (s.stageLines true img.length) = true) :
    exec .cardStageDone s = .next (s.stageEnd img (s.stageCheck img)) := by
  rw [exec, execCardStageDone, written, staged]
  simp [awake, room]

/-! ### Lookaside jobs (R180, R181, R387) -/

/-- R179, R407: the named slot holds a key of the function. -/
theorem State.lksCheck_none {n : Nat} (keys : s.kcu.st ≠ 4) (held : (s.lks n).key ≠ []) (own : (s.lks n).owner = f) :
    s.lksCheck f n = none := by
  have usable : ¬ (s.kcu.st = 4 ∨ (s.lks n).key = []) := not_or.2 ⟨keys, held⟩
  rw [State.lksCheck, if_neg usable, if_neg (not_not.2 own)]

/-- R180: the ranges of an XTS job. -/
theorem State.xtsOk_iff : s.xtsOk e = true ↔ 16 ≤ leAt e.desc 29 3 ∧ leAt e.desc 29 3 ≤ 1048576
    ∧ (s.lks (e.arg 28)).key.take 32 ≠ (s.lks (e.arg 28)).key.drop 32
    ∧ leAt e.desc 32 16 + e.buf.length / leAt e.desc 29 3 ≤ 2 ^ 128 := by
  simp only [State.xtsOk, Bool.and_eq_true, decide_eq_true_eq, bne_iff_ne, and_assoc]

/-- R181: the ranges of a GCM job. -/
theorem gcmOk_iff (tag : Nat) : gcmOk tag e = true ↔ leAt e.desc 30 2 + tag ≤ e.buf.length ∧ tag < e.buf.length
    ∧ e.buf.length - leAt e.desc 30 2 - tag < 2 ^ 24 := by
  simp only [gcmOk, Bool.and_eq_true, decide_eq_true_eq, Nat.succ_le_iff, and_assoc]

/-- R373, R376, R387: a lookaside command that nothing refuses submits its job. -/
theorem State.lookaside_submits {op : Nat} {kind : JobKind} {rangeOk : Fetched → Bool} (next : s.nextLookaside f = some e)
    (opcode : descOp e.desc = op) (gate : s.gate f op = none) (check : s.lksCheck f (e.arg 28) = none)
    (ranges : rangeOk e = true) : s.lookaside f op kind rangeOk = s.submitLookaside f e kind := by
  simp [State.lookaside, next, Fetched.isOp, opcode, gate, check, ranges]

/-- R179 to R181: each lookaside command is one of an operation and a kind of job. -/
theorem exec_lookaside {op : Nat} {k : JobKind} {c : Instr} (next : s.nextLookaside f = some e) (opcode : descOp e.desc = op)
    (gate : s.gate f op = none) (check : s.lksCheck f (e.arg 28) = none) (xts : k = .xts → s.xtsOk e = true)
    (gcm : k = .gcm → gcmOk (if op = 0x0604 then 16 else 0) e = true ∧ (op = 0x0604 → e.arg 29 = 0))
    (hc : (op = 0x0601 ∧ k = .xts ∧ c = .xtsEncrypt f) ∨ (op = 0x0602 ∧ k = .xts ∧ c = .xtsDecrypt f)
      ∨ (op = 0x0603 ∧ k = .gcm ∧ c = .gcmEncrypt f) ∨ (op = 0x0604 ∧ k = .gcm ∧ c = .gcmDecrypt f)) :
    exec c s = .next (s.submitLookaside f e k) := by
  rcases hc with ⟨rfl, rfl, rfl⟩ | ⟨rfl, rfl, rfl⟩ | ⟨rfl, rfl, rfl⟩ | ⟨rfl, rfl, rfl⟩
  · exact congrArg _ (State.lookaside_submits next opcode gate check (xts rfl))
  · exact congrArg _ (State.lookaside_submits next opcode gate check (xts rfl))
  · exact congrArg _ (State.lookaside_submits next opcode gate check (gcm rfl).1)
  · obtain ⟨ranges, noIv⟩ := gcm rfl
    exact congrArg _ (State.lookaside_submits next opcode gate check (by simpa [noIv] using ranges))

/-! ### Frames from the host (R382) -/

/-- R382: the pick that an INJECT slot of function f describes. -/
def Fetched.injected (e : Fetched) (f : Nat) : Pick :=
  { src := 4, odom := 64, port := 64, cls := BitVec.ofNat 3 (e.arg 21), frame := e.buf, vec := e.arg 20
    u0 := BitVec.ofNat 64 (leAt e.desc 24 8), u1 := BitVec.ofNat 64 (leAt e.desc 32 8)
    u2 := BitVec.ofNat 64 (leAt e.desc 40 8 / 256 * 256 + f) }

/-- R280, R382: a frame below class 7 that the function may inject, and the beam store has room for, becomes a pick. -/
theorem exec_inject_admitted (h : Claims.holds s f 4 0x0701 e) (may : (s.reg .hifFnCfg f).getLsbD 0 = true)
    (long : 60 ≤ e.buf.length) (short : e.buf.length ≤ 16128) (vector : e.arg 20 = 4 ∨ (6 ≤ e.arg 20 ∧ e.arg 20 < 16))
    (flowing : s.held = false) (data : BitVec.ofNat 3 (e.arg 21) ≠ 7)
    (fits : s.fits (cellsFor e.buf.length) (s.field .schAdmSlots 0 0 17) (s.field .schAdmCells 0 0 19) = true) :
    exec (.inject f) s = .next ((s.createPick (e.injected f)).complete f 4 .ok) := by
  have ranges : ¬ (e.buf.length < 60 ∨ 16128 < e.buf.length ∨ 16 ≤ e.arg 20 ∨ (e.arg 20 ≠ 4 ∧ e.arg 20 < 6)) := by omega
  have admitted : s.admission (BitVec.ofNat 3 (e.arg 21)) e.buf.length = some s := by
    simp only [State.admission, if_pos data, if_pos fits]
  rw [exec, execInject, State.command_of_holds h]
  simp only [may, flowing, if_neg ranges, admitted, Bool.true_eq_false, Bool.false_eq_true, if_false]
  rfl

/-! ### Receive buffers (R383) -/

/-- R31: no record waits for a slot of the function's PUNT ring. -/
theorem State.servePunt_of_none (unawaited : s.beam.puntWait.any (fun x => x.dom == f) = false) : s.servePunt f = s := by
  have absent : s.beam.puntWait.find? (fun x => x.dom == f) = none := by
    simpa [List.find?_eq_none] using unawaited
  unfold State.servePunt
  cases s.beam.puntWait.length with
  | zero => rfl
  | succ n => rw [State.drainPunt, absent]

/-- R383: a slot that no record waits for stays as a receive buffer. -/
theorem exec_puntBuf_posts (there : s.fnExists f = true) (running : (s.ring f 3).stopped = false)
    (next : (s.ring f 3).fetched.find? (fun x => !x.posted) = some e) (gate : s.gate f 0x0702 = none)
    (unawaited : s.beam.puntWait.any (fun x => x.dom == f) = false) :
    exec (.puntBuf f) s = .next (s.setRing f 3 { s.ring f 3 with fetched := (s.ring f 3).fetched.map (fun x =>
      if x.idx = e.idx then { x with posted := true } else x) }) := by
  rw [exec, execPuntBuf]
  dsimp only
  rw [if_neg (by simp [there, running]), next, gate]
  exact congrArg _ (State.servePunt_of_none unawaited)

/-! ### The obligation -/

/-- Settles O43: each command by the equation of its success; the flow inserted is found again because residents only move
(`State.placeFlow_find`), and a card's check sees its slot because the writes of its lines leave the rings
(`State.writeStage_stored`). -/
theorem flowAndCardCommands : Obligations.FlowAndCardCommands := by
  intro s f e
  refine ⟨fun sp lo hi awake sound => ⟨fun key clear => ⟨?insert, ?replace⟩, ?named⟩, ?stage, ?staged, ?job, ?inject, ?buffer⟩
  case insert =>
    rintro l u h new quota placed changed room rfl
    refine ⟨exec_ftInsert_new awake sound h key clear new quota placed changed room, ?_⟩
    obtain ⟨rfl, rfl, rfl⟩ := by simpa only [Fetched.blockKey, Prod.mk.injEq] using key
    have named : (s.flowOf f e.buf).hasKey (s.flowOf f e.buf).space (s.flowOf f e.buf).lo (s.flowOf f e.buf).hi = true := by
      simp [Flow.hasKey]
    obtain ⟨y, found, same⟩ := State.placeFlow_find placed named new
    exact ⟨y, found, congrArg Flow.result same, congrArg Flow.hits same, congrArg Flow.poisoned same,
      congrArg Flow.domain same⟩
  case replace =>
    intro y l h found live own hl changed room
    exact exec_ftReplace_live awake sound found live own changed room h key clear hl
  case named =>
    intro y l key space found live own changed room
    exact ⟨fun h hl => exec_ftDelete_live awake sound found live own changed room h key space hl,
      fun h hl => exec_ftRead_live awake sound found live own changed room h key space hl⟩
  case stage =>
    intro h idle free long short
    exact ⟨_, exec_cardStage_reads h idle free long short, rfl, rfl⟩
  case staged =>
    rintro img c u staged written awake room rfl hu
    have ends := exec_cardStageDone_ends staged written awake room
    rw [State.stageEnd_eq, show s.afterCheck img (s.stageCheck img) = u from hu.symm] at ends
    exact ⟨fun posted => ends.trans (by rw [if_pos posted]), fun gone => ends.trans (by rw [gone]; rfl)⟩
  case job =>
    intro op k next opcode gate keys held own xts gcm c hc
    have submitted := exec_lookaside next opcode gate (State.lksCheck_none keys held own) (fun hk => State.xtsOk_iff.2 (xts hk))
      (fun hk => by
        obtain ⟨lengths, text, noIv, small⟩ := gcm hk
        exact ⟨(gcmOk_iff _).2 ⟨lengths, text, small⟩, noIv⟩) hc
    exact ⟨_, _, submitted, rfl, rfl, rfl, rfl, rfl, rfl, rfl, rfl, rfl, rfl⟩
  case inject =>
    rintro cls p h may long short vector flowing rfl data fits hp
    obtain ⟨made, others, rest⟩ := s.createPick_begun (e.injected f) hp
    refine ⟨_, _, _, exec_inject_admitted h may long short vector flowing data fits, rfl, rest, made,
      rfl, rfl, rfl, rfl, rfl, rfl, rfl, rfl, ?_, ?_, rfl, others⟩
    · exact Nat.mod_eq_of_lt (leAt_lt e.desc 24 8)
    · exact Nat.mod_eq_of_lt (leAt_lt e.desc 32 8)
  case buffer =>
    rintro g rfl there running next gate unawaited
    exact exec_puntBuf_posts there running next gate unawaited

end Sys2Proof.Machine
end

section
/-! SUPPORT. Commands on an association (R137, R522): their checks pass, and their result is written, for O41 and O42. -/

namespace Sys2Proof.Machine

variable {s : State} {f i op : Nat} {e : Fetched}

/-- R371 to R376: the command that a ring's unit holds runs in the unit that knows it. -/
theorem State.command_of_wanted {r : Nat} {want : Fetched → Bool} (h : Claims.holds s f r op e) (wanted : want e = true)
    (run : Fetched → State) : s.command f r want run = run e := by
  obtain ⟨handed, opcode, gate⟩ := h
  simp [State.command, handed, opcode, gate, wanted]

theorem Claims.isOp_of_holds {r : Nat} (h : Claims.holds s f r op e) : e.isOp op = true := by
  obtain ⟨-, opcode, -⟩ := h
  simp [Fetched.isOp, opcode]

/-- R134, R309, R522: checks 1 and 2 of a command on an association it may reach. -/
theorem State.atCheck_reached (reach : Claims.reached s f i) : s.atCheck f i = .ok s := by
  obtain ⟨inside, may, -, sound⟩ := reach
  simp [State.atCheck, Nat.not_le.2 inside, may, sound]

/-- R303: the room for table lines depends on the memory's clocks alone, not on what the tables hold. -/
theorem State.tableRoom_tables (s : State) (tb : Tables) (c : Cie) (h : Hif) (rs : List Retried) (lf : Tbl (Option (Bool × Nat)))
    (ls : List Nat) : State.tableRoom
      { s with tab := tb, cie := c, hif := h, msc := { s.msc with retried := rs, lastFail := lf } } ls = s.tableRoom ls := rfl

/-- R154, R303, R313: a result for which the clocks have room is written with the lines of the entry. -/
theorem State.answerAt_ok {t : State} (room : t.tableRoom (assocLines i) = true) :
    s.answerAt f i (.ok t) = (t.writeAssoc i).complete f 0 .ok := if_pos room

/-- R137, R522: a command on a live association runs on its entry, and what it answers is written. -/
theorem State.atCommand_reached {want : Fetched → Bool} {index : Fetched → Nat} {onPoisoned : Bool}
    {run : Fetched → Nat → AtEntry → Except HStat State} {t : State} (h : Claims.holds s f 0 op e) (wanted : want e = true)
    (named : index e = i) (reach : Claims.reached s f i) (live : (s.assoc i).st = .active ∨ (s.assoc i).st = .suspended)
    (ran : run e i (s.assoc i) = .ok t) (room : t.tableRoom (assocLines i) = true) :
    s.atCommand f want index onPoisoned run = (t.writeAssoc i).complete f 0 .ok := by
  have awake : s.atWaits i = false := reach.2.2.1
  have takes : ¬ ((s.assoc i).st = .empty ∨ (s.assoc i).st = .poisoned ∧ onPoisoned = false) := by
    rcases live with st | st <;> simp [st]
  rw [State.atCommand, State.command_of_wanted h wanted]
  simp only [named, awake, State.atCheck_reached reach, Bool.false_and, Bool.false_eq_true, if_false, if_neg takes, ran,
    State.answerAt_ok room]

/-! ### Slots of an entry (R129) -/

theorem AtEntry.slot_setSlot_other (x : AtEntry) (b : Bool) (y : Slot) : (x.setSlot b y).slot (!b) = x.slot (!b) := by
  cases b <;> rfl

theorem AtEntry.setSlot_st (x : AtEntry) (b : Bool) (y : Slot) : (x.setSlot b y).st = x.st := by cases b <;> rfl

theorem AtEntry.setSlot_txslot (x : AtEntry) (b : Bool) (y : Slot) : (x.setSlot b y).txslot = x.txslot := by cases b <;> rfl

/-- R140: an entry with a VALID slot, or one that is not EMPTY, keeps its fields. -/
theorem AtEntry.cleared_of_valid {x : AtEntry} {b : Bool} (h : (x.slot b).valid = true) : x.cleared = x := by
  refine if_neg fun ⟨_, a, b'⟩ => ?_
  cases b
  · exact absurd (h.symm.trans a) (by decide)
  · exact absurd (h.symm.trans b') (by decide)

theorem AtEntry.cleared_slot_valid (x : AtEntry) (b : Bool) (h : (x.slot b).valid = false) :
    ((x.cleared).slot b).valid = false := by
  unfold AtEntry.cleared
  split
  · cases b <;> rfl
  · exact h

theorem AtEntry.cleared_slot_key (x : AtEntry) (b : Bool) (h : (x.slot b).key = []) : ((x.cleared).slot b).key = [] := by
  unfold AtEntry.cleared
  split
  · cases b <;> rfl
  · exact h

/-! ### Key pages (R401) -/

theorem State.takeKey_ok {n : Nat} (page : Claims.keyAt s f n) : s.takeKey f n = .ok (s.page f).key := by
  obtain ⟨-, keys, full, len⟩ := page
  unfold State.takeKey
  dsimp only
  rw [if_neg (not_or.2 ⟨keys, not_not.2 full⟩), if_neg (not_not.2 len)]

theorem State.pageBusy_of_keyAt {n : Nat} (page : Claims.keyAt s f n) : s.pageBusy f = false := by
  obtain ⟨idle, -, -, -⟩ := page
  simp [State.pageBusy, idle]

/-! ### Key contexts (R167) -/

/-- R166, R167: what is left in a key context store after contexts have been invalidated. -/
theorem keep_of_mem_kept {keep : CtxKey → Bool} {k : CtxKey} {n : Nat} (l : Tbl Pair)
    (h : k ∈ (tget ({} : Pair) (l.filterMap (fun e =>
      let p : Pair := { e.2 with ctx := e.2.ctx.filter keep }
      if p = {} then none else some (e.1, p))) n).ctx) : keep k = true := by
  induction l with
  | nil => cases h
  | cons x l ih =>
    rw [List.filterMap_cons] at h
    split at h
    · exact ih h
    · next y hy =>
      dsimp only at hy
      split at hy
      · cases hy
      · cases hy
        rw [tget] at h
        split at h
        · exact (List.mem_filter.1 h).2
        · exact ih h

/-- R167: no store keeps a context of a slot whose contexts are invalidated. -/
theorem State.dropCtx_ctx (s : State) {idx : BitVec 24} (named : idx.toNat = i) (b : Bool) (p load : Nat) :
    CtxKey.assoc idx b load ∉ ((s.dropCtx i b).pair p).ctx := fun h => by
  have := keep_of_mem_kept s.cie.pairs h
  simp [named] at this

/-! ### What a write of an entry's lines leaves (R303, R313) -/

theorem State.writeTable_stored (s : State) (lines : List Nat) : s.Stored (s.writeTable lines) := by
  unfold State.writeTable
  split
  · exact .refl s
  · dsimp only
    split
    · exact (s.useLines_stored ..).trans (State.clockEnd_stored _)
    · exact (s.useLines_stored ..).trans (State.stored_foldl (fun t _ => t.storeLine_stored ..) _ _)

theorem State.writeAssoc_stored (s : State) (i : Nat) : s.Stored (s.writeAssoc i) := s.writeTable_stored _

theorem State.Stored.tab {t : State} : s.Stored t → t.tab = s.tab := by
  rintro ⟨_, _, _, _, rfl⟩
  rfl

end Sys2Proof.Machine
end

section
/-! O41: associations are made, changed and ended, and slots drain (R133, R137, R140, R149). -/

namespace Sys2Proof.Machine

variable {s : State} {f i : Nat} {e : Fetched}

/-! ### AT_INSTALL (R137, R380) -/

/-- R137: the entry that AT_INSTALL makes of the values n over the entry x. -/
def AtEntry.installed (n x : AtEntry) (b key : Bytes) : AtEntry :=
  { n with st := if (b.getD 4 0).toNat = 1 then .active else .suspended
           a := n.exhaust (fillSlot x.a key (slice b 24 12) (slice b 36 4) n.a.kn (leAt b 40 8))
           b := { n.b with loads := x.b.loads } }

/-- R137: the values that AT_INSTALL takes from its block, in the domain of the function. -/
def AtEntry.given (f : Nat) (b : Bytes) : AtEntry :=
  { AtEntry.ofCommon (slice b 8 16) with
    domain := if f = 0 then (AtEntry.ofCommon (slice b 8 16)).domain else BitVec.ofNat 6 f }

theorem AtEntry.given_eq (f : Nat) (b : Bytes) : (if f = 0 then AtEntry.ofCommon (slice b 8 16)
    else { AtEntry.ofCommon (slice b 8 16) with domain := BitVec.ofNat 6 f }) = AtEntry.given f b := by
  unfold AtEntry.given
  split <;> rfl

/-- R137, R379, R522: a block that AT_INSTALL completes RANGE, for the values n. -/
def State.installMalformed (s : State) (n : AtEntry) (b : Bytes) : Bool :=
  !(zeros b 3 1 && zeros b 5 3 && zeros b 48 16) || leAt b 8 4 % 16 != 0 || leAt b 8 4 / 2 ^ 28 % 4 != 0
    || !commonClear (slice b 8 16) || !((b.getD 4 0).toNat == 1 || (b.getD 4 0).toNat == 2) || !s.valuesOk n
    || !n.pnOk (leAt b 40 8)

theorem State.installMalformed_false {n : AtEntry} {b : Bytes} (z3 : zeros b 3 1 = true) (z5 : zeros b 5 3 = true)
    (z48 : zeros b 48 16 = true) (state : b.getD 4 0 = 1 ∨ b.getD 4 0 = 2) (low : leAt b 8 4 % 16 = 0)
    (valid : leAt b 8 4 / 2 ^ 28 % 4 = 0) (clear : commonClear (slice b 8 16) = true) (values : s.valuesOk n = true)
    (pn : n.pnOk (leAt b 40 8) = true) : s.installMalformed n b = false := by
  have asked : ((b.getD 4 0).toNat == 1 || (b.getD 4 0).toNat == 2) = true := by
    rcases state with st | st <;> rw [st] <;> rfl
  rw [State.installMalformed, z3, z5, z48, low, valid, clear, asked, values, pn]
  rfl

/-- R137, R401: a well-formed block fills an EMPTY or POISONED entry and empties the key page. -/
theorem exec_atInstall_fills {b : Bytes} (hb : b = e.buf) (h : Claims.holds s f 0 0x0101 e) (reach : Claims.reached s f i)
    (room : s.tableRoom (assocLines i) = true) (named : leAt b 0 3 = i)
    (free : (s.assoc i).st = .empty ∨ (s.assoc i).st = .poisoned) (a : (s.assoc i).a.drain = false)
    (b' : (s.assoc i).b.drain = false) (tx : (AtEntry.given f b).txslot = false)
    (formed : s.installMalformed (AtEntry.given f b) b = false) (page : Claims.keyAt s f (AtEntry.given f b).keyLen) :
    exec (.atInstall f) s = .next ((((((s.answered false (assocLines i)).setAssoc i
      ((AtEntry.given f b).installed (s.assoc i) b (s.page f).key)).dropCtx i false).emptyPage f).writeAssoc i).complete
      f 0 .ok) := by
  subst hb
  obtain ⟨rs, lf, ans⟩ := s.answered_msc false (assocLines i)
  have awake : s.atWaits i = false := reach.2.2.1
  have slotA : ¬ (AtEntry.given f e.buf).txslot = true := by simp [tx]
  have takes : ¬ ((s.assoc i).st ≠ .empty ∧ (s.assoc i).st ≠ .poisoned) := fun ⟨x, y⟩ => free.elim x y
  rw [State.installMalformed] at formed
  have key : s.takeKey f (AtEntry.given f e.buf).pageLen = .ok (s.page f).key := State.takeKey_ok page
  have answer : ∀ t : State, t = s.answered false (assocLines i) → t.assoc i = s.assoc i ∧ t.valuesOk = s.valuesOk
      ∧ t.takeKey f = s.takeKey f := by
    rintro t rfl
    rw [ans]
    exact ⟨rfl, rfl, rfl⟩
  obtain ⟨sameEntry, sameValues, sameKey⟩ := answer _ rfl
  rw [exec, execAtInstall, State.command_of_holds h]
  simp only [named, awake, State.atCheck_reached reach, State.pageBusy_of_keyAt page, AtEntry.given_eq, sameEntry, sameValues,
    sameKey, Bool.false_and, Bool.false_eq_true, if_false, if_neg takes, a, b', or_self, if_neg slotA, formed, key]
  refine congrArg Host.Outcome.next (State.answerAt_ok ?_)
  have frame : ∃ tb c h, (((s.answered false (assocLines i)).setAssoc i
      ((AtEntry.given f e.buf).installed (s.assoc i) e.buf (s.page f).key)).dropCtx i false).emptyPage f
      = { s with tab := tb, cie := c, hif := h, msc := { s.msc with retried := rs, lastFail := lf } } := by
    rw [ans]
    exact ⟨_, _, _, rfl⟩
  obtain ⟨tb, c, hi, frame⟩ := frame
  exact (congrArg (State.tableRoom · (assocLines i)) frame).trans ((s.tableRoom_tables ..).trans room)

theorem State.startDrain_parts (s : State) (i : Nat) (b : Bool) : s.startDrain i b
    = { s with tab := { s.tab with assocs := (s.startDrain i b).tab.assocs, drains := (s.startDrain i b).tab.drains } } := rfl

/-! ### AT_SLOT_LOAD, AT_TXSLOT and AT_STATE on a live entry (R133, R137) -/

section
variable (reach : Claims.reached s f i) (live : (s.assoc i).st = .active ∨ (s.assoc i).st = .suspended)
  (room : s.tableRoom (assocLines i) = true)
include reach live room

/-- R137: the key number is not that of the other slot, where that one is VALID. -/
theorem exec_atSlotLoad_fills {B : Bool} {b : Bytes} (hb : b = e.buf) (h : Claims.holds s f 0 0x0102 e) (named : leAt b 0 3 = i)
    (hB : B = (b.getD 4 0 == 1)) (slot : (b.getD 4 0).toNat < 2) (kn : (b.getD 5 0).toNat < 4) (z3 : zeros b 3 1 = true)
    (z6 : zeros b 6 2 = true) (idle : ((s.assoc i).slot B).drain = false) (free : ((s.assoc i).slot B).valid = false)
    (other : ((s.assoc i).slot (!B)).valid = false ∨ ((s.assoc i).slot (!B)).kn.toNat ≠ (b.getD 5 0).toNat)
    (pn : (s.assoc i).pnOk (leAt b 24 8) = true) (page : Claims.keyAt s f (s.assoc i).keyLen) :
    exec (.atSlotLoad f) s = .next ((((((s.setAssoc i ((s.assoc i).setSlot B ((s.assoc i).exhaust
      (fillSlot ((s.assoc i).slot B) (s.page f).key (slice b 8 12) (slice b 20 4) (BitVec.ofNat 2 (b.getD 5 0).toNat)
        (leAt b 24 8))))).dropCtx i B).emptyPage f).writeAssoc i)).complete f 0 .ok) := by
  subst hb
  have slotB : ((e.buf.getD 4 0).toNat == 1) = B := by
    rw [hB, Bool.eq_iff_iff, beq_iff_eq, beq_iff_eq]
    exact ⟨fun x => BitVec.eq_of_toNat_eq x, congrArg BitVec.toNat⟩
  have key : s.takeKey f (s.assoc i).pageLen = .ok (s.page f).key := State.takeKey_ok page
  have distinct : ¬ (((s.assoc i).slot (!B)).valid = true
      ∧ ((s.assoc i).slot (!B)).kn.toNat = (e.buf.getD 5 0).toNat % 4 ∧ (e.buf.getD 5 0).toNat < 4) := by
    rintro ⟨v, same, -⟩
    rw [Nat.mod_eq_of_lt kn] at same
    exact other.elim (fun x => absurd (x.symm.trans v) (by decide)) (fun x => x same)
  have formed : ¬ (4 ≤ (e.buf.getD 5 0).toNat ∨ zeros e.buf 3 1 = false ∨ zeros e.buf 6 2 = false
      ∨ (s.assoc i).pnOk (leAt e.buf 24 8) = false) := by
    rintro (h | h | h | h)
    · exact absurd kn (Nat.not_lt.2 h)
    · exact absurd (z3.symm.trans h) (by decide)
    · exact absurd (z6.symm.trans h) (by decide)
    · exact absurd (pn.symm.trans h) (by decide)
  rw [exec, execAtSlotLoad, State.pageBusy_of_keyAt page, if_neg (by decide)]
  refine congrArg Host.Outcome.next (State.atCommand_reached h (Claims.isOp_of_holds h :) named reach live ?_ room)
  simp only [slotB, Nat.not_le.2 slot, idle, free, distinct, formed, key, if_false, Bool.false_eq_true]

variable (named : e.index = i)
include named

theorem exec_atTxslot_moves {B : Bool} (h : Claims.holds s f 0 0x0103 e) (hB : B = (e.arg 24 == 1)) (slot : e.arg 24 < 2)
    (valid : ((s.assoc i).slot B).valid = true) :
    exec (.atTxslot f) s = .next (((s.setAssoc i { s.assoc i with txslot := B }).writeAssoc i).complete f 0 .ok) := by
  subst hB
  rw [exec, execAtTxslot]
  refine congrArg Host.Outcome.next (State.atCommand_reached h (Claims.isOp_of_holds h :) named reach live ?_ room)
  simp [slot, valid]

theorem exec_atSlotRetire_drains {B : Bool} (h : Claims.holds s f 0 0x0104 e) (hB : B = (e.arg 24 == 1)) (slot : e.arg 24 < 2)
    (valid : ((s.assoc i).slot B).valid = true) (idle : ((s.assoc i).slot B).drain = false) (spare : (s.assoc i).txslot ≠ B) :
    exec (.atSlotRetire f) s = .next (((s.startDrain i B).writeAssoc i).complete f 0 .ok) := by
  subst hB
  rw [exec, execAtSlotRetire]
  refine congrArg Host.Outcome.next (State.atCommand_reached h (Claims.isOp_of_holds h :) named reach live ?_ ?_)
  · simp [slot, valid, idle, spare]
  · rw [State.startDrain_parts]
    exact (s.tableRoom_tables ..).trans room

theorem exec_atStateSuspend_suspends (h : Claims.holds s f 0 0x0105 e) (action : e.arg 24 = 1) (active : (s.assoc i).st = .active) :
    exec (.atStateSuspend f) s = .next (((s.setAssoc i { s.assoc i with st := .suspended }).writeAssoc i).complete f 0 .ok) := by
  rw [exec, execAtStateSuspend]
  refine congrArg Host.Outcome.next (State.atCommand_reached h ?_ named reach live ?_ room)
  · simp [Claims.isOp_of_holds h, action]
  · simp [action, active]

theorem exec_atStateResume_resumes (h : Claims.holds s f 0 0x0105 e) (action : e.arg 24 = 2)
    (suspended : (s.assoc i).st = .suspended) :
    exec (.atStateResume f) s = .next (((s.setAssoc i { s.assoc i with st := .active }).writeAssoc i).complete f 0 .ok) := by
  rw [exec, execAtStateResume]
  refine congrArg Host.Outcome.next (State.atCommand_reached h ?_ named reach live ?_ room)
  · simp [Claims.isOp_of_holds h, action]
  · simp [suspended]

end

/-! ### Drains begun (R140) -/

theorem State.startDrain_assoc (s : State) (i : Nat) (b : Bool) :
    (s.startDrain i b).assoc i = (s.assoc i).setSlot b { (s.assoc i).slot b with drain := true } :=
  s.assoc_setAssoc i _

theorem State.startDrain_assoc_other (s : State) {i j : Nat} (b : Bool) (h : j ≠ i) : (s.startDrain i b).assoc j = s.assoc j :=
  s.assoc_setAssoc_other _ h

theorem State.startDrain_drains (s : State) (i : Nat) (b : Bool) :
    tget 0 (s.startDrain i b).tab.drains (slotNo i b) = s.tb.elapsed + 1000 * s.field .atDrain 0 0 16 + 1 := by
  unfold State.startDrain
  dsimp only
  rw [tget_tset_same]
  rfl

/-- R140: a slot that was VALID and not draining in x starts its drain. -/
def State.drainLive (s : State) (i : Nat) (x : AtEntry) (b : Bool) : State :=
  if (x.slot b).valid && !(x.slot b).drain then s.startDrain i b else s

/-- R133, R140: the entry x removed. -/
def State.removeAssoc (s : State) (i : Nat) (x : AtEntry) : State :=
  ((s.setAssoc i ({ x with st := .empty }).cleared).drainLive i x false).drainLive i x true

/-- R140: what a drain begun, or not, leaves. -/
theorem State.drainLive_frame (s : State) (i : Nat) (x : AtEntry) (b : Bool) : ∃ as ds,
    s.drainLive i x b = { s with tab := { s.tab with assocs := as, drains := ds } } := by
  unfold State.drainLive
  split
  · exact ⟨_, _, rfl⟩
  · exact ⟨_, _, rfl⟩

theorem State.drainLive_assoc_other (s : State) {i j : Nat} (x : AtEntry) (b : Bool) (h : j ≠ i) :
    (s.drainLive i x b).assoc j = s.assoc j := by
  unfold State.drainLive
  split
  · exact s.startDrain_assoc_other b h
  · rfl

theorem State.drainLive_st (s : State) (i : Nat) (x : AtEntry) (b : Bool) :
    ((s.drainLive i x b).assoc i).st = (s.assoc i).st := by
  unfold State.drainLive
  split
  · rw [State.startDrain_assoc, AtEntry.setSlot_st]
  · rfl

theorem State.drainLive_slot_other (s : State) (i : Nat) (x : AtEntry) (b : Bool) :
    ((s.drainLive i x b).assoc i).slot (!b) = (s.assoc i).slot (!b) := by
  unfold State.drainLive
  split
  · rw [State.startDrain_assoc, AtEntry.slot_setSlot_other]
  · rfl

/-- R140: a VALID slot drains, whether its drain began before or begins now. -/
theorem State.drainLive_slot (s : State) (i : Nat) {x : AtEntry} {b : Bool} (valid : (x.slot b).valid = true)
    (same : (s.assoc i).slot b = x.slot b) : ((s.drainLive i x b).assoc i).slot b = { x.slot b with drain := true } := by
  unfold State.drainLive
  split
  · rw [State.startDrain_assoc, AtEntry.slot_setSlot, same]
  · next drains =>
    rw [valid, Bool.true_and, Bool.not_eq_true, Bool.not_eq_false'] at drains
    rw [same, ← drains]

/-- R133, R140: REMOVE leaves an EMPTY entry whose VALID slots drain, and touches no other entry. -/
theorem State.removeAssoc_removed (s : State) (i : Nat) (x : AtEntry) :
    ((s.removeAssoc i x).assoc i).st = .empty
    ∧ (∀ b, (x.slot b).valid = true → ((s.removeAssoc i x).assoc i).slot b = { x.slot b with drain := true })
    ∧ (∀ j, j ≠ i → (s.removeAssoc i x).assoc j = s.assoc j) := by
  have st : ({ x with st := .empty } : AtEntry).cleared.st = .empty := by
    unfold AtEntry.cleared
    split <;> rfl
  have kept : ∀ b, (x.slot b).valid = true → ({ x with st := .empty } : AtEntry).cleared.slot b = x.slot b := fun b valid => by
    rw [AtEntry.cleared_of_valid (x := { x with st := .empty }) (b := b) (by cases b <;> exact valid)]
    cases b <;> rfl
  refine ⟨?_, fun b valid => ?_, fun j other => ?_⟩
  · rw [State.removeAssoc, State.drainLive_st, State.drainLive_st, State.assoc_setAssoc, st]
  · have start : ((s.setAssoc i ({ x with st := .empty } : AtEntry).cleared).assoc i).slot b = x.slot b := by
      rw [State.assoc_setAssoc, kept b valid]
    cases b with
    | false =>
      exact (State.drainLive_slot_other _ i x true).trans (State.drainLive_slot _ i valid start)
    | true =>
      exact State.drainLive_slot _ i valid ((State.drainLive_slot_other _ i x false).trans start)
  · rw [State.removeAssoc, State.drainLive_assoc_other _ _ _ other, State.drainLive_assoc_other _ _ _ other,
      State.assoc_setAssoc_other _ _ other]

theorem State.removeAssoc_frame (s : State) (i : Nat) (x : AtEntry) : ∃ as ds,
    s.removeAssoc i x = { s with tab := { s.tab with assocs := as, drains := ds } } := by
  obtain ⟨as, ds, first⟩ := State.drainLive_frame (s.setAssoc i ({ x with st := .empty } : AtEntry).cleared) i x false
  rw [State.removeAssoc, first]
  exact State.drainLive_frame _ i x true

theorem exec_atStateRemove_removes (h : Claims.holds s f 0 0x0105 e) (action : e.arg 24 = 3) (named : e.index = i)
    (reach : Claims.reached s f i) (live : (s.assoc i).st = .active ∨ (s.assoc i).st = .suspended)
    (room : s.tableRoom (assocLines i) = true) :
    exec (.atStateRemove f) s = .next (((s.removeAssoc i (s.assoc i)).writeAssoc i).complete f 0 .ok) := by
  rw [exec, execAtStateRemove]
  refine congrArg Host.Outcome.next (State.atCommand_reached h ?_ named reach live rfl ?_)
  · simp [Claims.isOp_of_holds h, action]
  · obtain ⟨as, ds, frame⟩ := s.removeAssoc_frame i (s.assoc i)
    rw [frame]
    exact room

/-! ### Drains that end (R140, R149, R167) -/

/-- R140, R167: what the destruction of a slot leaves. -/
theorem State.destroySlot_destroyed (s : State) (i : Nat) (b : Bool) :
    (s.destroySlot i b).assoc i
      = ((s.assoc i).setSlot b { loads := ((s.assoc i).slot b).loads, kn := ((s.assoc i).slot b).kn }).cleared
    ∧ tget 0 (s.destroySlot i b).tab.drains (slotNo i b) = 0
    ∧ ∀ idx : BitVec 24, idx.toNat = i → ∀ p l, CtxKey.assoc idx b l ∉ ((s.destroySlot i b).pair p).ctx := by
  unfold State.destroySlot
  dsimp only
  generalize s.event (s.assoc i).domain.toNat .at_ 2 _ = u
  refine ⟨?_, ?_, fun idx named p l => State.dropCtx_ctx _ named b p l⟩
  · refine (congrArg (fun tb : Tables => tget {} tb.assocs i) (State.writeAssoc_stored _ i).tab).trans ?_
    exact u.assoc_setAssoc i _
  · unfold State.dropCtx
    dsimp only
    rw [tget_tset_same]

/-- R140, R386: a drain that ends without references destroys the slot. -/
theorem State.drainAssoc_destroys {b : Bool} (due : 0 < tget 0 s.tab.drains (slotNo i b))
    (past : tget 0 s.tab.drains (slotNo i b) ≤ s.tb.elapsed + 1) (unused : tget 0 s.tab.refs (slotNo i b) = 0) :
    s.drainAssoc i b = s.destroySlot i b := by
  have ends : ¬ (tget 0 s.tab.drains (slotNo i b) = 0 ∨ s.tb.elapsed + 1 < tget 0 s.tab.drains (slotNo i b)) := by omega
  rw [State.drainAssoc, if_neg ends, if_pos unused]

/-- R140: a drain that ends with references runs again. -/
theorem State.drainAssoc_extends {b : Bool} (due : 0 < tget 0 s.tab.drains (slotNo i b))
    (past : tget 0 s.tab.drains (slotNo i b) ≤ s.tb.elapsed + 1) (used : tget 0 s.tab.refs (slotNo i b) ≠ 0) :
    (s.drainAssoc i b).assoc i = s.assoc i
    ∧ tget 0 (s.drainAssoc i b).tab.drains (slotNo i b) = s.tb.elapsed + 1000 * s.field .atDrain 0 0 16 + 1 := by
  have ends : ¬ (tget 0 s.tab.drains (slotNo i b) = 0 ∨ s.tb.elapsed + 1 < tget 0 s.tab.drains (slotNo i b)) := by omega
  obtain ⟨ev, hi, out, counted⟩ := s.occur_parts .drainExtend i 1
  have extended : s.drainAssoc i b = { s with
      evc := ev, hif := hi, out := out
      tab := { s.tab with drains := tset 0 s.tab.drains (slotNo i b) (s.tb.elapsed + 1000 * s.field .atDrain 0 0 16 + 1) } } := by
    rw [State.drainAssoc, if_neg ends, if_neg used, counted]
    rfl
  rw [extended]
  refine ⟨rfl, ?_⟩
  dsimp only
  rw [tget_tset_same]

theorem State.drainCloth_due {g slot : Nat} (drains : ((s.group g).ck slot).drain = true)
    (past : ((s.group g).ck slot).drainAt ≤ s.tb.elapsed + 1) :
    s.drainCloth g slot = s.setGroup g { s.group g with
      cks := tset {} (s.group g).cks slot (if (s.group g).ckInUse slot then
        { (s.group g).ck slot with drainAt := s.tb.elapsed + 1000 * s.field .atDrain 0 0 16 + 1 } else {}) } := by
  have ends : ¬ (((s.group g).ck slot).drain = false ∨ s.tb.elapsed + 1 < ((s.group g).ck slot).drainAt) := by
    rw [drains]
    simpa using past
  rw [State.drainCloth, if_neg ends]
  cases (s.group g).ckInUse slot <;> rfl

/-! ### The obligation -/

/-- Settles O41: each command by the equation of its success; what it leaves of the entry is read off that state, whose lines
reach neither tables nor engines when they are written (`State.writeAssoc_stored`). -/
theorem associationInstalled : Obligations.AssociationInstalled := by
  rintro s f i e x rfl reach
  refine ⟨?install, fun live room => ⟨?load, fun named => ⟨fun B hB slot valid => ⟨?txslot, ?retire⟩,
    fun h => ⟨?suspend, ?resume, ?remove⟩⟩⟩, ?drain, ?cloth⟩
  case install =>
    intro n b hb h room named free a b' z3 z5 z48 state low valid clear hn tx values pn page
    obtain rfl : n = AtEntry.given f b := hn
    obtain ⟨rs, lf, ans⟩ := s.answered_msc false (assocLines i)
    have formed := State.installMalformed_false z3 z5 z48 state low valid clear values pn
    have made := exec_atInstall_fills hb h reach room named free a b' tx formed page
    have active : (b.getD 4 0).toNat = 1 ↔ b.getD 4 0 = 1 := ⟨fun x => BitVec.eq_of_toNat_eq x, congrArg BitVec.toNat⟩
    rw [ans] at made
    refine ⟨_, _, made, rfl, State.page_setPage _ f _, ?_⟩
    have entry : ∀ t : State, (((t.setAssoc i ((AtEntry.given f b).installed (s.assoc i) b (s.page f).key)).dropCtx i
        false).emptyPage f).assoc i = (AtEntry.given f b).installed (s.assoc i) b (s.page f).key :=
      fun t => t.assoc_setAssoc i _
    rw [entry]
    exact ⟨if_congr active rfl rfl, rfl, rfl, rfl, rfl, rfl, rfl, rfl, rfl, rfl, rfl, rfl, rfl, rfl, rfl, rfl,
      fun j other => State.assoc_setAssoc_other _ _ other, rfl, rfl⟩
  case load =>
    intro b B hb h named hB slot kn z3 z6 idle free other pn page
    refine ⟨_, _, exec_atSlotLoad_fills reach live room hb h named hB slot kn z3 z6 idle free other pn page, rfl,
      State.page_setPage _ f _, ?_⟩
    have entry : ∀ y : AtEntry, (((s.setAssoc i y).dropCtx i B).emptyPage f).assoc i = y := fun y => s.assoc_setAssoc i y
    rw [entry, AtEntry.slot_setSlot, AtEntry.slot_setSlot_other, AtEntry.setSlot_st, AtEntry.setSlot_txslot]
    refine ⟨rfl, rfl, rfl, ?_, rfl, rfl, rfl, fun j other => State.assoc_setAssoc_other _ _ other⟩
    exact (BitVec.toNat_ofNat ..).trans (Nat.mod_eq_of_lt kn)
  case txslot => exact fun h => exec_atTxslot_moves reach live room named h hB slot valid
  case retire =>
    exact fun h idle spare => ⟨_, _, exec_atSlotRetire_drains reach live room named h hB slot valid idle spare, rfl,
      s.startDrain_assoc i B, s.startDrain_drains i B, rfl⟩
  case suspend => exact exec_atStateSuspend_suspends reach live room named h
  case resume => exact exec_atStateResume_resumes reach live room named h
  case remove =>
    intro action
    obtain ⟨empty, drains, others⟩ := s.removeAssoc_removed i (s.assoc i)
    obtain ⟨as, ds, frame⟩ := s.removeAssoc_frame i (s.assoc i)
    exact ⟨_, _, exec_atStateRemove_removes h action named reach live room, rfl, empty, drains false, drains true, others,
      by rw [frame]⟩
  case drain =>
    rintro idx B _ named rfl due past
    rw [exec, execDrainTimerExpiry, named]
    refine ⟨fun unused => ⟨_, rfl, ?_⟩, fun used => ⟨_, rfl, State.drainAssoc_extends due past used⟩⟩
    obtain ⟨entry, stopped, contexts⟩ := s.destroySlot_destroyed i B
    rw [State.drainAssoc_destroys due past unused, entry]
    refine ⟨AtEntry.cleared_slot_valid _ B ?_, AtEntry.cleared_slot_key _ B ?_, fun valid => ?_, stopped, contexts idx named⟩
    · rw [AtEntry.slot_setSlot]
    · rw [AtEntry.slot_setSlot]
    · rw [AtEntry.cleared_of_valid (b := !B) (by rwa [AtEntry.slot_setSlot_other]), AtEntry.slot_setSlot_other]
  case cloth =>
    rintro g slot _ _ rfl rfl drains past
    exact congrArg _ (State.drainCloth_due drains past)

end Sys2Proof.Machine
end

section
/-! O42: fields of associations are set and read, and bundles loaded (R132, R133, R137, R155, R156). -/

namespace Sys2Proof.Machine

variable {s : State} {f i : Nat} {e : Fetched}

/-! ### AT_RX_PN and AT_SET (R132, R137) -/

/-- R132, R133: EXH of a VALID slot whose counter is set. -/
theorem AtEntry.exhaust_pn {x : AtEntry} {y : Slot} {pn : Nat} (valid : y.valid = true) (word : pn < 2 ^ 64) :
    x.exhaust { y with pn := BitVec.ofNat 64 pn } = { y with pn := BitVec.ofNat 64 pn, exh := decide (x.ceiling ≤ pn) } := by
  simp only [AtEntry.exhaust, valid, BitVec.toNat_ofNat, Nat.mod_eq_of_lt word, Bool.true_and]

section
variable (reach : Claims.reached s f i) (named : e.index = i)
  (live : (s.assoc i).st = .active ∨ (s.assoc i).st = .suspended) (room : s.tableRoom (assocLines i) = true)
include reach named live room

theorem exec_atRxPn_raises {B : Bool} {pn : Nat} (h : Claims.holds s f 0 0x0106 e) (hB : B = (e.arg 24 == 1)) (slot : e.arg 24 < 2)
    (valid : ((s.assoc i).slot B).valid = true) (hpn : pn = leAt e.desc 28 8) (low : ((s.assoc i).slot B).pn.toNat ≤ pn)
    (ok : (s.assoc i).pnOk pn = true) :
    exec (.atRxPn f) s = .next (((s.setAssoc i ((s.assoc i).setSlot B { (s.assoc i).slot B with
      pn := BitVec.ofNat 64 pn, exh := decide ((s.assoc i).ceiling ≤ pn) })).writeAssoc i).complete f 0 .ok) := by
  subst hB hpn
  refine congrArg Host.Outcome.next (State.atCommand_reached h (Claims.isOp_of_holds h :) named reach live ?_ room)
  have raised : ¬ (leAt e.desc 28 8 < ((s.assoc i).slot (e.arg 24 == 1)).pn.toNat
      ∨ (s.assoc i).pnOk (leAt e.desc 28 8) = false) :=
    not_or.2 ⟨Nat.not_lt.2 low, by rw [ok]; decide⟩
  dsimp only
  rw [if_neg (Nat.not_le.2 slot), if_neg (by rw [valid]; decide), if_neg raised,
    AtEntry.exhaust_pn valid (leAt_lt e.desc 28 8)]

/-- R137: AT_SET of a field writes the entry that its code gives. -/
theorem State.atSet_reached {mine : Nat → Bool} {run : Nat → AtEntry → Except HStat AtEntry} {y : AtEntry}
    (h : Claims.holds s f 0 0x0107 e) (wanted : mine (e.arg 24) = true) (ran : run (leAt e.desc 28 4) (s.assoc i) = .ok y) :
    s.atSet f mine run = ((s.setAssoc i y).writeAssoc i).complete f 0 .ok := by
  refine State.atCommand_reached h ?_ named reach live ?_ room
  · simp [Claims.isOp_of_holds h, wanted]
  · simp [ran, Except.map]

/-- R137: field code 1 is AT_SET CUT's own among those it answers. -/
theorem exec_atSetCut_sets (h : Claims.holds s f 0 0x0107 e) (code : e.arg 24 = 1) (bit : leAt e.desc 28 4 < 2) :
    exec (.atSetCut f) s = .next (((s.setAssoc i { s.assoc i with cut := leAt e.desc 28 4 == 1 }).writeAssoc i).complete
      f 0 .ok) := by
  rw [exec, execAtSetCut]
  refine congrArg Host.Outcome.next (State.atCommand_reached h ?_ named reach live ?_ room)
  · simp [Claims.isOp_of_holds h, code]
  · simp [code, bit]

theorem exec_atSetK_sets {v : Nat} {y : AtEntry} (hv : v = leAt e.desc 28 4) (h : Claims.holds s f 0 0x0107 e)
    (code : e.arg 24 = 7) (small : v < 64) (hy : y = { s.assoc i with k := BitVec.ofNat 6 v }) (suite : y.suiteOk = true)
    (above : (s.assoc i).k.toNat ≤ v ∨ ((s.assoc i).st = .suspended ∧ (s.assoc i).a.pn.toNat < 2 ^ (v + 1) - 1
      ∧ (s.assoc i).b.pn.toNat < 2 ^ (v + 1) - 1)) :
    exec (.atSetK f) s = .next (((s.setAssoc i { y with
      a := y.exhaust (s.assoc i).a, b := y.exhaust (s.assoc i).b }).writeAssoc i).complete f 0 .ok) := by
  subst hv hy
  refine congrArg _ (State.atSet_reached reach named live room h (by simp [code]) ?_)
  have allowed : ¬ (leAt e.desc 28 4 < (s.assoc i).k.toNat ∧ (s.assoc i).st ≠ .suspended) := fun ⟨lower, running⟩ =>
    above.elim (Nat.not_le.2 lower) (fun x => running x.1)
  have covers : ¬ (leAt e.desc 28 4 < (s.assoc i).k.toNat ∧ (2 ^ (leAt e.desc 28 4 + 1) - 1 ≤ (s.assoc i).a.pn.toNat
      ∨ 2 ^ (leAt e.desc 28 4 + 1) - 1 ≤ (s.assoc i).b.pn.toNat)) := fun ⟨lower, past⟩ =>
    above.elim (Nat.not_le.2 lower) (fun ⟨_, a, b⟩ => past.elim (Nat.not_le.2 a) (Nat.not_le.2 b))
  have ranges : ¬ (64 ≤ leAt e.desc 28 4
      ∨ ({ s.assoc i with k := BitVec.ofNat 6 (leAt e.desc 28 4) } : AtEntry).suiteOk = false) :=
    not_or.2 ⟨Nat.not_le.2 small, by simp [suite]⟩
  simp only [if_neg allowed, if_neg covers, if_neg ranges]

theorem exec_atSetSuite_sets {v : Nat} {y : AtEntry} (hv : v = leAt e.desc 28 4) (h : Claims.holds s f 0 0x0107 e)
    (code : e.arg 24 = 8) (small : v < 16) (suspended : (s.assoc i).st = .suspended)
    (hy : y = { s.assoc i with suite := BitVec.ofNat 4 v }) (suite : y.suiteOk = true) :
    exec (.atSetSuite f) s = .next (((s.setAssoc i y).writeAssoc i).complete f 0 .ok) := by
  subst hv hy
  refine congrArg _ (State.atSet_reached reach named live room h (by simp [code]) ?_)
  have ranges : ¬ (16 ≤ leAt e.desc 28 4
      ∨ ({ s.assoc i with suite := BitVec.ofNat 4 (leAt e.desc 28 4) } : AtEntry).suiteOk = false) :=
    not_or.2 ⟨Nat.not_le.2 small, by rw [suite]; decide⟩
  dsimp only
  rw [if_neg (not_not.2 suspended), if_neg ranges]

end

/-! ### AT_READ (R137, R157, R379) -/

/-- R309, R311: AT_READ of a reached association returns the entry's bytes. -/
theorem exec_atRead_returns (h : Claims.holds s f 0 0x0108 e) (named : e.index = i) (reach : Claims.reached s f i) :
    exec (.atRead f) s = .next ((s.answered false (assocLines i)).completeOut f 0 (s.assoc i).bytes true) := by
  have awake : s.tableWaits (assocLines i) = false := by
    obtain ⟨-, -, awake, -⟩ := reach
    simp only [State.atWaits, State.writeWaits, Bool.or_eq_false_iff] at awake
    exact awake.1.1
  rw [exec, execAtRead, State.command_of_holds h]
  simp only [named, awake, Bool.false_and, Bool.false_eq_true, if_false, State.atCheck_reached reach]

theorem AtEntry.head_length (x : AtEntry) (n : Nat) : (x.head n).length = 16 := by simp [AtEntry.head]

/-- R130, R137: a slot as it is read: the place of its key, 32 zeros, and 24 bytes more. -/
theorem Slot.bytes_eq (x : Slot) : ∃ rest : Bytes, rest.length = 24 ∧ x.bytes = List.replicate 32 0 ++ rest :=
  ⟨slice x.salt 0 12 ++ slice x.ssci 0 4 ++ leBytes x.pn.toNat 8, by simp, by simp [Slot.bytes]⟩

/-- Bytes that stand in the middle of a string are found there. -/
theorem slice_append_mid (l m r : Bytes) : slice (l ++ (m ++ r)) l.length m.length = m := by
  simp [slice]

/-- R129, R130, R137: an entry is read as 128 bytes, in which both keys are 0. -/
theorem AtEntry.bytes_read {x : AtEntry} (sound : x.st ≠ .poisoned) : x.bytes.length = 128
    ∧ slice x.bytes 16 32 = List.replicate 32 0 ∧ slice x.bytes 72 32 = List.replicate 32 0 := by
  obtain ⟨ra, la, ha⟩ := x.a.bytes_eq
  obtain ⟨rb, lb, hb⟩ := x.b.bytes_eq
  have head : x.common.length = 16 := x.head_length _
  have bytes : x.bytes = x.common ++ (List.replicate 32 0 ++ (ra ++ (List.replicate 32 0 ++ rb))) := by
    simp [AtEntry.bytes, sound, ha, hb]
  refine ⟨by simp [bytes, head, la, lb], ?_, ?_⟩
  · have a := slice_append_mid x.common (List.replicate 32 0) (ra ++ (List.replicate 32 0 ++ rb))
    rwa [head, List.length_replicate, ← bytes] at a
  · have b := slice_append_mid (x.common ++ (List.replicate 32 0 ++ ra)) (List.replicate 32 0) rb
    have at72 : (x.common ++ (List.replicate 32 (0 : Byte) ++ ra)).length = 72 := by simp [head, la]
    rw [at72, List.length_replicate] at b
    rw [bytes]
    simpa only [List.append_assoc] using b

/-! ### AT_BULK_LOAD (R155, R156) -/

/-- R156: a load that no failed tag or bus error ends counts every record. -/
theorem bulkAssocs_counts (f : Nat) (key hdr b : Bytes) (n : Nat) (acc : BulkSum)
    (whole : (bulkAssocs f key hdr b n acc).broken = false) :
    (bulkAssocs f key hdr b n acc).loaded + (bulkAssocs f key hdr b n acc).refused = acc.loaded + acc.refused + n := by
  induction n generalizing b acc with
  | zero => rfl
  | succ n ih =>
    rw [bulkAssocs] at whole ⊢
    split at whole
    · cases whole
    · rw [ih _ _ whole]; dsimp only; omega
    · rw [ih _ _ whole]; dsimp only; omega

theorem bulkFlows_counts (f : Nat) (b : Bytes) (n j : Nat) (acc : BulkSum) (whole : (bulkFlows f b n j acc).broken = false) :
    (bulkFlows f b n j acc).loaded + (bulkFlows f b n j acc).refused = acc.loaded + acc.refused + n := by
  induction n generalizing b j acc with
  | zero => rfl
  | succ n ih =>
    rw [bulkFlows] at whole ⊢
    split at whole
    · cases whole
    · rw [ih _ _ _ whole]; dsimp only; omega
    · rw [ih _ _ _ whole]; dsimp only; omega

section
variable (h : Claims.holds s f 1 0x0109 e) (form : bundleOk e.buf = true) (length : e.buf.length = bundleLen e.buf)
  (awake : s.bulkWaits = false)
include h form length awake

/-- R155, R156, R405: a bundle of associations is loaded under the key of its slot. -/
theorem exec_atBulkLoad_loads {k : Nat} {key : Bytes} (kind : leAt e.buf 6 2 = 1) (hk : k = (e.buf.getD 12 0).toNat)
    (free : s.storeFree = true) (found : s.bundleKey f k = .ok key) :
    exec (.atBulkLoad f) s = .next ((bulkAssocs f key (e.buf.take 64) (e.buf.drop 64) (leAt e.buf 8 4)
      { s := s.useBks k }).finish f) := by
  subst hk
  have mine : (e.isOp 0x0109 && !isBundle 2 e) = true := by simp [isBundle, Claims.isOp_of_holds h, kind]
  rw [exec, execAtBulkLoad, State.command_of_wanted h mine]
  simp only [form, length, awake, free, found, bne_self_eq_false, Bool.not_true, Bool.or_self, Bool.false_eq_true, if_false]

theorem exec_atBulkLoadFlows_loads (kind : leAt e.buf 6 2 = 2) : exec (.atBulkLoadFlows f) s
    = .next ((bulkFlows f (e.buf.drop 64) (leAt e.buf 8 4) 0 { s := s }).finish f) := by
  have mine : isBundle 2 e = true := by simp [isBundle, Claims.isOp_of_holds h, kind]
  rw [exec, execAtBulkLoadFlows, State.command_of_wanted h mine]
  simp only [form, length, awake, bne_self_eq_false, Bool.not_true, Bool.or_self, Bool.false_eq_true, if_false]

end

/-! ### The obligation -/

/-- Settles O42: AT_SET of each field is `State.atSet_reached` at its field code; the counts of a bundle add up by induction on
its records. -/
theorem associationFields : Obligations.AssociationFields := by
  intro s f i e x
  refine ⟨?fields, ?read, ?bulk⟩
  case fields =>
    rintro v rfl reach named live room hv
    have set : ∀ {mine run y}, Claims.holds s f 0 0x0107 e → mine (e.arg 24) = true → run v (s.assoc i) = .ok y →
        s.atSet f mine run = ((s.setAssoc i y).writeAssoc i).complete f 0 .ok := fun h wanted ran =>
      State.atSet_reached reach named live room h wanted (hv ▸ ran)
    refine ⟨fun B pn h hB slot valid hpn low ok => exec_atRxPn_raises reach named live room h hB slot valid hpn low ok,
      fun h => ⟨?cut, ?event, ?replay, ?window, ?policer, ?qbase, ?k, ?suite, ?mode, ?domain⟩⟩
    case cut =>
      intro code bit
      subst hv
      exact exec_atSetCut_sets reach named live room h code bit
    case event => exact fun code bit => congrArg _ (set h (by simp [code]) (if_neg (Nat.not_le.2 bit)))
    case replay => exact fun code bit => congrArg _ (set h (by simp [code]) (if_neg (Nat.not_le.2 bit)))
    case window => exact fun code bound => congrArg _ (set h (by simp [code]) (if_neg (Nat.not_lt.2 bound)))
    case policer => exact fun code bound => congrArg _ (set h (by simp [code]) (if_neg (Nat.not_le.2 bound)))
    case qbase => exact fun code bound => congrArg _ (set h (by simp [code]) (if_neg (Nat.not_le.2 bound)))
    case k => exact fun y code small hy suite above => exec_atSetK_sets reach named live room hv h code small hy suite above
    case suite =>
      exact fun y code small suspended hy suite => exec_atSetSuite_sets reach named live room hv h code small suspended hy suite
    case mode =>
      intro code bit suspended
      exact congrArg _ (set h (by simp [code]) ((if_neg (by simp [suspended])).trans (if_neg (Nat.not_le.2 bit))))
    case domain =>
      intro code bound owner
      exact congrArg _ (set h (by simp [code]) ((if_neg (by simp [owner])).trans (if_neg (Nat.not_le.2 bound))))
  case read =>
    rintro rfl reach named h
    exact ⟨exec_atRead_returns h named reach, AtEntry.bytes_read⟩
  case bulk =>
    rintro n h form length awake rfl
    refine ⟨?assocs, ?flows⟩
    case assocs =>
      rintro k key a kind hk free found rfl
      exact ⟨exec_atBulkLoad_loads h form length awake kind hk free found,
        fun whole => (bulkAssocs_counts _ _ _ _ _ _ whole).trans (Nat.zero_add _)⟩
    case flows =>
      rintro a kind rfl
      exact ⟨exec_atBulkLoadFlows_loads h form length awake kind,
        fun whole => (bulkFlows_counts _ _ _ _ _ whole).trans (Nat.zero_add _)⟩

end Sys2Proof.Machine
end

section
/-! SUPPORT. Pages, stores and outputs that key commands use (R374, R400 to R405, R424), for O44. -/

namespace Sys2Proof.Machine

variable {s : State} {f : Nat}

/-! ### What leaves the device (R374, R379) -/

theorem State.signal_out (s : State) (f vec : Nat) {o : Out} (h : o ∈ s.out) : o ∈ (s.signal f vec).out := by
  unfold State.signal
  (repeat' split)
  · exact h
  · exact h
  · exact List.mem_append_left _ h

theorem State.ringSignal_out (s : State) (f r : Nat) {o : Out} (h : o ∈ s.out) : o ∈ (s.ringSignal f r).out := by
  unfold State.ringSignal
  dsimp only
  split
  · exact State.signal_out _ _ _ h
  · exact h

theorem State.ringDone_out (s : State) (f r : Nat) (now : Bool) {o : Out} (h : o ∈ s.out) : o ∈ (s.ringDone f r now).out := by
  have signalled : ∀ (c : Prop) [Decidable c] (t : State), o ∈ t.out → o ∈ (if c then t.ringSignal f r else t).out := by
    intro c _ t ht
    split
    · exact t.ringSignal_out f r ht
    · exact ht
  exact signalled _ _ h

/-- R371: a completion takes back nothing that has left the device. -/
theorem State.complete_out (s : State) (f r : Nat) (st : HStat) {o : Out} (h : o ∈ s.out) : o ∈ (s.complete f r st).out := by
  unfold State.complete
  dsimp only
  split
  · exact h
  · split
    · exact List.mem_append_left _ h
    · exact State.ringDone_out _ _ _ _ (List.mem_append_left _ h)

/-! ### Key store slots (R404, R405) -/

/-- R404: a slot is sealed from what it says. -/
theorem sealBks_congr {x y : Bks} (k : Nat) (purpose : x.purpose = y.purpose) (owner : x.owner = y.owner) (uses : x.uses = y.uses)
    (starts : x.starts = y.starts) (key : x.key = y.key) : sealBks k x = sealBks k y := by
  simp only [sealBks, Bks.plain, purpose, owner, uses, starts, key]

theorem State.useBks_frame (s : State) (k : Nat) : ∃ b, s.useBks k = { s with kcu := { s.kcu with bks := b } } := by
  unfold State.useBks
  dsimp only
  split
  · exact ⟨_, rfl⟩
  · split <;> exact ⟨_, rfl⟩

/-- R405: a use of a slot with a limit is counted, and its last one destroys it. -/
theorem State.useBks_bks {k n : Nat} (limited : (s.bks k).uses = some n) :
    (s.useBks k).bks k = if n ≤ 1 then {} else sealBks k { s.bks k with uses := some (n - 1) } := by
  simp only [State.useBks, limited]
  split <;> exact s.bks_setBks k _

/-! ### Key contexts of a lookaside slot (R167) -/

theorem State.dropLksCtx_ctx (s : State) (n p load : Nat) : CtxKey.lks n load ∉ ((s.dropLksCtx n).pair p).ctx := fun h => by
  have := keep_of_mem_kept s.cie.pairs h
  simp at this

/-! ### KP_CTL (R403) -/

theorem fld_or (v w : Word) (lo n : Nat) : fld (v ||| w) lo n = fld v lo n ||| fld w lo n := by
  simp only [fld, BitVec.toNat_or, Nat.or_div_two_pow, Nat.or_mod_two_pow]

theorem lt_of_getLsbD {v : Word} {m k : Nat} (small : v.toNat < 2 ^ k) (h : v.getLsbD m = true) : m < k := by
  refine Nat.lt_of_not_le fun past => ?_
  have clear : v.toNat.testBit m = false :=
    Nat.testBit_lt_two_pow (Nat.lt_of_lt_of_le small (Nat.pow_le_pow_right (by decide) past))
  exact Bool.false_ne_true (clear.symm.trans h)

/-- R403: the bits that KP_CTL has, below 18 and without bit 7. -/
theorem kpCtl_reserved {v : Word} (small : v.toNat < 2 ^ 18) (gap : v.getLsbD 7 = false) : v &&& ~~~(0x3_FF7F : Word) = 0 := by
  refine BitVec.eq_of_getLsbD_eq fun i hi => ?_
  have fields : ∀ i < 18, i ≠ 7 → (0x3_FF7F : Word).getLsbD i = true := by decide
  rw [BitVec.getLsbD_and, BitVec.getLsbD_not, decide_eq_true hi, Bool.true_and]
  refine Eq.trans ?_ BitVec.getLsbD_zero.symm
  by_cases seven : i = 7
  · rw [seven, gap, Bool.false_and]
  · by_cases low : i < 18
    · rw [fields i low seven, Bool.not_true, Bool.and_false]
    · have high : v.getLsbD i = false := Bool.eq_false_iff.2 fun h => low (lt_of_getLsbD small h)
      rw [high, Bool.false_and]

/-- R400, R403: a write of KP_CTL with an action bit set, where the word says nothing reserved. -/
theorem State.hostWrite_kpCtl {v : Word} (hr : s.pins.inReset = false) (hl : s.lcShut = false) (hf : s.fnExists f = true)
    (small : v.toNat < 2 ^ 18) (gap : v.getLsbD 7 = false) (form : v.toNat / 256 % 4 ≠ 3) {act : Word}
    (hact : act = 0x1_0000 ∨ act = 0x2_0000) :
    s.hostWrite f true 0x100 (v ||| act) = s.kpCtlWrite f 0x100 (v ||| act) := by
  have bits : (v ||| act).toNat < 2 ^ 18 ∧ (v ||| act).getLsbD 7 = false ∧ fld (v ||| act) 8 2 = v.toNat / 256 % 4 := by
    rw [BitVec.toNat_or, BitVec.getLsbD_or, gap, fld_or]
    rcases hact with rfl | rfl <;> exact ⟨Nat.or_lt_two_pow small (by decide), rfl, Nat.or_zero _⟩
  obtain ⟨low, noGap, sameForm⟩ := bits
  have taken : ¬ ((v ||| act) &&& ~~~(0x3_FF7F : Word) ≠ 0 ∨ fld (v ||| act) 8 2 = 3) := by
    rw [kpCtl_reserved low noGap, sameForm]
    exact not_or.2 ⟨fun h => h rfl, form⟩
  have open_ : (s.lcShut && !lcOpen true 0x100) = false := by rw [hl, Bool.false_and]
  simp only [State.hostWrite, State.reaches_bar2 hr hf (show 0x100 < 0x4000 by decide), Bool.not_true, Bool.false_eq_true, if_false,
    State.target, show bar2Target 0x100 = .kpCtl from rfl, open_, if_true, State.writeBar2, if_neg taken]

end Sys2Proof.Machine
end

section
/-! O44: cloth, lookaside and stored keys, key pages, zeroization and the identity (R147 to R149, R179, R397 to R407, R416). -/

namespace Sys2Proof.Machine

variable {s : State} {f : Nat} {e : Fetched}

/-! ### Cloth keys (R147 to R149) -/

theorem exec_clothKeyLoad_fills (h : Claims.holds s f 0 0x0301 e) (group : e.arg 20 < 8) (dir : e.arg 21 < 2) (slot : e.arg 22 < 2)
    (kn : e.arg 23 < 4) (free : ((s.group (e.arg 20)).ck (2 * e.arg 21 + e.arg 22)).valid = false) (page : Claims.keyAt s f 32) :
    exec (.clothKeyLoad f) s = .next (((s.setGroup (e.arg 20) { s.group (e.arg 20) with
      cks := tset {} (s.group (e.arg 20)).cks (2 * e.arg 21 + e.arg 22)
        { valid := true, kn := BitVec.ofNat 2 (e.arg 23), salt := slice e.desc 24 4, key := (s.page f).key } }).setPage f
      {}).complete f 0 .ok) := by
  have ranges : ¬ (8 ≤ e.arg 20 ∨ 2 ≤ e.arg 21 ∨ 2 ≤ e.arg 22 ∨ 4 ≤ e.arg 23) := by omega
  rw [exec, execClothKeyLoad, State.pageBusy_of_keyAt page, if_neg (by decide), State.command_of_holds h]
  simp only [if_neg ranges, free, Bool.false_eq_true, if_false, State.takeKey_ok page]
  rfl

theorem exec_clothKeyRetire_drains (h : Claims.holds s f 0 0x0302 e) (group : e.arg 20 < 8) (dir : e.arg 21 < 2) (slot : e.arg 22 < 2)
    (unheld : s.ckHeld (e.arg 20) (e.arg 21) (e.arg 22) = false) :
    exec (.clothKeyRetire f) s = .next ((s.setGroup (e.arg 20) { s.group (e.arg 20) with
      cks := tset {} (s.group (e.arg 20)).cks (2 * e.arg 21 + e.arg 22)
        { (s.group (e.arg 20)).ck (2 * e.arg 21 + e.arg 22) with
          drain := true, drainAt := s.tb.elapsed + 1000 * s.field .atDrain 0 0 16 + 1 } }).complete f 0 .ok) := by
  have ranges : ¬ (8 ≤ e.arg 20 ∨ 2 ≤ e.arg 21 ∨ 2 ≤ e.arg 22) := by omega
  rw [exec, execClothKeyRetire, State.command_of_holds h]
  simp only [if_neg ranges, unheld, Bool.false_eq_true, if_false]
  rfl

/-! ### Lookaside keys (R179) -/

theorem exec_lksKeyLoad_fills (h : Claims.holds s f 0 0x0501 e) (free : (s.lks (e.arg 20)).key = []) (page : Claims.keyAt s f 64) :
    exec (.lksKeyLoad f) s = .next ((((s.setLks (e.arg 20)
      { key := (s.page f).key, owner := f, loads := (s.lks (e.arg 20)).loads + 1 }).dropLksCtx (e.arg 20)).emptyPage f).complete
      f 0 .ok) := by
  rw [exec, execLksKeyLoad, State.pageBusy_of_keyAt page, if_neg (by decide), State.command_of_holds h]
  simp only [free, ne_eq, not_true_eq_false, if_false, State.takeKey_ok page]
  rfl

theorem exec_lksKeyDestroy_empties (h : Claims.holds s f 0 0x0502 e) (held : (s.lks (e.arg 20)).key ≠ [])
    (own : (s.lks (e.arg 20)).owner = f) (idle : s.lksNamed (e.arg 20) = false) :
    exec (.lksKeyDestroy f) s = .next (((s.setLks (e.arg 20) { loads := (s.lks (e.arg 20)).loads }).dropLksCtx (e.arg 20)).complete
      f 0 .ok) := by
  rw [exec, execLksKeyDestroy, State.command_of_holds h]
  simp only [if_neg held, own, ne_eq, not_true_eq_false, if_false, idle, Bool.false_eq_true]
  rfl

/-! ### The key store (R404 to R406) -/

section
variable (ready : s.kcu.st = 2)
include ready

/-- R406: the slot, its attributes and its owner are allowed. -/
theorem exec_bksStore_seals (h : Claims.holds s f 0 0x0801 e) (slot : e.arg 20 < 64) (purpose : e.arg 21 = 1 ∨ e.arg 21 = 2)
    (owner : e.arg 22 < 64) (uses : e.arg 23 % 2 = 1 → leAt e.desc 24 3 ≠ 0) (starts : e.arg 23 / 2 % 2 = 1 → e.arg 27 ≠ 0)
    (own : f = 0 ∨ e.arg 22 = f) (free : (s.bks (e.arg 20)).purpose = 0) (page : Claims.keyAt s f 32) :
    exec (.bksStore f) s = .next (((s.setBks (e.arg 20) (sealBks (e.arg 20)
      { purpose := e.arg 21, owner := e.arg 22, uses := if e.arg 23 % 2 = 1 then some (leAt e.desc 24 3) else none
        starts := if e.arg 23 / 2 % 2 = 1 then some (e.arg 27) else none, key := (s.page f).key })).setPage f {}).complete
      f 0 .ok) := by
  have args : bksArgsOk e = true := by
    simp only [bksArgsOk, Bool.and_eq_true, Bool.or_eq_true, decide_eq_true_eq, beq_iff_eq, Bool.not_eq_true', Bool.and_eq_false_iff,
      beq_eq_false_iff_ne]
    exact ⟨⟨⟨⟨slot, purpose⟩, owner⟩, imp_iff_not_or.1 uses⟩, imp_iff_not_or.1 starts⟩
  have may : ¬ (f ≠ 0 ∧ e.arg 22 ≠ f) := fun ⟨other, strange⟩ => own.elim other strange
  rw [exec, execBksStore, State.pageBusy_of_keyAt page, if_neg (by decide), State.command_of_holds h]
  simp only [ready, args, free, ne_eq, not_true_eq_false, Bool.not_true, Bool.false_eq_true, if_false, if_neg may,
    State.takeKey_ok page]
  rfl

theorem exec_bksDestroy_empties (h : Claims.holds s f 0 0x0802 e) (slot : e.arg 20 < 64)
    (own : f = 0 ∨ (s.bks (e.arg 20)).purpose = 0 ∨ (s.bks (e.arg 20)).owner = f) (idle : s.bksBusy (e.arg 20) = false) :
    exec (.bksDestroy f) s = .next ((s.setBks (e.arg 20) {}).complete f 0 .ok) := by
  have may : ¬ (f ≠ 0 ∧ (s.bks (e.arg 20)).purpose ≠ 0 ∧ (s.bks (e.arg 20)).owner ≠ f) := fun ⟨other, used, strange⟩ =>
    own.elim other fun x => x.elim used strange
  rw [exec, execBksDestroy, State.command_of_holds h]
  simp only [ready, ne_eq, not_true_eq_false, if_false, if_neg (Nat.not_le.2 slot), if_neg may, idle, Bool.false_eq_true]
  rfl

theorem exec_bksStatus_returns (h : Claims.holds s f 0 0x0803 e) :
    exec (.bksStatus f) s = .next (s.completeOut f 0 s.bksStatus true) := by
  rw [exec, execBksStatus, State.command_of_holds h, if_neg (not_not.2 ready)]

end

/-- R406: BKS_STATUS is 64 records of 16 bytes. -/
theorem State.bksStatus_length (s : State) : s.bksStatus.length = 1024 := by
  simp [State.bksStatus, List.length_flatMap]

/-! ### Zeroization (R407) -/

/-- R424, R425: ERASE is carried out over what runs below it, and alarms over NOTIFY or less. -/
theorem State.zeroize_erase (s : State) : s.zeroize 3
    = if s.tmu.running = 3 ∨ s.tmu.running = 4 ∨ s.tmu.running = 5 ∨ s.tmu.running = 6 then s
      else if s.tmu.running = 7 ∨ s.tmu.running = 0 then (s.carryOut 3 31 0).tamperEvent 31 3
      else s.carryOut 3 31 0 := by
  have asHigh : ∀ r : BitVec 3, respLevel 3 ≤ respLevel r ↔ r = 3 ∨ r = 4 ∨ r = 5 ∨ r = 6 := by decide
  have quiet : ∀ r : BitVec 3, respLevel r < respLevel 1 ↔ r = 7 ∨ r = 0 := by decide
  simp only [State.zeroize, asHigh, quiet]

theorem State.zeroize_eraseLock (s : State) : s.zeroize 4
    = if s.tmu.running = 4 ∨ s.tmu.running = 5 ∨ s.tmu.running = 6 then s
      else if s.tmu.running = 7 ∨ s.tmu.running = 0 then (s.carryOut 4 31 0).tamperEvent 31 4
      else s.carryOut 4 31 0 := by
  have asHigh : ∀ r : BitVec 3, respLevel 4 ≤ respLevel r ↔ r = 4 ∨ r = 5 ∨ r = 6 := by decide
  have quiet : ∀ r : BitVec 3, respLevel r < respLevel 1 ↔ r = 7 ∨ r = 0 := by decide
  simp only [State.zeroize, asHigh, quiet]

theorem exec_zeroizeErase_erases (h : Claims.holds s f 0 0x0804 e) (erase : e.arg 20 = 1) :
    exec (.zeroizeErase f) s = .next ((s.zeroize 3).complete f 0 .ok) := by
  rw [exec, execZeroizeErase, State.command_of_wanted h (by simp [Claims.isOp_of_holds h, erase]), if_neg (not_not.2 erase)]
  rfl

theorem exec_zeroizeEraseLock_erases (h : Claims.holds s f 0 0x0804 e) (lock : e.arg 20 = 2) :
    exec (.zeroizeEraseLock f) s = .next ((s.zeroize 4).complete f 0 .ok) := by
  rw [exec, execZeroizeEraseLock, State.command_of_wanted h (by simp [Claims.isOp_of_holds h, lock])]
  rfl

/-! ### Key pages (R400 to R405) -/

section
variable {v : Word} (hr : s.pins.inReset = false) (hl : s.lcShut = false) (hf : s.fnExists f = true) (small : v.toNat < 2 ^ 18)
  (gap : v.getLsbD 7 = false) (form : v.toNat / 256 % 4 ≠ 3)
include hr hl hf small gap form

theorem exec_kpClear_empties : exec (.kpClear f v) s = .next (s.setPage f {}) := by
  rw [exec, execKpClear, State.hostWrite_kpCtl hr hl hf small gap form (.inr rfl), State.kpCtlWrite, if_pos (by simp)]
  rfl

variable (keep : v.getLsbD 17 = false) (lc : s.kcu.lc ≠ 4) (empty : (s.page f).st = 0) (idle : (s.page f).unwrap = none)
include keep lc empty idle

/-- R400, R401: a commit of an allowed form and length on an EMPTY page is taken. -/
theorem exec_kpCommit_taken (ok : commitOk (v.toNat / 256 % 4) (v.toNat % 128) = true) :
    exec (.kpCommit f v) s = .next (if v.toNat / 256 % 4 = 1 then
        s.setPage f { st := 1, len := v.toNat % 128, key := Memory.readBytes (s.page f).data 0 (v.toNat % 128) }
      else s.setPage f { s.page f with
        unwrap := some (Memory.readBytes (s.page f).data 0 (v.toNat % 128), v.toNat / 1024 % 64), turn := s.lastTurn + 1 }) := by
  have len : fld (v ||| 0x1_0000) 0 7 = v.toNat % 128 := by
    rw [fld_or, fld, Nat.pow_zero, Nat.div_one]
    exact Nat.or_zero _
  have formSame : fld (v ||| 0x1_0000) 8 2 = v.toNat / 256 % 4 := (fld_or ..).trans (Nat.or_zero _)
  have slot : fld (v ||| 0x1_0000) 10 6 = v.toNat / 1024 % 64 := (fld_or ..).trans (Nat.or_zero _)
  have clear : (v ||| 0x1_0000 : Word).getLsbD 17 = false := by rw [BitVec.getLsbD_or, keep]; rfl
  rw [exec, execKpCommit, State.hostWrite_kpCtl hr hl hf small gap form (.inl rfl), State.kpCtlWrite, clear, if_neg (by decide),
    if_pos (by simp), State.kpCommit]
  simp only [len, formSame, slot, lc, empty, idle, ok, ne_eq, not_true_eq_false, Option.isSome_none, Bool.false_eq_true, or_self,
    Bool.not_true, if_false]

end

/-- R400: the page that an unwrapping leaves. -/
def unwrapped : Option Bytes → KeyPage
  | some key => { st := 1, len := key.length, key := key }
  | none => { st := 2 }

theorem exec_kpUnwrapDone_eq {bytes : Bytes} {k : Nat} (waits : (s.page f).unwrap = some (bytes, k))
    (turn : s.earlierUse f = false) : exec (.kpUnwrapDone f) s
    = .next (if s.kcu.st = 2 ∧ (s.bks k).purpose ≠ 0 then (s.setPage f (unwrapped (s.unwrapKey f bytes k))).useBks k
      else s.setPage f (unwrapped (s.unwrapKey f bytes k))) := by
  rw [exec, execKpUnwrapDone, waits]
  simp only [turn, Bool.false_eq_true, if_false]
  cases s.unwrapKey f bytes k <;> rfl

/-- R400, R405: a WRAPPED commit that has its turn ends, and is a use of its slot. -/
theorem exec_kpUnwrapDone_ends {bytes : Bytes} {k : Nat} (waits : (s.page f).unwrap = some (bytes, k))
    (turn : s.earlierUse f = false) :
    ∃ t, exec (.kpUnwrapDone f) s = .next t ∧ t.page f = unwrapped (s.unwrapKey f bytes k)
      ∧ (∀ n, s.kcu.st = 2 → (s.bks k).purpose ≠ 0 → (s.bks k).uses = some n →
        t.bks k = if n ≤ 1 then {} else sealBks k { s.bks k with uses := some (n - 1) })
      ∧ t = { s with hif := { s.hif with pages := t.hif.pages }, kcu := { s.kcu with bks := t.kcu.bks } } := by
  refine ⟨_, exec_kpUnwrapDone_eq waits turn, ?_⟩
  generalize unwrapped (s.unwrapKey f bytes k) = page
  by_cases used : s.kcu.st = 2 ∧ (s.bks k).purpose ≠ 0
  · rw [if_pos used]
    obtain ⟨b, use⟩ := (s.setPage f page).useBks_frame k
    refine ⟨?_, fun n _ _ limited => State.useBks_bks (s := s.setPage f page) limited, ?_⟩
    · rw [use]
      exact s.page_setPage f page
    · rw [use]
      rfl
  · rw [if_neg used]
    exact ⟨s.page_setPage f page, fun n ready stored _ => absurd ⟨ready, stored⟩ used, rfl⟩

/-! ### The identity (R397, R398, R416) -/

theorem State.sendHello_cascade (s : State) (n : Nat) : (s.sendHello n).kcu.cascade = s.kcu.cascade := by
  unfold State.sendHello
  split
  · rfl
  · split <;> rfl

theorem State.cascadeBad_iff {b : Bytes} : s.cascadeBad b = true
    ↔ ¬ (slice b 8 97 = identityPub ∧ beNat (slice b 6 2) = s.devId ∧ s.certOk b = true) := by
  simp only [State.cascadeBad, Bool.or_eq_true, bne_iff_ne, ne_eq, Bool.not_eq_true', Bool.not_eq_true, not_and_or, or_assoc]

/-- R376: the command that a unit holds is the front of its ring. -/
theorem State.front_of_handed {r : Nat} (handed : s.handed f r = some e) : (s.ring f r).front = some e := by
  unfold State.handed at handed
  split at handed
  · cases handed
  · split at handed
    · next front =>
      split at handed
      · cases handed
      · cases handed
        exact front
    · cases handed

/-- R376, R416: a result is written over the parameter block of the command that the unit holds. -/
theorem State.writeBack_writes (out : Bytes) (front : (s.ring f 0).front = some e) : (s.writeBack f out).kcu = s.kcu
    ∧ .dma (BitVec.ofNat 64 (leAt e.desc 8 8)) out ∈ (s.writeBack f out).out := by
  rw [State.writeBack, front]
  exact ⟨by simp only [State.complete_keeps]; rfl, State.complete_out _ _ _ _ (List.mem_append_right _ (List.mem_singleton.2 rfl))⟩

section
variable (lc : s.kcu.lc ≠ 1) (ready : s.kcu.st = 2)
include lc ready

theorem State.identityBad_none : s.identityBad = none := by
  have working : ¬ (s.kcu.st = 3 ∨ s.kcu.st = 4) := by rw [ready]; decide
  rw [State.identityBad, if_neg working, if_neg lc, if_neg (not_not.2 ready)]

theorem exec_idCertRead_returns (h : Claims.holds s f 0 0x0805 e) :
    exec (.idCertRead f) s = .next (s.completeOut f 0 (slice ((s.otpItem 4).getD []) 0 2048) true) := by
  rw [exec, execIdCertRead, State.command_of_holds h, State.identityBad_none lc ready]

/-- R398: a certificate of the device's own key and number that verifies is stored. -/
theorem exec_cascadeCertLoad_stores (h : Claims.holds s f 0 0x0806 e)
    (ok : slice e.buf 8 97 = identityPub ∧ beNat (slice e.buf 6 2) = s.devId ∧ s.certOk e.buf = true) :
    ∃ u : State, exec (.cascadeCertLoad f) s = .next (u.complete f 0 .ok) ∧ u.kcu.cascade = some e.buf := by
  rw [exec, execCascadeCertLoad, State.command_of_holds h, State.identityBad_none lc ready]
  dsimp only
  rw [if_neg (fun bad => State.cascadeBad_iff.1 bad ok)]
  refine ⟨_, rfl, ?_⟩
  refine List.foldlRecOn (motive := fun t : State => t.kcu.cascade = some e.buf) _ _ rfl fun t kept n _ => ?_
  split
  · exact (t.sendHello_cascade n).trans kept
  · exact kept

theorem exec_cascadeCertLoad_refuses (h : Claims.holds s f 0 0x0806 e)
    (bad : ¬ (slice e.buf 8 97 = identityPub ∧ beNat (slice e.buf 6 2) = s.devId ∧ s.certOk e.buf = true)) :
    exec (.cascadeCertLoad f) s = .next (s.complete f 0 .range) := by
  rw [exec, execCascadeCertLoad, State.command_of_holds h, State.identityBad_none lc ready]
  dsimp only
  rw [if_pos (State.cascadeBad_iff.2 bad)]

/-- R416: ATTEST writes the nonce, 16 bytes that are not stated, and the signature over its block. -/
theorem exec_attest_signs (h : Claims.holds s f 0 0x0807 e) : ∃ (n : Nat) (rest : Bytes), rest.length = 16
    ∧ exec (.attest f) s = .next (({ s with free := n } : State).writeBack f (slice e.buf 0 48 ++ (rest
      ++ slice (s.sign identityKey (slice e.buf 0 48 ++ s.serial ++ [s.kcu.lc.setWidth 8])).1 0 96))) := by
  rw [exec, execAttest, State.command_of_holds h, State.identityBad_none lc ready]
  refine ⟨s.free + 3, leBytes (Config.freeWord (s.free + 1)).toNat 8 ++ leBytes (Config.freeWord (s.free + 2)).toNat 8,
    by simp, ?_⟩
  simp only [List.append_assoc]
  rfl

end

/-! ### The obligation -/

/-- Settles O44: each command by the equation of its success; the signed block of ATTEST stands between its nonce and its end. -/
theorem keyCommands : Obligations.KeyCommands := by
  intro s f e
  refine ⟨?cloth, ?lookaside, ?store, ?status, fun h => ⟨?erase, ?lock⟩, ?page, ?unwrap,
    fun lc ready => ⟨?identity, ?cascade, ?attest⟩⟩
  case cloth =>
    rintro _ _ _ rfl rfl rfl group dir slot
    refine ⟨fun h kn free page x hx => ?_, fun h unheld x hx => ?_⟩
    · subst hx
      exact exec_clothKeyLoad_fills h group dir slot kn free page
    · subst hx
      exact exec_clothKeyRetire_drains h group dir slot unheld
  case lookaside =>
    rintro _ _ rfl rfl
    refine ⟨fun h free page => ⟨_, _, exec_lksKeyLoad_fills h free page, rfl, State.page_setPage _ f _, ?_, ?_, ?_⟩,
      fun h held own idle => ⟨_, _, exec_lksKeyDestroy_empties h held own idle, rfl, ?_, ?_, ?_⟩⟩
    · exact tget_tset_same ..
    · exact fun m other => tget_tset_other _ _ _ _ other
    · exact fun p l => State.dropLksCtx_ctx _ _ p l
    · exact congrArg LksKey.key (tget_tset_same ..)
    · exact fun m other => tget_tset_other _ _ _ _ other
    · exact fun p l => State.dropLksCtx_ctx _ _ p l
  case store =>
    rintro _ rfl slot ready
    refine ⟨fun h purpose owner uses starts own free page x hp ho hu hs hk => ?_,
      fun h own idle => exec_bksDestroy_empties ready h slot own idle⟩
    exact (exec_bksStore_seals ready h slot purpose owner uses starts own free page).trans
      (congrArg (fun b => Host.Outcome.next (((s.setBks (e.arg 20) b).setPage f {}).complete f 0 .ok))
        (sealBks_congr _ hp.symm ho.symm hu.symm hs.symm hk.symm))
  case status => exact fun h ready => ⟨exec_bksStatus_returns ready h, s.bksStatus_length⟩
  case erase => exact fun erase => by rw [exec_zeroizeErase_erases h erase, State.zeroize_erase]
  case lock => exact fun lock => by rw [exec_zeroizeEraseLock_erases h lock, State.zeroize_eraseLock]
  case page =>
    intro v hr hl hf small gap form
    refine ⟨exec_kpClear_empties hr hl hf small gap form, ?_⟩
    rintro _ _ rfl rfl keep lc empty idle
    have taken := exec_kpCommit_taken hr hl hf small gap form keep lc empty idle
    refine ⟨fun plain lengths => ?_, fun wrapped lengths => ?_⟩
    · rw [taken (by rw [plain]; rcases lengths with n | n | n <;> rw [n] <;> rfl), if_pos plain]
    · rw [taken (by rw [wrapped]; rcases lengths with n | n | n <;> rw [n] <;> rfl), if_neg (by rw [wrapped]; decide)]
  case unwrap =>
    intro bytes k waits turn
    obtain ⟨t, ends, page, uses, frame⟩ := exec_kpUnwrapDone_ends waits turn
    exact ⟨t, ends, fun key unwraps => by rw [page, unwraps]; rfl, fun fails => by rw [page, fails]; rfl, uses, frame⟩
  case identity => exact fun h => exec_idCertRead_returns lc ready h
  case cascade =>
    intro h
    by_cases ok : slice e.buf 8 97 = identityPub ∧ beNat (slice e.buf 6 2) = s.devId ∧ s.certOk e.buf = true
    · obtain ⟨u, loads, kept⟩ := exec_cascadeCertLoad_stores lc ready h ok
      exact ⟨_, u, loads, by rw [if_pos ok]; exact ⟨rfl, kept⟩⟩
    · exact ⟨_, s, exec_cascadeCertLoad_refuses lc ready h ok, by rw [if_neg ok]⟩
  case attest =>
    intro h
    obtain ⟨n, rest, length, signs⟩ := exec_attest_signs lc ready h
    obtain ⟨handed, -, -⟩ := h
    obtain ⟨kcu, written⟩ := State.writeBack_writes (s := { s with free := n }) (slice e.buf 0 48 ++ (rest
      ++ slice (s.sign identityKey (slice e.buf 0 48 ++ s.serial ++ [s.kcu.lc.setWidth 8])).1 0 96))
      (State.front_of_handed handed)
    refine ⟨_, _, _, signs, kcu, rfl, ⟨?_, ?_, ?_⟩, written⟩
    · have mid := slice_append_mid [] (slice e.buf 0 48) (rest
        ++ slice (s.sign identityKey (slice e.buf 0 48 ++ s.serial ++ [s.kcu.lc.setWidth 8])).1 0 96)
      rwa [slice_length, List.length_nil, List.nil_append] at mid
    · have mid := slice_append_mid (slice e.buf 0 48 ++ rest)
        (slice (s.sign identityKey (slice e.buf 0 48 ++ s.serial ++ [s.kcu.lc.setWidth 8])).1 0 96) []
      rwa [List.length_append, slice_length, slice_length, length, List.append_nil, List.append_assoc] at mid
    · simp [length]

end Sys2Proof.Machine
end

section
/-! SUPPORT. The group registers and what leaves a group alone, for O48. -/

namespace Sys2Proof.Machine

/-! ### Places in the register map (R514) -/

theorem regRowsAt_wov {off : Nat} (h : 0xC0_0000 ≤ off) (h' : off < 0xE0_0000) : regRowsAt off = regRowsWov := by
  simp only [regRowsAt]
  (repeat rw [if_neg (by omega)])
  exact if_pos h'

theorem blockAbsent_wov (v : Variant) {a : Nat} (h : 0xC0_0000 ≤ a) (h' : a < 0xE0_0000) : blockAbsent v a = false := by
  simp only [blockAbsent]
  (repeat rw [if_neg (by omega)])

variable {g : Nat}

theorem bar0Target_wovGrpCfg (v : Variant) (hg : g < 8) : bar0Target v (0xC0_0000 + 0x1000 * g) = .reg regRowsWov[0] g 0 := by
  refine bar0Target_of_present (locate_of_getElem 0 (by decide) (regRowsAt_wov (by omega) (by omega)) (by simp) ?_)
    (blockAbsent_wov v (by omega) (by omega)) (by decide) rfl
  exact RegRow.index_at _ hg (by decide) (by decide) (by decide) (show _ = 0xC0_0000 + (0x1000 * g + 4 * 0) by omega)

theorem bar0Target_wovTxMap (v : Variant) (hg : g < 8) : bar0Target v (0xC0_0008 + 0x1000 * g) = .reg regRowsWov[2] g 0 := by
  refine bar0Target_of_present (locate_of_getElem 2 (by decide) (regRowsAt_wov (by omega) (by omega)) ?_ ?_)
    (blockAbsent_wov v (by omega) (by omega)) (by decide) rfl
  · simp only [regRowsWov, List.take, List.forall_mem_cons]
    (repeat refine ⟨RegRow.index_none _ (by decide) (by simp only; omega), ?_⟩)
    simp
  · exact RegRow.index_at _ hg (by decide) (by decide) (by decide) (show _ = 0xC0_0008 + (0x1000 * g + 4 * 0) by omega)

theorem bar0Target_wovCkTx (v : Variant) (hg : g < 8) : bar0Target v (0xC0_0010 + 0x1000 * g) = .reg regRowsWov[4] g 0 := by
  refine bar0Target_of_present (locate_of_getElem 4 (by decide) (regRowsAt_wov (by omega) (by omega)) ?_ ?_)
    (blockAbsent_wov v (by omega) (by omega)) (by decide) rfl
  · simp only [regRowsWov, List.take, List.forall_mem_cons]
    (repeat refine ⟨RegRow.index_none _ (by decide) (by simp only; omega), ?_⟩)
    simp
  · exact RegRow.index_at _ hg (by decide) (by decide) (by decide) (show _ = 0xC0_0010 + (0x1000 * g + 4 * 0) by omega)

/-! ### Members that the variant has (R520) -/

theorem mem_dataMembers {map : Word} {m : Nat} : m ∈ dataMembers map ↔ m < 32 ∧ map.getLsbD m = true := by
  simp [dataMembers]

theorem dataMembers_nodup (map : Word) : (dataMembers map).Nodup := List.nodup_range.filter _

theorem Variant.lane_member {v : Variant} {m : Nat} (hm : m < 32) (h : v ≠ .tv16e ∨ m < 16) : v.lane (32 + m) = true := by
  cases v
  case tv16e =>
    have low : m < 16 := h.resolve_left (by simp)
    have place : (32 + m) % 32 < 16 := by omega
    have inside : 32 + m < 64 := by omega
    simp only [Variant.lane, place, inside, decide_true, Bool.and_self]
  all_goals
    have : 32 + m < 64 := by omega
    simp [Variant.lane, this]

variable {s : State}

theorem State.namesAbsent_wovTxMap {v : Word} (h : s.variant ≠ .tv16e ∨ v.toNat < 2 ^ 16) :
    s.namesAbsent .wovTxMap v = false := by
  refine List.any_eq_false.2 fun m hm => ?_
  obtain ⟨h32, hbit⟩ := mem_dataMembers.1 hm
  simp [Variant.lane_member h32 (h.imp_right fun small => lt_of_getLsbD small hbit)]

theorem State.namesAbsent_wovGrpCfg {v : Word} (h : s.variant ≠ .tv16e ∨ v.toNat / 4 % 32 < 16) :
    s.namesAbsent .wovGrpCfg v = false := by
  have low : fld v 2 5 < 32 := Nat.mod_lt _ (by decide)
  simp only [State.namesAbsent, Variant.lane_member low h, Bool.not_true]

/-! ### Writes of the group registers (R232, R234, R238) -/

section
variable {v : Word} (hg : g < 8) (hr : s.pins.inReset = false) (hl : s.lcShut = false)
include hg hr hl

theorem exec_wovCkTxSlotWrite (hv : v.toNat < 2) : exec (.wovCkTxSlotWrite g v) s = .next (s.ckTxWrite g v) := by
  have bits : v &&& ~~~regRowsWov[4].definedAt 0 = 0 := and_not_eq_zero_of_lt 4 (by omega) (by decide)
  rw [exec, execWovCkTxSlotWrite, if_neg (Nat.not_le.2 hg), State.hostWrite_reg v hr hl (by omega) (bar0Target_wovCkTx _ hg),
    State.writeReg_apply (by omega) bits (by decide) (by decide) rfl rfl]
  rfl

theorem exec_wovTxMapWrite (here : s.variant ≠ .tv16e ∨ v.toNat < 2 ^ 16) :
    exec (.wovTxMapWrite g v) s = .next (s.txMapWrite g v) := by
  have bits : v &&& ~~~regRowsWov[2].definedAt 0 = 0 := and_not_eq_zero_of_lt 32 v.isLt (by decide)
  rw [exec, execWovTxMapWrite, if_neg (Nat.not_le.2 hg), State.hostWrite_reg v hr hl (by omega) (bar0Target_wovTxMap _ hg),
    State.writeReg_apply (by omega) bits (by decide) (by decide) rfl (State.namesAbsent_wovTxMap here)]
  rfl

theorem exec_wovGrpCfgWrite (hv : v.toNat < 2 ^ 24) (here : s.variant ≠ .tv16e ∨ v.toNat / 4 % 32 < 16) :
    exec (.wovGrpCfgWrite g v) s = .next (s.grpWrite g (0xC0_0000 + 0x1000 * g) v) := by
  have bits : v &&& ~~~regRowsWov[0].definedAt 0 = 0 := and_not_eq_zero_of_lt 24 hv (by decide)
  rw [exec, execWovGrpCfgWrite, if_neg (Nat.not_le.2 hg), State.hostWrite_reg v hr hl (by omega) (bar0Target_wovGrpCfg _ hg),
    State.writeReg_apply (by omega) bits (by decide) (by decide) rfl (State.namesAbsent_wovGrpCfg here)]
  rfl

end

/-! ### Group defects (R262) -/

variable (s)

theorem State.event_group (d : Nat) (u : EvUnit) (c w0 w1 w2 w3 h : Nat) : (s.event d u c w0 w1 w2 w3).group h = s.group h := by
  obtain ⟨hi, out, sent⟩ := s.event_parts d u c w0 w1 w2 w3
  rw [sent]
  rfl

theorem State.event_reg (d : Nat) (u : EvUnit) (c w0 w1 w2 w3 : Nat) (k : RegId) (i j : Nat) :
    (s.event d u c w0 w1 w2 w3).reg k i j = s.reg k i j := by
  obtain ⟨hi, out, sent⟩ := s.event_parts d u c w0 w1 w2 w3
  rw [sent]
  rfl

theorem State.markGroup_group (g h : Nat) : (s.markGroup g).group h = s.group h := by
  unfold State.markGroup
  dsimp only
  split <;> split <;> rfl

theorem State.markGroup_reg (g : Nat) (k : RegId) (i j : Nat) : (s.markGroup g).reg k i j = s.reg k i j := by
  unfold State.markGroup
  dsimp only
  split <;> split <;> rfl

/-- R262: group g's new conditions, and the memory of path signal fail that goes with them. -/
def Group.withDef (G : Group) (d : BitVec 8) : Group :=
  { G with dfc := d, rxBipOk := G.rxBipOk && !d.getLsbD 5, rxNear := G.rxNear || d &&& 0x2F != 0 }

theorem State.setGrpDef_group (g h : Nat) (d : BitVec 8) :
    (s.setGrpDef g d).group h = (s.setGroup g ((s.group g).withDef d)).group h := by
  unfold State.setGrpDef
  dsimp only
  split
  · rw [State.event_group, State.markGroup_group]
    rfl
  · rw [State.markGroup_group]
    rfl

theorem State.setGrpDef_grpCfg {g : Nat} (d : BitVec 8) (hg : g < 8) :
    (s.setGrpDef g d).reg .wovGrpCfg g = s.reg .wovGrpCfg g := by
  have apart : RegId.wovGrpCfg.offset g 0 ≠ RegId.lmtGrpHist.offset g 0 := by
    show 0xC0_0000 + 0x1000 * g ≠ 0xC8_3040 + 4 * g
    omega
  unfold State.setGrpDef
  dsimp only
  split
  · rw [State.event_reg, State.markGroup_reg, State.reg_setReg_other _ _ apart, State.reg_setGroup]
  · rw [State.markGroup_reg, State.reg_setReg_other _ _ apart, State.reg_setGroup]

theorem State.memberRecord_frame (g l : Nat) : ∃ lanes b,
    s.memberRecord g l = { s with wov := { s.wov with lanes := lanes }, bbx := b } := by
  unfold State.memberRecord
  dsimp only
  split
  · exact ⟨s.wov.lanes, s.bbx, rfl⟩
  · obtain ⟨b, h⟩ := (s.setLane (32 + l) { s.lane (32 + l) with faulted := _ }).faultRec_parts _ .wov 5 l 0
    exact ⟨_, b, h⟩

/-- R20, R21: the records of members change no group and no register. -/
theorem State.memberRecords_frame (g : Nat) (ls : List Nat) : ∃ lanes b,
    ls.foldl (fun s l => s.memberRecord g l) s = { s with wov := { s.wov with lanes := lanes }, bbx := b } := by
  refine List.foldlRecOn (motive := fun t : State => ∃ lanes b, t = { s with wov := { s.wov with lanes := lanes }, bbx := b })
    _ _ ⟨s.wov.lanes, s.bbx, rfl⟩ ?_
  rintro _ ⟨lanes, b, rfl⟩ l -
  obtain ⟨lanes', b', h⟩ := State.memberRecord_frame { s with wov := { s.wov with lanes := lanes }, bbx := b } g l
  exact ⟨lanes', b', h⟩

end Sys2Proof.Machine
end

section
/-! O48: the sending side of a woven group (R206 to R234). -/

namespace Sys2Proof.Machine

variable {s : State} {g : Nat}

/-! ### Items (R221 to R225) -/

/-- R224: a FILL is no longer than the 232 bytes that it may have. -/
theorem fillLen_le (r want : Nat) : fillLen r want ≤ 232 := by
  unfold fillLen
  dsimp only
  split_ifs <;> omega

theorem exec_clothItemSend_open {fill : Nat} (h : s.clothOpen g = true) :
    exec (.clothItemSend g fill) s = .next (s.placeItem g fill) := by
  rw [exec, execClothItemSend, if_pos h]

/-- R224: with no frame to place the framer places a FILL. -/
theorem State.placeItem_fill {b : Bool} {r fill : Nat} (sealing : (s.group g).sealing = some b)
    (masks : 16384 < (s.group g).maskBlocks) (young : s.tb.elapsed < (s.group g).maskAt + 100000)
    (hr : r + (s.group g).placed = 16 * frameBytes (dataMembers (s.group g).mapInForce).length)
    (none_ : s.held = true ∨ (s.group g).ready = none) :
    s.placeItem g fill = s.setGroup g ((s.group g).place (hdrContent 2 0 (fillLen r fill) 0 0)
      (((s.group g).ck (if b then 1 else 0)).fill (s.group g).txSeq (fillLen r fill)) ((s.group g).ck (if b then 1 else 0))
      (fillLen r fill)) := by
  have room : 16 * frameBytes (dataMembers (s.group g).mapInForce).length - (s.group g).placed = r := by omega
  have enough : ¬ (s.group g).maskBlocks < sealBlocks (fillLen r fill) := by
    have := fillLen_le r fill
    unfold sealBlocks
    omega
  have idle : (if s.held then none else (s.group g).ready.filter (s.readyFits g)) = none := by
    rcases none_ with held | empty
    · rw [if_pos held]
    · rw [empty, Option.filter_none, ite_self]
  unfold State.placeItem
  simp only [s.seedSealer_quiet masks young, sealing, idle, room, if_neg enough]

/-- R124, R224, R282: the delay sample and the end of the pick leave the groups alone. -/
theorem State.placed_group (q since : Nat) (i : QItem) (G : Group) (h : Nat) :
    (((s.sampleDelay q since).setGroup g G).itemSent i).group h = (s.setGroup g G).group h := by
  obtain ⟨hs, sampled⟩ := s.sampleDelay_hists q since
  have sent : ∀ u : State, (u.itemSent i).group h = u.group h := fun u => by
    cases i with
    | pick p =>
      obtain ⟨ps, c, d, r, tb, ended⟩ := u.endPick_parts p 0
      rw [State.itemSent, ended]
      rfl
    | held f => rfl
    | spilled f m x o => rfl
  rw [sent, sampled]
  rfl

/-! ### Lane frames (R208 to R217) -/

theorem State.closeFrame_out (s : State) (g : Nat) : (s.closeFrame g).out = s.out := by
  unfold State.closeFrame
  dsimp only
  split <;> rfl

/-- R211: the lane frame goes on while a member that sends has not sent it. -/
theorem State.closeFrame_unsent {l : Nat} (hl : l < 32) (member : s.groupOf l = some g) (live : s.memberLive l = true)
    (unsent : l ∉ (s.group g).sent) : s.closeFrame g = s := by
  have lane : (s.reg .wovGrpLanes g).getLsbD l = true := List.find?_some (p := fun g => (s.reg .wovGrpLanes g).getLsbD l) member
  have sends : l ∈ s.liveMembers g := List.mem_filter.2 ⟨mem_dataMembers.2 ⟨hl, lane⟩, live⟩
  have waits : (s.liveMembers g).all (fun m => (s.group g).sent.contains m) = false :=
    List.all_eq_false.2 ⟨l, sends, by simpa using unsent⟩
  unfold State.closeFrame
  dsimp only
  rw [if_pos (by rw [waits, Bool.not_false, Bool.or_true])]

/-- R212, R217: opening a lane frame sends nothing, writes no register, and keeps the MFC and the map in force. -/
theorem State.opened_frame {u : State} (h : (if (s.group g).sent = [] then s.openFrame g else some s) = some u) :
    u.out = s.out ∧ u.regs = s.regs ∧ u.variant = s.variant ∧ (u.group g).mfc = (s.group g).mfc
      ∧ (u.group g).mapInForce = (s.group g).mapInForce := by
  split at h
  · unfold State.openFrame at h
    dsimp only at h
    split at h
    · cases h
      refine ⟨rfl, rfl, rfl, ?_, ?_⟩ <;> rw [State.group_setGroup]
    · split at h
      · cases h
      · cases h
        refine ⟨rfl, rfl, rfl, ?_, ?_⟩ <;> rw [State.group_setGroup]
  · cases h
    exact ⟨rfl, rfl, rfl, rfl, rfl⟩

/-- R217: a woven path's lane frame takes the next cloth bytes as its row. -/
theorem State.openFrame_row {u : State} (h : s.openFrame g = some u) (on : s.grpOn g = true) (woven : (s.group g).label = .woven) :
    (u.group g).rowBytes = (s.group g).cloth.take (frameBytes (dataMembers (s.group g).mapInForce).length) := by
  unfold State.openFrame at h
  simp only [on, woven, Bool.not_true, Bool.false_eq_true, if_false] at h
  split at h
  · cases h
  · next row =>
    split at row
    · cases row
    · cases h
      cases row
      rw [State.group_setGroup]

theorem Group.label_woven {G : Group} (ais : G.pais = false) (stop : G.seqStop = false) (sealing : G.sealing ≠ none) :
    G.label = .woven := by
  have some_ : G.sealing.isNone = false := Option.isNone_eq_false_iff.2 (Option.isSome_iff_ne_none.2 sealing)
  simp [Group.label, ais, stop, some_]

theorem State.memberFrame_out (s : State) (g m : Nat) : (s.memberFrame g m).2.2.out = s.out := by
  unfold State.memberFrame
  dsimp only
  split_ifs <;> rfl

/-- R209, R217: a data member's frame carries its words of the row. -/
theorem State.memberFrame_data {m k : Nat} (force : s.field .wovLaneTx m 0 2 = 0) (on : s.grpOn g = true)
    (data : s.binder g ≠ some m) (rank : (dataMembers (s.group g).mapInForce)[k]? = some m) :
    (s.memberFrame g m).1 = 0x10 ∧ (s.memberFrame g m).2.1
      = memberPayload (s.group g).rowBytes (dataMembers (s.group g).mapInForce).length k := by
  obtain ⟨hk, hm⟩ := List.getElem?_eq_some_iff.1 rank
  have has : (dataMembers (s.group g).mapInForce).contains m = true := List.contains_iff_mem.2 (hm ▸ List.getElem_mem hk)
  have index : (dataMembers (s.group g).mapInForce).idxOf m = k := by
    rw [← hm]
    exact (dataMembers_nodup _).idxOf_getElem k hk
  unfold State.memberFrame
  simp only [force, on, if_neg data, has, index, OfNat.zero_ne_ofNat, zero_ne_one, Bool.not_true, Bool.false_eq_true, if_false,
    if_true, and_self]

/-- The parts of a word of eight bytes: its first four, its fifth and sixth, and its last. -/
theorem beNat_parts (a b c d m n l x : Byte) : (BitVec.ofNat 64 (beNat [a, b, c, d, m, n, l, x])).toNat / 2 ^ 32
      = ((a.toNat * 256 + b.toNat) * 256 + c.toNat) * 256 + d.toNat
    ∧ (BitVec.ofNat 64 (beNat [a, b, c, d, m, n, l, x])).toNat / 2 ^ 16 % 2 ^ 16 = m.toNat * 256 + n.toNat
    ∧ (BitVec.ofNat 64 (beNat [a, b, c, d, m, n, l, x])).toNat % 256 = x.toNat := by
  simp only [beNat, List.foldl_cons, List.foldl_nil, BitVec.toNat_ofNat]
  have := a.isLt
  have := b.isLt
  have := c.isLt
  have := d.isLt
  have := m.isLt
  have := n.isLt
  have := l.isLt
  have := x.isLt
  omega

/-- R208: the frame alignment word, the MFC and the SSL stand in the first overhead word. -/
theorem State.overhead_word (s : State) (g m : Nat) (ssl : Byte) :
    (s.overhead g m ssl).1.toNat / 2 ^ 32 = 0xA65BE11C
      ∧ (s.overhead g m ssl).1.toNat / 2 ^ 16 % 2 ^ 16 = (s.group g).mfc % 2 ^ 16
      ∧ (s.overhead g m ssl).1.toNat % 256 = ssl.toNat := by
  have count : beBytes (s.group g).mfc 2
      = [BitVec.ofNat 8 ((s.group g).mfc / 256 % 256), BitVec.ofNat 8 ((s.group g).mfc % 256)] := rfl
  obtain ⟨faw, mfc, last⟩ := beNat_parts 0xA6 0x5B 0xE1 0x1C (BitVec.ofNat 8 ((s.group g).mfc / 256 % 256))
    (BitVec.ofNat 8 ((s.group g).mfc % 256)) (BitVec.ofNat 8 (m + if s.binder g = some m then 128 else 0)) ssl
  unfold State.overhead
  dsimp only
  rw [count]
  refine ⟨faw, mfc.trans ?_, last⟩
  rw [BitVec.toNat_ofNat, BitVec.toNat_ofNat]
  omega

/-- R208, R211: a member that has not sent the lane frame of MFC sends it once it is open. -/
theorem exec_laneFrameSend_sends {l : Nat} {u : State} (hl : l < 32) (member : s.groupOf l = some g)
    (live : s.memberLive l = true) (unsent : l ∉ (s.group g).sent) (map : (s.group g).mapDue = false) (key : (s.group g).keyDue = false)
    (opened : (if (s.group g).sent = [] then s.openFrame g else some s) = some u) :
    ∃ t, exec (.laneFrameSend l) s = .next t ∧ t.out = u.out ++ [.laneFrame l 1 (u.overhead g l (u.memberFrame g l).1).1
      (u.overhead g l (u.memberFrame g l).1).2 (u.memberFrame g l).2.1] := by
  have ready : ¬ (s.memberLive l = false ∨ (s.group g).sent.contains l = true
      ∨ s.grpOn g = true ∧ ((s.group g).mapDue = true ∨ (s.group g).keyDue = true ∧ (s.group g).label ≠ .uneq)) := by
    simp [live, unsent, map, key]
  simp only [exec, execLaneFrameSend, if_pos hl, member, State.closeFrame_unsent hl member live unsent, if_neg ready,
    List.isEmpty_iff, opened]
  refine ⟨_, rfl, ?_⟩
  rw [State.closeFrame_out]
  exact congrArg (· ++ _) (u.memberFrame_out g l)

/-! ### Keys (R147, R223, R231) -/

/-- R223, R231: another slot's key seals from its own next number. -/
theorem Group.sealWith_next {G : Group} {o n : Bool} (old : G.sealing = some o) (other : o ≠ n) :
    (G.sealWith (some n)).sealing = some n ∧ (G.sealWith (some n)).txSeq = (G.ck (if n then 1 else 0)).next
      ∧ (G.sealWith (some n)).cloth = G.cloth := by
  have apart : (if n then 1 else 0) ≠ (if o then 1 else 0) := by revert other; cases o <;> cases n <;> simp
  refine ⟨rfl, ?_, ?_⟩
  · simp only [Group.sealWith, old, Group.ck]
    rw [tget_tset_other _ _ _ _ apart]
  · simp only [Group.sealWith, old]

/-- R160, R231: at the change marker the KEYMARK is sealed under the old key and the new one starts. -/
theorem exec_keymarkSend_starts {b : Bool} (sealing : (s.group g).sealing = some b) (on : s.grpOn g = true)
    (key : (s.group g).keyDue = true) (map : (s.group g).mapDue = false) (ais : (s.group g).pais = false)
    (stop : (s.group g).seqStop = false) (masks : 16384 < (s.group g).maskBlocks)
    (young : s.tb.elapsed < (s.group g).maskAt + 100000) :
    exec (.keymarkSend g) s = .next (s.setGroup g { ((s.group g).place
        (hdrContent 3 ((s.group g).ck (if (s.group g).ckSlot then 1 else 0)).kn.toNat 0 0 0) []
        ((s.group g).ck (if b then 1 else 0)) 16).sealWith (some (s.group g).ckSlot) with
      txKn := ((s.group g).ck (if (s.group g).ckSlot then 1 else 0)).kn, ckDone := true, announced := 0 }) := by
  have goes : ¬ (s.grpOn g = false ∨ (s.group g).keyDue = false ∨ (s.group g).mapDue = true
      ∨ (s.group g).maskBlocks < sealBlocks 16) := by
    have enough : ¬ (s.group g).maskBlocks < sealBlocks 16 := by unfold sealBlocks; omega
    simp [on, key, map, enough]
  rw [exec, execKeymarkSend]
  simp only [key, if_true, s.seedSealer_quiet masks young, sealing]
  rw [if_neg (by simpa [key] using goes)]
  simp only [ais, stop, Bool.or_self, Bool.false_eq_true, if_false]
  rfl

/-- R147, R238: a write of SLOT announces a valid slot's key when no change is in progress, and is rejected otherwise. -/
theorem State.ckTxWrite_eq (s : State) (g : Nat) (v : Word) : s.ckTxWrite g v
    = if ((s.group g).ck (if v.getLsbD 0 then 1 else 0)).valid = true ∧ (s.group g).ckDone = true then
        s.setGroup g (if (s.group g).sealing = some (v.getLsbD 0) then { s.group g with ckSlot := v.getLsbD 0 }
          else { s.group g with ckSlot := v.getLsbD 0, ckDone := !s.grpOn g, announced := 0 })
      else s.setRegBit .wovStat 0 := by
  unfold State.ckTxWrite
  simp only [Bool.or_eq_true, Bool.not_eq_true', ← Bool.not_eq_true, ← not_and_or]
  split_ifs <;> simp_all [State.wovReject]

/-! ### Maps (R232) -/

theorem State.txMapWrite_changes {v : Word} {m : Nat} (on : s.grpOn g = true) (diff : dataMembers ((s.group g).map ^^^ v) = [m])
    (idle : (s.group g).change = none) (data : s.binder g ≠ some m) (lane : (s.reg .wovGrpLanes g).getLsbD m = true)
    (some_ : v ≠ 0) : s.txMapWrite g v = s.setGroup g { s.group g with
      map := v
      change := some { add := v.getLsbD m, member := m, armed := false, announced := false, auto := false } } := by
  have allowed : ¬ ((s.group g).change.isSome = true ∨ s.binder g = some m ∨ (s.reg .wovGrpLanes g).getLsbD m = false
      ∨ v = 0) := by
    rw [idle, lane]
    rintro (h | h | h | h)
    · cases h
    · exact data h
    · cases h
    · exact some_ h
  simp only [State.txMapWrite, mapDiff, on, diff, Bool.not_true, Bool.false_eq_true, if_false, if_neg allowed]

theorem exec_memberAnnounce_announces {c : MemberChange} (change : (s.group g).change = some c) (on : s.grpOn g = true)
    (armed : c.armed = true) (fresh : c.announced = false) (place : (s.group g).mfc % 16 = 8) (first : (s.group g).sent = []) :
    exec (.memberAnnounce g) s = .next (s.setGroup g { s.group g with change := some { c with announced := true } }) := by
  rw [exec, execMemberAnnounce]
  simp only [change]
  rw [if_pos ⟨on, armed, fresh, place, first⟩]

/-- R232: at the marker the announced map is in force. -/
theorem exec_mapTakeEffect_takes {c : MemberChange} (change : (s.group g).change = some c) (on : s.grpOn g = true)
    (announced : c.announced = true) (marker : (s.group g).mfc % 16 = 0) (first : (s.group g).sent = []) :
    ∃ t, exec (.mapTakeEffect g) s = .next t ∧ ∀ h, t.group h = (s.setGroup g { s.group g with
      mapInForce := if c.add then (s.group g).mapInForce ||| put 1 c.member else (s.group g).mapInForce &&& ~~~put 1 c.member
      map := if c.auto then
          if c.add then (s.group g).mapInForce ||| put 1 c.member else (s.group g).mapInForce &&& ~~~put 1 c.member
        else (s.group g).map
      change := none }).group h := by
  have due : (s.group g).mapDue = true := by simp [Group.mapDue, Group.atMarker, marker, first, change, announced]
  rw [exec, execMapTakeEffect]
  simp only [change]
  rw [if_neg (by simp [on, due])]
  refine ⟨_, rfl, fun h => ?_⟩
  split
  · rw [State.event_group]
  · rfl

/-! ### Groups enabled and disabled (R234) -/

theorem State.settlePath_settled (h : (s.group g).due = none) : s.settlePath g = s := by
  unfold State.settlePath
  simp only [h]

theorem State.hasSource_setGroup (s : State) (g : Nat) (G : Group) (v : Word) :
    ((s.setReg .wovGrpCfg g 0 v).setGroup g G).hasSource g = s.hasSource g := by
  have apart : RegId.wovGrpLanes.offset g 0 ≠ RegId.wovGrpCfg.offset g 0 := by
    show 0xC0_0004 + 0x1000 * g ≠ 0xC0_0000 + 0x1000 * g
    omega
  have lanes : ((s.setReg .wovGrpCfg g 0 v).setGroup g G).lanesOf g = s.lanesOf g := by
    rw [State.lanesOf, State.reg_setGroup, State.reg_setReg_other _ _ apart, State.lanesOf]
  rw [State.hasSource, lanes]
  rfl

section
variable {v : Word} {off : Nat} (due : (s.group g).due = none) (binder : s.variant = .tv16e → v.getLsbD 1 = false)
include due binder

theorem State.grpCfgWrite_enables (off_ : (s.reg .wovGrpCfg g).getLsbD 0 = false) (on : v.getLsbD 0 = true)
    (ok : s.enableBad g v = false) :
    s.grpCfgWrite g off v = (s.setReg .wovGrpCfg g 0 v).setGroup g (s.group g).enable := by
  have alone : ¬ (s.variant = .tv16e ∧ v.getLsbD 1 = true) := fun ⟨e, h⟩ =>
    absurd ((binder e).symm.trans h) (by decide)
  unfold State.grpCfgWrite
  simp only [if_neg alone, off_, on, ok, State.settlePath_settled due, Bool.false_and, Bool.and_false, Bool.false_eq_true, if_false,
    Bool.not_false, Bool.and_self, if_true, beq_iff_eq, State.group_setReg, ite_self]

theorem State.grpCfgWrite_disables (on : (s.reg .wovGrpCfg g).getLsbD 0 = true) (hv : v = s.reg .wovGrpCfg g &&& ~~~1) :
    s.grpCfgWrite g off v = (s.setReg .wovGrpCfg g 0 v).setGroup g (s.group g).disable := by
  have alone : ¬ (s.variant = .tv16e ∧ v.getLsbD 1 = true) := fun ⟨e, h⟩ =>
    absurd ((binder e).symm.trans h) (by decide)
  have off_ : v.getLsbD 0 = false := by rw [hv]; simp
  have only : (s.reg .wovGrpCfg g ^^^ v) &&& ~~~(0x81 : Word) = 0 := by
    rw [hv]
    generalize s.reg .wovGrpCfg g = w
    have one : w ^^^ (w &&& ~~~1) = w &&& 1 := by
      ext i
      simp only [BitVec.getElem_xor, BitVec.getElem_and, BitVec.getElem_not]
      cases w[i] <;> simp
    rw [one, BitVec.and_assoc]
    exact BitVec.and_zero
  unfold State.grpCfgWrite
  simp only [if_neg alone, off_, on, only, State.settlePath_settled due, bne_self_eq_false, Bool.false_and, Bool.and_false,
    Bool.false_eq_true, if_false, Bool.not_true, Bool.not_false, Bool.and_self, if_true, State.group_setReg, ite_self]

/-- R234, R252, R253: a group just enabled has path signal fail or no defect, and without a source it has it. -/
theorem State.grpWrite_enables (hg : g < 8) (off_ : (s.reg .wovGrpCfg g).getLsbD 0 = false) (on : v.getLsbD 0 = true)
    (ok : s.enableBad g v = false) : ∃ d, (d = 0 ∨ d = 0x20) ∧ (s.hasSource g = false → d = 0x20)
      ∧ (s.grpWrite g off v).reg .wovGrpCfg g = v
      ∧ ∀ h, (s.grpWrite g off v).group h = (s.setGroup g { (s.group g).enable with dfc := d, rxNear := d != 0 }).group h := by
  obtain ⟨t, ht⟩ : ∃ t, t = (s.setReg .wovGrpCfg g 0 v).setGroup g (s.group g).enable := ⟨_, rfl⟩
  have cfg : t.reg .wovGrpCfg g = v := by rw [ht, State.reg_setGroup, State.reg_setReg]
  have tOn : t.grpOn g = true := by rw [State.grpOn, cfg, on]
  have written : s.grpWrite g off v = t.setGrpDef g (if t.pathFail g then 0x20 else 0) := by
    have sOff : s.grpOn g = false := off_
    unfold State.grpWrite
    dsimp only
    rw [State.grpCfgWrite_enables due binder off_ on ok, ← ht, if_neg (by simp [tOn, sOff]), if_pos tOn]
  refine ⟨if t.pathFail g then 0x20 else 0, ?_, fun dark => ?_, ?_, fun h => ?_⟩
  · split
    · exact .inr rfl
    · exact .inl rfl
  · have lost : t.hasSource g = false := by rw [ht, State.hasSource_setGroup]; exact dark
    rw [if_pos (by simp [State.pathFail, tOn, lost])]
  · rw [written, State.setGrpDef_grpCfg _ _ hg, cfg]
  · rw [written, State.setGrpDef_group]
    have own : t.group g = (s.group g).enable := by rw [ht, State.group_setGroup]
    by_cases hh : h = g
    · subst hh
      rw [State.group_setGroup, State.group_setGroup, own]
      split <;> rfl
    · rw [State.group_setGroup_other _ _ hh, State.group_setGroup_other _ _ hh, ht, State.group_setGroup_other _ _ hh]
      rfl

theorem State.grpWrite_disables (hg : g < 8) (on : (s.reg .wovGrpCfg g).getLsbD 0 = true)
    (hv : v = s.reg .wovGrpCfg g &&& ~~~1) : (s.grpWrite g off v).reg .wovGrpCfg g = v
      ∧ ∀ h, (s.grpWrite g off v).group h = (s.setGroup g { (s.group g).disable with dfc := 0 }).group h := by
  obtain ⟨t, ht⟩ : ∃ t, t = (s.setReg .wovGrpCfg g 0 v).setGroup g (s.group g).disable := ⟨_, rfl⟩
  have cfg : t.reg .wovGrpCfg g = v := by rw [ht, State.reg_setGroup, State.reg_setReg]
  have tOff : t.grpOn g = false := by rw [State.grpOn, cfg, hv]; simp
  obtain ⟨lanes, b, recorded⟩ := (t.setGrpDef g 0).memberRecords_frame g (s.lanesOf g)
  have written : s.grpWrite g off v
      = { t.setGrpDef g 0 with wov := { (t.setGrpDef g 0).wov with lanes := lanes }, bbx := b } := by
    have sOn : s.grpOn g = true := on
    rw [← recorded]
    unfold State.grpWrite
    dsimp only
    rw [State.grpCfgWrite_disables due binder on hv, ← ht, if_neg (by simp [tOff, sOn]), if_neg (by simp [tOff])]
  refine ⟨?_, fun h => ?_⟩
  · rw [written]
    exact (t.setGrpDef_grpCfg 0 hg).trans cfg
  · rw [written]
    refine (t.setGrpDef_group g h 0).trans ?_
    have own : t.group g = (s.group g).disable := by rw [ht, State.group_setGroup]
    by_cases hh : h = g
    · subst hh
      rw [State.group_setGroup, State.group_setGroup, own]
      simp [Group.withDef]
    · rw [State.group_setGroup_other _ _ hh, State.group_setGroup_other _ _ hh, ht, State.group_setGroup_other _ _ hh]
      rfl

end

/-! ### The obligation -/

/-- Settles O48: each command by the equation of its success; a lane frame's payload is fixed by what opened it. -/
theorem wovenSend : Obligations.WovenSend := by
  rintro s g _ rfl
  refine ⟨?items, ?frames, ?slot, ?keymark, ?map, ?change, ?enable, ?kat⟩
  case items =>
    rintro b _ r fill open_ sealing masks young rfl hr
    refine ⟨?_, fun i assoc kn pn frame free ready fits accepted gap last => ?_⟩
    · rintro _ none_ rfl
      rw [exec_clothItemSend_open open_, State.placeItem_fill sealing masks young hr none_]
    · have placed := State.placeItem_ready s (n := fill) rfl ready sealing free masks young fits accepted r (by omega) gap last
      refine ⟨_, (exec_clothItemSend_open open_).trans (congrArg _ placed), ?_, ?_, ?_, ?_, fun h other => ?_⟩
      · rw [State.placed_group, State.group_setGroup]; rfl
      · rw [State.placed_group, State.group_setGroup]; rfl
      · rw [State.placed_group, State.group_setGroup]; rfl
      · rw [State.placed_group, State.group_setGroup]; rfl
      · rw [State.placed_group, State.group_setGroup_other _ _ other]
  case frames =>
    intro l u hl member live unsent on map key opened force
    obtain ⟨out, regs, variant, mfc, inForce⟩ := State.opened_frame opened
    obtain ⟨t, sends, sent⟩ := exec_laneFrameSend_sends hl member live unsent map key opened
    obtain ⟨faw, count, ssl⟩ := u.overhead_word g l (u.memberFrame g l).1
    have reads : ∀ (id : RegId) (i j : Nat), u.reg id i j = s.reg id i j := fun id i j => by
      rw [State.reg, regs, variant, State.reg]
    refine ⟨t, _, _, _, sends, by rw [sent, out], faw, by rw [count, mfc], fun k data rank => ?_,
      fun first ais stop sealing => ?_⟩
    · obtain ⟨code, payload⟩ := State.memberFrame_data (s := u) (k := k) (by rw [State.field, reads]; exact force)
        (by rw [State.grpOn, reads]; exact on) (by simpa only [State.binder, State.field, reads] using data)
        (by rw [inForce]; exact rank)
      exact ⟨by rw [ssl, code]; rfl, by rw [payload, inForce]⟩
    · rw [if_pos first] at opened
      exact State.openFrame_row opened on (Group.label_woven ais stop sealing)
  case slot =>
    rintro v _ hg hr hl small rfl
    rw [exec_wovCkTxSlotWrite hg hr hl small, State.ckTxWrite_eq]
    refine ⟨fun valid done => by rw [if_pos ⟨valid, done⟩], fun refused => congrArg _ (if_neg ?_)⟩
    rintro ⟨valid, done⟩
    exact refused.elim (fun x => absurd (x.symm.trans valid) (by decide)) (fun x => absurd (x.symm.trans done) (by decide))
  case keymark =>
    rintro b _ sealing on key map ais stop other masks young rfl
    refine ⟨_, exec_keymarkSend_starts sealing on key map ais stop masks young, ?_⟩
    obtain ⟨seals, next, cloth⟩ := Group.sealWith_next (G := (s.group g).place
      (hdrContent 3 ((s.group g).ck (if (s.group g).ckSlot then 1 else 0)).kn.toNat 0 0 0) []
      ((s.group g).ck (if b then 1 else 0)) 16) (n := (s.group g).ckSlot) sealing other
    rw [State.group_setGroup]
    exact ⟨cloth.trans (List.append_nil _), seals, next, rfl, rfl, rfl⟩
  case map =>
    intro v hg hr hl here
    rw [exec_wovTxMapWrite hg hr hl here]
    refine ⟨fun off => by simp [State.txMapWrite, off], ?_⟩
    rintro m _ on diff rfl idle data lane some_
    rw [State.txMapWrite_changes on diff idle data lane some_]
  case change =>
    intro c change on
    refine ⟨fun armed fresh place first => exec_memberAnnounce_announces change on armed fresh place first, ?_⟩
    rintro _ announced marker first rfl
    obtain ⟨t, takes, groups⟩ := exec_mapTakeEffect_takes change on announced marker first
    refine ⟨t, takes, ?_, fun h other => ?_⟩
    · rw [groups, State.group_setGroup]
    · rw [groups, State.group_setGroup_other _ _ other]
  case enable =>
    rintro v _ hg hr hl due small rfl here
    rw [exec_wovGrpCfgWrite hg hr hl small (here.imp_right And.right)]
    have binder : s.variant = .tv16e → v.getLsbD 1 = false := fun e => (here.resolve_left (not_not.2 e)).1
    refine ⟨fun off on ok => ?_, fun on hv => ?_⟩
    · obtain ⟨d, two, dark, cfg, groups⟩ := State.grpWrite_enables (off := 0xC0_0000 + 0x1000 * g) due binder hg off on ok
      refine ⟨_, d, rfl, cfg, ?_, two, dark, fun h other => ?_⟩
      · rw [groups, State.group_setGroup]
      · rw [groups, State.group_setGroup_other _ _ other]
    · obtain ⟨cfg, groups⟩ := State.grpWrite_disables (off := 0xC0_0000 + 0x1000 * g) due binder hg on hv
      refine ⟨_, rfl, cfg, ?_, fun h other => ?_⟩
      · rw [groups, State.group_setGroup]
      · rw [groups, State.group_setGroup_other _ _ other]
  case kat =>
    intro hg untested
    rw [exec, execHeaderSealerKatFail, if_neg (by simp [Nat.not_le.2 hg, untested])]

end Sys2Proof.Machine
end

section
/-! The four moves of jobs on engines (R163 to R170), for O27. -/

namespace Sys2Proof.Machine

variable {s : State} {e : Nat} {j : Job}

/-! ### The jobs and the engine that R163 and R164 choose -/

/-- R163: the job to start next is one of the jobs, and may start. -/
theorem State.nextJob_ready (next : s.nextJob = some j) : j ∈ s.cie.jobs ∧ s.jobReady j = true := by
  refine List.mem_filter.1 (List.foldlRecOn (motive := fun best : Option Job => ∀ i ∈ best, i ∈ s.cie.jobs.filter s.jobReady)
    _ _ (by simp) ?_ j next)
  intro best kept x hx i hi
  cases best with
  | none => exact Option.some.inj hi ▸ hx
  | some b =>
    dsimp only at hi
    split at hi
    · exact Option.some.inj hi ▸ hx
    · exact kept i hi

/-- R163: it waits in its queue. -/
theorem State.nextJob_queued (next : s.nextJob = some j) : j.st = .queued := by
  have ready := (State.nextJob_ready next).2
  simp only [State.jobReady, Bool.and_eq_true, beq_iff_eq] at ready
  exact ready.1.1

theorem State.jobOn_runs (runs : s.jobOn e = some j) : j ∈ s.cie.jobs ∧ j.st = .running e :=
  ⟨List.mem_of_find?_eq_some runs, by simpa using List.find?_some runs⟩

/-- R164: an engine whose job is preempted runs one. -/
theorem State.victimFor_runs {level : Nat} (victim : s.victimFor level = some e) : ∃ v, s.jobOn e = some v := by
  refine List.foldlRecOn (motive := fun best : Option Nat => ∀ x ∈ best, ∃ v, s.jobOn x = some v) _ _ (by simp) ?_ e victim
  intro best kept x _ y hy
  dsimp only at hy
  split at hy
  · exact kept y hy
  next l runs =>
    have runs : ∃ v, s.jobOn x = some v := by
      obtain ⟨v, hv, -⟩ := Option.map_eq_some_iff.1 runs
      exact ⟨v, (Option.filter_eq_some_iff.1 hv).1⟩
    split at hy
    · exact kept y hy
    · split at hy
      · exact Option.some.inj hy ▸ runs
      · split at hy
        · exact Option.some.inj hy ▸ runs
        · exact kept y hy

/-- Where names are distinct, jobs in different states have different ones. -/
theorem Job.id_ne_of_st_ne {jobs : List Job} {x y : Job} (names : jobs.Pairwise (fun x y => x.id ≠ y.id))
    (hx : x ∈ jobs) (hy : y ∈ jobs) (st : x.st ≠ y.st) : x.id ≠ y.id :=
  have : Std.Symm (fun x y : Job => x.id ≠ y.id) := ⟨fun _ _ differ => differ.symm⟩
  names.forall hx hy (fun same => st (congrArg Job.st same))

/-! ### A job's new form (R163 to R165) -/

/-- A new form stands in the place of the job with its name. -/
theorem State.mem_setJob (here : ∃ x ∈ s.cie.jobs, x.id = j.id) : j ∈ (s.setJob j).cie.jobs := by
  obtain ⟨x, hx, same⟩ := here
  exact List.mem_map.2 ⟨x, hx, if_pos same⟩

/-- Every other job stays. -/
theorem State.mem_setJob_other {x : Job} (here : x ∈ s.cie.jobs) (other : x.id ≠ j.id) : x ∈ (s.setJob j).cie.jobs :=
  List.mem_map.2 ⟨x, here, if_neg other⟩

@[simp] theorem State.pair_setJob (s : State) (j : Job) (p : Nat) : (s.setJob j).pair p = s.pair p := rfl

/-- R161: a resumed job is changed in its state alone. -/
theorem mem_resumeOn {jobs : List Job} {x : Job} (h : x ∈ resumeOn e jobs) : ∃ y ∈ jobs, x = { y with st := x.st } := by
  unfold resumeOn at h
  dsimp only at h
  split at h
  · exact ⟨x, h, rfl⟩
  · split at h
    · exact ⟨x, h, rfl⟩
    · obtain ⟨y, hy, rfl⟩ := List.mem_map.1 h
      refine ⟨y, hy, ?_⟩
      split <;> rfl

/-! ### A job that starts on an engine (R164, R166, R171) -/

/-- R166: the key context used last comes first. -/
theorem touchCtx_head? (ctx named : List CtxKey) (k : CtxKey) : (touchCtx ctx named k).head? = some k := by
  unfold touchCtx
  split
  · rfl
  · split
    · rfl
    · split <;> rfl

/-- R166, R169: a key context brought in changes the pair, the DRBG's counts and the counters, through their ends the rings. -/
theorem State.loadCtx_parts (s : State) (e : Nat) (j : Job) : ∃ ev h o ps d r, s.loadCtx e j
      = { s with evc := ev, hif := h, out := o, cie := { s.cie with pairs := ps }
                 kcu := { s.kcu with draws := d, requests := r } } := by
  have counted : ∃ ev h o, (if (s.pair (e / 2)).ctx.contains j.ctx then s else s.occur .ctxMiss e)
      = { s with evc := ev, hif := h, out := o } := by
    split
    · exact ⟨_, _, _, rfl⟩
    · exact s.occur_parts _ _ _
  obtain ⟨ev, h, o, hu⟩ := counted
  unfold State.loadCtx
  dsimp only
  rw [hu]
  split
  · exact ⟨ev, h, o, _, _, _, rfl⟩
  · obtain ⟨ps, d, r, masked⟩ := State.takeMask_pairs { s with evc := ev, hif := h, out := o } (e / 2) 1
    rw [masked]
    exact ⟨ev, h, o, _, d, r, rfl⟩

theorem State.loadCtx_head? (s : State) (e : Nat) (j : Job) :
    ((s.loadCtx e j).pair (e / 2)).ctx.head? = some j.ctx := by
  unfold State.loadCtx
  dsimp only
  rw [State.pair_setPair]
  exact touchCtx_head? _ _ _

/-- R181: a device IV drawn changes the DRBG's counts and the job's IV. -/
theorem State.drawIv_parts (s : State) (j : Job) : ∃ d r iv, s.drawIv j
    = ({ s with kcu := { s.kcu with draws := d, requests := r } }, { j with iv := iv }) := by
  unfold State.drawIv
  split <;> exact ⟨_, _, _, rfl⟩

/-- R164, R166, R171: what a start on engine e leaves: the job runs, under the profile of its pair and with its key context
first in the pair's store; the other jobs stay, and so does all that is not the engines'. -/
theorem State.startJob_starts (here : ∃ x ∈ s.cie.jobs, x.id = j.id) :
    (∃ iv, { j with iv := iv, st := .running e, startedAt := s.tb.elapsed, constant := s.profileOf (e / 2) }
        ∈ (s.startJob e j).cie.jobs)
      ∧ (∀ x ∈ s.cie.jobs, x.id ≠ j.id → x ∈ (s.startJob e j).cie.jobs)
      ∧ ((s.startJob e j).pair (e / 2)).ctx.head? = some j.ctx
      ∧ (s.startJob e j).beam = s.beam ∧ (s.startJob e j).tab = s.tab ∧ (s.startJob e j).sch = s.sch := by
  have first := s.loadCtx_head? e j
  obtain ⟨_, _, _, _, _, _, load⟩ := s.loadCtx_parts e j
  obtain ⟨_, _, iv, draw⟩ := State.drawIv_parts (s.loadCtx e j) j
  unfold State.startJob
  dsimp only
  rw [draw]
  rw [load] at first ⊢
  exact ⟨⟨iv, State.mem_setJob here⟩, fun x hx other => State.mem_setJob_other hx other, first, rfl, rfl, rfl⟩

/-- R164: the next job goes to an idle engine. -/
theorem exec_engineJobStart_idle (ready : s.kcu.drbg = 2) (next : s.nextJob = some j) (idle : s.idleFor j = some e) :
    exec .engineJobStart s = .next (s.startJob e j) := by
  simp [exec, execEngineJobStart, State.cieHold, ready, next, idle]

/-- R164, R165: where none is idle it preempts a job, which runs on to its block boundary. -/
theorem exec_engineJobStart_preempts {v : Job} (ready : s.kcu.drbg = 2) (next : s.nextJob = some j)
    (busy : s.idleFor j = none) (victim : s.victimFor j.level = some e) (runs : s.jobOn e = some v) :
    exec .engineJobStart s = .next (((s.setJob { v with st := .doomed e }).occur .preempt e).startJob e j) := by
  simp [exec, execEngineJobStart, State.cieHold, ready, next, busy, victim, runs]

/-! ### A job that completes, and one that stalled (R161, R170) -/

theorem State.takeMask_enough {p n : Nat} (enough : n ≤ (s.pair p).blocks) :
    s.takeMask p n = (s.setPair p { s.pair p with blocks := (s.pair p).blocks - n }, 0) := if_pos enough

/-- R161: a finished job of a pick leaves its output and verdict in the pick's cipher operation. -/
theorem State.jobResult_pick {p : Nat} {k : Pick} {c : Cipher} (owner : j.pick = some p) (pick : s.pick p = some k)
    (cipher : k.cipher = some c) : s.jobResult j = s.setPick p { k with cipher := some { c with
      phase := .engineDone, result := some (if c.isOpen then c.opened k.frame else (true, c.sealed k.frame)) } } := by
  simp only [State.jobResult, owner, pick, cipher]

/-- R161, R165: a running job completes where its expander has the masks it needs and no preempted job is still being stopped
on its engine; that engine resumes a suspended one. -/
theorem exec_engineJobComplete {need : Nat} (runs : s.jobOn e = some j) (goes : j.stalled = false)
    (alone : s.cie.jobs.any (fun x => x.st == .doomed e) = false)
    (cost : need = if j.constant then 0 else s.jobBlocks j - j.paid) (enough : need ≤ (s.pair (e / 2)).blocks) :
    exec (.engineJobComplete e) s = .next (State.jobResult { s with cie := { s.cie with
      jobs := resumeOn e (s.cie.jobs.filter (fun x => x.id != j.id))
      pairs := (s.setPair (e / 2) { s.pair (e / 2) with blocks := (s.pair (e / 2)).blocks - need }).cie.pairs } } j) := by
  rw [exec, execEngineJobComplete, runs]
  dsimp only
  rw [if_neg (by simp [goes, alone]), ← cost, State.takeMask_enough enough]
  rfl

/-- R170: a stalled job goes on under a seed drawn for its expander. -/
theorem exec_maskStallEnd (runs : s.jobOn e = some j) (stalled : j.stalled = true) (ready : s.kcu.drbg = 2) :
    exec (.maskStallEnd e) s = .next ((s.draw.2.setPair (e / 2) { s.pair (e / 2) with
      blocks := (s.pair (e / 2)).blocks + 65536, seededAt := s.tb.elapsed }).setJob { j with stalled := false }) := by
  rw [exec, execMaskStallEnd, runs]
  dsimp only
  rw [if_neg (by simp [stalled, State.cieHold, ready])]
  rfl

/-- Settles O27: a start (`State.startJob_starts`) on an idle engine or behind the job it preempts, then the commands of the
other moves. -/
theorem engineJobs : Obligations.EngineJobs := by
  unfold Obligations.EngineJobs
  intro s e j names
  refine ⟨?start, rfl, ?complete, ?stall⟩
  case start =>
    intro ready next place
    have here := (State.nextJob_ready next).1
    rcases place with idle | ⟨busy, victim⟩
    · obtain ⟨⟨iv, runs⟩, -, first, beam, tab, sch⟩ := State.startJob_starts (e := e) ⟨j, here, rfl⟩
      exact ⟨_, _, exec_engineJobStart_idle ready next idle, runs, rfl, rfl, rfl, rfl, rfl,
        fun v busy => absurd (idle.symm.trans busy) (by simp), first, beam, tab, sch⟩
    · obtain ⟨v, on⟩ := State.victimFor_runs victim
      obtain ⟨hv, vst⟩ := State.jobOn_runs on
      have other : j.id ≠ v.id := Job.id_ne_of_st_ne names here hv (by simp [State.nextJob_queued next, vst])
      have starts := exec_engineJobStart_preempts ready next busy victim on
      obtain ⟨ev, hif, out, report⟩ := (s.setJob { v with st := .doomed e }).occur_parts .preempt e 1
      rw [report] at starts
      obtain ⟨⟨iv, runs⟩, stay, first, beam, tab, sch⟩ := State.startJob_starts (e := e) (j := j)
        (s := { s.setJob { v with st := .doomed e } with evc := ev, hif := hif, out := out })
        ⟨j, State.mem_setJob_other here other, rfl⟩
      refine ⟨_, _, starts, runs, rfl, rfl, rfl, rfl, rfl, fun u _ hu => ?_, first, beam, tab, sch⟩
      obtain rfl := Option.some.inj (on.symm.trans hu)
      exact ⟨_, stay { v with st := .doomed e } (State.mem_setJob ⟨v, hv, rfl⟩) other.symm, rfl, rfl⟩
  case complete =>
    intro p k c runs goes alone enough owner pick cipher
    refine ⟨_, _, (exec_engineJobComplete runs goes alone rfl ?_).trans
      (congrArg _ (State.jobResult_pick owner (by exact pick) cipher)), rfl, State.pick_setPick _ _ _, fun x hx => ?_, rfl⟩
    · rcases enough with constant | masks
      · simp [constant]
      · split
        · exact Nat.zero_le _
        · exact masks
    · obtain ⟨y, hy, same⟩ := mem_resumeOn hx
      rw [same]
      simpa using (List.mem_filter.1 hy).2
  case stall =>
    intro runs stalled ready
    refine ⟨_, exec_maskStallEnd runs stalled ready, rfl, ?_, ?_, rfl, rfl⟩ <;>
      rw [State.pair_setJob, State.pair_setPair]

end Sys2Proof.Machine
end

section
/-! SUPPORT. What the evaluation of line defects and the counting of blocks (R245 to R264) leave as they were, for O50. -/

namespace Sys2Proof.Machine

/-- R249 to R264: t is s after line maintenance, which reaches lanes, groups, performance entities, the registers of the LMT block,
reports and records alone. -/
structure State.Maintained (s t : State) : Prop where
  parts : ∃ rg ls gs es e b h o, t = { s with
    regs := rg, wov := { lanes := ls, groups := gs, lmt := { s.wov.lmt with ents := es } }
    evc := e, bbx := b, hif := h, out := o }
  regs : ∀ d a, a < 0xC8_0000 → tget d t.regs a = tget d s.regs a

/-- The part of a lane that only its detectors, its PCS and the words that it receives change. -/
def Lane.core (l : Lane) : Lane :=
  { l with
    dfc := 0, runs := [], lolAt := 0, mfcMiss := 0, mfcRise := 0, faulted := false, sreiOwed := 0, lastErased := none }

/-- R249 to R264: t is s after an evaluation, which leaves the core of every lane. -/
structure State.Evaluated (s t : State) : Prop extends s.Maintained t where
  lanes : ∀ l, (t.lane l).core = (s.lane l).core

variable {s t u : State}

theorem State.Maintained.refl (s : State) : s.Maintained s := ⟨⟨_, _, _, _, _, _, _, _, rfl⟩, fun _ _ _ => rfl⟩

theorem State.Maintained.trans (h : s.Maintained t) (h' : t.Maintained u) : s.Maintained u := by
  refine ⟨?_, fun d a ha => (h'.regs d a ha).trans (h.regs d a ha)⟩
  obtain ⟨_, _, _, _, _, _, _, _, rfl⟩ := h.parts
  obtain ⟨_, _, _, _, _, _, _, _, rfl⟩ := h'.parts
  exact ⟨_, _, _, _, _, _, _, _, rfl⟩

theorem State.Evaluated.refl (s : State) : s.Evaluated s := ⟨.refl s, fun _ => rfl⟩

theorem State.Evaluated.trans (h : s.Evaluated t) (h' : t.Evaluated u) : s.Evaluated u :=
  ⟨h.toMaintained.trans h'.toMaintained, fun l => (h'.lanes l).trans (h.lanes l)⟩

/-! ### What maintenance leaves -/

namespace State.Maintained

variable (h : s.Maintained t)
include h

theorem variant : t.variant = s.variant := by obtain ⟨_, _, _, _, _, _, _, _, rfl⟩ := h.parts; rfl

theorem port (p : Nat) : t.port p = s.port p := by obtain ⟨_, _, _, _, _, _, _, _, rfl⟩ := h.parts; rfl

/-- R514: the registers below the LMT block. -/
theorem reg {id : RegId} {i j : Nat} (below : id.offset i j < 0xC8_0000) : t.reg id i j = s.reg id i j := by
  rw [State.reg, State.reg, h.variant]
  exact h.regs _ _ below

end State.Maintained

/-! ### Single updates -/

theorem State.Maintained.setLane (s : State) (l : Nat) (L : Lane) : s.Maintained (s.setLane l L) :=
  ⟨⟨_, _, _, _, _, _, _, _, rfl⟩, fun _ _ _ => rfl⟩

theorem State.Evaluated.setLane {l : Nat} {L : Lane} (same : L.core = (s.lane l).core) : s.Evaluated (s.setLane l L) := by
  refine ⟨.setLane s l L, fun k => ?_⟩
  by_cases hk : k = l
  · rw [hk, State.lane_setLane, same]
  · rw [State.lane_setLane_other s L hk]

/-- Whatever keeps lanes and registers is an evaluation. -/
theorem State.Evaluated.of_lanes {gs : Tbl Group} {es : Tbl Entity} {e : Evc} {b : Bbx} {h : Hif} {o : List Out}
    (eq : t = { s with
      wov := { s.wov with groups := gs, lmt := { s.wov.lmt with ents := es } }, evc := e, bbx := b, hif := h, out := o }) :
    s.Evaluated t := by
  subst eq
  exact ⟨⟨⟨_, _, _, _, _, _, _, _, rfl⟩, fun _ _ _ => rfl⟩, fun _ => rfl⟩

theorem State.Evaluated.setGroup (s : State) (g : Nat) (G : Group) : s.Evaluated (s.setGroup g G) := .of_lanes rfl

theorem State.Evaluated.setEnt (s : State) (k : Nat) (e : Entity) : s.Evaluated (s.setEnt k e) := .of_lanes rfl

theorem State.Evaluated.setReg (s : State) {id : RegId} {i : Nat} (w : Word) (lmt : 0xC8_0000 ≤ id.offset i 0) :
    s.Evaluated (s.setReg id i 0 w) := by
  refine ⟨⟨⟨_, _, _, _, _, _, _, _, rfl⟩, fun d a ha => ?_⟩, fun _ => rfl⟩
  exact tget_tset_other _ _ _ _ (by omega)

theorem State.Evaluated.event (s : State) (d : Nat) (u : EvUnit) (c w0 w1 w2 w3 : Nat) :
    s.Evaluated (s.event d u c w0 w1 w2 w3) := by
  obtain ⟨_, _, sent⟩ := s.event_parts d u c w0 w1 w2 w3
  exact .of_lanes sent

theorem State.Evaluated.faultRec (s : State) (back : Bool) (u : EvUnit) (k i c : Nat) :
    s.Evaluated (s.faultRec back u k i c) := by
  obtain ⟨_, recorded⟩ := s.faultRec_parts back u k i c
  exact .of_lanes recorded

/-! ### Blocks and seconds (R255 to R257) -/

variable (s)

theorem State.block_evaluated (k sec : Nat) (errored : Bool) (bip : Nat) : s.Evaluated (s.block k sec errored bip) :=
  .setEnt s k _

theorem State.hurt_evaluated (k : Nat) : s.Evaluated (s.hurt k) := .setEnt s k _

theorem State.blind_evaluated (k : Nat) : s.Evaluated (s.blind k) := .setEnt s k _

theorem State.markLane_evaluated (l : Nat) : s.Evaluated (s.markLane l) := by
  unfold State.markLane
  split
  · exact (s.hurt_evaluated _).trans (State.blind_evaluated _ _)
  · exact .refl s

theorem State.markGroup_evaluated (g : Nat) : s.Evaluated (s.markGroup g) := by
  have near : s.Evaluated (if (s.group g).dfc &&& 0x2F != 0 then (s.hurt (4 * g + 2)).blind (4 * g + 3) else s) := by
    split
    · exact (s.hurt_evaluated _).trans (State.blind_evaluated _ _)
    · exact .refl s
  unfold State.markGroup
  dsimp only
  generalize (if (s.group g).dfc &&& 0x2F != 0 then (s.hurt (4 * g + 2)).blind (4 * g + 3) else s) = t at near
  split
  · exact near.trans (t.hurt_evaluated _)
  · exact near

/-! ### Lane defects (R249 to R251, R261) -/

theorem State.setLaneDef_evaluated (l : Nat) (d : BitVec 9) : s.Evaluated (s.setLaneDef l d) := by
  have hist (t : State) (w : Word) : t.Evaluated (t.setReg .lmtLaneHist l 0 w) :=
    .setReg t w (show 0xC8_0000 ≤ 0xC8_1100 + 4 * l by omega)
  unfold State.setLaneDef
  dsimp only
  have set : s.Evaluated (s.setLane (32 + l) { s.lane (32 + l) with dfc := d }) := .setLane rfl
  generalize s.setLane (32 + l) { s.lane (32 + l) with dfc := d } = t at set
  have marked := (set.trans (hist t (t.reg .lmtLaneHist l ||| (d &&& ~~~(s.lane (32 + l)).dfc).setWidth 32))).trans
    (State.markLane_evaluated _ l)
  split
  · exact marked.trans (.event _ _ _ _ _ _ _ _)
  · exact marked

theorem State.memberRecord_evaluated (g l : Nat) : s.Evaluated (s.memberRecord g l) := by
  unfold State.memberRecord
  dsimp only
  split
  · exact .refl s
  · refine .trans ?_ (.faultRec _ _ _ _ _ _)
    exact .setLane rfl

theorem State.evalLane_evaluated (l : Nat) (frame : Bool) (srdi : Option Bool) : s.Evaluated (s.evalLane l frame srdi) := by
  unfold State.evalLane
  split
  · exact .refl s
  · refine .trans ?_ (State.memberRecord_evaluated _ _ l)
    refine .trans ?_ (State.setLaneDef_evaluated _ l _)
    exact .setLane rfl

/-! ### Group defects (R252 to R254, R262) -/

theorem State.setGrpDef_evaluated (g : Nat) (d : BitVec 8) : s.Evaluated (s.setGrpDef g d) := by
  have hist (t : State) (w : Word) : t.Evaluated (t.setReg .lmtGrpHist g 0 w) :=
    .setReg t w (show 0xC8_0000 ≤ 0xC8_3040 + 4 * g by omega)
  unfold State.setGrpDef
  dsimp only
  split
  · refine .trans ?_ (.event _ _ _ _ _ _ _ _)
    refine .trans ?_ (State.markGroup_evaluated _ g)
    exact .trans (.setGroup s g _) (hist _ _)
  · refine .trans ?_ (State.markGroup_evaluated _ g)
    exact .trans (.setGroup s g _) (hist _ _)

theorem State.evalGroup_evaluated (g : Nat) (lane label : Bool) (rdi : Option Bool) :
    s.Evaluated (s.evalGroup g lane label rdi) := by
  unfold State.evalGroup
  dsimp only
  split
  · exact .refl s
  · split
    · refine .trans ?_ (State.setGrpDef_evaluated _ g _)
      exact .setGroup s g _
    · refine .trans ?_ (State.setGrpDef_evaluated _ g _)
      refine .trans ?_ (.setGroup _ g _)
      exact .setGroup s g _

theorem State.evalMember_evaluated (l : Nat) : s.Evaluated (s.evalMember l) := by
  unfold State.evalMember
  split
  · split
    · exact (s.evalLane_evaluated _ _ _).trans (State.evalGroup_evaluated _ _ _ _ _)
    · exact .refl s
  · exact .refl s

/-- R262: the lanes are not a group's defects. -/
@[simp] theorem State.markGroup_lanes (g : Nat) : (s.markGroup g).wov.lanes = s.wov.lanes := by
  unfold State.markGroup
  dsimp only
  split <;> split <;> rfl

@[simp] theorem State.setGrpDef_lanes (g : Nat) (d : BitVec 8) : (s.setGrpDef g d).wov.lanes = s.wov.lanes := by
  unfold State.setGrpDef
  dsimp only
  split <;> simp

@[simp] theorem State.evalGroup_lanes (g : Nat) (lane label : Bool) (rdi : Option Bool) :
    (s.evalGroup g lane label rdi).wov.lanes = s.wov.lanes := by
  unfold State.evalGroup
  dsimp only
  split
  · rfl
  · split <;> simp

theorem State.lane_of_lanes {s t : State} (h : t.wov.lanes = s.wov.lanes) (l : Nat) : t.lane l = s.lane l :=
  congrArg (fun ls : Tbl Lane => tget ({} : Lane) ls l) h

/-! ### The block before (R245) -/

theorem State.sectionBlock_evaluated (l : Nat) (w1 : Option RxWord) : s.Evaluated (s.sectionBlock l w1) := by
  unfold State.sectionBlock
  dsimp only
  split
  · exact .refl s
  · refine .trans (s.block_evaluated _ _ _ _) (.setLane ?_)
    rfl

end Sys2Proof.Machine
end

section
/-! SUPPORT. Detectors, PCS reports and links of lanes and ports (R250, R333, R334), for O50. -/

namespace Sys2Proof.Machine

/-- A fold of which one element decides what is read, while the others leave it. -/
theorem foldl_decided {σ α β : Type} {f : σ → α → σ} {read : σ → β} {P : β → Prop} {l : List α} {x : α} {s : σ}
    (once : l.Nodup) (mem : x ∈ l) (miss : ∀ t, ∀ y ∈ l, y ≠ x → read (f t y) = read t)
    (hit : ∀ t, read t = read s → P (read (f t x))) : P (read (l.foldl f s)) := by
  obtain ⟨before, after, rfl⟩ := List.append_of_mem mem
  obtain ⟨-, ⟨notAfter, -⟩, apart⟩ := (List.nodup_append.1 once).imp_right (And.imp_left List.nodup_cons.1)
  have unread (m : List α) (sub : ∀ y ∈ m, y ∈ before ++ x :: after ∧ y ≠ x) (t : σ) : read (m.foldl f t) = read t :=
    List.foldlRecOn (motive := fun u => read u = read t) m f rfl
      fun u hu y hy => (miss u y (sub y hy).1 (sub y hy).2).trans hu
  rw [List.foldl_append, List.foldl_cons, unread after fun y hy => ⟨by simp [hy], fun e => notAfter (e ▸ hy)⟩]
  exact hit _ (unread before (fun y hy => ⟨by simp [hy], apart y hy x (by simp)⟩) s)

variable (s : State)

/-! ### The bits of a lane's defects (R249, R261) -/

theorem packBits_bit_zero (b : Bool) (bs : List Bool) : (BitVec.ofNat 9 (packBits (b :: bs))).getLsbD 0 = b := by
  have : packBits (b :: bs) = 2 * packBits bs + if b then 1 else 0 := rfl
  rw [this, BitVec.getLsbD_ofNat, Nat.testBit_zero]
  cases b
  · simp
  · simp [Nat.add_mod]

theorem suppress_cons (x : Bool × Bool × Bool) (l : List (Bool × Bool × Bool)) : ∃ b bs, suppress (x :: l) = b :: bs := by
  obtain ⟨d, enter, leave⟩ := x
  rw [suppress]
  generalize (if d then !leave else enter) = now
  split
  · exact ⟨_, _, rfl⟩
  · exact ⟨_, _, rfl⟩

theorem State.setLaneDef_lane (l : Nat) (d : BitVec 9) :
    (s.setLaneDef l d).lane (32 + l) = { s.lane (32 + l) with dfc := d } := by
  have marked : ∀ t : State, (t.markLane l).lane (32 + l) = t.lane (32 + l) := fun t => by
    unfold State.markLane
    split <;> rfl
  unfold State.setLaneDef
  dsimp only
  split
  · rw [(State.event_reads _ _ _ _ _ _ _ _ (32 + l) 0 .hifErr).2.2.2.2.2.2.2.2.2.1, marked]
    exact State.lane_setLane _ _ _
  · rw [marked]
    exact State.lane_setLane _ _ _

theorem State.memberRecord_lane (g l : Nat) :
    ∃ b, (s.memberRecord g l).lane (32 + l) = { s.lane (32 + l) with faulted := b } := by
  unfold State.memberRecord
  dsimp only
  split
  · exact ⟨_, rfl⟩
  · generalize (s.grpOn g && (s.lane (32 + l)).known && _ && _ : Bool) = lost
    obtain ⟨_, recorded⟩ := (s.setLane (32 + l) { s.lane (32 + l) with faulted := lost }).faultRec_parts (!lost) .wov 5 l 0
    rw [recorded]
    exact ⟨_, State.lane_setLane s _ _⟩

/-- R250: as LOS clears, LOL's time starts afresh. -/
theorem State.evalLane_lolAt {g l : Nat} {frame : Bool} {srdi : Option Bool} (member : s.groupOf l = some g) :
    ((s.evalLane l frame srdi).lane (32 + l)).lolAt
      = if (s.lane (32 + l)).dfc.getLsbD 0 && !((s.evalLane l frame srdi).lane (32 + l)).dfc.getLsbD 0 then s.tb.elapsed
        else (s.lane (32 + l)).lolAt := by
  unfold State.evalLane
  simp only [member]
  generalize hm : suppress _ = main
  obtain ⟨b, bs, cons⟩ := suppress_cons _ _
  rw [cons] at hm
  subst hm
  generalize hL : ({ s.lane (32 + l) with runs := _, lolAt := _, mfcMiss := _, mfcRise := _ } : Lane) = L
  obtain ⟨f, recorded⟩ := ((s.setLane (32 + l) L).setLaneDef l (BitVec.ofNat 9 (packBits (b :: bs ++ _)))).memberRecord_lane g l
  rw [recorded, State.setLaneDef_lane, State.lane_setLane, List.cons_append, packBits_bit_zero]
  subst hL
  rfl

/-- R250: the same of an evaluation of the lane's group with it. -/
theorem State.evalMember_lolAt (l : Nat) : ((s.evalMember l).lane l).lolAt
    = if (s.lane l).dfc.getLsbD 0 && !((s.evalMember l).lane l).dfc.getLsbD 0 then s.tb.elapsed else (s.lane l).lolAt := by
  have same : (s.lane l).lolAt = if (s.lane l).dfc.getLsbD 0 && !(s.lane l).dfc.getLsbD 0 then s.tb.elapsed
      else (s.lane l).lolAt := by simp
  unfold State.evalMember
  split
  next line =>
    split
    next g member =>
      obtain ⟨k, rfl⟩ := Nat.exists_eq_add_of_le line
      rw [Nat.add_sub_cancel_left] at member ⊢
      rw [State.lane_of_lanes (State.evalGroup_lanes _ g true false none)]
      exact s.evalLane_lolAt member
    next => exact same
  next => exact same

/-! ### Links (R334) -/

/-- R334: LINK brought up to date changes its port, and through the event rings. -/
theorem State.updateLink_parts (p : Nat) : ∃ h o, s.updateLink p
    = { s.setPort p { s.port p with link := s.linkNow p } with hif := h, out := o } ∨ s.updateLink p = s
      ∧ s.linkNow p = (s.port p).link := by
  unfold State.updateLink
  dsimp only
  split
  next same => exact ⟨s.hif, s.out, .inr ⟨rfl, same⟩⟩
  next =>
    obtain ⟨h, o, sent⟩ := (s.setPort p { s.port p with link := s.linkNow p }).event_parts 0 .lne 1 p
      (if s.linkNow p then 1 else 0) 0 0
    exact ⟨h, o, .inl sent⟩

/-- R334: what of the state LINK brought up to date leaves, and the LINK that it leaves. -/
theorem State.updateLink_updated (p : Nat) : ((s.updateLink p).port p).link = (s.updateLink p).linkNow p
    ∧ ((s.updateLink p).port p).trainDone = (s.port p).trainDone
    ∧ (∀ q, q ≠ p → (s.updateLink p).port q = s.port q) ∧ (s.updateLink p).wov = s.wov := by
  obtain ⟨h, o, eq | ⟨eq, same⟩⟩ := s.updateLink_parts p
  · have own : (s.updateLink p).port p = { s.port p with link := s.linkNow p } := by
      rw [eq]
      exact State.port_setPort s p _
    rw [own, eq]
    exact ⟨rfl, rfl, fun q other => State.port_setPort_other s _ other, rfl⟩
  · rw [eq]
    exact ⟨same.symm, rfl, fun _ _ => rfl, rfl⟩

/-! ### PCS reports (R214, R332 to R334) -/

/-- R214, R250: what the PCS of a lane reports is kept, and of the other lanes only evaluations reach. -/
theorem State.setPcs_reported (lane : Nat) (block lost : Bool) : s.Maintained (s.setPcs lane block lost)
    ∧ ((s.setPcs lane block lost).lane lane).block = block ∧ ((s.setPcs lane block lost).lane lane).fecLost = lost
    ∧ ∀ l, l ≠ lane → ((s.setPcs lane block lost).lane l).core = (s.lane l).core := by
  unfold State.setPcs
  dsimp only
  split
  next same => exact ⟨.refl s, same.1.symm, same.2.symm, fun _ _ => rfl⟩
  next =>
    split
    next =>
      have section_ := s.sectionBlock_evaluated (lane - 32) none
      generalize s.sectionBlock (lane - 32) none = t at section_
      have evaluated := (t.setLane lane { (t.lane lane).lof 0 [] with block := block, fecLost := lost }).evalMember_evaluated lane
      have own := evaluated.lanes lane
      rw [State.lane_setLane] at own
      refine ⟨section_.toMaintained.trans ((State.Maintained.setLane _ _ _).trans evaluated.toMaintained),
        (congrArg Lane.block own :), (congrArg Lane.fecLost own :), fun l other => ?_⟩
      rw [evaluated.lanes l, State.lane_setLane_other _ _ other, section_.lanes l]
    next =>
      refine ⟨.setLane _ _ _, ?_, ?_, fun l other => ?_⟩
      · rw [State.lane_setLane]
      · rw [State.lane_setLane]
      · rw [State.lane_setLane_other _ _ other]

/-- R332: whether FEC runs on a port is in its configuration. -/
theorem State.Maintained.runsFec {s t : State} (h : s.Maintained t) {p : Nat} (hp : p < 64) : t.runsFec p = s.runsFec p := by
  have cfg : t.reg .lnePortCfg p = s.reg .lnePortCfg p := h.reg (show 0xA0_0100 + 4 * p < 0xC8_0000 by omega)
  rw [State.runsFec, State.portMode, State.field, cfg, State.runsFec, State.portMode, State.field]

/-- R334, R357: what the PCS of a port reports of one of its lanes. -/
def State.pcsReport (p : Nat) (up : Bool) (s : State) (l : Nat) : State :=
  if up then s.setBlock l true
  else if s.runsFec p then s.setPcs l (s.lane l).block (s.lane l).block
  else s.setBlock l false

theorem State.pcsReport_reported (p : Nat) (up : Bool) (l : Nat) : s.Maintained (s.pcsReport p up l)
    ∧ (if up = false ∧ s.runsFec p = true then
        ((s.pcsReport p up l).lane l).block = (s.lane l).block ∧ ((s.pcsReport p up l).lane l).fecLost = (s.lane l).block
      else ((s.pcsReport p up l).lane l).block = up ∧ ((s.pcsReport p up l).lane l).fecLost = false)
    ∧ ∀ k, k ≠ l → ((s.pcsReport p up l).lane k).core = (s.lane k).core := by
  have reported (block lost : Bool) := s.setPcs_reported l block lost
  cases up with
  | true =>
    obtain ⟨kept, block, lost, others⟩ := reported true false
    exact ⟨kept, by simpa [State.pcsReport] using ⟨block, lost⟩, others⟩
  | false =>
    cases fec : s.runsFec p with
    | true =>
      obtain ⟨kept, block, lost, others⟩ := reported (s.lane l).block (s.lane l).block
      simp only [State.pcsReport, fec]
      exact ⟨kept, by simpa using ⟨block, lost⟩, others⟩
    | false =>
      obtain ⟨kept, block, lost, others⟩ := reported false false
      simp only [State.pcsReport, fec]
      exact ⟨kept, by simpa using ⟨block, lost⟩, others⟩

/-- R334, R357: each lane of the port keeps what was reported of it. -/
theorem State.pcsReports_reported {p : Nat} (up : Bool) {ls : List Nat} (hp : p < 64) (once : ls.Nodup) :
    s.Maintained (ls.foldl (State.pcsReport p up) s) ∧ ∀ l ∈ ls,
      if up = false ∧ s.runsFec p = true then
        ((ls.foldl (State.pcsReport p up) s).lane l).block = (s.lane l).block
          ∧ ((ls.foldl (State.pcsReport p up) s).lane l).fecLost = (s.lane l).block
      else ((ls.foldl (State.pcsReport p up) s).lane l).block = up
        ∧ ((ls.foldl (State.pcsReport p up) s).lane l).fecLost = false := by
  refine ⟨List.foldlRecOn (motive := s.Maintained) _ _ (.refl s)
    fun t kept l _ => kept.trans (t.pcsReport_reported p up l).1, fun l mem => ?_⟩
  refine foldl_decided (f := State.pcsReport p up) (s := s) (x := l)
    (read := fun t => ((t.lane l).block, (t.lane l).fecLost, t.runsFec p))
    (P := fun r => if up = false ∧ s.runsFec p = true then r.1 = (s.lane l).block ∧ r.2.1 = (s.lane l).block
      else r.1 = up ∧ r.2.1 = false) once mem (fun t k _ other => ?_) (fun t same => ?_)
  · obtain ⟨kept, -, others⟩ := t.pcsReport_reported p up k
    have core := others l other.symm
    have block : ((t.pcsReport p up k).lane l).block = (t.lane l).block := (congrArg Lane.block core :)
    have lost : ((t.pcsReport p up k).lane l).fecLost = (t.lane l).fecLost := (congrArg Lane.fecLost core :)
    rw [kept.runsFec hp, block, lost]
  · obtain ⟨-, own, -⟩ := t.pcsReport_reported p up l
    simp only [Prod.mk.injEq] at same
    obtain ⟨block, -, fec⟩ := same
    rwa [block, fec] at own

/-- R333: a report that a port is up ends its training. -/
def State.endTraining (s : State) (p : Nat) (up : Bool) : State :=
  if up && s.trains p then s.setPort p { s.port p with trainDone := true } else s

theorem State.endTraining_ended (p : Nat) (up : Bool) :
    ((s.endTraining p up).port p).trainDone = ((s.port p).trainDone || (up && s.trains p))
      ∧ (∀ q, q ≠ p → (s.endTraining p up).port q = s.port q) ∧ s.endTraining p up = { s with sch := (s.endTraining p up).sch } := by
  unfold State.endTraining
  cases up && s.trains p
  · exact ⟨(Bool.or_false _).symm, fun _ _ => rfl, rfl⟩
  · refine ⟨?_, fun q other => State.port_setPort_other s _ other, rfl⟩
    rw [if_pos rfl, State.port_setPort, Bool.or_true]

/-- R332 to R334, R357: the command is a report of each lane of a port that runs a PCS. -/
theorem exec_linkChange {s : State} {p : Nat} {up : Bool} (here : s.variant.lane p = true) (runs : s.pcsRuns p = true)
    (powered : up = false ∨ ∀ l ∈ s.portLanes p, (s.dom (48 + l / 4)).up = true) : exec (.linkChange p up) s
      = .next (((s.portLanes p).foldl (State.pcsReport p up) (s.endTraining p up)).updateLink p) := by
  have goes : ¬ (s.variant.lane p = false ∨ s.pcsRuns p = false
      ∨ (up = true ∧ (s.portLanes p).any (fun l => !(s.dom (48 + l / 4)).up) = true)) := by
    rcases powered with rfl | powered
    · simp [here, runs]
    · simpa [here, runs] using fun _ => powered
  have lanes : (s.endTraining p up).portLanes p = s.portLanes p := by rw [(s.endTraining_ended p up).2.2]; rfl
  rw [exec, execLinkChange, if_neg goes, ← lanes]
  rfl

theorem State.portLanes_nodup (p : Nat) : (s.portLanes p).Nodup :=
  List.nodup_range.map fun _ _ h => Nat.add_left_cancel h

theorem Variant.lane_lt {v : Variant} {l : Nat} (here : v.lane l = true) : l < 64 := by
  cases v <;> simp_all [Variant.lane]

/-! ### The checker's register (R338, R358) -/

theorem regRowsAt_lne {off : Nat} (h : 0xA0_0000 ≤ off) (h' : off < 0xC0_0000) : regRowsAt off = regRowsLne := by
  simp only [regRowsAt]
  (repeat rw [if_neg (by omega)])
  exact if_pos h'

theorem bar0Target_lneLaneCfg {v : Variant} {l : Nat} (hl : l < 64) (here : v.lane l = true) :
    bar0Target v (0xA0_1000 + 16 * l) = .reg regRowsLne[3] l 0 := by
  refine bar0Target_of_locate v (locate_of_getElem 3 (by decide) (regRowsAt_lne (by omega) (by omega)) ?_ ?_) (by omega)
    (by decide) here
  · simp only [regRowsLne, List.take, List.forall_mem_cons]
    (repeat refine ⟨RegRow.index_none _ (by decide) (by simp only; omega), ?_⟩)
    simp
  · exact RegRow.index_at _ hl (by decide) (by decide) (by decide) (show _ = 0xA0_1000 + (16 * l + 4 * 0) by omega)

section
variable {v : Word} (small : v.toNat < 2 ^ 16)
include small

/-- R358: PRBS_CLR beside the other fields. -/
theorem toNat_or_prbsClr : (v ||| (0x8000 : Word)).toNat < 2 ^ 16 := by
  rw [BitVec.toNat_or]
  exact Nat.or_lt_two_pow small (by decide)

end

theorem fld_or_prbsClr (v : Word) {lo n : Nat} (below : lo + n ≤ 15) : fld (v ||| (0x8000 : Word)) lo n = fld v lo n := by
  have high : ∀ i, lo + i < 15 → (v ||| (0x8000 : Word)).toNat.testBit (lo + i) = v.toNat.testBit (lo + i) := fun i hi => by
    rw [BitVec.toNat_or, Nat.testBit_or, show (0x8000 : Word).toNat = 2 ^ 15 from rfl, Nat.testBit_two_pow_of_ne (by omega),
      Bool.or_false]
  refine Nat.eq_of_testBit_eq fun i => ?_
  simp only [fld, Nat.testBit_mod_two_pow, Nat.testBit_div_two_pow]
  by_cases hi : i < n
  · rw [Nat.add_comm i lo, high i (by omega)]
  · simp [hi]

/-- R338, R358: a checker cleared while its lane's configuration is allowed. -/
theorem State.laneCfgWrite_clears {l : Nat} {v : Word} (pattern : fld v 2 3 ≠ 7) (pre : fld v 7 3 ≤ 5)
    (level : fld v 7 3 = 0 ∨ s.portMode (s.portOfLane l) = 12)
    (tests : (v.getLsbD 5 = false ∧ v.getLsbD 6 = false) ∨ s.portEn (s.portOfLane l) = false
      ∨ s.portMode (s.portOfLane l) = 12) (clear : v.getLsbD 15 = true) :
    (s.laneCfgWrite l v).lane l = (if v.getLsbD 6 then { s.lane l with prbsErr := 0 }
        else { s.lane l with prbsErr := 0, prbsLock := false, prbsRun := 0 })
      ∧ (s.laneCfgWrite l v).reg .lneLaneCfg l = v &&& 0x7FFF ∧ ∀ k, k ≠ l → (s.laneCfgWrite l v).lane k = s.lane k := by
  have shown : ∀ t old : State, ∃ o, t.showPrbs old [l] = { t with out := o } := fun t old => by
    unfold State.showPrbs
    dsimp only [List.foldl]
    split
    · exact ⟨_, rfl⟩
    · exact ⟨_, rfl⟩
  have allowed : ¬ (fld v 2 3 = 7 ∨ 5 < fld v 7 3 ∨ (fld v 7 3 ≠ 0 ∧ (s.portMode (s.portOfLane l) == 12) = false)
      ∨ ((v.getLsbD 5 || v.getLsbD 6) = true ∧ s.portEn (s.portOfLane l) = true
        ∧ (s.portMode (s.portOfLane l) == 12) = false)) := by
    rintro (h | h | ⟨h, h'⟩ | ⟨h, h', h''⟩)
    · exact pattern h
    · omega
    · exact level.elim h (by simpa using h')
    · rcases tests with ⟨five, six⟩ | off | mode
      · rw [five, six] at h
        cases h
      · simp [off] at h'
      · simp [mode] at h''
  unfold State.laneCfgWrite
  dsimp only
  rw [if_neg allowed, clear, if_pos rfl]
  obtain ⟨o, eq⟩ := shown ((s.setReg .lneLaneCfg l 0 (v &&& 0x7FFF)).setLane l (if v.getLsbD 6 then { s.lane l with prbsErr := 0 }
    else { s.lane l with prbsErr := 0, prbsLock := false, prbsRun := 0 })) s
  rw [State.lane_setReg, eq]
  exact ⟨State.lane_setLane _ _ _, State.reg_setReg s _ _ _ _, fun k other => State.lane_setLane_other _ _ other⟩

/-- R358: the command is a write of the lane's configuration with PRBS_CLR. -/
theorem exec_prbsClr {s : State} {l : Nat} {v : Word} (hl : l < 64) (here : s.variant.lane l = true) (hr : s.pins.inReset = false)
    (shut : s.lcShut = false) (small : v.toNat < 2 ^ 16) (pattern : fld v 2 3 ≠ 7) (pre : fld v 7 3 ≤ 5) :
    exec (.prbsClr l v) s = .next (s.laneCfgWrite l (v ||| (0x8000 : Word))) := by
  have bits : (v ||| (0x8000 : Word)) &&& ~~~regRowsLne[3].definedAt 0 = 0 :=
    and_not_eq_zero_of_lt 16 (toNat_or_prbsClr small) (by decide)
  have coded : RegId.lneLaneCfg.reservedCode (v ||| (0x8000 : Word)) = false := by
    rw [RegId.reservedCode, fld_or_prbsClr v (by decide), fld_or_prbsClr v (by decide)]
    simp [pattern, pre]
  rw [exec, execPrbsClr, if_neg (Nat.not_le.2 hl), State.hostWrite_reg _ hr shut (by omega) (bar0Target_lneLaneCfg hl here),
    State.writeReg_apply (by omega) bits (by decide) (by decide) coded rfl]
  rfl

end Sys2Proof.Machine
end

section
/-! SUPPORT. Seconds and snapshots of the performance entities (R255 to R263), for O50. -/

namespace Sys2Proof.Machine

/-! ### An entity's seconds (R255, R257, R258) -/

/-- R255, R258: an entity after its running second has ended and the one nine before it is settled. -/
def Entity.close (e : Entity) (sec : Nat) (on : Bool) : Entity :=
  let e := { e with now := {}, wait := if !on && e.wait.all (fun x => x.off) then []
    else e.wait ++ [{ e.now with sec := sec, off := !on }] }
  if e.wait.length < 10 then e else e.settle.1

section
variable {e : Entity} {sec : Nat} {w : List Sec} (wait : w = e.wait ++ [{ e.now with sec := sec, off := false }])
include wait

theorem Entity.close_waits (short : w.length < 10) :
    (e.close sec true).wait = w ∧ (e.close sec true).es = e.es ∧ (e.close sec true).uas = e.uas := by
  subst wait
  have : e.close sec true = { e with now := {}, wait := e.wait ++ [{ e.now with sec := sec, off := false }] } := if_pos short
  rw [this]
  exact ⟨rfl, rfl, rfl⟩

/-- R258: with ten seconds known the oldest is settled. -/
theorem Entity.close_settles (ten : w.length = 10) : e.close sec true = ({ e with now := {}, wait := w } : Entity).settle.1 := by
  subst wait
  exact if_neg (Nat.not_lt.2 ten.ge)

/-- R257, R258: while not all of ten seconds are severely errored an available entity stays so, and counts. -/
theorem Entity.close_available {x : Sec} {rest : List Sec} (cons : w = x :: rest) (ten : w.length = 10)
    (available : e.unavail = false) (small : e.es ≤ 0xFFFFFFFF) (sound : ∃ y ∈ w, y.severe = false) :
    (e.close sec true).wait = rest ∧ (e.close sec true).unavail = false
      ∧ (e.close sec true).es = min 0xFFFFFFFF (e.es + if x.bad then 1 else 0) := by
  have notAll : (w.take 10).all (fun y => y.severe) = false := by
    rw [List.take_of_length_le ten.le]
    obtain ⟨y, hy, fine⟩ := sound
    exact List.all_eq_false.2 ⟨y, hy, by simp [fine]⟩
  rw [Entity.close_settles wait ten]
  subst cons
  simp only [Entity.settle, notAll, available, Bool.false_eq_true, if_false, ite_self, Bool.not_false, Bool.true_and, true_and,
    satTo]
  cases x.bad
  · simpa using small
  · simp only [if_true]
    split <;> omega

/-- R257, R258: ten severely errored seconds begin unavailability. -/
theorem Entity.close_unavailable (ten : w.length = 10) (available : e.unavail = false) (severe : ∀ y ∈ w, y.severe = true) :
    (e.close sec true).unavail = true ∧ (e.close sec true).es = e.es := by
  have all : (w.take 10).all (fun y => y.severe) = true := by
    rw [List.take_of_length_le ten.le]
    exact List.all_eq_true.2 severe
  rw [Entity.close_settles wait ten]
  cases w with
  | nil => cases ten
  | cons x rest =>
    have counts : x.off = false := by
      have := severe x (by simp)
      unfold Sec.severe at this
      split at this
      · cases this
      · simp_all
    simp only [Entity.settle, all, available, counts]
    exact ⟨rfl, rfl⟩

end

variable (s : State)

@[simp] theorem State.ent_setEnt (k : Nat) (e : Entity) : (s.setEnt k e).ent k = e := tget_tset_same _ _ _ _

theorem State.ent_setEnt_other {k j : Nat} (e : Entity) (h : j ≠ k) : (s.setEnt k e).ent j = s.ent j :=
  tget_tset_other _ _ _ _ h

theorem State.endSecond_close (k sec : Nat) (on ev : Bool) (code what : Nat) : ∃ h o, s.endSecond k sec on ev code what
    = { s.setEnt k ((s.ent k).close sec on) with hif := h, out := o } := by
  unfold State.endSecond Entity.close
  dsimp only
  generalize (if (!on && _) = true then [] else _ : List Sec) = w
  split
  · exact ⟨_, _, rfl⟩
  · split
    · exact ⟨_, _, rfl⟩
    · split
      · exact State.event_parts _ _ _ _ _ _ _ _
      · exact ⟨_, _, rfl⟩

/-- R255: closing an entity's second leaves the others, and what says that a lane is monitored. -/
theorem State.endSecond_ent (k sec : Nat) (on ev : Bool) (code what : Nat) :
    (s.endSecond k sec on ev code what).ent k = (s.ent k).close sec on
      ∧ (∀ j, j ≠ k → (s.endSecond k sec on ev code what).ent j = s.ent j)
      ∧ ∀ l, (s.endSecond k sec on ev code what).monitored l = s.monitored l := by
  obtain ⟨_, _, closed⟩ := s.endSecond_close k sec on ev code what
  rw [closed]
  exact ⟨State.ent_setEnt s k _, fun j other => State.ent_setEnt_other s _ other, fun _ => rfl⟩

/-- R256, R257: the defects of a lane are marked in the running second of its two entities. -/
theorem State.markLane_ent (l : Nat) : (∃ x, (s.markLane l).ent (4 * l) = { s.ent (4 * l) with now := x })
    ∧ (∀ k, k ≠ 4 * l → k ≠ 4 * l + 1 → (s.markLane l).ent k = s.ent k)
    ∧ ∀ m, (s.markLane l).monitored m = s.monitored m := by
  unfold State.markLane
  split
  · refine ⟨⟨{ (s.ent (4 * l)).now with defect := true }, ?_⟩, fun k near far => ?_, fun _ => rfl⟩
    · exact (State.ent_setEnt_other _ _ (by omega)).trans (State.ent_setEnt s _ _)
    · exact (State.ent_setEnt_other _ _ far).trans (State.ent_setEnt_other s _ near)
  · exact ⟨⟨_, rfl⟩, fun _ _ _ => rfl, fun _ => rfl⟩

theorem State.markGroup_ent {g k : Nat} (near : k ≠ 4 * g + 2) (far : k ≠ 4 * g + 3) : (s.markGroup g).ent k = s.ent k := by
  have marked : ((s.hurt (4 * g + 2)).blind (4 * g + 3)).ent k = s.ent k :=
    (State.ent_setEnt_other _ _ far).trans (State.ent_setEnt_other s _ near)
  unfold State.markGroup
  dsimp only
  split <;> split
  · exact (State.ent_setEnt_other _ _ far).trans marked
  · exact State.ent_setEnt_other s _ far
  · exact marked
  · rfl

/-! ### The end of a second (R255, R258) -/

/-- R255: the end of a second for the two entities of a lane. -/
def State.laneSecond (sec : Nat) (s : State) (l : Nat) : State :=
  ((s.endSecond (4 * l) sec (s.monitored l) ((s.reg .lmtLaneEven l).getLsbD 9) 0 l).endSecond (4 * l + 1) sec (s.monitored l)
    ((s.reg .lmtLaneEven l).getLsbD 9) 1 l).markLane l

/-- R255: the same for the two entities of a group. -/
def State.groupSecond (sec : Nat) (s : State) (g : Nat) : State :=
  ((s.endSecond (4 * g + 2) sec (s.grpOn g) ((s.reg .lmtGrpEven g).getLsbD 7) 2 g).endSecond (4 * g + 3) sec (s.grpOn g)
    ((s.reg .lmtGrpEven g).getLsbD 7) 3 g).markGroup g

/-- R255: the entities once a second has ended. -/
def State.secondEnded (s : State) : State :=
  (List.range 8).foldl (State.groupSecond s.wov.lmt.second) ((List.range 32).foldl (State.laneSecond s.wov.lmt.second) s)

theorem exec_pmSecondEnd {s : State} (later : s.tb.tod / 1000000000 ≠ s.wov.lmt.second) : ∃ t, exec .pmSecondEnd s = .next t
    ∧ t.wov.lmt.second = s.tb.tod / 1000000000 ∧ ∀ k, t.ent k = s.secondEnded.ent k := by
  rw [exec, execPmSecondEnd]
  dsimp only
  rw [if_neg later]
  exact ⟨_, rfl, rfl, fun _ => rfl⟩

theorem State.laneSecond_ent (sec l : Nat) :
    (∃ x, (s.laneSecond sec l).ent (4 * l) = { (s.ent (4 * l)).close sec (s.monitored l) with now := x })
    ∧ (∀ k, k ≠ 4 * l → k ≠ 4 * l + 1 → (s.laneSecond sec l).ent k = s.ent k)
    ∧ ∀ m, (s.laneSecond sec l).monitored m = s.monitored m := by
  obtain ⟨nearOwn, nearOther, nearOn⟩ :=
    s.endSecond_ent (4 * l) sec (s.monitored l) ((s.reg .lmtLaneEven l).getLsbD 9) 0 l
  obtain ⟨-, farOther, farOn⟩ := (s.endSecond (4 * l) sec (s.monitored l) ((s.reg .lmtLaneEven l).getLsbD 9) 0 l).endSecond_ent
    (4 * l + 1) sec (s.monitored l) ((s.reg .lmtLaneEven l).getLsbD 9) 1 l
  obtain ⟨⟨x, own⟩, other, on⟩ := State.markLane_ent ((s.endSecond (4 * l) sec (s.monitored l)
    ((s.reg .lmtLaneEven l).getLsbD 9) 0 l).endSecond (4 * l + 1) sec (s.monitored l)
    ((s.reg .lmtLaneEven l).getLsbD 9) 1 l) l
  refine ⟨⟨x, ?_⟩, fun k near far => ?_, fun m => ?_⟩
  · rw [State.laneSecond, own, farOther _ (by omega), nearOwn]
  · rw [State.laneSecond, other k near far, farOther k far, nearOther k near]
  · rw [State.laneSecond, on, farOn, nearOn]

theorem State.groupSecond_ent {g k : Nat} (sec : Nat) (near : k ≠ 4 * g + 2) (far : k ≠ 4 * g + 3) :
    (s.groupSecond sec g).ent k = s.ent k := by
  rw [State.groupSecond, State.markGroup_ent _ near far, (State.endSecond_ent _ _ _ _ _ _ _).2.1 k far,
    (State.endSecond_ent _ _ _ _ _ _ _).2.1 k near]

/-- R255, R258: the near end of a monitored lane closes its second as the others do theirs. -/
theorem State.secondEnded_ent {l : Nat} (hl : l < 32) (on : s.monitored l = true) :
    ∃ x, s.secondEnded.ent (4 * l) = { (s.ent (4 * l)).close s.wov.lmt.second true with now := x } := by
  have groups : ∀ t : State,
      ((List.range 8).foldl (State.groupSecond s.wov.lmt.second) t).ent (4 * l) = t.ent (4 * l) := fun t =>
    List.foldlRecOn (motive := fun u : State => u.ent (4 * l) = t.ent (4 * l)) _ _ rfl
      fun u same g _ => (u.groupSecond_ent _ (by omega) (by omega)).trans same
  rw [State.secondEnded, groups]
  refine foldl_decided (f := State.laneSecond s.wov.lmt.second) (read := fun t => (t.ent (4 * l), t.monitored l))
    (P := fun r => ∃ x, r.1 = { (s.ent (4 * l)).close s.wov.lmt.second true with now := x })
    List.nodup_range (List.mem_range.2 hl) (fun t k _ other => ?_) (fun t same => ?_)
  · obtain ⟨-, others, kept⟩ := t.laneSecond_ent s.wov.lmt.second k
    exact Prod.ext (others _ (by omega) (by omega)) (kept l)
  · obtain ⟨own, -, -⟩ := t.laneSecond_ent s.wov.lmt.second l
    obtain ⟨ent, monitored⟩ := Prod.mk.inj same
    rwa [ent, monitored, on] at own

/-! ### Snapshots (R259, R263) -/

theorem tget_default_or_mem {α : Type} (d : α) (t : Tbl α) (k : Nat) : tget d t k = d ∨ (k, tget d t k) ∈ t := by
  induction t with
  | nil => exact .inl rfl
  | cons e t ih =>
    by_cases he : e.1 = k
    · exact .inr (by simp [tget, ← he])
    · simpa [tget, he] using ih.imp_right .inr

/-- R259: CLEAR zeroes the counters of every entity. -/
theorem cleared_es (t : Tbl Entity) (k : Nat) :
    (tget {} ((t.map (fun (e : Nat × Entity) => (e.1, e.2.cleared))).filter (fun e => e.2 != {})) k).es = 0 := by
  rcases tget_default_or_mem ({} : Entity) ((t.map (fun (e : Nat × Entity) => (e.1, e.2.cleared))).filter (fun e => e.2 != {})) k with h | h
  · rw [h]
  · obtain ⟨x, -, eq⟩ := List.mem_map.1 (List.mem_filter.1 h).1
    exact (congrArg (fun y : Nat × Entity => y.2.es) eq).symm

/-- Words put at a place of a table one after another. -/
theorem tget_words (t : Tbl Nat) (ws : List Nat) (a : Nat) :
    (∀ k, k < ws.length → tget 0 (ws.zipIdx.foldl (fun t w => tset 0 t (a + w.2) w.1) t) (a + k) = ws.getD k 0)
    ∧ ∀ j, (∀ k, k < ws.length → j ≠ a + k) → tget 0 (ws.zipIdx.foldl (fun t w => tset 0 t (a + w.2) w.1) t) j = tget 0 t j := by
  have place : ∀ w ∈ ws.zipIdx, w.2 < ws.length ∧ ws.getD w.2 0 = w.1 := fun w hw => by
    have at_ := List.mem_zipIdx_iff_getElem?.1 hw
    exact ⟨(List.getElem?_eq_some_iff.1 at_).1, by simp [List.getD, at_]⟩
  refine ⟨fun k hk => ?_, fun j outside => ?_⟩
  · refine foldl_decided (f := fun t (w : Nat × Nat) => tset 0 t (a + w.2) w.1) (read := fun t : Tbl Nat => tget 0 t (a + k))
      (P := fun v => v = ws.getD k 0) (x := (ws[k], k)) (.of_map Prod.snd ?_) ?_ (fun t w hw other => ?_) (fun t _ => ?_)
    · rw [List.zipIdx_map_snd]
      exact List.nodup_range'
    · exact List.mem_zipIdx_iff_getElem?.2 (by simp [hk])
    · refine tget_tset_other _ _ _ _ fun same => other (Prod.ext ?_ (by omega))
      have here : w.2 = k := by omega
      rw [← (place w hw).2, here]
      simp [hk]
    · simp [tget_tset_same, hk]
  · exact List.foldlRecOn (motive := fun u => tget 0 u j = tget 0 t j) _ _ rfl
      fun u same w hw => (tget_tset_other _ _ _ _ (outside _ (place w hw).1)).trans same

/-- R259: the entities that a snapshot takes, by their place in it. -/
def snapPlaces : List (Nat × Nat) :=
  (List.range 32).map (fun l => (l, 4 * l)) ++ (List.range 8).map (fun g => (32 + g, 4 * g + 2))

/-- R259, R263: the words of a snapshot. -/
theorem State.snap_words {i c k : Nat} (mem : (i, c) ∈ snapPlaces) (hk : k < 8) :
    tget 0 (snapPlaces.foldl (fun t (e : Nat × Nat) =>
      ((entWords (s.ent e.2) (s.ent (e.2 + 1))).zipIdx).foldl (fun t (w : Nat × Nat) => tset 0 t (8 * e.1 + w.2) w.1) t) [])
      (8 * i + k) = (entWords (s.ent c) (s.ent (c + 1))).getD k 0 := by
  have once : (snapPlaces.map Prod.fst).Nodup := by decide
  refine foldl_decided (f := fun t (e : Nat × Nat) =>
      ((entWords (s.ent e.2) (s.ent (e.2 + 1))).zipIdx).foldl (fun t (w : Nat × Nat) => tset 0 t (8 * e.1 + w.2) w.1) t)
    (read := fun t : Tbl Nat => tget 0 t (8 * i + k)) (P := fun v => v = (entWords (s.ent c) (s.ent (c + 1))).getD k 0)
    (.of_map Prod.fst once) mem (fun t e he other => ?_) (fun t _ => ?_)
  · refine (tget_words t _ (8 * e.1)).2 _ fun j (hj : j < 8) same => other ?_
    exact List.inj_on_of_nodup_map once he mem (show e.1 = i by omega)
  · exact (tget_words t _ (8 * i)).1 k hk

theorem bar0Target_lmtCtl (v : Variant) : bar0Target v 0xC8_0000 = .reg regRowsWov[13] 0 0 := by
  refine bar0Target_of_present (locate_of_getElem 13 (by decide) (regRowsAt_wov (by omega) (by omega)) ?_ ?_)
    (blockAbsent_wov v (by omega) (by omega)) (by decide) rfl
  · simp only [regRowsWov, List.take, List.forall_mem_cons]
    (repeat refine ⟨RegRow.index_none _ (by decide) (by simp only; omega), ?_⟩)
    simp
  · exact RegRow.index_at _ (by decide) (by decide) (by decide) (by decide) rfl

theorem exec_lmtSnapshot {s : State} {v : Word} (hr : s.pins.inReset = false) (shut : s.lcShut = false) (small : v.toNat < 4) :
    exec (.lmtSnapshot v) s = .next (s.lmtSnap v) := by
  have bits : v &&& ~~~regRowsWov[13].definedAt 0 = 0 := and_not_eq_zero_of_lt 2 small (by decide)
  rw [exec, execLmtSnapshot, State.hostWrite_reg _ hr shut (by omega) (bar0Target_lmtCtl _),
    State.writeReg_apply (by omega) bits (by decide) (by decide) rfl rfl]
  rfl

/-- R259: SNAP while no snapshot is being copied. -/
theorem State.lmtSnap_taken {v : Word} (snap : v.getLsbD 0 = true) (idle : s.wov.lmt.busy = false) : s.lmtSnap v
    = { s with wov := { s.wov with lmt := { s.wov.lmt with
        snap := snapPlaces.foldl (fun t (e : Nat × Nat) => ((entWords (s.ent e.2) (s.ent (e.2 + 1))).zipIdx).foldl
          (fun t (w : Nat × Nat) => tset 0 t (8 * e.1 + w.2) w.1) t) []
        snapSec := s.wov.lmt.settled, busy := true
        ents := if v.getLsbD 1 then (s.wov.lmt.ents.map (fun e => (e.1, e.2.cleared))).filter (fun e => e.2 != {})
          else s.wov.lmt.ents } } } := by
  unfold State.lmtSnap
  dsimp only
  rw [if_neg (by simp [snap, idle])]
  rfl

end Sys2Proof.Machine
end

section
/-! O50: lanes and ports, their seconds and snapshots (R250 to R263, R333 to R338). -/

namespace Sys2Proof.Machine

/-- The two spellings of the time of a report's change: it is kept when the report is the old one and the bit has not fallen. -/
theorem since_of_fell {p : Prop} [Decidable p] (was is : Bool) (old now : Nat) :
    (if (was && !is) = true then now else if p then old else now) = if p ∧ ¬ (was = true ∧ is = false) then old else now := by
  by_cases same : p <;> cases was <;> cases is <;> simp [same]

/-- Settles O50: reports are evaluated (`State.Evaluated`) and LINK follows them, and the end of a second closes each entity
once. -/
theorem linesAndSeconds : Obligations.LinesAndSeconds := by
  unfold Obligations.LinesAndSeconds
  intro s
  refine ⟨?detectors, ?lock, ?link, ?training, ?clear, ?checker, ?seconds, ?snapshot, rfl⟩
  case detectors =>
    rintro lane los lol _ here rfl
    have reports : exec (.losDetectorChange lane los lol) s = .next (((s.setLane lane { s.lane lane with
        los := los, lol := lol, losAt := if los = (s.lane lane).los then (s.lane lane).losAt else s.tb.elapsed
        lolAt := if lol = (s.lane lane).lol then (s.lane lane).lolAt else s.tb.elapsed }).evalMember lane).updateLink
          (s.portOfLane lane)) := congrArg _ (if_neg (by simp [here]))
    generalize hL : ({ s.lane lane with
        los := los, lol := lol, losAt := if los = (s.lane lane).los then (s.lane lane).losAt else s.tb.elapsed
        lolAt := if lol = (s.lane lane).lol then (s.lane lane).lolAt else s.tb.elapsed } : Lane) = L at reports
    have evaluated := (s.setLane lane L).evalMember_evaluated lane
    have lolAt := (s.setLane lane L).evalMember_lolAt lane
    generalize (s.setLane lane L).evalMember lane = u at reports evaluated lolAt
    obtain ⟨link, -, ports, wov⟩ := u.updateLink_updated (s.portOfLane lane)
    have lanes := State.lane_of_lanes (congrArg Wov.lanes wov)
    have own := evaluated.lanes lane
    rw [State.lane_setLane] at own lolAt
    refine ⟨_, reports, ?_, ?_, ?_, ?_, link, fun p other => ?_, fun l other => ?_⟩
    · rw [lanes, ← show L.los = los by rw [← hL]]; exact (congrArg Lane.los own :)
    · rw [lanes, ← show L.lol = lol by rw [← hL]]; exact (congrArg Lane.lol own :)
    · rw [lanes, show (u.lane lane).losAt = L.losAt from (congrArg Lane.losAt own :), ← hL]
    · rw [lanes, lolAt, ← hL]
      exact since_of_fell ..
    · rw [ports p other, evaluated.port p]; rfl
    · have core := evaluated.lanes l
      rw [State.lane_setLane_other _ _ other] at core
      rw [lanes]
      exact (congrArg Lane.los core :)
  case lock =>
    intro lane locked here goes
    have reports : exec (.blockLockChange lane locked) s
        = .next ((s.setPcs lane locked false).updateLink (s.portOfLane lane)) := by
      refine congrArg _ (if_neg ?_)
      rcases goes with rfl | ⟨up, runs, trained⟩
      · simp [here]
      · simp [here, up, runs, trained]
    obtain ⟨kept, block, lost, others⟩ := s.setPcs_reported lane locked false
    generalize s.setPcs lane locked false = u at reports kept block lost others
    obtain ⟨link, -, ports, wov⟩ := u.updateLink_updated (s.portOfLane lane)
    have lanes := State.lane_of_lanes (congrArg Wov.lanes wov)
    refine ⟨_, reports, ?_, ?_, link, fun p other => ?_, fun l other => ?_⟩
    · rw [lanes, block]
    · rw [lanes, lost]
    · rw [ports p other, kept.port p]
    · rw [lanes]
      exact (congrArg Lane.block (others l other) :)
  case link =>
    intro p up here runs powered
    have hp : p < 64 := Variant.lane_lt here
    have reports := exec_linkChange here runs powered
    obtain ⟨done, ports, trained⟩ := s.endTraining_ended p up
    obtain ⟨kept, reported⟩ := (s.endTraining p up).pcsReports_reported up hp (s.portLanes_nodup p)
    have same : (s.endTraining p up).runsFec p = s.runsFec p ∧ ∀ l, (s.endTraining p up).lane l = s.lane l := by
      rw [trained]
      exact ⟨rfl, fun _ => rfl⟩
    simp only [same] at reported
    generalize (s.portLanes p).foldl (State.pcsReport p up) (s.endTraining p up) = u at reports kept reported
    obtain ⟨link, trainDone, others, wov⟩ := u.updateLink_updated p
    have lanes := State.lane_of_lanes (congrArg Wov.lanes wov)
    refine ⟨_, reports, fun l mem => ?_, link, ?_, fun q other => ?_⟩
    · rw [lanes]
      exact reported l mem
    · rw [trainDone, kept.port, done]
    · rw [others q other, kept.port, ports q other]
  case training =>
    intro p training late
    exact congrArg _ (if_neg (by simp [training, late]))
  case clear =>
    rintro lane v _ hl here hr shut small rfl pattern pre level tests
    have five : (v ||| (0x8000 : Word)).getLsbD 5 = v.getLsbD 5 := by simp
    have six : (v ||| (0x8000 : Word)).getLsbD 6 = v.getLsbD 6 := by simp
    have kept : (v ||| (0x8000 : Word)) &&& 0x7FFF = v &&& 0x7FFF := by
      rw [BitVec.and_or_distrib_right]
      simp
    obtain ⟨own, cfg, others⟩ := s.laneCfgWrite_clears (l := lane) (v := v ||| 0x8000) (by rwa [fld_or_prbsClr v (by decide)])
      (by rwa [fld_or_prbsClr v (by decide)]) (by rwa [fld_or_prbsClr v (by decide)]) (by rwa [five, six]) (by simp)
    rw [six] at own
    refine ⟨_, exec_prbsClr hl here hr shut small pattern pre, ?_, ?_, cfg.trans kept, others⟩
    · rw [own]
      split <;> rfl
    · rw [own]
      cases v.getLsbD 6
      · exact (Bool.and_false _).symm
      · exact (Bool.and_true _).symm
  case checker =>
    rintro lane locked errors _ here rfl checks still
    have counts : satTo (2 ^ 48 - 1) ((s.lane lane).prbsErr + errors) = min (2 ^ 48 - 1) ((s.lane lane).prbsErr + errors) := by
      unfold satTo
      split <;> omega
    rw [exec, execPrbsLockChange]
    dsimp only
    rw [if_neg (by simpa [here, checks] using still), counts]
  case seconds =>
    intro later
    obtain ⟨t, ends, second, ents⟩ := exec_pmSecondEnd later
    refine ⟨t, ends, second, ?_⟩
    rintro l _ w hl on rfl wait
    obtain ⟨z, ent⟩ := s.secondEnded_ent hl on
    rw [ents, ent]
    refine ⟨fun short => ?_, fun x rest cons ten available small sound => ?_, fun ten available severe => ?_⟩
    · exact Entity.close_waits wait short
    · exact Entity.close_available wait cons ten available small sound
    · exact Entity.close_unavailable wait ten available severe
  case snapshot =>
    intro v hr shut small snap idle
    refine ⟨_, exec_lmtSnapshot hr shut small, ?_⟩
    rw [s.lmtSnap_taken snap idle]
    refine ⟨rfl, rfl, fun l k hl hk => ?_, fun g k hg hk => ?_, fun k => ?_⟩
    · exact s.snap_words (by simp [snapPlaces, hl]) hk
    · exact s.snap_words (by simp [snapPlaces, hg]) hk
    · cases clear : v.getLsbD 1
      · rfl
      · exact cleared_es _ k

end Sys2Proof.Machine
end

section
/-! O49: the receiving side of a woven group (R214 to R231). -/

namespace Sys2Proof.Machine

/-- R280: a frame below class 7 that the beam store has no room for makes no pick. -/
theorem State.pick_arrive_of_full {s : State} {k : Pick} (hc : k.cls ≠ 7)
    (full : s.fits (cellsFor k.frame.length) (s.field .schAdmSlots 0 0 17) (s.field .schAdmCells 0 0 19) = false) (p : Nat) :
    (s.arrive k).pick p = s.pick p := by
  simp only [State.arrive, State.admission, if_pos hc, full, Bool.false_eq_true, if_false, State.refuse, State.pick,
    State.occurWith_keeps]

/-- R226: a FRAME that the beam store has no room for makes no pick. -/
theorem State.pick_clothPick_of_full {s : State} {g : Nat} {h body : Bytes} (held : s.held = false)
    (hc : s.defClass (s.groupPort g) ≠ 7)
    (full : s.fits (cellsFor body.length) (s.field .schAdmSlots 0 0 17) (s.field .schAdmCells 0 0 19) = false) (p : Nat) :
    (s.clothPick g h body).pick p = s.pick p := by
  unfold State.clothPick
  dsimp only
  rw [if_neg (by rw [held]; decide)]
  exact State.pick_arrive_of_full hc full p

/-- R226: a FRAME whose header opens with valid content is taken out of the cloth and offered to the beam store. -/
theorem exec_clothItemReceive_frame {s : State} {g n : Nat} {G : Group} {b : Bool} {x : Bytes} (hG : s.group g = G)
    (on : s.grpOn g = true) (clear : G.dfc &&& 0x0E = 0) (skip : G.rxSkip = false) (sync : G.sync = true)
    (slot : G.rxSlot = some b) (opens : (G.rxCk b).openHdr G.rxSeq G.rxCloth = some x)
    (valid : hdrValid x G.rxPos G.rxLen G.keyHere = some (1, n)) (whole : 24 + n ≤ G.rxCloth.length) :
    exec (.clothItemReceive g) s = .next ((s.setGroup g (G.past n)).clothPick g x (slice G.rxCloth 24 n)) := by
  subst hG
  have item : s.clothItem g = some ((s.setGroup g ((s.group g).past n)).clothPick g x (slice (s.group g).rxCloth 24 n)) := by
    unfold State.clothItem
    dsimp only
    rw [if_neg (by rw [on, clear]; decide), if_neg (by rw [skip]; decide), if_neg (by rw [sync]; decide), slot]
    dsimp only
    rw [if_neg (by omega), opens]
    dsimp only
    rw [valid]
    dsimp only
    rw [if_neg (Nat.not_lt.2 whole)]
    rfl
  rw [exec, execClothItemReceive, item]
  rfl

/-! ### A list of groups out of order -/

/-- The receive key of the group. -/
def fallingKey : CkSlot := { key := List.replicate 32 0, salt := List.replicate 4 0 }

/-- The content of the header of a FRAME of one byte. -/
def byteHdr : Bytes := hdrContent 1 0 1 0 0

/-- A group in sync that has received a FRAME of one byte, and whose next item to send holds one cell. -/
def fallingGroup : Group :=
  { sync := true, rxSlot := some false, cks := [(2, fallingKey)], rxCloth := fallingKey.sealHdr 1 byteHdr ++ [0], rxLen := 1000
    ready := some (.held { frame := [], strip := false, woven := none, dom := 0, src := 0, cls := 0, queuedAt := 0 }) }

/-- A card in service whose woven groups are listed in falling order of their numbers, with room for a frame of one cell and no
more. -/
def fallingGroups : State :=
  ({ wov := { groups := [(1, {}), (0, fallingGroup)] }, beam := { picks := [(1, { cells := 446462 })] }, hif := { mode := 1 }
     kcu := { lc := 3 } } : State).setReg .wovGrpCfg 0 0 1

theorem fallingGroups_group : fallingGroups.group 0 = fallingGroup := rfl

theorem fallingGroups_fits : fallingGroups.fits (cellsFor 1) (fallingGroups.field .schAdmSlots 0 0 17)
    (fallingGroups.field .schAdmCells 0 0 19) = true := by decide

/-- R123: once the parser has moved past the FRAME the cell of the group's item counts twice. -/
theorem fallingGroups_past_full : (fallingGroups.setGroup 0 (fallingGroup.past 1)).fits (cellsFor 1)
    (fallingGroups.field .schAdmSlots 0 0 17) (fallingGroups.field .schAdmCells 0 0 19) = false := by decide

theorem fallingGroup_length : fallingGroup.rxCloth.length = 25 := by decide +kernel

theorem fallingGroup_opens : (fallingGroup.rxCk false).openHdr fallingGroup.rxSeq fallingGroup.rxCloth = some byteHdr := by
  decide +kernel

theorem fallingGroup_valid : hdrValid byteHdr fallingGroup.rxPos fallingGroup.rxLen fallingGroup.keyHere = some (1, 1) := by
  decide

/-- Refutes O49: the statement is asked of every state, and in one whose woven groups are not listed by rising number a FRAME that
fits is refused, so that no pick is made of it. -/
theorem not_wovenReceive : ¬ Obligations.WovenReceive := by
  intro h
  obtain ⟨-, -, -, -, items, -⟩ := h fallingGroups 0 fallingGroup fallingGroups_group.symm
  have whole : 24 + 1 ≤ fallingGroup.rxCloth.length := fallingGroup_length.ge
  obtain ⟨-, frames, -⟩ := items false _ (by decide) (by decide) rfl rfl rfl (by omega) fallingGroup_opens
  obtain ⟨t, k, ht, -, made, -⟩ := frames byteHdr 1 0 rfl fallingGroup_valid whole (by decide) (by decide) rfl fallingGroups_fits
  have noPick : t.pick 0 = none := by
    rw [exec_clothItemReceive_frame fallingGroups_group (by decide) (by decide) rfl rfl rfl fallingGroup_opens fallingGroup_valid
      whole] at ht
    rw [← Host.Outcome.next.inj ht]
    exact State.pick_clothPick_of_full (by decide) (by decide) (by rw [slice_length]; exact fallingGroups_past_full) 0
  rw [noPick] at made
  cases made

end Sys2Proof.Machine
end
